-- ==== Sys2Proof/Word.lean ====
section
/-!
DEFINITION. Word types of the SG-6480: bytes, 32-bit register words, and the bit span of a register field (R14).
-/

namespace Sys2Proof

/-- A byte of memory or of a message. -/
abbrev Byte := BitVec 8

/-- A 32-bit register of the control space. -/
abbrev Word := BitVec 32

/-- The bits [hi:lo] of a register (R14). -/
structure Fld where
  hi : Nat
  lo : Nat
  deriving DecidableEq, Repr

/-- A finite map with a default, as a list of (key, value) pairs with strictly rising keys and no entry equal to the
default of its key. -/
abbrev SMap (α : Type) := List (Nat × α)

end Sys2Proof
end

