-- ==== Sys2Proof/Syntax.lean ====
section
/-!
DEFINITION. The commands of the SG-6480: one constructor of Instr per row of the opcode table, with the operands of the
row. A message whose byte layout the manual gives is an operand of raw bytes; what only the environment knows (a level
sampled, a reading taken, the outcome of a remote access, an upset of a DRAM word) is an operand too.
-/

namespace Sys2Proof

/-- Where an access or a message entered this device (ID_REFUSE_LAST.SRC, R32). -/
inductive Entry where
  | port (p : Fin 32)
  | guy
  | bell (b : Fin 8)
  | slot (k : Fin 8)
  | ridge
  deriving DecidableEq, Repr

/-- Symbols in error in one stored DRAM word (R46): `word` is the Bell offset div 64, and `syms` lists the symbols in error; 36 stands
for a word that came from the wrong address. Of a word of a cluster buffer (R56), one symbol stands for a correctable error and two
for an uncorrectable one. -/
structure Upset where
  bell : Fin 8
  word : Nat
  syms : List Nat
  deriving DecidableEq, Repr

/-- A link with flit intervals (R217): a ZLL link, where 32 to 39 are the path links of ports 0, 1, 16 and 17 (two each, R277), or one
direction of a Seam link. -/
inductive LinkId where
  | port (p : Fin 40)
  | seam (b : Fin 8) (fromBell : Bool)
  deriving DecidableEq, Repr

/-- The sweep of one ring (R245, R246): its heater, the codes at which dips were seen in the order of the sweep, the dip before the
half-spacing gap, and its tuning in MHz per code (R243). -/
structure Sweep where
  heater : Nat
  codes : List Nat
  gap : Option Nat
  slope : Nat
  deriving DecidableEq, Repr

/-- One dispatched token row (R102, R103): the addressee, the receive area, the token j, the rank r, the gate weight and the
activation row. -/
structure MoeRow where
  bell : Fin 8
  clusters : Nat
  rxOff : Nat
  rxStride : Nat
  j : Fin 256
  r : Nat
  gate : Nat
  row : List Byte
  deriving DecidableEq, Repr

/-- A flit as its lines bring it (R199 to R201, R285, R286): its bytes, still scrambled, and how many of its chunks (of its intervals
on a Seam link) came before the last marker. -/
structure LineFlit where
  split : Nat
  bytes : List Byte
  deriving DecidableEq, Repr

/-- A PARAM of a link with bits [31:0] of the tick at which the far end sent it, which its ECHO answers (R220). -/
structure TimedMsg where
  sent : Nat
  bytes : List Byte
  deriving DecidableEq, Repr

/-- An order whose launch tick has come, with what the other devices of the shard set can supply for it (R98, R111, R119). -/
structure DueOrder where
  seq : Nat
  peers : Nat
  deriving DecidableEq, Repr

/-- A LAUNCH with what the other devices of the shard set can supply for its order (R89, R98, R111, R119). -/
structure LaunchMsg where
  bytes : List Byte
  peers : Nat
  deriving DecidableEq, Repr

/-- MCTP control requests that the Gaeth serves (R397, DSP0236). -/
inductive MctpReq where
  | setEid (eid : BitVec 8)
  | getEid
  | getVersion (msgType : BitVec 8)
  | getMsgTypes
  | packet (len : Nat)
  | otherType (msgType : BitVec 8)
  deriving DecidableEq, Repr

/-- PLDM requests of Types 0 and 2 (R405). -/
inductive PldmReq where
  | getTid
  | getTypes
  | getPdr (handle : Nat)
  | getSensorReading (sensor : Nat)
  | getStateSensor (sensor : Nat)
  | pollEvent
  deriving DecidableEq, Repr

/-- The steps of a firmware update under DSP0267 (R406). -/
inductive FwReq where
  | start (len : Nat)
  | data (off : Nat) (bytes : List Byte)
  | complete
  | cancel
  deriving DecidableEq, Repr

/-- SPDM requests (R412). -/
inductive SpdmReq where
  | getVersion
  | getCapabilities
  | negotiateAlgorithms
  | getDigests
  | getCertificate (slot : Nat) (off len : Nat)
  | challenge (slot : Nat) (nonce : List Byte)
  | getMeasurements (index : Nat) (signed : Bool) (nonce : List Byte)
  | other (code : BitVec 8)
  deriving DecidableEq, Repr

/-- The commands: the rows of spec/opcode_table.json, in its order. -/
inductive Instr where
  /-- RD (R174). -/
  | rd (src : Entry) (msg : List Byte) (ups : List Upset)
  /-- WR (R174). -/
  | wr (src : Entry) (msg : List Byte) (ups : List Upset)
  /-- REG_RD (R458). -/
  | regRd (src : Entry) (msg : List Byte)
  /-- REG_WR (R458). -/
  | regWr (src : Entry) (msg : List Byte)
  /-- BELL_RESET_RELEASE (R24). -/
  | bellResetRelease (b : Fin 8) (bstrap : Fin 16) (form : Bool)
  /-- BANK_REFRESH (R49). -/
  | bankRefresh (b : Fin 8) (die : Fin 4) (bse : Fin 64) (bank : Fin 16)
  /-- DRAM_INIT_DONE (R51). -/
  | dramInitDone (b : Fin 8)
  /-- SCRUB_STEP (R52). -/
  | scrubStep (b : Fin 8) (ups : List Upset)
  /-- RUN_LAUNCH_AT_BELL (R57). -/
  | runLaunchAtBell (b : Fin 8) (stream seq : Nat)
  /-- RUN_QUEUE_ENTRY_FREE (R57). -/
  | runQueueEntryFree (b : Fin 8)
  /-- DESCRIPTOR_FETCH (R94). -/
  | descriptorFetch (b : Fin 8) (run : Nat) (storeErr : Bool)
  /-- DESCRIPTOR_COMPLETE (R57). -/
  | descriptorComplete (b : Fin 8) (run : Nat)
  /-- NOP (R75). -/
  | opNop (b : Fin 8) (run : Nat)
  /-- MATMUL (R76). -/
  | opMatmul (b : Fin 8) (run : Nat) (ups : List Upset)
  /-- ATTN (R99). -/
  | opAttn (b : Fin 8) (run : Nat) (ups : List Upset)
  /-- SOFTMAX (R75). -/
  | opSoftmax (b : Fin 8) (run : Nat) (ups : List Upset)
  /-- NORM (R75). -/
  | opNorm (b : Fin 8) (run : Nat) (ups : List Upset)
  /-- ROPE (R75). -/
  | opRope (b : Fin 8) (run : Nat) (ups : List Upset)
  /-- ELTWISE (R75). -/
  | opEltwise (b : Fin 8) (run : Nat) (ups : List Upset)
  /-- QUANT (R453). -/
  | opQuant (b : Fin 8) (run : Nat) (ups : List Upset)
  /-- MOE_GATE (R101). -/
  | opMoeGate (b : Fin 8) (run : Nat) (ups : List Upset)
  /-- MOE_DISPATCH (R102). -/
  | opMoeDispatch (b : Fin 8) (run : Nat) (ups : List Upset)
  /-- MOE_DISPATCH_RECEIVE (R103). -/
  | moeDispatchReceive (row : MoeRow)
  /-- SAMPLE (R106). -/
  | opSample (b : Fin 8) (run : Nat) (ups : List Upset)
  /-- KV_APPEND (R453). -/
  | opKvAppend (b : Fin 8) (run : Nat) (ups : List Upset)
  /-- STAGE (R454). -/
  | opStage (b : Fin 8) (run : Nat) (ups : List Upset)
  /-- EXPMAX (R75). -/
  | opExpmax (b : Fin 8) (run : Nat) (ups : List Upset)
  /-- SYNC (R75). -/
  | opSync (b : Fin 8) (run : Nat)
  /-- BEL_DRAIN (R80). -/
  | belDrain (b : Fin 8) (on : Bool)
  /-- RUN (R97). -/
  | woRun (src : Entry) (msg : List Byte)
  /-- COMMIT (R111). -/
  | woCommit (src : Entry) (msg : List Byte)
  /-- DISCARD (R112). -/
  | woDiscard (src : Entry) (msg : List Byte)
  /-- OPEN (R98). -/
  | woOpen (src : Entry) (msg : List Byte)
  /-- CLOSE (R82). -/
  | woClose (src : Entry) (msg : List Byte)
  /-- LAUNCH_TICK_REACHED (R88). -/
  | launchTickReached (stream : Nat) (seq : DueOrder)
  /-- LAUNCH (R89). -/
  | launch (src : Entry) (msg : LaunchMsg)
  /-- COMMIT_COPY_DONE (R111). -/
  | commitCopyDone (stream : Nat)
  /-- COMMIT_SLOT_READ_RELEASE (R113). -/
  | commitSlotReadRelease (node tid : Nat) (ups : List Upset)
  /-- RUN_COMPLETE (R92). -/
  | runComplete (stream seq : Nat)
  /-- PART_REPORT (R92). -/
  | partReport (src : Entry) (msg : List Byte)
  /-- KV_MIRROR (R100). -/
  | kvMirrorMsg (src : Entry) (msg : List Byte)
  /-- EXP_PARTIAL (R127). -/
  | expPartial (src : Entry) (msg : List Byte) (stagingErr : Bool)
  /-- EXP_RESULT (R127). -/
  | expResult (src : Entry) (msg : List Byte)
  /-- PARTIAL (R128). -/
  | colPartial (src : Entry) (msg : List Byte) (stagingErr : Bool)
  /-- RESULT (R129). -/
  | colResult (src : Entry) (msg : List Byte)
  /-- ABORT (R139). -/
  | colAbort (src : Entry) (msg : List Byte)
  /-- COLLECTIVE_STALL (R142). -/
  | collectiveStall (inst : Nat)
  /-- OPEN_SHADOW (R159). -/
  | openShadow (guy : Bool)
  /-- SHADOW_DATA_WRITE (R159). -/
  | shadowDataWrite (guy : Bool) (data : BitVec 32)
  /-- VERIFY (R160). -/
  | verify (guy : Bool)
  /-- VERIFY_DONE (R160). -/
  | verifyDone
  /-- PITCH_QUERY (R161). -/
  | pitchQueryMsg (src : Entry) (msg : List Byte)
  /-- PEER_WAIT_TIMEOUT (R161). -/
  | peerWaitTimeout (ext : Nat)
  /-- ARM (R162). -/
  | arm (guy : Bool)
  /-- DISARM (R162). -/
  | disarm (guy : Bool)
  /-- DROP (R159). -/
  | drop (guy : Bool)
  /-- FULL_ACTIVATION (R163). -/
  | fullActivation
  /-- REMAP_ARM (R164). -/
  | remapArm (guy : Bool) (delta : Fin 16)
  /-- REMAP_DISARM (R170). -/
  | remapDisarm (guy : Bool) (delta : Fin 16)
  /-- REMAP_ACTIVATION (R164). -/
  | remapActivation
  /-- LIVE_WRITE (R167). -/
  | liveWrite (data : BitVec 32)
  /-- LIVE_APPLY (R167). -/
  | liveApply
  /-- IMAGE_INFO (R165). -/
  | imageInfo (p : Fin 40) (msg : List Byte)
  /-- ZFP_FORWARD (R176). -/
  | zfpForward (src : Entry) (msg : List Byte)
  /-- ZFP_RESPONSE (R178). -/
  | zfpResponse (src : Entry) (msg : List Byte)
  /-- REQUEST_TIMEOUT (R178). -/
  | requestTimeout (tid : Nat)
  /-- IN_RESET_RESEND (R178). -/
  | inResetResend (tid : Nat)
  /-- BUSY_RESEND (R180). -/
  | busyResend (tid : Nat)
  /-- DEDUP_KEY_EXPIRE (R179). -/
  | dedupKeyExpire (node die tid : Nat)
  /-- JRN_MIRROR (R181). -/
  | jrnMirrorMsg (src : Entry) (msg : List Byte)
  /-- MIRROR_TIMEOUT (R182). -/
  | mirrorTimeout (idx : Nat)
  /-- JOURNAL_RELEASE (R184). -/
  | journalRelease (idx : Nat)
  /-- COMPLETION (R185). -/
  | completionSend (stream hctx : Nat)
  /-- COMP_ACK (R186). -/
  | compAck (src : Entry) (msg : List Byte)
  /-- HOST_BIND (R187). -/
  | hostBind (src : Entry) (msg : List Byte)
  /-- ETH_FRAME (R194). -/
  | ethFrame (p : Fin 32) (inst : Fin 2) (frame : List Byte)
  /-- NEIGHBOR_SOLICITATION (R193). -/
  | neighborSolicitation (p : Fin 32) (inst : Fin 2) (frame : List Byte)
  /-- ECHO_REQUEST (R193). -/
  | echoRequest (p : Fin 32) (inst : Fin 2) (frame : List Byte)
  /-- DATA_FLIT (R211). -/
  | dataFlit (p : Fin 40) (flit : LineFlit)
  /-- CTRL_FLIT (R211). -/
  | ctrlFlit (p : Fin 40) (flit : LineFlit)
  /-- IDLE_FLIT (R211). -/
  | idleFlit (p : Fin 40) (flit : LineFlit)
  /-- NAK_RESEND_TIMEOUT (R212). -/
  | nakResendTimeout (p : Fin 40) (cbc : Bool)
  /-- ACK_STALL_REPLAY (R213). -/
  | ackStallReplay (p : Fin 40) (cbc : Bool)
  /-- MARKER_INTERVAL (R202). -/
  | markerInterval (p : Fin 40)
  /-- MARKER_RECEIVE (R204). -/
  | markerReceive (p : Fin 40) (line : Fin 20) (marker : List Byte) (ringOn : Bool)
  /-- SPILL_GRANT (R215). -/
  | spillGrant (p : Fin 32)
  /-- SPILL_RELEASE (R215). -/
  | spillRelease (p : Fin 32)
  /-- PARAM (R220). -/
  | paramMsg (p : Fin 40) (msg : TimedMsg)
  /-- AUDIT (R225). -/
  | auditMsg (p : Fin 40) (msg : List Byte)
  /-- CREDIT_AUDIT (R224). -/
  | creditAudit (p : Fin 40)
  /-- LANE_FAIL (R228). -/
  | laneFailMsg (p : Fin 40) (msg : List Byte)
  /-- WRONG_LOCK (R232). -/
  | wrongLockMsg (p : Fin 40) (msg : List Byte)
  /-- CAL_REQ (R231). -/
  | calReqMsg (p : Fin 40) (msg : List Byte)
  /-- CAL_DONE (R231). -/
  | calDoneMsg (p : Fin 40) (msg : List Byte)
  /-- STOP (R221). -/
  | stopMsg (p : Fin 40) (msg : List Byte)
  /-- THROTTLE (R221). -/
  | throttleMsg (p : Fin 40) (msg : List Byte)
  /-- RESUME (R221). -/
  | resumeMsg (p : Fin 40) (msg : List Byte)
  /-- IDLE_REQ (R236). -/
  | idleReqMsg (p : Fin 40) (msg : List Byte)
  /-- IDLE_ACK (R236). -/
  | idleAckMsg (p : Fin 40) (msg : List Byte)
  /-- RETRAIN_REQ (R235). -/
  | retrainReqMsg (p : Fin 40) (msg : List Byte)
  /-- LANE_FAILURE_DETECT (R227). -/
  | laneFailureDetect (p : Fin 40) (line : Fin 20) (cause : Fin 5) (ringOn : Bool)
  /-- LANE_FAIL_RESEND (R227). -/
  | laneFailResend (p : Fin 40) (line : Fin 20)
  /-- LINK_ENABLE (R234). -/
  | linkEnable (p : Fin 40)
  /-- LIGHT_DETECT (R234). -/
  | lightDetect (p : Fin 40) (lit : List Nat)
  /-- CLOCK_LOCK (R234). -/
  | clockLock (p : Fin 40) (lines : List Nat)
  /-- ALIGN_DONE (R234). -/
  | alignDone (p : Fin 40) (lanes : List (Nat × Nat)) (skewUi : Nat)
  /-- TRAINING_TIMEOUT (R234). -/
  | trainingTimeout (p : Fin 40)
  /-- TRAINING_RETRY (R234). -/
  | trainingRetry (p : Fin 40)
  /-- IDLE_QUIET_TIMEOUT (R236). -/
  | idleQuietTimeout (p : Fin 32)
  /-- IDLE_EXIT (R236). -/
  | idleExit (p : Fin 32) (burst : Bool)
  /-- RETRAIN (R235). -/
  | retrain (p : Fin 32)
  /-- RESTART (R234). -/
  | restart (p : Fin 32)
  /-- LINK_RESET (R239). -/
  | linkReset (p : Fin 32)
  /-- RING_SEARCH (R245). -/
  | ringSearch (k : Fin 8) (lantern : Fin 2) (stbyOk : Bool)
  /-- RING_SEARCH_DONE (R247). -/
  | ringSearchDone (k : Fin 8) (sweeps : List Sweep)
  /-- LOCK_LOOP_UPDATE (R248). -/
  | lockLoopUpdate (k : Fin 8) (req : List (Nat × Int)) (lost : List Nat)
  /-- XT_MATRIX_SAVE (R249). -/
  | xtMatrixSave (k : Fin 8)
  /-- RELOCK_ATTEMPT (R253). -/
  | relockAttempt (k : Fin 8) (h : Fin 144)
  /-- RELOCK_END (R254). -/
  | relockEnd (k : Fin 8) (h : Fin 144) (locked : Bool) (code : Nat)
  /-- CALIBRATION_WINDOW (R257). -/
  | calibrationWindow (k : Fin 8) (h : Fin 144)
  /-- CALIBRATION_WINDOW_DONE (R257). -/
  | calibrationWindowDone (k : Fin 8) (h : Fin 144) (code : Nat) (slicer : Nat × Nat × Nat) (moves : List (Nat × Int))
  /-- CAL_OVERDUE (R260). -/
  | calOverdue (k : Fin 8) (h : Fin 144)
  /-- CAL_SUMMARY (R259). -/
  | calSummary (k : Fin 8)
  /-- LOSS_OF_SIGNAL (R261). -/
  | lossOfSignal (p : Fin 32) (lines : List Nat)
  /-- PORT_DARK_TIMEOUT (R261). -/
  | portDarkTimeout (p : Fin 32)
  /-- RX_POWER_CHECK (R262). -/
  | rxPowerCheck (p : Fin 32) (line : Fin 20) (power : Nat) (belowWarn : Bool)
  /-- STAGE_CHECK (R263). -/
  | stageCheck (k : Fin 8) (stage : Fin 5) (port line : Nat) (excess : Bool)
  /-- LANTERN_WEAR (R264). -/
  | lanternWear (k : Fin 8) (l : Fin 2) (bias : Fin 1001)
  /-- LANTERN_SWITCH_OVER (R266). -/
  | lanternSwitchOver (k : Fin 8) (cause : Fin 4)
  /-- COMB_REFERENCE_FAULT (R283). -/
  | combReferenceFault (k : Fin 8)
  /-- LANT_SWITCH (R265). -/
  | lantSwitch (k : Fin 8)
  /-- CAL_ALL (R256). -/
  | calAll (k : Fin 8)
  /-- LANE_CAL_REQ (R256). -/
  | laneCalReq (k : Fin 8)
  /-- MONITOR_MEASURE (R244). -/
  | monitorMeasure (k : Fin 8) (sel : BitVec 32)
  /-- MONITOR_MEASURE_DONE (R244). -/
  | monitorMeasureDone (k : Fin 8) (power : BitVec 16)
  /-- XT_FACTORY (R249). -/
  | xtFactory (k : Fin 8)
  /-- FLAP_OPEN_START (R273). -/
  | flapOpenStart (pair : Fin 2)
  /-- FLAP_OPENED (R273). -/
  | flapOpened (pair : Fin 2)
  /-- FLAP_CLOSE (R272). -/
  | flapClose (pair : Fin 2)
  /-- FLAP_CLOSED (R273). -/
  | flapClosed (pair : Fin 2)
  /-- FLAP_STUCK (R273). -/
  | flapStuck (pair : Fin 2)
  /-- TRANSIT_WINDOW (R278). -/
  | transitWindow (pair : Fin 4) (entry : Nat) (found : Bool)
  /-- TRANSIT_WINDOW_END (R279). -/
  | transitWindowEnd (pair : Fin 4) (entry : Nat)
  /-- SEAM_FLIT (R289). -/
  | seamFlit (b : Fin 8) (toBell : Bool) (flit : LineFlit)
  /-- SEAM_REPLAY_TIMEOUT (R289). -/
  | seamReplayTimeout (b : Fin 8) (fromBell : Bool)
  /-- SEAM_MARKER (R288). -/
  | seamMarker (b : Fin 8) (fromBell : Bool)
  /-- SEAM_LANE_FAIL (R292). -/
  | seamLaneFail (b : Fin 8) (toBell : Bool) (msg : List Byte)
  /-- SEAM_LANE_FAILURE_DETECT (R292). -/
  | seamLaneFailureDetect (b : Fin 8) (toBell : Bool) (lane : Fin 68) (cause : Fin 3)
  /-- SEAM_CAL_REQ (R294). -/
  | seamCalReq (b : Fin 8) (toBell : Bool) (msg : List Byte)
  /-- SEAM_CAL_DONE (R294). -/
  | seamCalDone (b : Fin 8) (toBell : Bool) (msg : List Byte)
  /-- SEAM_RETRAIN_REQ (R297). -/
  | seamRetrainReq (b : Fin 8) (toBell : Bool) (msg : List Byte)
  /-- SEAM_CAL_WAIT_TIMEOUT (R295). -/
  | seamCalWaitTimeout (b : Fin 8)
  /-- SEAM_TRAIN_START (R297). -/
  | seamTrainStart (b : Fin 8)
  /-- SEAM_TEST_DONE (R297). -/
  | seamTestDone (b : Fin 8) (badRtx badBtx : List Nat)
  /-- SEAM_ALIGN_DONE (R297). -/
  | seamAlignDone (b : Fin 8) (agree : Bool)
  /-- SEAM_ALIGN_TIMEOUT (R297). -/
  | seamAlignTimeout (b : Fin 8)
  /-- SEAM_HELD (R298). -/
  | seamHeld (b : Fin 8)
  /-- PEER_RESET_INDICATION (R300). -/
  | peerResetIndication (c : Fin 16) (dieSide equal : Bool)
  /-- REARM_REQ (R301). -/
  | rearmReq (c : Fin 16) (toDie : Bool) (msg : List Byte)
  /-- REARM_ACK (R301). -/
  | rearmAck (c : Fin 16) (toDie : Bool) (msg : List Byte)
  /-- REARM_TIMEOUT (R301). -/
  | rearmTimeout (c : Fin 16)
  /-- SEAM_RETRAIN (R297). -/
  | seamRetrain (b : Fin 8)
  /-- SEAM_LINK_RESET (R299). -/
  | seamLinkReset (b : Fin 8)
  /-- SEAM_CAL_ALL (R295). -/
  | seamCalAll (b : Fin 8)
  /-- SLOT_DISCOVERY (R305). -/
  | slotDiscovery (k : Fin 8) (modules rate : Nat) (desc : Option (List Byte))
  /-- SLOT_RETRAIN (R311). -/
  | slotRetrain (k : Fin 8)
  /-- SLOT_LINK_RESET (R311). -/
  | slotLinkReset (k : Fin 8)
  /-- ADMIT_ALLOW (R305). -/
  | admitAllow (k : Fin 8)
  /-- SLOT_PARTNER_FAULT (R306). -/
  | slotPartnerFault (k : Fin 8) (detail : List Byte)
  /-- BYPASS (R308). -/
  | tapBypass
  /-- IDCODE (R307). -/
  | tapIdcode
  /-- SAMPLE_PRELOAD (R308). -/
  | tapSamplePreload (preload : Nat)
  /-- SEGMENT_INSERT (R307). -/
  | tapSegmentInsert (unit : Fin 16)
  /-- EXTEST (R308). -/
  | tapExtest (levels : Nat)
  /-- CLAMP (R308). -/
  | tapClamp (levels : Nat)
  /-- HIGHZ (R308). -/
  | tapHighz
  /-- TAP_RESET (R444). -/
  | tapReset
  /-- TIME_SYNC_SEND (R315). -/
  | timeSyncSend (p : Fin 32)
  /-- TIME_DELAYS_WALL_SEND (R315). -/
  | timeDelaysWallSend (p : Fin 32)
  /-- DELAYS (R317). -/
  | delaysMsg (p : Fin 32) (msg : List Byte)
  /-- WALL (R314). -/
  | wallMsg (p : Fin 32) (msg : List Byte)
  /-- SERVO_UPDATE (R319). -/
  | servoUpdate
  /-- UPSTREAM_LOSS (R321). -/
  | upstreamLoss
  /-- HOLDOVER_TIMEOUT (R321). -/
  | holdoverTimeout
  /-- NO_UPSTREAM_TIMEOUT (R321). -/
  | noUpstreamTimeout
  /-- REFERENCE_PLL_LOCK (R419). -/
  | referencePllLock (spread : Bool)
  /-- FTC_LOAD (R335). -/
  | ftcLoad
  /-- FTC_NOW_READ (R335). -/
  | ftcNowRead
  /-- REFERENCE_TRIP (R330). -/
  | referenceTrip (code : Fin 8) (kind : Fin 4)
  /-- FAST_OSC_TRIP (R330). -/
  | fastOscTrip
  /-- SLOW_OSC_TRIP (R330). -/
  | slowOscTrip
  /-- BELL_PLL_TRIP (R330). -/
  | bellPllTrip (b : Fin 8) (kind : Fin 4)
  /-- FAST_READY (R333). -/
  | fastReady
  /-- FALLBACK_TIMEOUT (R333). -/
  | fallbackTimeout
  /-- MUX_SWITCH_TIMEOUT (R332). -/
  | muxSwitchTimeout (m : Fin 10)
  /-- CLK_MUX_FORCE (R332). -/
  | clkMuxForce (muxes : BitVec 10)
  /-- INPUT_UNDERVOLTAGE (R337). -/
  | inputUndervoltage (cv : Nat)
  /-- INPUT_OVERVOLTAGE (R337). -/
  | inputOvervoltage (cv : Nat)
  /-- INPUT_OUT_OF_RANGE (R337). -/
  | inputOutOfRange (cv : Nat)
  /-- INPUT_QUALIFIED (R337). -/
  | inputQualified (cv : Nat)
  /-- INPUT_OVERCURRENT (R338). -/
  | inputOvercurrent (cv ca : Nat)
  /-- POWER_FAIL (R340). -/
  | powerFail (cause : Fin 8) (cv ca : Nat)
  /-- AUX_POWER_CHANGE (R435). -/
  | auxPowerChange (on : Bool)
  /-- DOMAIN_STATE_REQUEST (R342). -/
  | domainStateRequest (dom : Fin 148) (req : Fin 4)
  /-- ENGINE_GROUP_IDLE (R342). -/
  | engineGroupIdle (b : Fin 8) (g : Fin 4)
  /-- POWER_GOOD_FAIL (R343). -/
  | powerGoodFail (dom : Fin 148)
  /-- DVFS_STEP (R345). -/
  | dvfsStep (b : Fin 8)
  /-- DVFS_STEP_END (R345). -/
  | dvfsStepEnd (b : Fin 8) (late : Bool)
  /-- POWER_LIMIT_CHECK (R346). -/
  | powerLimitCheck (peak avg : Nat)
  /-- BELL_POWER_SAMPLE (R347). -/
  | bellPowerSample (b : Fin 8) (power fine : Nat)
  /-- SENSOR_SAMPLE (R348). -/
  | sensorSample (idx : Fin 608) (reading : Int) (fail : Fin 3)
  /-- THROTTLE_STEP (R351). -/
  | throttleStep (region : Fin 17)
  /-- THM_XCHECK (R357). -/
  | thmXcheck (die : Fin 17)
  /-- THM_RELEASE (R353). -/
  | thmRelease
  /-- FAULT_REPORT (R362). -/
  | faultReport (src : Fin 512) (equal : Bool) (readBackFails : Bool)
  /-- FAULT_ACK (R364). -/
  | faultAck (src : Fin 512)
  /-- ACK_ALL (R364). -/
  | ackAll
  /-- COLLECTOR_SELF_FAULT (R369). -/
  | collectorSelfFault (check : BitVec 16)
  /-- STRIKE_RECORD_WRITE (R371). -/
  | strikeRecordWrite (faultN outputs dark flaps : Option Nat)
  /-- STRIKE_COMMAND (R370). -/
  | strikeCommand (key : BitVec 32)
  /-- FAULT_INJECT (R373). -/
  | faultInject
  /-- POLE_GIVE_UP (R376). -/
  | poleGiveUp (b : Bool) (cause : Fin 8) (cycle : Nat) (otherToo : Bool)
  /-- POLE_SELF_TEST_DONE (R377). -/
  | poleSelfTestDone (b : Bool) (pass : Bool)
  /-- POLE_RESYNC_DONE (R377). -/
  | poleResyncDone (b : Bool)
  /-- POLE_DIVERGENCE (R378). -/
  | poleDivergence
  /-- POLE_SWITCH (R379). -/
  | poleSwitch
  /-- BUDDY_PROBE (R381). -/
  | buddyProbe
  /-- RING_ISOLATION (R381). -/
  | ringIsolation
  /-- UNIT_LOST_DECLARE (R380). -/
  | unitLostDeclare (die : Fin 9)
  /-- LOST_UNIT_WRITE (R382). -/
  | lostUnitWrite (src : Entry) (pole : Bool) (data : BitVec 32)
  /-- RELOAD_DONE (R383). -/
  | reloadDone
  /-- RELOAD_COMPLETE (R383). -/
  | reloadComplete
  /-- ADOPT_WITHOUT_REMAP (R384). -/
  | adoptWithoutRemap
  /-- DRY_DATA_READ (R396). -/
  | dryDataRead
  /-- ERASE_PINNED (R396). -/
  | erasePinned
  /-- ERASE_RING (R396). -/
  | eraseRing
  /-- REG_READ (R399). -/
  | guyRegRead (addr : BitVec 32)
  /-- REG_WRITE (R399). -/
  | guyRegWrite (addr data : BitVec 32)
  /-- BLOCK_WRITE (R399). -/
  | guyBlockWrite (addr : BitVec 32) (words : List (BitVec 32))
  /-- BLOCK_READ (R399). -/
  | guyBlockRead (addr : BitVec 32) (n : Nat)
  /-- BIND (R414). -/
  | guyBind (cert : List Byte)
  /-- UNLOCK_NONCE (R415). -/
  | guyUnlockNonce
  /-- UNLOCK (R415). -/
  | guyUnlock (token : List Byte) (testMode : Bool)
  /-- MCTP_CONTROL (R397). -/
  | mctpControl (req : MctpReq)
  /-- PLDM_PLATFORM (R405). -/
  | pldmPlatform (req : PldmReq)
  /-- FIRMWARE_UPDATE (R406). -/
  | firmwareUpdate (req : FwReq)
  /-- SPDM_REQUEST (R412). -/
  | spdmRequest (req : SpdmReq)
  /-- I3C_ADDRESS_ASSIGN (R397). -/
  | i3cAddressAssign (setdasa : Bool) (static dyn : BitVec 7)
  /-- FW_LVL_COMMIT (R410). -/
  | fwLvlCommit (readBackFails : Bool)
  /-- PIT_LVL_COMMIT (R410). -/
  | pitLvlCommit (readBackFails : Bool)
  /-- CERT_LVL_COMMIT (R410). -/
  | certLvlCommit (readBackFails : Bool)
  /-- CONFIRM (R408). -/
  | confirm
  /-- ABANDON (R408). -/
  | abandon
  /-- SEC_PIN_RESET (R416). -/
  | secPinReset
  /-- SEC_POWER_ON_RESET (R416). -/
  | secPowerOnReset
  /-- PIN_RESET (R416). -/
  | pinReset
  /-- RESET_N_RELEASE (R420). -/
  | resetNRelease
  /-- POWER_ON_RESET (R416). -/
  | powerOnReset
  /-- TEST_MODE_FALL (R415). -/
  | testModeFall
  /-- REGISTER_WRITE (R16). -/
  | registerWrite (src : Entry) (addr data : BitVec 32)
  /-- TIME_SYNC (R318). -/
  | timeSync (p : Fin 32) (msg : List Byte) (rx : Nat)
  /-- FLIT_INTERVAL (R217). -/
  | flitInterval (link : LinkId) (readErr : Bool)
  /-- LOSS_OF_SIGNAL_END (R261). -/
  | lossOfSignalEnd (p : Fin 32) (lines : List Nat)
  /-- STANDBY_LANTERN_LOST (R266). -/
  | standbyLanternLost (k : Fin 8)
  /-- ETHERNET_PCS_LOCK (R446). -/
  | ethernetPcsLock (p : Fin 32) (inst : Fin 2) (up : Bool)
  /-- RETRAIN_PORT_DOWN (R239). -/
  | retrainPortDown (p : Fin 32)
  /-- SEAM_MARKER_RECEIVE (R288). -/
  | seamMarkerReceive (b : Fin 8) (toBell : Bool) (lane : Fin 68) (word : BitVec 64)
  /-- SLOT_MODULE_LOSS (R304). -/
  | slotModuleLoss (k : Fin 8) (m : Fin 4)
  /-- ALWAYS_ON_POWER_UP (R442). -/
  | alwaysOnPowerUp (gaddr : Fin 8)
  deriving DecidableEq, Repr

end Sys2Proof
end

