-- ==== Sys2Proof/Decode.lean ====
section
/-!
DEFINITION. The word decoder of the opcode table. The table gives its rows no bits: the block takes commands, not encoded words.
-/

namespace Sys2Proof

/-- The command that a word of the table spells: none, since no row gives bits. -/
def decodeTableWord (_nbits _w : Nat) : Option Instr := none

end Sys2Proof
end

