-- ==== Sys2Proof/Machine/Bits.lean ====
section
/-!
DEFINITION. Bit fields of register words (R14), little-endian byte strings (R15), two's-complement readings, and the
finite maps the state is made of.
-/

namespace Sys2Proof.Machine

/-- The value of the field f of a register word. -/
def fget (w : Word) (f : Fld) : Nat := w.toNat / 2 ^ f.lo % 2 ^ (f.hi + 1 - f.lo)

/-- The register word with the field f set to v (v taken modulo the field's width). -/
def fset (w : Word) (f : Fld) (v : Nat) : Word :=
  BitVec.ofNat 32 (w.toNat / 2 ^ (f.hi + 1) * 2 ^ (f.hi + 1) + v % 2 ^ (f.hi + 1 - f.lo) * 2 ^ f.lo + w.toNat % 2 ^ f.lo)

/-- Bits [hi:lo] of a number. -/
def bits (n hi lo : Nat) : Nat := n / 2 ^ lo % 2 ^ (hi + 1 - lo)

/-- Bit i of a number. -/
def bit (n i : Nat) : Bool := n / 2 ^ i % 2 == 1

/-- 1 for true, 0 for false. -/
def b2n (b : Bool) : Nat := if b then 1 else 0

/-- A number with bit i set or cleared. -/
def withBit (n i : Nat) (b : Bool) : Nat :=
  if bit n i then (if b then n else n - 2 ^ i) else (if b then n + 2 ^ i else n)

/-- The w-bit two's-complement reading of n. -/
def signed (w n : Nat) : Int := if n % 2 ^ w < 2 ^ (w - 1) then ((n % 2 ^ w : Nat) : Int) else ((n % 2 ^ w : Nat) : Int) - (2 ^ w : Nat)

/-- The w-bit two's-complement code of i. -/
def unsigned (w : Nat) (i : Int) : Nat := (i % ((2 ^ w : Nat) : Int)).toNat

/-- n bytes of v, least significant first (R15). -/
def le : Nat → Nat → List Byte
  | 0, _ => []
  | n + 1, v => BitVec.ofNat 8 v :: le n (v / 256)

/-- The number that a little-endian byte string holds (R15). -/
def leNat : List Byte → Nat
  | [] => 0
  | b :: t => b.toNat + 256 * leNat t

/-- Bytes a to a + n - 1 of a byte string, as a number. -/
def leAt (l : List Byte) (a n : Nat) : Nat := leNat ((l.drop a).take n)

/-- Big-endian bytes, as published header standards set them (R15). -/
def be (n v : Nat) : List Byte := (le n v).reverse

/-- The number that a big-endian byte string holds. -/
def beAt (l : List Byte) (a n : Nat) : Nat := leNat ((l.drop a).take n).reverse

/-- n zero bytes. -/
def zeros (n : Nat) : List Byte := List.replicate n 0

/-- A byte string cut or padded with zeros to n bytes. -/
def fit (n : Nat) (l : List Byte) : List Byte := l.take n ++ zeros (n - l.length)

/-- The least multiple of m at or after n. -/
def alignUp (n m : Nat) : Nat := (n + m - 1) / m * m

/-- The value a map holds at a key, where d gives each key's default. -/
def SMap.get {α : Type} (d : Nat → α) : SMap α → Nat → α
  | [], k => d k
  | (j, v) :: t, k => if j = k then v else SMap.get d t k

/-- The map with a key's entry replaced (some) or removed (none); keys stay strictly rising. -/
def SMap.ins {α : Type} : SMap α → Nat → Option α → SMap α
  | [], _, none => []
  | [], k, some v => [(k, v)]
  | (j, w) :: t, k, o =>
    if k < j then
      match o with
      | none => (j, w) :: t
      | some v => (k, v) :: (j, w) :: t
    else if k = j then
      match o with
      | none => t
      | some v => (k, v) :: t
    else (j, w) :: SMap.ins t k o

/-- The map with the value at k set to v: an entry equal to the default is removed. -/
def SMap.set {α : Type} [DecidableEq α] (d : Nat → α) (m : SMap α) (k : Nat) (v : α) : SMap α :=
  SMap.ins m k (if v = d k then none else some v)

/-- The canonical form: keys strictly rising and no entry equal to its default. -/
def SMap.wf {α : Type} [DecidableEq α] (d : Nat → α) : SMap α → Bool
  | [] => true
  | [(k, v)] => decide (v ≠ d k)
  | (k, v) :: (j, w) :: t => decide (k < j) && decide (v ≠ d k) && SMap.wf d ((j, w) :: t)

end Sys2Proof.Machine
end

