-- ==== Sys2Proof/Config.lean ====
section
/-!
DEFINITION. What an implementation fixes and the manual leaves open. Each free value is a constant with no body, applied to a
counter of the state or to the operands it depends on, so that nothing can be proved about its value. Each is named in a row of
the assumption log.
-/

namespace Sys2Proof.Config

/-- A byte that the manual calls undefined (output areas of R79 and R91, staging of R139, bytes whose layout it leaves open). -/
opaque freeByte : Nat → Byte

/-- A number whose value the manual leaves open (an unstated measurement, a signature by a key of the device, a nonce). -/
opaque freeNat : Nat → Nat

/-- A condition whose outcome the manual leaves open. -/
opaque freeBool : Nat → Bool

/-- The P-384 public key of the Tvedale root held by the security engine (R148), and its KEY_ID. -/
opaque rootKey : Nat × Nat
opaque rootKeyId : Nat

/-- The P-384 public keys of Tvedale firmware keys 0 to 3 (R408). -/
opaque firmwareKey : Nat → Nat × Nat

/-- SHA-384 of the ROM (R413), the DeviceID and Tvedale certificates of the identity area (R412). -/
opaque romDigest : List Byte
opaque certChain : List Byte

/-- The Alias certificate (R411, R412), which changes with the digest and the SVN of the firmware and with the test unlock. -/
opaque aliasCert : List Byte → Nat → Bool → List Byte

/-- The TID under PLDM base and the version bytes of an MCTP message type (R397, R405), fixed by DSP documents outside the manual. -/
opaque pldmTid : Byte
opaque mctpVersion : Nat → List Byte

/-- What a byte of the Dry bag that this device has not written holds (R388): the firmware and identity areas as delivered, and erased or never
written bytes. -/
opaque dryByte : Nat → Byte

/-- Bytes of Ridge SRAM that the journals and mirrors of both poles take (R117, R374): at most what the image stores, the deduplication table and
the replay buffers leave of 256 MiB (R159, R180, R213). -/
opaque journalBytes : Fin 201326593

/-- Native die coordinates in 0.1 mm of a Bell's sensors by logical index, the same on every Bell, but for sensor 41 which R27 gives; and
of the Ridge and Canopy sensors by global index (R27, R348). -/
opaque bellSensor : Nat → Int × Int
opaque otherSensor : Nat → Int × Int

/-- The Canopy sensor assigned to a ring (R256), by Canopy and heater. -/
opaque ringSensor : Nat → Nat → Fin 20

/-- The factory crosstalk matrix of a Canopy (R249), by Canopy and row: at most eight neighbours with coefficients in Q1.14; and the
factory feed-forward gains (R250), by Canopy and Bell. -/
opaque factoryXt : Nat → Nat → List (Nat × Int)
opaque factoryGain : Nat → Nat → BitVec 16

/-- The launch power of a transmit ring's line at the port reference point in 1/16 µW (R284, OPT_LANE_PWR), by Canopy, heater and time. -/
opaque launchPower : Nat → Nat → Nat → BitVec 16

/-- GELU in its tanh form (R75), whose order of rounding is not stated: a function of the FP32 code of x, with an FP32 code as its value. -/
opaque gelu : Nat → Nat

/-- A rotated dimension of a ROPE row (R75), whose angles and order of rounding are not stated: a function of the base, the position, the number of
rotated dimensions, the FP32 codes of the head's elements and the dimension. -/
opaque rope : Nat → Nat → Nat → List Nat → Nat → Nat

/-- One output element of an ATTN (R75), whose score scale, causal limit among the query tokens and order of rounding are not stated: a function of
EXACT, the formats of K/V and Q, the query token, the codes of the query head, those of the key and value rows visible to the run, and the
dimension; and whether Exact mode truncates in it. -/
opaque attn : Bool → Nat → Nat → Nat → List Nat → List (List Nat) → Nat → Nat
opaque attnInexact : Nat → Nat → Nat → List Nat → List (List Nat) → Nat → Bool

/-- The frequency last measured of a clock in kHz (R336), by clock code and time. -/
opaque clockKhz : Nat → Nat → BitVec 32

/-- Which of logical sensors 40 to 43 is nearest to a Seam lane (R295). -/
opaque seamSensor : Nat → Fin 4

/-- Factory-calibrated transmit path delay of a port in 1/16 tick (R318). -/
opaque txPath : Nat → Nat

/-- The output of the power filter after one sample (R347), whose number format is not stated: by time constant in µs, the output before it and the
sample, both in 0.1 W, and what the filter held below 0.1 W. -/
opaque powerFilter : Nat → Nat → Nat → Nat → Nat

/-- The factory time constant of PWR_FF_CFG.TAU in µs (R356). -/
opaque factoryTau : BitVec 16

end Sys2Proof.Config
end

