-- ==== Sys2Proof/Machine/Crc.lean ====
section
/-!
DEFINITION. Cyclic redundancy checks: CRC-32 with the parameters of R77, and the most-significant-bit-first form that the
link layers' checks are instances of.
-/

namespace Sys2Proof.Machine

/-- k steps of a reflected CRC register with the reflected polynomial poly. -/
def crcShift (poly : Nat) : Nat → Nat → Nat
  | 0, c => c
  | k + 1, c => crcShift poly k (if c % 2 = 1 then c / 2 ^^^ poly else c / 2)

/-- One byte through a reflected CRC register. -/
def crcByte (poly c : Nat) (b : Byte) : Nat := crcShift poly 8 (c ^^^ b.toNat)

/-- CRC-32 of R77: polynomial 0x04C1_1DB7 reflected, initial value and final XOR 0xFFFF_FFFF. -/
def crc32 (l : List Byte) : Nat := l.foldl (crcByte 0xEDB88320) 0xFFFFFFFF ^^^ 0xFFFFFFFF

/-- One bit, most significant first, into a w-bit CRC register. -/
def crcBitMsb (w poly c : Nat) (b : Bool) : Nat :=
  let top := bit c (w - 1)
  let c' := c * 2 % 2 ^ w
  if top != b then c' ^^^ poly else c'

/-- One byte, bit 7 first, into a w-bit CRC register. -/
def crcByteMsb (w poly c : Nat) (b : Byte) : Nat :=
  [7, 6, 5, 4, 3, 2, 1, 0].foldl (fun c i => crcBitMsb w poly c (b.getLsbD i)) c

/-- A w-bit CRC over bytes, most significant bit first, from an initial value. -/
def crcMsb (w poly init : Nat) (l : List Byte) : Nat := l.foldl (crcByteMsb w poly) init

end Sys2Proof.Machine
end

