-- ==== Sys2Proof/Machine/TypesControl.lean ====
section
/-!
DEFINITION. The state of the control side of the Ridge as plain data: ZFP messages and requests (R171 to R180), the
journal (R181 to R191), streams and orders (R81 to R116), host bindings (R187), the Pitch image stores (R143 to R167),
the fault collector (R358 to R373), the Twin poles (R374 to R379), the loss of a unit (R380 to R384), the Dry bag (R388
to R393) and the security engine (R397 to R422).
-/

namespace Sys2Proof.Machine

/-- A ZFP message (R171): the header fields and the body. LEN is the body's length and MCRC is computed when the message
is put on a wire (Machine/Messages.lean). -/
structure Msg where
  ver : Nat := 2
  mtype : Nat
  resp : Bool := false
  alt : Bool := false
  retx : Bool := false
  ttl : Nat := 32
  dstNode : Nat
  dstDie : Nat := 0
  srcNode : Nat
  srcDie : Nat := 0
  epoch : Nat := 0
  tid : Nat := 0
  origTick : Nat := 0
  status : Nat := 0
  body : List Byte := []
  deriving DecidableEq, Repr

/-- Why a request of this device waits for a resend other than at its timer (R178, R180). -/
inductive Wait where
  | none
  | inReset
  | busy
  deriving DecidableEq, Repr

/-- What an outstanding request of this device is for. -/
inductive Purpose where
  | tokens (stream seq : Nat)
  | mirror (idx : Nat) (target : Nat)
  | launch (stream seq : Nat)
  | report (stream seq : Nat)
  | kvMirror (stream seq : Nat)
  | coll
  | completion (stream hctx : Nat)
  | probe (node : Nat)
  | pitchQuery (ext : Nat)
  | stageRead (bell stream seq off : Nat)
  | stageWrite (bell stream seq off : Nat)
  | broadcast
  | reload
  | bindMirror
  deriving DecidableEq, Repr

/-- An outstanding request (R178): the message as first sent, the port it was first sent on, its timer, and the resends
counted against RETRY. -/
structure Req where
  msg : Msg
  port : Option Nat
  deadline : Nat
  resends : Nat := 0
  wait : Wait := .none
  waitUntil : Nat := 0
  gaveUp : Bool := false
  purpose : Purpose
  deriving DecidableEq, Repr

/-- One key of the deduplication table (R179, R180) with the response it holds; none while it executes. -/
structure Dedup where
  node : Nat
  die : Nat
  tid : Nat
  resp : Option Msg
  sentAt : Nat
  deriving DecidableEq, Repr

/-- A host binding at the bridge (R187): the IPv6 address as a 128-bit number and the UDP port. -/
structure Binding where
  addr : Nat
  port : Nat
  deriving DecidableEq, Repr

/-- A read of a committed page slot that waits for the commit copy to fill the slot (R113). -/
structure WaitRead where
  src : Entry
  msg : Msg
  stream : Nat
  deriving DecidableEq, Repr

/-- Transport state (R171 to R180, R187). `tidCnt` is bits [31:0] of the next TID; `restart` is the AON restart number
(R173); `reads` are the reads of R113; `handed` the accesses handed to a slot's partner and not answered (R33, R300, R306), by slot; `inbox`
holds the messages a switch delivered to this device (R176); `neigh` the MAC addresses of neighbours by IPv6 address, and `ethWait` the packets that wait
for one (R193). -/
structure TrnSt where
  restart : Nat := 0
  tidCnt : Nat := 0
  reqs : List Req := []
  dedup : List Dedup := []
  binds : SMap (Option Binding) := []
  homes : SMap (Option Nat) := []
  reads : List WaitRead := []
  handed : List (Nat × Msg) := []
  inbox : List (Entry × Msg) := []
  neigh : SMap (Option Nat) := []
  ethWait : List (Nat × List Byte) := []
  deriving DecidableEq, Repr

/-- A work order (R81), decoded. -/
structure WorkOrder where
  type : Nat
  dclass : Nat
  strict : Bool
  spec : Bool
  branch : Nat
  arg8 : Nat
  stream : Nat
  seq : Nat
  launchTick : Nat
  pipe : Nat
  hctx : Nat
  tag : Nat
  pos : Nat
  ntok : Nat
  topK : Nat
  temp : Nat
  topP : Nat
  seed : List Byte
  refB : Nat
  refOut : Nat
  refColl : Nat
  refMask : Nat
  srcAddr : Nat
  srcLen : Nat
  tokens : List Nat
  crc : Nat
  deriving DecidableEq, Repr

/-- The part report of one device (R92, MTYPE 0x22): `flags` has the layout of byte 2 of a completion (R90). -/
structure Report where
  node : Nat
  gen : Nat
  status : Nat
  flags : Nat
  nsamp : Nat
  errCode : Nat
  errDie : Nat
  len : Nat
  vlen : Nat
  tokens : List Nat
  deriving DecidableEq, Repr

/-- States of a journal entry (R184). `awaiting` is an entry written on both poles whose first mirror has not been
answered (R181, R182); a FREE entry is absent from the journal. -/
inductive JState where
  | awaiting | accepted | launched | done | delivered
  deriving DecidableEq, Repr

/-- A journal entry (R181 to R184). `sub` is the WO_SUBMIT that brought the order (R183 answers it); `dseqs` are the
destination contexts with the DSEQ of the completion and whether the context has acknowledged it (R185); `mirrored` says that
the buddy has answered the transition into the present state. -/
structure JEntry where
  node : Nat
  wo : WorkOrder
  sub : Msg
  st : JState
  mirrored : Bool := false
  gen : Nat := 0
  acceptTick : Nat := 0
  acceptAt : Nat := 0
  launchTick : Nat := 0
  lead : Bool := false
  startTick : Nat := 0
  late : Bool := false
  reports : List Report := []
  comp : List Byte := []
  dseqs : List (Nat × Nat × Bool) := []
  deriving DecidableEq, Repr

/-- The home's part of an open stream (R84 to R88, R185): the next SEQ, the shard set of the OPEN's pipeline, and the last
DSEQ given to each context. -/
structure HomeSt where
  node : Nat
  nextSeq : Nat
  pipe : Nat
  shards : List Nat
  dseq : SMap Nat := []
  deriving DecidableEq, Repr

/-- A page or slab held by a stream: the Bell and pool it lies in, the index, and for a slab its branch. -/
structure PageRef where
  bell : Nat
  pool : Nat
  idx : Nat
  deriving DecidableEq, Repr

/-- The state of an open stream on one device of its shard set (R86): the committed length L, the branch lengths n_b, the
page lists, the reservations (R98), the slabs (R108), the owner, the KV_LOST mark (R100), and a commit whose copy is in
progress with the L before it (R111, R115). `turn` is the SEQ of the next order to act on this state (R87), `shards` the shard set of the OPEN's
pipeline, and `undo` L and every n_b as they were before the last RUN moved them (R91). -/
structure Stream where
  id : Nat
  home : Option HomeSt := none
  l : Nat := 0
  n : SMap Nat := []
  pages : List PageRef := []
  resv : List PageRef := []
  slabs : List (Nat × PageRef) := []
  owner : Nat := 0
  lost : Bool := false
  copyFrom : Option Nat := none
  copySlabs : List (Nat × PageRef) := []
  copyPages : List PageRef := []
  copyDone : Bool := true
  turn : Nat := 0
  shards : List Nat := []
  undo : Option (Nat × SMap Nat) := none
  deriving DecidableEq, Repr

/-- Phases of this device's part of an order. -/
inductive Phase where
  | armed | running | copying | ended | reported
  deriving DecidableEq, Repr

/-- This device's part of a launched order (R88, R89, R92): the launch tick the home sent, the Bells whose runs have not
ended, and what the report will carry. `due` says that its tick has come, `peers` what the other devices of the shard set found when they admitted
their parts (R98, R111, R119), `void` that it was not started because one of them could not, and `len0` and `n0` are L and the n_b at its launch. -/
structure Part where
  home : Nat
  gen : Nat
  wo : WorkOrder
  tick : Nat
  phase : Phase := .armed
  bells : List Nat := []
  status : Nat := 0
  errCode : Nat := 0
  errDie : Nat := 0
  flags : Nat := 0
  tokens : List Nat := []
  input : List Nat := []
  mirrors : Nat := 0
  len0 : Nat := 0
  n0 : SMap Nat := []
  due : Bool := false
  peers : Nat := 0
  void : Bool := false
  deriving DecidableEq, Repr

/-- A completion that waits for its context's acknowledgement, or for room among the 16 of R185. -/
structure Comp where
  node : Nat
  stream : Nat
  hctx : Nat
  dseq : Nat
  body : List Byte
  flow : Nat
  owner : Bool
  sent : Bool := false
  deadline : Nat := 0
  deriving DecidableEq, Repr

/-- The state of the Control Pole's journal and streams, held alike by both poles (R374). `own` is the journal, `mir` the
buddy mirror of the predecessor (index, entry) with its stream and binding records, `mirSeen` the number of the last update taken of each record (R174),
`adopted` the nodes this device answers for and `adopting` those whose entries its own buddy does not hold yet (R189), `remirroring` that a new buddy does
not hold all records yet (R190), `kvMir` the predecessor's committed rows that this
device mirrors (stream, 64 × Bell + pool, position, bytes; R100) and `mirPages` the pages of the mirror pools that hold them (stream, 64 × Bell +
pool, page-list entry, page). -/
structure JrnSt where
  own : List (Nat × JEntry) := []
  mir : List (Nat × JEntry) := []
  mirStreams : List Stream := []
  mirHomes : List (Nat × Nat) := []
  mirSeen : SMap Nat := []
  adopted : List Nat := []
  adopting : List Nat := []
  streams : List Stream := []
  parts : List Part := []
  comps : List Comp := []
  remirroring : Bool := false
  kvMir : List (Nat × Nat × Nat × List Byte) := []
  mirPages : List (Nat × Nat × Nat × Nat) := []
  deriving DecidableEq, Repr

/-- One image store (R159): its bytes and its length. -/
structure Store where
  bytes : SMap Byte := []
  len : Nat := 0
  deriving DecidableEq, Repr

/-- Shadow states (R159), as PIT_STAT.SHADOW numbers them. -/
inductive Shadow where
  | empty | loading | verifying | verified | armed
  deriving DecidableEq, Repr

/-- Result of a verification (R160): the code, the failing section index, offset, delta and shortfall. -/
structure VerRes where
  code : Nat
  sect : Nat := 0
  off : Nat := 0
  delta : Option Nat := none
  short : Nat := 0
  peer : Bool := false
  desc : Option (Nat × Nat × Nat) := none
  deriving DecidableEq, Repr

/-- Pitch image state: the two stores (R159), the ended verification that has not been taken yet and the OVERFLOW peers it
waits for (R160, R161), the armed ticks (R162, R164), the delta number armed, the pending live words (section index, byte
offset, value) of R167. `sealed` marks a shadow whose verification failed (R160). -/
structure PitSt where
  force : Store := {}
  shadow : Store := {}
  shState : Shadow := .empty
  isSealed : Bool := false
  res : Option VerRes := none
  peers : List (Nat × Nat) := []
  peerBy : Nat := 0
  remap : Option (Nat × Nat) := none
  live : List (Nat × Nat × Nat) := []
  deriving DecidableEq, Repr

/-- One fault source's pair and its place in the collector (R358 to R367). `active` and `event` are what the reporting unit
drives; `wire` a wire fault (R359); `seen` that the present activity has been reported; `degr` a degrade action in effect and
`savedCap` the CAPb it replaced (R363). -/
structure Pair where
  active : Bool := false
  event : Bool := false
  wire : Bool := false
  seen : Bool := false
  pend : Bool := false
  pendSev : Nat := 0
  sevEff : Nat := 0
  cnt : Nat := 0
  since : Nat := 0
  lastRec : Option Nat := none
  detail : List Byte := []
  degr : Bool := false
  savedCap : Option Nat := none
  injected : Bool := false
  deriving DecidableEq, Repr

/-- A Strike in progress (R370, R371): its cause, the time of the cause, the register or check for source 0, the steps
completed (ns from the cause), and whether the STRIKE record has been written. -/
structure StrikeSt where
  cause : Nat
  at_ : Nat
  check : Nat := 0xFFFF
  steps : List (Option Nat) := [none, none, none, none]
  recorded : Bool := false
  deriving DecidableEq, Repr

/-- The fault collector. `events` are the unread management events (R405), `dropped` those dropped since the last one
sent. -/
structure FltSt where
  pairs : SMap Pair := []
  strike : Option StrikeSt := none
  parity : List Nat := []
  events : List (Nat × Nat) := []
  dropped : Nat := 0
  deriving DecidableEq, Repr

/-- States of a Control Pole, as WSQ_POLE_STAT numbers them (R395). -/
inductive PoleState where
  | off | test | resync | standby | active | failed
  deriving DecidableEq, Repr

/-- The Twin poles (R374 to R379): which is active (false A, true B), their states, and the times (ns) each gave up. -/
structure PoleSt where
  b : Bool := false
  stA : PoleState := .off
  stB : PoleState := .off
  gaveA : List Nat := []
  gaveB : List Nat := []
  syncFrom : Nat := 0
  diverged : Bool := false
  deriving DecidableEq, Repr

/-- Loss of a ring unit (R380 to R384): when the last probes were sent, the last response to a probe of the buddy or the predecessor, whether the FTC has been
aligned since the last FULL activation and from when, since when each ring port has been down, when an unanswered probe with ALT = 1
was sent to a node, the lost unit (node, die, tick of the declaration), and what a pull from a replica still has to read
(Bell, offset, bytes). -/
structure LossSt where
  probeAt : Option Nat := none
  lastProbe : Nat := 0
  armed : Bool := false
  countFrom : Nat := 0
  downSince : SMap (Option Nat) := []
  probeSent : SMap (Option Nat) := []
  lost : Option (Nat × Nat × Nat) := none
  cursor : List (Nat × Nat × Nat) := []
  deriving DecidableEq, Repr

/-- A record of the Dry bag (R389) before it is laid out in bytes. -/
structure DryRec where
  type : Nat
  flags : Nat := 0
  sev : Nat := 0
  seq : Nat := 0
  ftc : Nat := 0
  wall : Nat := 0
  source : Nat := 0xFFFF
  die : Nat := 0xFF
  node : Nat := 0
  restart : Nat := 0
  count : Nat := 0
  detail : List Byte := []
  deriving DecidableEq, Repr

/-- The Dry bag (R388 to R393): pinned records, the ring by slot, records queued while it is not READY, the row-remap lists
(Bell, DRAM die, BSE, bank, row), the saved crosstalk rows (Canopy, row, terms), and the bytes of the firmware and identity
areas. Everything in it is non-volatile but `queued`. -/
structure DrySt where
  pinned : List DryRec := []
  ring : SMap (Option DryRec) := []
  queued : List DryRec := []
  remap : List (Nat × Nat × Nat × Nat × Nat) := []
  xt : List (Nat × Nat × List (Nat × Int)) := []
  raw : SMap Byte := []
  deriving DecidableEq, Repr

/-- States of a firmware slot (R408). -/
inductive SlotState where
  | invalid | pending | trial | confirmed
  deriving DecidableEq, Repr

/-- A firmware update in progress (R406): the slot being written, the length announced and the bytes received. -/
structure FwUpd where
  slotB : Bool
  len : Nat
  got : Nat
  deriving DecidableEq, Repr

/-- The security engine and the Guy line (R397 to R415): the slots' states, the slot that runs (none in ROM recovery) and the
slot last run, the nonce in force, the update, and the largest packet received from the bus owner. -/
structure SecSt where
  slotA : SlotState := .confirmed
  slotB : SlotState := .invalid
  running : Option Bool := none
  lastRun : Option Bool := none
  nonce : Option (List Byte) := none
  upd : Option FwUpd := none
  maxPkt : Nat := 64
  deriving DecidableEq, Repr

end Sys2Proof.Machine
end

