-- ==== Sys2Proof/Machine/Image.lean ====
section
/-!
DEFINITION. Reading a Pitch image: the bytes of an image store, the header (R144), the directory (R145) and the fields of
the sections that the device uses (R149 to R158).
-/

namespace Sys2Proof.Machine

/-- Byte i of an image store. -/
def Store.byte (st : Store) (i : Nat) : Byte := SMap.get (fun _ => 0) st.bytes i

/-- n bytes from offset i. -/
def Store.slice (st : Store) (i : Nat) : Nat → List Byte
  | 0 => []
  | n + 1 => st.byte i :: st.slice (i + 1) n

/-- An n-byte little-endian number at offset i (R143). -/
def Store.num (st : Store) (i n : Nat) : Nat := leNat (st.slice i n)

/-- The store with byte i replaced. -/
def Store.setByte (st : Store) (i : Nat) (b : Byte) : Store :=
  { st with bytes := SMap.set (fun _ => 0) st.bytes i b }

/-- The store with a byte string written from offset i. -/
def Store.write (st : Store) : Nat → List Byte → Store
  | _, [] => st
  | i, b :: t => (st.setByte i b).write (i + 1) t

/-- A directory entry (R145): its index, TYPE, FLAGS, OFFSET and LENGTH. -/
structure Sect where
  idx : Nat
  type : Nat
  flags : Nat
  off : Nat
  len : Nat
  deriving DecidableEq, Repr

/-- SECT_COUNT (R144). -/
def Store.sectCount (st : Store) : Nat := st.num 12 2

/-- Directory entry i (R145). -/
def Store.sect (st : Store) (i : Nat) : Sect :=
  let o := 128 + 80 * i
  ⟨i, st.num o 2, st.num (o + 3) 1, st.num (o + 8) 8, st.num (o + 16) 8⟩

/-- The section directory, at most the 64 entries of R144. -/
def Store.sects (st : Store) : List Sect := (List.range (min st.sectCount 64)).map st.sect

/-- The first section of a TYPE. -/
def Store.find (st : Store) (type : Nat) : Option Sect := st.sects.find? (fun x => x.type == type)

/-- An n-byte number at offset o of the first section of a TYPE; 0 where there is none or it is too short. -/
def Store.sectNum (st : Store) (type o n : Nat) : Nat :=
  match st.find type with
  | none => 0
  | some x => if o + n ≤ x.len then st.num (x.off + o) n else 0

/-- COMPAT_EPOCH, IMAGE_SVN, IMAGE_ID, SYSTEM_ID, LAYOUT_GEN of the header (R144). -/
def Store.epoch (st : Store) : Nat := st.num 14 2
def Store.svn (st : Store) : Nat := st.num 16 4
def Store.imageId (st : Store) : Nat := st.num 24 8
def Store.systemId (st : Store) : Nat := st.num 40 8
def Store.layoutGen (st : Store) : Nat := st.num 48 4

/-- ROLE fields (R149). -/
def Store.nodeId (st : Store) : Nat := st.sectNum 1 0 4 % 2 ^ 20
def Store.ringPos (st : Store) : Nat := st.sectNum 1 6 1
def Store.isSpare (st : Store) : Bool := st.sectNum 1 7 1 == 1
def Store.roleFlags (st : Store) : Nat := st.sectNum 1 8 1
def Store.bridge (st : Store) : Bool := bit st.roleFlags 0
def Store.clockLeader (st : Store) : Bool := bit st.roleFlags 1
def Store.releasePri (st : Store) : Bool := bit st.roleFlags 2
def Store.releaseCtr (st : Store) : Bool := bit st.roleFlags 3
def Store.buddy (st : Store) : Nat := st.sectNum 1 12 4 % 2 ^ 20
def Store.pred (st : Store) : Nat := st.sectNum 1 16 4 % 2 ^ 20
def Store.launchLead (st : Store) : Nat := let v := st.sectNum 1 20 4; if v = 0 then 2048 else v
def Store.udpPort (st : Store) : Nat := let v := st.sectNum 1 24 2; if v = 0 then 40977 else v
def Store.vestSize (st : Store) : Nat := let v := st.sectNum 1 26 1; if v = 0 then 4 else v
def Store.portUse (st : Store) (p : Nat) : Nat := st.sectNum 1 (32 + p) 1
def Store.bridgeAddr (st : Store) : List Byte :=
  match st.find 1 with
  | none => zeros 16
  | some x => st.slice (x.off + 64) 16
def Store.stuffBell (st : Store) (p : Nat) : Nat := st.sectNum 1 (80 + p) 1

/-- The ROUTE entry of a node ID (R150): PRIMARY and ALTERNATE. -/
def Store.route (st : Store) (node : Nat) : Nat × Nat :=
  let e := st.sectNum 2 (4 * node) 4
  (bits e 5 0, bits e 11 6)

/-- SPARE_A, SPARE_B and COMPAT_LINES of a port (R151). -/
def Store.spareA (st : Store) (p : Nat) : Nat := st.sectNum 3 (16 * p) 1
def Store.spareB (st : Store) (p : Nat) : Nat := st.sectNum 3 (16 * p + 1) 1
def Store.compatLines (st : Store) (p : Nat) : Nat := st.sectNum 3 (16 * p + 2) 2

/-- The configured severity byte of a source (R157). -/
def Store.severity (st : Store) (i : Nat) : Nat := st.sectNum 9 i 1

/-- POLICY values with their defaults (R157). -/
def Store.policy (st : Store) (o n dflt : Nat) : Nat := let v := st.sectNum 10 o n; if v = 0 then dflt else v
def Store.oppMax (st : Store) : Nat := let v := st.sectNum 10 4 1; if v < 128 then 5 else v % 8

/-- A memory extent (R152). -/
structure Extent where
  kind : Nat
  bell : Nat
  die : Nat
  perm : Nat
  mask : Nat
  off : Nat
  len : Nat
  pool : Nat
  peer : Nat
  shard : Nat
  deriving DecidableEq, Repr

/-- A key/value pool record (R153). -/
structure Pool where
  bell : Nat
  pool : Nat
  cluster : Nat
  flags : Nat
  mask : Nat
  fmt : Nat
  headDim : Nat
  heads : Nat
  base : Nat
  pages : Nat
  slabs : Nat
  slabBase : Nat
  deriving DecidableEq, Repr

/-- The extents of MEMORY (R152). -/
def Store.extents (st : Store) : List Extent :=
  match st.find 5 with
  | none => []
  | some x =>
    (List.range (min (st.num x.off 4) (x.len / 32))).map fun i =>
      let o := x.off + 8 + 32 * i
      ⟨st.num o 1, st.num (o + 1) 1, st.num (o + 2) 1, st.num (o + 3) 1, st.num (o + 4) 8, st.num (o + 12) 4,
        st.num (o + 16) 4, st.num (o + 20) 2, st.num (o + 24) 4 % 2 ^ 20, st.num (o + 28) 4⟩

/-- The pool records of MEMORY (R153). HEAD_DIM is given in elements. -/
def Store.pools (st : Store) : List Pool :=
  match st.find 5 with
  | none => []
  | some x =>
    let b := x.off + 8 + 32 * st.num x.off 4
    (List.range (min (st.num (x.off + 4) 4) 512)).map fun i =>
      let o := b + 32 * i
      ⟨st.num o 1, st.num (o + 1) 1, st.num (o + 2) 1, st.num (o + 3) 1, st.num (o + 4) 2, st.num (o + 6) 1,
        64 * 2 ^ st.num (o + 7) 1, st.num (o + 8) 1, st.num (o + 12) 4, st.num (o + 16) 4, st.num (o + 20) 4,
        st.num (o + 24) 4⟩

/-- A pipeline record (R155). -/
structure Pipe where
  pipe : Nat
  cls : Nat
  kvRole : Nat
  tokenOff : Nat
  entry : List Nat
  shards : List Nat
  marks : List Nat
  deriving DecidableEq, Repr

/-- Pipeline records from offset o, n of them (R155). -/
def Store.pipesFrom (st : Store) : Nat → Nat → List Pipe
  | _, 0 => []
  | o, n + 1 =>
    let ns := st.num (o + 24) 2
    let nr := st.num (o + 26) 2
    ⟨st.num o 2, st.num (o + 2) 1, st.num (o + 3) 1, st.num (o + 4) 4, (List.range 8).map (fun b => st.num (o + 8 + 2 * b) 2),
      (List.range ns).map (fun i => st.num (o + 32 + 4 * i) 4 % 2 ^ 20), (List.range nr).map (fun i => st.num (o + 32 + 4 * ns + 4 * i) 4)⟩
      :: st.pipesFrom (o + st.num (o + 28) 4) n

/-- The pipelines of PIPELINE (R155). -/
def Store.pipes (st : Store) : List Pipe :=
  match st.find 7 with
  | none => []
  | some x => st.pipesFrom (x.off + 8) (min (st.num x.off 4) 1024)

/-- The pipeline of a number. -/
def Store.pipe? (st : Store) (n : Nat) : Option Pipe := st.pipes.find? (fun p => p.pipe == n)

/-- A rank contributed by this device (R156): rank, Bell die and cluster mask. -/
structure Rank where
  rank : Nat
  die : Nat
  clusters : Nat
  deriving DecidableEq, Repr

/-- A collective declaration (R156). -/
structure Coll where
  id : Nat
  op : Nat
  ring : Bool
  mode : Nat
  isStatic : Bool
  sat : Bool
  partFmt : Nat
  outFmt : Nat
  engine : Nat
  level : Nat
  elems : Nat
  ranks : Nat
  staticA : Int
  anchorDest : Nat
  resultDest : Nat
  terms : Nat
  parent : Nat
  children : List Nat
  locals : List Rank
  deriving DecidableEq, Repr

/-- Collective declarations from offset o, n of them (R156). -/
def Store.collsFrom (st : Store) : Nat → Nat → List Coll
  | _, 0 => []
  | o, n + 1 =>
    let nc := st.num (o + 40) 1
    let nl := st.num (o + 41) 1
    ⟨st.num o 4 % 2 ^ 14, st.num (o + 4) 1, st.num (o + 5) 1 == 1, st.num (o + 6) 1, bit (st.num (o + 7) 1) 0,
      bit (st.num (o + 7) 1) 1, st.num (o + 8) 1, st.num (o + 9) 1, st.num (o + 10) 1, st.num (o + 11) 1, st.num (o + 12) 4,
      st.num (o + 16) 2, signed 16 (st.num (o + 18) 2), st.num (o + 20) 4, st.num (o + 24) 4, st.num (o + 28) 8,
      st.num (o + 36) 4 % 2 ^ 20, (List.range nc).map (fun i => st.num (o + 48 + 4 * i) 4 % 2 ^ 20),
      (List.range nl).map (fun i => let q := o + 48 + 4 * nc + 8 * i; ⟨st.num q 2, st.num (q + 2) 1, st.num (q + 4) 2⟩)⟩
      :: st.collsFrom (o + st.num (o + 44) 4) n

/-- The collectives of COLLECTIVE (R156). -/
def Store.colls (st : Store) : List Coll :=
  match st.find 8 with
  | none => []
  | some x => st.collsFrom (x.off + 8) (min (st.num x.off 4) 16384)

/-- The collective of an identifier. -/
def Store.coll? (st : Store) (id : Nat) : Option Coll := st.colls.find? (fun c => c.id == id)

/-- The PROGRAM section of a Bell (R154). -/
def Store.program (st : Store) (bell : Nat) : Option Sect :=
  st.sects.find? (fun x => x.type == 6 && st.num x.off 1 == bell)

/-- NENTRY, NDESC of a PROGRAM section, and the offset of its first descriptor (R154). -/
def Store.nentry (st : Store) (x : Sect) : Nat := st.num (x.off + 6) 2
def Store.ndesc (st : Store) (x : Sect) : Nat := st.num (x.off + 4) 2
def Store.descBase (st : Store) (x : Sect) : Nat := x.off + 64 * ((16 + 2 * st.nentry x + 63) / 64)

/-- The descriptor index of an entry point (R154). -/
def Store.entryPoint (st : Store) (x : Sect) (e : Nat) : Nat := st.num (x.off + 16 + 2 * e) 2

/-- The 64 bytes of a descriptor (R77, R154). -/
def Store.descBytes (st : Store) (x : Sect) (i : Nat) : List Byte := st.slice (st.descBase x + 64 * i) 64

/-- A timetable entry of SLOT (R151): slot, pair and lines. -/
def Store.slotPeriod (st : Store) : Nat := st.sectNum 4 0 2
def Store.slotBase (st : Store) : Nat := st.sectNum 4 8 8
def Store.slotEntries (st : Store) : List (Nat × Nat × Nat) :=
  (List.range (st.sectNum 4 2 2)).map fun i =>
    (st.sectNum 4 (16 + 8 * i) 2, st.sectNum 4 (18 + 8 * i) 1, st.sectNum 4 (20 + 8 * i) 4)

/-- A SPARE delta (R158): its offset in the image, number, lost node and die, patch count, length and reload source. -/
structure Delta where
  off : Nat
  num : Nat
  node : Nat
  die : Nat
  npatch : Nat
  len : Nat
  reload : Nat
  deriving DecidableEq, Repr

/-- Deltas from offset o, n of them (R158). -/
def Store.deltasFrom (st : Store) : Nat → Nat → List Delta
  | _, 0 => []
  | o, n + 1 =>
    let u := st.num (o + 4) 4
    ⟨o, st.num o 1, bits u 19 0, bits u 24 20, st.num (o + 8) 4, st.num (o + 12) 4, st.num (o + 16) 8⟩
      :: st.deltasFrom (o + st.num (o + 12) 4) n

/-- The deltas of SPARE (R158). -/
def Store.deltas (st : Store) : List Delta :=
  match st.find 12 with
  | none => []
  | some x => st.deltasFrom (x.off + 8) (min (st.num x.off 4) 16)

/-- One patch of a delta (R158): TYPE, INST, offset, length and the offset of its replacement bytes in the image. -/
structure Patch where
  type : Nat
  inst : Nat
  off : Nat
  len : Nat
  src : Nat
  deriving DecidableEq, Repr

/-- Patches from offset o, n of them. -/
def Store.patchesFrom (st : Store) : Nat → Nat → List Patch
  | _, 0 => []
  | o, n + 1 =>
    ⟨st.num o 2, st.num (o + 2) 1, st.num (o + 4) 4, st.num (o + 8) 4, o + 12⟩ :: st.patchesFrom (o + 12 + st.num (o + 8) 4) n

/-- The patches of a delta. -/
def Store.patches (st : Store) (d : Delta) : List Patch := st.patchesFrom (d.off + 32) d.npatch

/-- The section a patch names (R158). -/
def Store.patchSect (st : Store) (p : Patch) : Option Sect :=
  if p.type = 6 then st.program p.inst else st.find p.type

/-- The image with one patch applied. -/
def Store.applyPatch (st : Store) (p : Patch) : Store :=
  match st.patchSect p with
  | none => st
  | some x => st.write (x.off + p.off) (st.slice p.src p.len)

/-- The image with a delta applied (R164). -/
def Store.applyDelta (st : Store) (d : Delta) : Store := (st.patches d).foldl Store.applyPatch st

/-- The SLICE of a pool in bytes for one page of rows positions (R96): per head, keys then values, each padded to 64. -/
def Pool.elem (p : Pool) : Nat := if p.fmt = 8 then 2 else 1
def Pool.headSect (p : Pool) (rows : Nat) : Nat := alignUp (rows * p.headDim * p.elem) 64
def Pool.slice (p : Pool) (rows : Nat) : Nat := 2 * p.heads * p.headSect rows
def Pool.mirrored (p : Pool) : Bool := bit p.flags 0
def Pool.isMirror (p : Pool) : Bool := bit p.flags 1

/-- The BSEs of a pool as logical BSE numbers of its Bell, in order (R153): BSE_MASK is over the cluster's 16 BSEs. -/
def Pool.bses (p : Pool) : List Nat := ((List.range 16).filter (fun i => bit p.mask i)).map (fun i => 16 * p.cluster + i)

/-- The bytes that an extent takes over all its regions (R152). -/
def Extent.size (e : Extent) : Nat := ((List.range 64).filter (bit e.mask)).length * e.len

/-- The VESTIBULE extent of a pool on a BSE of its Bell (R108, R152). -/
def Store.vestExtent? (st : Store) (p : Pool) (bse : Nat) : Option Extent :=
  st.extents.find? fun e => e.kind == 3 && e.bell == p.bell && e.die == bse / 64 && bit e.mask (bse % 64) && (e.pool == p.pool || e.pool == 0xFFFF)

end Sys2Proof.Machine
end

