-- ==== Sys2Proof/Machine/RegMap.lean ====
section
/-!
DEFINITION. The control space of R37 and R451: the address of every register (namespace R), the bits of every
field (namespace F), and each block's register table with the reset domain, access code and reset value of every
field, as the register headings and tables of the chapters give them. Reserved bits have no row (R18).
A field whose reset value the table calls fuse, pin, factory, firmware or matrix has 0 here: what it reads comes from
the state that holds it (Machine/Views.lean).
-/

namespace Sys2Proof.Machine

/-- Access codes of R16. -/
inductive Access where
  | ro | rw | w1c | wo | guy
  deriving DecidableEq, Repr

/-- Reset domains of R17, from the broadest to the narrowest. -/
inductive Dom where
  | aon | por | pin | warm | die | link
  deriving DecidableEq, Repr

/-- Which values a write may place in a field (R18: a reserved encoding leaves the field unchanged). `zero` is a
counter, which takes only the value 0 (`write 0 to clear; other writes are ignored`). -/
inductive Legal where
  | any
  | range (lo hi : Nat)
  | notVal (v : Nat)
  | zero
  deriving DecidableEq, Repr

/-- One row of a register's field table. -/
structure FieldInfo where
  hi : Nat
  lo : Nat
  acc : Access
  rst : Nat
  legal : Legal
  deriving DecidableEq, Repr

/-- One register of a block: its reset domain and its fields. -/
structure RegInfo where
  dom : Dom
  fields : List FieldInfo
  deriving DecidableEq, Repr

/-- Register blocks of R37. -/
inductive Blk where
  | id | pit | wsq | flt | ftc | clk | pwr | thm | sec | dry | lnk | opt | bel | seam | uci | col | trn
  deriving DecidableEq, Repr

namespace R
/-- ID_DEV (01_package_and_dies.md). -/
abbrev ID_DEV : Nat := 0x0
/-- ID_REV (01_package_and_dies.md). -/
abbrev ID_REV : Nat := 0x4
/-- ID_CAP (01_package_and_dies.md). -/
abbrev ID_CAP : Nat := 0x8
/-- ID_SERIAL_LO (01_package_and_dies.md). -/
abbrev ID_SERIAL_LO : Nat := 0xC
/-- ID_SERIAL_HI (01_package_and_dies.md). -/
abbrev ID_SERIAL_HI : Nat := 0x10
/-- ID_STRAP (01_package_and_dies.md). -/
abbrev ID_STRAP : Nat := 0x14
/-- ID_STRAP_ERR (01_package_and_dies.md). -/
abbrev ID_STRAP_ERR : Nat := 0x18
/-- ID_DIE_LIVE (01_package_and_dies.md). -/
abbrev ID_DIE_LIVE : Nat := 0x1C
/-- ID_REFUSE_CNT (01_package_and_dies.md). -/
abbrev ID_REFUSE_CNT : Nat := 0x20
/-- ID_REFUSE_LAST (01_package_and_dies.md). -/
abbrev ID_REFUSE_LAST : Nat := 0x24
/-- ID_REFUSE_ADDR_LO (01_package_and_dies.md). -/
abbrev ID_REFUSE_ADDR_LO : Nat := 0x28
/-- ID_REFUSE_ADDR_HI (01_package_and_dies.md). -/
abbrev ID_REFUSE_ADDR_HI : Nat := 0x2C
/-- BEL_STAT (02_bell_arithmetic.md). -/
abbrev BEL_STAT (n : Nat) : Nat := 0x300000 + 0x10000 * n
/-- BEL_CTL (02_bell_arithmetic.md). -/
abbrev BEL_CTL (n : Nat) : Nat := 0x300004 + 0x10000 * n
/-- BEL_DESC_ERR (02_bell_arithmetic.md). -/
abbrev BEL_DESC_ERR (n : Nat) : Nat := 0x300010 + 0x10000 * n
/-- BEL_OP_ERR (02_bell_arithmetic.md). -/
abbrev BEL_OP_ERR (n : Nat) : Nat := 0x300014 + 0x10000 * n
/-- BEL_OP_ERR_CNT (02_bell_arithmetic.md). -/
abbrev BEL_OP_ERR_CNT (n : Nat) : Nat := 0x300018 + 0x10000 * n
/-- BEL_ECC_CTL (02_bell_arithmetic.md). -/
abbrev BEL_ECC_CTL (n : Nat) : Nat := 0x300020 + 0x10000 * n
/-- BEL_ECC_CE_CNT (02_bell_arithmetic.md). -/
abbrev BEL_ECC_CE_CNT (n : Nat) : Nat := 0x300024 + 0x10000 * n
/-- BEL_ECC_UE_CNT (02_bell_arithmetic.md). -/
abbrev BEL_ECC_UE_CNT (n : Nat) : Nat := 0x300028 + 0x10000 * n
/-- BEL_ECC_LAST (02_bell_arithmetic.md). -/
abbrev BEL_ECC_LAST (n : Nat) : Nat := 0x30002C + 0x10000 * n
/-- BEL_ECC_LAST_OFF (02_bell_arithmetic.md). -/
abbrev BEL_ECC_LAST_OFF (n : Nat) : Nat := 0x300030 + 0x10000 * n
/-- BEL_SCRUB_CTL (02_bell_arithmetic.md). -/
abbrev BEL_SCRUB_CTL (n : Nat) : Nat := 0x300040 + 0x10000 * n
/-- BEL_SCRUB_STAT (02_bell_arithmetic.md). -/
abbrev BEL_SCRUB_STAT (n : Nat) : Nat := 0x300044 + 0x10000 * n
/-- BEL_REFRESH (02_bell_arithmetic.md). -/
abbrev BEL_REFRESH (n : Nat) : Nat := 0x300050 + 0x10000 * n
/-- BEL_ROWSPARE (02_bell_arithmetic.md). -/
abbrev BEL_ROWSPARE (n : Nat) : Nat := 0x300054 + 0x10000 * n
/-- BEL_CYC_BUSY (02_bell_arithmetic.md). -/
abbrev BEL_CYC_BUSY (n : Nat) : Nat := 0x300060 + 0x10000 * n
/-- BEL_WORDS_READ (02_bell_arithmetic.md). -/
abbrev BEL_WORDS_READ (n : Nat) : Nat := 0x300064 + 0x10000 * n
/-- BEL_KV_SEL (03_inference_execution.md). -/
abbrev BEL_KV_SEL (n : Nat) : Nat := 0x300080 + 0x10000 * n
/-- BEL_KV_FREE (03_inference_execution.md). -/
abbrev BEL_KV_FREE (n : Nat) : Nat := 0x300084 + 0x10000 * n
/-- BEL_KV_RSVD (03_inference_execution.md). -/
abbrev BEL_KV_RSVD (n : Nat) : Nat := 0x300088 + 0x10000 * n
/-- BEL_VEST_FREE (03_inference_execution.md). -/
abbrev BEL_VEST_FREE (n : Nat) : Nat := 0x30008C + 0x10000 * n
/-- BEL_STREAMS (03_inference_execution.md). -/
abbrev BEL_STREAMS (n : Nat) : Nat := 0x300090 + 0x10000 * n
/-- COL_STAT (04_collectives_determinism.md). -/
abbrev COL_STAT : Nat := 0x500000
/-- COL_DET_DESC (04_collectives_determinism.md). -/
abbrev COL_DET_DESC : Nat := 0x500010
/-- COL_MAP_GEN (04_collectives_determinism.md). -/
abbrev COL_MAP_GEN : Nat := 0x500014
/-- COL_TIMEOUT (04_collectives_determinism.md). -/
abbrev COL_TIMEOUT : Nat := 0x500020
/-- COL_DUP_CNT (04_collectives_determinism.md). -/
abbrev COL_DUP_CNT : Nat := 0x500030
/-- COL_MIXED_CNT (04_collectives_determinism.md). -/
abbrev COL_MIXED_CNT : Nat := 0x500034
/-- COL_MIXED_LAST (04_collectives_determinism.md). -/
abbrev COL_MIXED_LAST : Nat := 0x500038
/-- COL_MIXED_DESC (04_collectives_determinism.md). -/
abbrev COL_MIXED_DESC : Nat := 0x50003C
/-- COL_ABORT_CNT (04_collectives_determinism.md). -/
abbrev COL_ABORT_CNT : Nat := 0x500040
/-- COL_ABORT_LAST (04_collectives_determinism.md). -/
abbrev COL_ABORT_LAST : Nat := 0x500044
/-- COL_INEXACT_CNT (04_collectives_determinism.md). -/
abbrev COL_INEXACT_CNT : Nat := 0x500050
/-- COL_BYTES_IN (04_collectives_determinism.md). -/
abbrev COL_BYTES_IN : Nat := 0x500054
/-- PIT_STAT (05_pitch_image.md). -/
abbrev PIT_STAT : Nat := 0x10000
/-- PIT_CTL (05_pitch_image.md). -/
abbrev PIT_CTL : Nat := 0x10004
/-- PIT_ERR_SECT (05_pitch_image.md). -/
abbrev PIT_ERR_SECT : Nat := 0x10008
/-- PIT_ERR_OFF (05_pitch_image.md). -/
abbrev PIT_ERR_OFF : Nat := 0x1000C
/-- PIT_ACT_TICK_LO (05_pitch_image.md). -/
abbrev PIT_ACT_TICK_LO : Nat := 0x10010
/-- PIT_ACT_TICK_HI (05_pitch_image.md). -/
abbrev PIT_ACT_TICK_HI : Nat := 0x10014
/-- PIT_SHORT_BYTES_LO (05_pitch_image.md). -/
abbrev PIT_SHORT_BYTES_LO : Nat := 0x10018
/-- PIT_SHORT_BYTES_HI (05_pitch_image.md). -/
abbrev PIT_SHORT_BYTES_HI : Nat := 0x1001C
/-- PIT_SHD_OFF (05_pitch_image.md). -/
abbrev PIT_SHD_OFF : Nat := 0x10020
/-- PIT_SHD_DATA (05_pitch_image.md). -/
abbrev PIT_SHD_DATA : Nat := 0x10024
/-- PIT_SHD_LEN (05_pitch_image.md). -/
abbrev PIT_SHD_LEN : Nat := 0x10028
/-- PIT_ACTIVE_ID_LO (05_pitch_image.md). -/
abbrev PIT_ACTIVE_ID_LO : Nat := 0x10030
/-- PIT_ACTIVE_ID_HI (05_pitch_image.md). -/
abbrev PIT_ACTIVE_ID_HI : Nat := 0x10034
/-- PIT_LAYOUT (05_pitch_image.md). -/
abbrev PIT_LAYOUT : Nat := 0x10038
/-- PIT_EPOCH (05_pitch_image.md). -/
abbrev PIT_EPOCH : Nat := 0x1003C
/-- PIT_EPOCH_RANGE (05_pitch_image.md). -/
abbrev PIT_EPOCH_RANGE : Nat := 0x10040
/-- PIT_FMT (05_pitch_image.md). -/
abbrev PIT_FMT : Nat := 0x10044
/-- PIT_REMAP (05_pitch_image.md). -/
abbrev PIT_REMAP : Nat := 0x10048
/-- PIT_REMAP_TICK_LO (05_pitch_image.md). -/
abbrev PIT_REMAP_TICK_LO : Nat := 0x1004C
/-- PIT_REMAP_TICK_HI (05_pitch_image.md). -/
abbrev PIT_REMAP_TICK_HI : Nat := 0x10050
/-- PIT_CFG_SEL (05_pitch_image.md). -/
abbrev PIT_CFG_SEL : Nat := 0x10054
/-- PIT_CFG_DATA (05_pitch_image.md). -/
abbrev PIT_CFG_DATA : Nat := 0x10058
/-- PIT_LIVE_PEND (05_pitch_image.md). -/
abbrev PIT_LIVE_PEND : Nat := 0x1005C
/-- PIT_LIVE_CNT (05_pitch_image.md). -/
abbrev PIT_LIVE_CNT : Nat := 0x10060
/-- PIT_DENY_CNT (05_pitch_image.md). -/
abbrev PIT_DENY_CNT : Nat := 0x10064
/-- PIT_ACT_CNT (05_pitch_image.md). -/
abbrev PIT_ACT_CNT : Nat := 0x10068
/-- TRN_STAT (06_transport_host.md). -/
abbrev TRN_STAT : Nat := 0x600000
/-- TRN_TIMEOUT (06_transport_host.md). -/
abbrev TRN_TIMEOUT : Nat := 0x600004
/-- TRN_DEDUP (06_transport_host.md). -/
abbrev TRN_DEDUP : Nat := 0x600008
/-- TRN_RETX_CNT (06_transport_host.md). -/
abbrev TRN_RETX_CNT : Nat := 0x600010
/-- TRN_ALT_CNT (06_transport_host.md). -/
abbrev TRN_ALT_CNT : Nat := 0x600014
/-- TRN_DUP_CNT (06_transport_host.md). -/
abbrev TRN_DUP_CNT : Nat := 0x600018
/-- TRN_DISCARD_CNT (06_transport_host.md). -/
abbrev TRN_DISCARD_CNT : Nat := 0x60001C
/-- TRN_STALE_CNT (06_transport_host.md). -/
abbrev TRN_STALE_CNT : Nat := 0x600020
/-- TRN_TTL_DROP_CNT (06_transport_host.md). -/
abbrev TRN_TTL_DROP_CNT : Nat := 0x600024
/-- TRN_UNREACH_CNT (06_transport_host.md). -/
abbrev TRN_UNREACH_CNT : Nat := 0x600028
/-- TRN_TIMEOUT_LAST (06_transport_host.md). -/
abbrev TRN_TIMEOUT_LAST : Nat := 0x600030
/-- TRN_ETH_DROP_CNT (06_transport_host.md). -/
abbrev TRN_ETH_DROP_CNT : Nat := 0x600040
/-- TRN_HCTX_SEL (06_transport_host.md). -/
abbrev TRN_HCTX_SEL : Nat := 0x600044
/-- TRN_HCTX_ADDR0 to TRN_HCTX_ADDR3 (06_transport_host.md). -/
abbrev TRN_HCTX_ADDR (i : Nat) : Nat := 0x600048 + 4 * i
/-- TRN_HCTX_PORT (06_transport_host.md). -/
abbrev TRN_HCTX_PORT : Nat := 0x600058
/-- WSQ_JRN_USED (06_transport_host.md). -/
abbrev WSQ_JRN_USED : Nat := 0x20100
/-- WSQ_MIR_USED (06_transport_host.md). -/
abbrev WSQ_MIR_USED : Nat := 0x20104
/-- WSQ_ACCEPT_CNT (06_transport_host.md). -/
abbrev WSQ_ACCEPT_CNT : Nat := 0x20108
/-- WSQ_NACC_CNT (06_transport_host.md). -/
abbrev WSQ_NACC_CNT : Nat := 0x2010C
/-- WSQ_NACC_LAST (06_transport_host.md). -/
abbrev WSQ_NACC_LAST : Nat := 0x20110
/-- WSQ_MIRROR_STAT (06_transport_host.md). -/
abbrev WSQ_MIRROR_STAT : Nat := 0x20114
/-- WSQ_BUDDY (06_transport_host.md). -/
abbrev WSQ_BUDDY : Nat := 0x20118
/-- WSQ_PRED (06_transport_host.md). -/
abbrev WSQ_PRED : Nat := 0x2011C
/-- WSQ_COMP_PEND (06_transport_host.md). -/
abbrev WSQ_COMP_PEND : Nat := 0x20120
/-- WSQ_RELAUNCH_CNT (06_transport_host.md). -/
abbrev WSQ_RELAUNCH_CNT : Nat := 0x20124
/-- LNK_STAT (07_link_layer.md). -/
abbrev LNK_STAT (n : Nat) : Nat := 0x100000 + 0x1000 * n
/-- LNK_CTL (07_link_layer.md). -/
abbrev LNK_CTL (n : Nat) : Nat := 0x100004 + 0x1000 * n
/-- LNK_CAP (07_link_layer.md). -/
abbrev LNK_CAP (n : Nat) : Nat := 0x100008 + 0x1000 * n
/-- LNK_PEER (07_link_layer.md). -/
abbrev LNK_PEER (n : Nat) : Nat := 0x10000C + 0x1000 * n
/-- LNK_MAP_SEL (07_link_layer.md). -/
abbrev LNK_MAP_SEL (n : Nat) : Nat := 0x100010 + 0x1000 * n
/-- LNK_MAP0 to LNK_MAP2 (07_link_layer.md). -/
abbrev LNK_MAP (n : Nat) (i : Nat) : Nat := 0x100014 + 0x1000 * n + 4 * i
/-- LNK_SPARE (07_link_layer.md). -/
abbrev LNK_SPARE (n : Nat) : Nat := 0x100020 + 0x1000 * n
/-- LNK_LINE_OOS (07_link_layer.md). -/
abbrev LNK_LINE_OOS (n : Nat) : Nat := 0x100024 + 0x1000 * n
/-- LNK_CREDIT_CFG0 (07_link_layer.md). -/
abbrev LNK_CREDIT_CFG0 (n : Nat) : Nat := 0x100030 + 0x1000 * n
/-- LNK_CREDIT_CFG1 (07_link_layer.md). -/
abbrev LNK_CREDIT_CFG1 (n : Nat) : Nat := 0x100034 + 0x1000 * n
/-- LNK_WINDOW0 (07_link_layer.md). -/
abbrev LNK_WINDOW0 (n : Nat) : Nat := 0x100038 + 0x1000 * n
/-- LNK_WINDOW1 (07_link_layer.md). -/
abbrev LNK_WINDOW1 (n : Nat) : Nat := 0x10003C + 0x1000 * n
/-- LNK_LEAK_CNT (07_link_layer.md). -/
abbrev LNK_LEAK_CNT (n : Nat) : Nat := 0x100040 + 0x1000 * n
/-- LNK_AUDIT_CNT (07_link_layer.md). -/
abbrev LNK_AUDIT_CNT (n : Nat) : Nat := 0x100044 + 0x1000 * n
/-- LNK_RTT (07_link_layer.md). -/
abbrev LNK_RTT (n : Nat) : Nat := 0x100048 + 0x1000 * n
/-- LNK_UNACK (07_link_layer.md). -/
abbrev LNK_UNACK (n : Nat) : Nat := 0x10004C + 0x1000 * n
/-- LNK_IDLE (07_link_layer.md). -/
abbrev LNK_IDLE (n : Nat) : Nat := 0x100054 + 0x1000 * n
/-- LNK_FEC_CORR_CNT (07_link_layer.md). -/
abbrev LNK_FEC_CORR_CNT (n : Nat) : Nat := 0x100060 + 0x1000 * n
/-- LNK_FLIT_BAD_CNT (07_link_layer.md). -/
abbrev LNK_FLIT_BAD_CNT (n : Nat) : Nat := 0x100064 + 0x1000 * n
/-- LNK_CRC_ONLY_CNT (07_link_layer.md). -/
abbrev LNK_CRC_ONLY_CNT (n : Nat) : Nat := 0x100068 + 0x1000 * n
/-- LNK_NAK_CNT (07_link_layer.md). -/
abbrev LNK_NAK_CNT (n : Nat) : Nat := 0x10006C + 0x1000 * n
/-- LNK_REPLAY_CNT (07_link_layer.md). -/
abbrev LNK_REPLAY_CNT (n : Nat) : Nat := 0x100070 + 0x1000 * n
/-- LNK_DUP_CNT (07_link_layer.md). -/
abbrev LNK_DUP_CNT (n : Nat) : Nat := 0x100074 + 0x1000 * n
/-- LNK_SWITCH_CNT (07_link_layer.md). -/
abbrev LNK_SWITCH_CNT (n : Nat) : Nat := 0x100078 + 0x1000 * n
/-- LNK_WRONG_LOCK_CNT (07_link_layer.md). -/
abbrev LNK_WRONG_LOCK_CNT (n : Nat) : Nat := 0x10007C + 0x1000 * n
/-- LNK_RETRAIN_CNT (07_link_layer.md). -/
abbrev LNK_RETRAIN_CNT (n : Nat) : Nat := 0x100080 + 0x1000 * n
/-- LNK_RETRAIN_LAST (07_link_layer.md). -/
abbrev LNK_RETRAIN_LAST (n : Nat) : Nat := 0x100084 + 0x1000 * n
/-- LNK_TRAIN_FAIL (07_link_layer.md). -/
abbrev LNK_TRAIN_FAIL (n : Nat) : Nat := 0x100088 + 0x1000 * n
/-- LNK_CBC_DROP_CNT (07_link_layer.md). -/
abbrev LNK_CBC_DROP_CNT (n : Nat) : Nat := 0x10008C + 0x1000 * n
/-- OPT_STAT (08_optics.md). -/
abbrev OPT_STAT (n : Nat) : Nat := 0x200000 + 0x10000 * n
/-- OPT_CTL (08_optics.md). -/
abbrev OPT_CTL (n : Nat) : Nat := 0x200004 + 0x10000 * n
/-- OPT_LANT_EVT (08_optics.md). -/
abbrev OPT_LANT_EVT (n : Nat) : Nat := 0x200008 + 0x10000 * n
/-- OPT_LANT0, OPT_LANT1 (08_optics.md). -/
abbrev OPT_LANT (n : Nat) (i : Nat) : Nat := 0x200010 + 0x10000 * n + 4 * i
/-- OPT_LANE_SEL (08_optics.md). -/
abbrev OPT_LANE_SEL (n : Nat) : Nat := 0x200020 + 0x10000 * n
/-- OPT_LANE_STAT (08_optics.md). -/
abbrev OPT_LANE_STAT (n : Nat) : Nat := 0x200024 + 0x10000 * n
/-- OPT_LANE_PWR (08_optics.md). -/
abbrev OPT_LANE_PWR (n : Nat) : Nat := 0x200028 + 0x10000 * n
/-- OPT_CAL_CNT (08_optics.md). -/
abbrev OPT_CAL_CNT (n : Nat) : Nat := 0x20002C + 0x10000 * n
/-- OPT_CAL_FTC_LO, OPT_CAL_FTC_HI (08_optics.md). -/
abbrev OPT_CAL_FTC_LO (n : Nat) : Nat := 0x200030 + 0x10000 * n
/-- OPT_CAL_FTC_LO, OPT_CAL_FTC_HI (08_optics.md). -/
abbrev OPT_CAL_FTC_HI (n : Nat) : Nat := 0x200034 + 0x10000 * n
/-- OPT_CAL_WALL (08_optics.md). -/
abbrev OPT_CAL_WALL (n : Nat) : Nat := 0x200038 + 0x10000 * n
/-- OPT_SLICER (08_optics.md). -/
abbrev OPT_SLICER (n : Nat) : Nat := 0x20003C + 0x10000 * n
/-- OPT_LANE_CTL (08_optics.md). -/
abbrev OPT_LANE_CTL (n : Nat) : Nat := 0x200040 + 0x10000 * n
/-- OPT_MON_CFG (08_optics.md). -/
abbrev OPT_MON_CFG (n : Nat) : Nat := 0x200050 + 0x10000 * n
/-- OPT_MON_SEL (08_optics.md). -/
abbrev OPT_MON_SEL (n : Nat) : Nat := 0x200054 + 0x10000 * n
/-- OPT_MON_DATA (08_optics.md). -/
abbrev OPT_MON_DATA (n : Nat) : Nat := 0x200058 + 0x10000 * n
/-- OPT_XT_SEL (08_optics.md). -/
abbrev OPT_XT_SEL (n : Nat) : Nat := 0x200060 + 0x10000 * n
/-- OPT_XT_DATA (08_optics.md). -/
abbrev OPT_XT_DATA (n : Nat) : Nat := 0x200064 + 0x10000 * n
/-- OPT_XT_CTL (08_optics.md). -/
abbrev OPT_XT_CTL (n : Nat) : Nat := 0x200068 + 0x10000 * n
/-- OPT_FF_GAIN0 to OPT_FF_GAIN7 (08_optics.md). -/
abbrev OPT_FF_GAIN (n : Nat) (i : Nat) : Nat := 0x200070 + 0x10000 * n + 4 * i
/-- OPT_RXP (08_optics.md). -/
abbrev OPT_RXP (n : Nat) : Nat := 0x200090 + 0x10000 * n
/-- OPT_LOS_CNT (08_optics.md). -/
abbrev OPT_LOS_CNT (n : Nat) : Nat := 0x200094 + 0x10000 * n
/-- OPT_RELOCK_CNT (08_optics.md). -/
abbrev OPT_RELOCK_CNT (n : Nat) : Nat := 0x200098 + 0x10000 * n
/-- OPT_FLAP_STAT (08_optics.md). -/
abbrev OPT_FLAP_STAT (n : Nat) : Nat := 0x2000A0 + 0x10000 * n
/-- OPT_FLAP_CTL (08_optics.md). -/
abbrev OPT_FLAP_CTL (n : Nat) : Nat := 0x2000A4 + 0x10000 * n
/-- OPT_PATH_SEL (08_optics.md). -/
abbrev OPT_PATH_SEL (n : Nat) : Nat := 0x2000B0 + 0x10000 * n
/-- OPT_PATH_STAT (08_optics.md). -/
abbrev OPT_PATH_STAT (n : Nat) : Nat := 0x2000B4 + 0x10000 * n
/-- OPT_PATH_BAD (08_optics.md). -/
abbrev OPT_PATH_BAD (n : Nat) : Nat := 0x2000B8 + 0x10000 * n
/-- OPT_PATH_DLY (08_optics.md). -/
abbrev OPT_PATH_DLY (n : Nat) : Nat := 0x2000BC + 0x10000 * n
/-- OPT_TRANSIT_CNT (08_optics.md). -/
abbrev OPT_TRANSIT_CNT (n : Nat) : Nat := 0x2000C0 + 0x10000 * n
/-- OPT_GUARD_ERR (08_optics.md). -/
abbrev OPT_GUARD_ERR (n : Nat) : Nat := 0x2000C4 + 0x10000 * n
/-- SEAM_STAT (09_die_to_die.md). -/
abbrev SEAM_STAT (n : Nat) : Nat := 0x30C000 + 0x10000 * n
/-- SEAM_CTL (09_die_to_die.md). -/
abbrev SEAM_CTL (n : Nat) : Nat := 0x30C004 + 0x10000 * n
/-- SEAM_EPOCH (09_die_to_die.md). -/
abbrev SEAM_EPOCH (n : Nat) : Nat := 0x30C008 + 0x10000 * n
/-- SEAM_LANE_SEL (09_die_to_die.md). -/
abbrev SEAM_LANE_SEL (n : Nat) : Nat := 0x30C010 + 0x10000 * n
/-- SEAM_LANE_STAT (09_die_to_die.md). -/
abbrev SEAM_LANE_STAT (n : Nat) : Nat := 0x30C014 + 0x10000 * n
/-- SEAM_LANE_CAL_CNT (09_die_to_die.md). -/
abbrev SEAM_LANE_CAL_CNT (n : Nat) : Nat := 0x30C018 + 0x10000 * n
/-- SEAM_LANE_CAL_FTC_LO, SEAM_LANE_CAL_FTC_HI (09_die_to_die.md). -/
abbrev SEAM_LANE_CAL_FTC_LO (n : Nat) : Nat := 0x30C01C + 0x10000 * n
/-- SEAM_LANE_CAL_FTC_LO, SEAM_LANE_CAL_FTC_HI (09_die_to_die.md). -/
abbrev SEAM_LANE_CAL_FTC_HI (n : Nat) : Nat := 0x30C020 + 0x10000 * n
/-- SEAM_LANE_CAL_WALL (09_die_to_die.md). -/
abbrev SEAM_LANE_CAL_WALL (n : Nat) : Nat := 0x30C024 + 0x10000 * n
/-- SEAM_BAD0 to SEAM_BAD2 (09_die_to_die.md). -/
abbrev SEAM_BAD (n : Nat) (i : Nat) : Nat := 0x30C030 + 0x10000 * n + 4 * i
/-- SEAM_CRC_ERR_CNT (09_die_to_die.md). -/
abbrev SEAM_CRC_ERR_CNT (n : Nat) : Nat := 0x30C040 + 0x10000 * n
/-- SEAM_REPLAY_CNT (09_die_to_die.md). -/
abbrev SEAM_REPLAY_CNT (n : Nat) : Nat := 0x30C044 + 0x10000 * n
/-- SEAM_SWITCH_CNT (09_die_to_die.md). -/
abbrev SEAM_SWITCH_CNT (n : Nat) : Nat := 0x30C048 + 0x10000 * n
/-- SEAM_RETRAIN_LAST (09_die_to_die.md). -/
abbrev SEAM_RETRAIN_LAST (n : Nat) : Nat := 0x30C04C + 0x10000 * n
/-- SEAM_WIDTH_FAIL (09_die_to_die.md). -/
abbrev SEAM_WIDTH_FAIL (n : Nat) : Nat := 0x30C050 + 0x10000 * n
/-- SEAM_B_STAT (09_die_to_die.md). -/
abbrev SEAM_B_STAT (n : Nat) : Nat := 0x30E000 + 0x10000 * n
/-- SEAM_B_CRC_ERR_CNT (09_die_to_die.md). -/
abbrev SEAM_B_CRC_ERR_CNT (n : Nat) : Nat := 0x30E004 + 0x10000 * n
/-- UCI_STAT (09_die_to_die.md). -/
abbrev UCI_STAT (n : Nat) : Nat := 0x400000 + 0x10000 * n
/-- UCI_CTL (09_die_to_die.md). -/
abbrev UCI_CTL (n : Nat) : Nat := 0x400004 + 0x10000 * n
/-- UCI_ADMIT (09_die_to_die.md). -/
abbrev UCI_ADMIT (n : Nat) : Nat := 0x400008 + 0x10000 * n
/-- UCI_DESC0 (09_die_to_die.md). -/
abbrev UCI_DESC0 (n : Nat) : Nat := 0x400010 + 0x10000 * n
/-- UCI_DESC1 (09_die_to_die.md). -/
abbrev UCI_DESC1 (n : Nat) : Nat := 0x400014 + 0x10000 * n
/-- UCI_EPOCH (09_die_to_die.md). -/
abbrev UCI_EPOCH (n : Nat) : Nat := 0x400018 + 0x10000 * n
/-- UCI_RETRY_CNT (09_die_to_die.md). -/
abbrev UCI_RETRY_CNT (n : Nat) : Nat := 0x400020 + 0x10000 * n
/-- UCI_REPAIR (09_die_to_die.md). -/
abbrev UCI_REPAIR (n : Nat) : Nat := 0x400024 + 0x10000 * n
/-- UCI_DISCARD_CNT (09_die_to_die.md). -/
abbrev UCI_DISCARD_CNT (n : Nat) : Nat := 0x400028 + 0x10000 * n
/-- FTC_NOW_LO, FTC_NOW_HI (10_time_clocks.md). -/
abbrev FTC_NOW_LO : Nat := 0x40000
/-- FTC_NOW_LO, FTC_NOW_HI (10_time_clocks.md). -/
abbrev FTC_NOW_HI : Nat := 0x40004
/-- FTC_STAT (10_time_clocks.md). -/
abbrev FTC_STAT : Nat := 0x40008
/-- FTC_CFG (10_time_clocks.md). -/
abbrev FTC_CFG : Nat := 0x4000C
/-- FTC_LOAD_LO, FTC_LOAD_HI (10_time_clocks.md). -/
abbrev FTC_LOAD_LO : Nat := 0x40010
/-- FTC_LOAD_LO, FTC_LOAD_HI (10_time_clocks.md). -/
abbrev FTC_LOAD_HI : Nat := 0x40014
/-- FTC_WALL_LO, FTC_WALL_HI (10_time_clocks.md). -/
abbrev FTC_WALL_LO : Nat := 0x40018
/-- FTC_WALL_LO, FTC_WALL_HI (10_time_clocks.md). -/
abbrev FTC_WALL_HI : Nat := 0x4001C
/-- FTC_OFFSET (10_time_clocks.md). -/
abbrev FTC_OFFSET : Nat := 0x40020
/-- FTC_PORT_SEL (10_time_clocks.md). -/
abbrev FTC_PORT_SEL : Nat := 0x40030
/-- FTC_PORT_DLY (10_time_clocks.md). -/
abbrev FTC_PORT_DLY : Nat := 0x40034
/-- FTC_PORT_ASYM (10_time_clocks.md). -/
abbrev FTC_PORT_ASYM : Nat := 0x40038
/-- FTC_UPLINK (10_time_clocks.md). -/
abbrev FTC_UPLINK : Nat := 0x4003C
/-- CLK_CFG (10_time_clocks.md). -/
abbrev CLK_CFG : Nat := 0x50000
/-- CLK_STAT (10_time_clocks.md). -/
abbrev CLK_STAT : Nat := 0x50004
/-- CLK_MON_SEL (10_time_clocks.md). -/
abbrev CLK_MON_SEL : Nat := 0x50010
/-- CLK_MON_DATA (10_time_clocks.md). -/
abbrev CLK_MON_DATA : Nat := 0x50014
/-- CLK_TRIP (10_time_clocks.md). -/
abbrev CLK_TRIP : Nat := 0x50018
/-- CLK_MUX_FORCE (10_time_clocks.md). -/
abbrev CLK_MUX_FORCE : Nat := 0x50020
/-- CLK_GATE_SEL (10_time_clocks.md). -/
abbrev CLK_GATE_SEL : Nat := 0x50030
/-- CLK_GATE (10_time_clocks.md). -/
abbrev CLK_GATE : Nat := 0x50034
/-- PWR_STAT (11_power_thermal.md). -/
abbrev PWR_STAT : Nat := 0x60000
/-- PWR_IN (11_power_thermal.md). -/
abbrev PWR_IN : Nat := 0x60004
/-- PWR_INPUT_P (11_power_thermal.md). -/
abbrev PWR_INPUT_P : Nat := 0x60008
/-- PWR_DOM_SEL (11_power_thermal.md). -/
abbrev PWR_DOM_SEL : Nat := 0x60010
/-- PWR_DOM_CTL (11_power_thermal.md). -/
abbrev PWR_DOM_CTL : Nat := 0x60014
/-- PWR_DOM_STAT (11_power_thermal.md). -/
abbrev PWR_DOM_STAT : Nat := 0x60018
/-- PWR_BELL_OPP (11_power_thermal.md). -/
abbrev PWR_BELL_OPP : Nat := 0x60020
/-- PWR_OPP_CAP (11_power_thermal.md). -/
abbrev PWR_OPP_CAP : Nat := 0x60024
/-- PWR_BELL_P0 to PWR_BELL_P7 (11_power_thermal.md). -/
abbrev PWR_BELL_P (i : Nat) : Nat := 0x60030 + 4 * i
/-- PWR_FF_CFG (11_power_thermal.md). -/
abbrev PWR_FF_CFG : Nat := 0x60050
/-- PWR_LIMIT_CNT (11_power_thermal.md). -/
abbrev PWR_LIMIT_CNT : Nat := 0x60054
/-- PWR_AUTO (11_power_thermal.md). -/
abbrev PWR_AUTO : Nat := 0x60058
/-- THM_STAT (11_power_thermal.md). -/
abbrev THM_STAT : Nat := 0x70000
/-- THM_SEL (11_power_thermal.md). -/
abbrev THM_SEL : Nat := 0x70004
/-- THM_DATA (11_power_thermal.md). -/
abbrev THM_DATA : Nat := 0x70008
/-- THM_POS (11_power_thermal.md). -/
abbrev THM_POS : Nat := 0x7000C
/-- THM_MAX (11_power_thermal.md). -/
abbrev THM_MAX : Nat := 0x70010
/-- THM_THROTTLE (11_power_thermal.md). -/
abbrev THM_THROTTLE : Nat := 0x70014
/-- THM_LATCH (11_power_thermal.md). -/
abbrev THM_LATCH : Nat := 0x70018
/-- THM_RELEASE (11_power_thermal.md). -/
abbrev THM_RELEASE : Nat := 0x7001C
/-- THM_XCHECK (11_power_thermal.md). -/
abbrev THM_XCHECK : Nat := 0x70020
/-- THM_BAD0 to THM_BAD18 (11_power_thermal.md). -/
abbrev THM_BAD (i : Nat) : Nat := 0x70040 + 4 * i
/-- THM_EVT_CNT (11_power_thermal.md). -/
abbrev THM_EVT_CNT : Nat := 0x70090
/-- FLT_STAT (12_faults_redundancy.md). -/
abbrev FLT_STAT : Nat := 0x30000
/-- FLT_FIRST (12_faults_redundancy.md). -/
abbrev FLT_FIRST : Nat := 0x30004
/-- FLT_FIRST_FTC_LO, FLT_FIRST_FTC_HI (12_faults_redundancy.md). -/
abbrev FLT_FIRST_FTC_LO : Nat := 0x30008
/-- FLT_FIRST_FTC_LO, FLT_FIRST_FTC_HI (12_faults_redundancy.md). -/
abbrev FLT_FIRST_FTC_HI : Nat := 0x3000C
/-- FLT_FIRST_DET0 to FLT_FIRST_DET3 (12_faults_redundancy.md). -/
abbrev FLT_FIRST_DET (i : Nat) : Nat := 0x30010 + 4 * i
/-- FLT_SEL (12_faults_redundancy.md). -/
abbrev FLT_SEL : Nat := 0x30020
/-- FLT_SRC (12_faults_redundancy.md). -/
abbrev FLT_SRC : Nat := 0x30024
/-- FLT_SRC_CNT (12_faults_redundancy.md). -/
abbrev FLT_SRC_CNT : Nat := 0x30028
/-- FLT_PEND0 to FLT_PEND15 (12_faults_redundancy.md). -/
abbrev FLT_PEND (i : Nat) : Nat := 0x30040 + 4 * i
/-- FLT_ACK (12_faults_redundancy.md). -/
abbrev FLT_ACK : Nat := 0x30080
/-- FLT_ESC_CNT (12_faults_redundancy.md). -/
abbrev FLT_ESC_CNT : Nat := 0x30084
/-- FLT_STRIKE (12_faults_redundancy.md). -/
abbrev FLT_STRIKE : Nat := 0x30090
/-- FLT_STRIKE_CAUSE (12_faults_redundancy.md). -/
abbrev FLT_STRIKE_CAUSE : Nat := 0x30094
/-- FLT_INJ (12_faults_redundancy.md). -/
abbrev FLT_INJ : Nat := 0x300A0
/-- WSQ_POLE_STAT (12_faults_redundancy.md). -/
abbrev WSQ_POLE_STAT : Nat := 0x20000
/-- WSQ_POLE_CTL (12_faults_redundancy.md). -/
abbrev WSQ_POLE_CTL : Nat := 0x20004
/-- WSQ_SWITCH_CNT (12_faults_redundancy.md). -/
abbrev WSQ_SWITCH_CNT : Nat := 0x20008
/-- WSQ_SWITCH_LAST (12_faults_redundancy.md). -/
abbrev WSQ_SWITCH_LAST : Nat := 0x2000C
/-- WSQ_RESYNC_US (12_faults_redundancy.md). -/
abbrev WSQ_RESYNC_US : Nat := 0x20010
/-- WSQ_AGENT_CFG (12_faults_redundancy.md). -/
abbrev WSQ_AGENT_CFG : Nat := 0x20020
/-- WSQ_LOST_UNIT (12_faults_redundancy.md). -/
abbrev WSQ_LOST_UNIT : Nat := 0x20024
/-- WSQ_RELOAD_STAT (12_faults_redundancy.md). -/
abbrev WSQ_RELOAD_STAT : Nat := 0x20028
/-- WSQ_RELOAD_CTL (12_faults_redundancy.md). -/
abbrev WSQ_RELOAD_CTL : Nat := 0x2002C
/-- DRY_STAT (12_faults_redundancy.md). -/
abbrev DRY_STAT : Nat := 0x90000
/-- DRY_HEAD (12_faults_redundancy.md). -/
abbrev DRY_HEAD : Nat := 0x90004
/-- DRY_SEQ (12_faults_redundancy.md). -/
abbrev DRY_SEQ : Nat := 0x90008
/-- DRY_SEL (12_faults_redundancy.md). -/
abbrev DRY_SEL : Nat := 0x90010
/-- DRY_DATA (12_faults_redundancy.md). -/
abbrev DRY_DATA : Nat := 0x90014
/-- DRY_CTL (12_faults_redundancy.md). -/
abbrev DRY_CTL : Nat := 0x90018
/-- DRY_HOLDUP (12_faults_redundancy.md). -/
abbrev DRY_HOLDUP : Nat := 0x9001C
/-- SEC_STAT (13_management_security_startup.md). -/
abbrev SEC_STAT : Nat := 0x80000
/-- SEC_FW_VER (13_management_security_startup.md). -/
abbrev SEC_FW_VER : Nat := 0x80004
/-- SEC_FW_INFO (13_management_security_startup.md). -/
abbrev SEC_FW_INFO : Nat := 0x80008
/-- SEC_LEVEL (13_management_security_startup.md). -/
abbrev SEC_LEVEL : Nat := 0x8000C
/-- SEC_BIND_LO, SEC_BIND_HI (13_management_security_startup.md). -/
abbrev SEC_BIND_LO : Nat := 0x80010
/-- SEC_BIND_LO, SEC_BIND_HI (13_management_security_startup.md). -/
abbrev SEC_BIND_HI : Nat := 0x80014
/-- SEC_COMMIT (13_management_security_startup.md). -/
abbrev SEC_COMMIT : Nat := 0x80020
/-- SEC_FW_CTL (13_management_security_startup.md). -/
abbrev SEC_FW_CTL : Nat := 0x80024
/-- SEC_RESET (13_management_security_startup.md). -/
abbrev SEC_RESET : Nat := 0x80028
/-- SEC_GUY_DENY_CNT (13_management_security_startup.md). -/
abbrev SEC_GUY_DENY_CNT : Nat := 0x80030
/-- SEC_GUY_STAT (13_management_security_startup.md). -/
abbrev SEC_GUY_STAT : Nat := 0x80034
end R

namespace F
abbrev ID_DEV_VENDOR : Fld := ⟨15, 0⟩
abbrev ID_DEV_PART : Fld := ⟨31, 16⟩
abbrev ID_REV_STEP : Fld := ⟨7, 0⟩
abbrev ID_REV_BELL_STEP : Fld := ⟨15, 8⟩
abbrev ID_REV_NUMREV : Fld := ⟨23, 16⟩
abbrev ID_CAP_BELL_MAP : Fld := ⟨7, 0⟩
abbrev ID_CAP_GRADE : Fld := ⟨9, 8⟩
abbrev ID_CAP_PORTS : Fld := ⟨21, 16⟩
abbrev ID_CAP_SLOT_MAP : Fld := ⟨31, 24⟩
abbrev ID_SERIAL_LO_SERIAL : Fld := ⟨31, 0⟩
abbrev ID_SERIAL_HI_SERIAL : Fld := ⟨31, 0⟩
abbrev ID_STRAP_BELL (j : Nat) : Fld := ⟨4 * j + 3, 4 * j⟩
abbrev ID_STRAP_ERR_PARITY : Fld := ⟨7, 0⟩
abbrev ID_STRAP_ERR_FORM : Fld := ⟨15, 8⟩
abbrev ID_STRAP_ERR_PORT : Fld := ⟨23, 16⟩
abbrev ID_DIE_LIVE_BELL_LIVE : Fld := ⟨7, 0⟩
abbrev ID_DIE_LIVE_SLOT_LIVE : Fld := ⟨15, 8⟩
abbrev ID_REFUSE_CNT_COUNT : Fld := ⟨31, 0⟩
abbrev ID_REFUSE_LAST_CAUSE : Fld := ⟨3, 0⟩
abbrev ID_REFUSE_LAST_DIE : Fld := ⟨8, 4⟩
abbrev ID_REFUSE_LAST_SRC : Fld := ⟨14, 9⟩
abbrev ID_REFUSE_LAST_VALID : Fld := ⟨31, 31⟩
abbrev ID_REFUSE_ADDR_LO_ADDR : Fld := ⟨31, 0⟩
abbrev ID_REFUSE_ADDR_HI_ADDR : Fld := ⟨31, 0⟩
abbrev BEL_STAT_READY : Fld := ⟨0, 0⟩
abbrev BEL_STAT_BUSY : Fld := ⟨1, 1⟩
abbrev BEL_STAT_DRAM_INIT_DONE : Fld := ⟨2, 2⟩
abbrev BEL_STAT_DRAINED : Fld := ⟨3, 3⟩
abbrev BEL_STAT_OPP : Fld := ⟨6, 4⟩
abbrev BEL_STAT_RUNS : Fld := ⟨12, 8⟩
abbrev BEL_CTL_DRAIN : Fld := ⟨0, 0⟩
abbrev BEL_DESC_ERR_INDEX : Fld := ⟨11, 0⟩
abbrev BEL_DESC_ERR_REASON : Fld := ⟨19, 12⟩
abbrev BEL_DESC_ERR_VALID : Fld := ⟨31, 31⟩
abbrev BEL_OP_ERR_INDEX : Fld := ⟨11, 0⟩
abbrev BEL_OP_ERR_CLUSTER : Fld := ⟨15, 12⟩
abbrev BEL_OP_ERR_BSE : Fld := ⟨19, 16⟩
abbrev BEL_OP_ERR_CODE : Fld := ⟨27, 20⟩
abbrev BEL_OP_ERR_VALID : Fld := ⟨31, 31⟩
abbrev BEL_OP_ERR_CNT_COUNT : Fld := ⟨31, 0⟩
abbrev BEL_ECC_CTL_SPARE_THR : Fld := ⟨3, 0⟩
abbrev BEL_ECC_CE_CNT_COUNT : Fld := ⟨31, 0⟩
abbrev BEL_ECC_UE_CNT_COUNT : Fld := ⟨31, 0⟩
abbrev BEL_ECC_LAST_TYPE : Fld := ⟨1, 0⟩
abbrev BEL_ECC_LAST_SYMBOL : Fld := ⟨7, 2⟩
abbrev BEL_ECC_LAST_DIE : Fld := ⟨9, 8⟩
abbrev BEL_ECC_LAST_BSE : Fld := ⟨15, 10⟩
abbrev BEL_ECC_LAST_SRC : Fld := ⟨16, 16⟩
abbrev BEL_ECC_LAST_VALID : Fld := ⟨31, 31⟩
abbrev BEL_ECC_LAST_OFF_OFFSET : Fld := ⟨28, 0⟩
abbrev BEL_SCRUB_CTL_EN : Fld := ⟨0, 0⟩
abbrev BEL_SCRUB_CTL_PERIOD : Fld := ⟨15, 8⟩
abbrev BEL_SCRUB_STAT_PROGRESS : Fld := ⟨15, 0⟩
abbrev BEL_SCRUB_STAT_LATE : Fld := ⟨16, 16⟩
abbrev BEL_REFRESH_RATE (j : Nat) : Fld := ⟨2 * j + 1, 2 * j⟩
abbrev BEL_ROWSPARE_PENDING : Fld := ⟨7, 0⟩
abbrev BEL_ROWSPARE_APPLIED : Fld := ⟨15, 8⟩
abbrev BEL_ROWSPARE_EXHAUSTED : Fld := ⟨16, 16⟩
abbrev BEL_CYC_BUSY_COUNT : Fld := ⟨31, 0⟩
abbrev BEL_WORDS_READ_COUNT : Fld := ⟨31, 0⟩
abbrev BEL_KV_SEL_POOL : Fld := ⟨5, 0⟩
abbrev BEL_KV_FREE_PAGES : Fld := ⟨23, 0⟩
abbrev BEL_KV_RSVD_PAGES : Fld := ⟨23, 0⟩
abbrev BEL_VEST_FREE_SLABS : Fld := ⟨23, 0⟩
abbrev BEL_STREAMS_OPEN : Fld := ⟨16, 0⟩
abbrev COL_STAT_ENG_READY : Fld := ⟨3, 0⟩
abbrev COL_STAT_OPEN : Fld := ⟨18, 8⟩
abbrev COL_DET_DESC_NUMREV : Fld := ⟨7, 0⟩
abbrev COL_DET_DESC_FWNUM : Fld := ⟨15, 8⟩
abbrev COL_DET_DESC_STEPNUM : Fld := ⟨23, 16⟩
abbrev COL_MAP_GEN_GEN : Fld := ⟨7, 0⟩
abbrev COL_MAP_GEN_REMAPS : Fld := ⟨31, 8⟩
abbrev COL_TIMEOUT_US : Fld := ⟨15, 0⟩
abbrev COL_DUP_CNT_COUNT : Fld := ⟨31, 0⟩
abbrev COL_MIXED_CNT_COUNT : Fld := ⟨31, 0⟩
abbrev COL_MIXED_LAST_COLL_ID : Fld := ⟨13, 0⟩
abbrev COL_MIXED_LAST_STRICT : Fld := ⟨14, 14⟩
abbrev COL_MIXED_LAST_VALID : Fld := ⟨31, 31⟩
abbrev COL_MIXED_DESC_DESC : Fld := ⟨31, 0⟩
abbrev COL_ABORT_CNT_COUNT : Fld := ⟨31, 0⟩
abbrev COL_ABORT_LAST_COLL_ID : Fld := ⟨13, 0⟩
abbrev COL_ABORT_LAST_CAUSE : Fld := ⟨17, 14⟩
abbrev COL_ABORT_LAST_RANK : Fld := ⟨29, 18⟩
abbrev COL_ABORT_LAST_VALID : Fld := ⟨31, 31⟩
abbrev COL_INEXACT_CNT_COUNT : Fld := ⟨31, 0⟩
abbrev COL_BYTES_IN_COUNT : Fld := ⟨31, 0⟩
abbrev PIT_STAT_SHADOW : Fld := ⟨2, 0⟩
abbrev PIT_STAT_ACTIVE : Fld := ⟨3, 3⟩
abbrev PIT_STAT_READY : Fld := ⟨4, 4⟩
abbrev PIT_STAT_OWNER : Fld := ⟨6, 5⟩
abbrev PIT_STAT_PEER : Fld := ⟨7, 7⟩
abbrev PIT_STAT_DELTA : Fld := ⟨8, 8⟩
abbrev PIT_STAT_REMAP_PEND : Fld := ⟨9, 9⟩
abbrev PIT_STAT_CODE : Fld := ⟨21, 16⟩
abbrev PIT_CTL_OPEN : Fld := ⟨0, 0⟩
abbrev PIT_CTL_VERIFY : Fld := ⟨1, 1⟩
abbrev PIT_CTL_ARM : Fld := ⟨2, 2⟩
abbrev PIT_CTL_DISARM : Fld := ⟨3, 3⟩
abbrev PIT_CTL_DROP : Fld := ⟨4, 4⟩
abbrev PIT_ERR_SECT_SECT : Fld := ⟨7, 0⟩
abbrev PIT_ERR_SECT_DELTA : Fld := ⟨11, 8⟩
abbrev PIT_ERR_OFF_OFF : Fld := ⟨31, 0⟩
abbrev PIT_ACT_TICK_LO_TICK : Fld := ⟨31, 0⟩
abbrev PIT_ACT_TICK_HI_TICK : Fld := ⟨31, 0⟩
abbrev PIT_SHORT_BYTES_LO_BYTES : Fld := ⟨31, 0⟩
abbrev PIT_SHORT_BYTES_HI_BYTES : Fld := ⟨31, 0⟩
abbrev PIT_SHD_OFF_OFF : Fld := ⟨24, 0⟩
abbrev PIT_SHD_DATA_DATA : Fld := ⟨31, 0⟩
abbrev PIT_SHD_LEN_LEN : Fld := ⟨24, 0⟩
abbrev PIT_ACTIVE_ID_LO_ID : Fld := ⟨31, 0⟩
abbrev PIT_ACTIVE_ID_HI_ID : Fld := ⟨31, 0⟩
abbrev PIT_LAYOUT_GEN : Fld := ⟨26, 0⟩
abbrev PIT_LAYOUT_DELTA : Fld := ⟨31, 27⟩
abbrev PIT_EPOCH_EPOCH : Fld := ⟨15, 0⟩
abbrev PIT_EPOCH_RANGE_MIN : Fld := ⟨15, 0⟩
abbrev PIT_EPOCH_RANGE_MAX : Fld := ⟨31, 16⟩
abbrev PIT_FMT_MINOR_MAX : Fld := ⟨7, 0⟩
abbrev PIT_REMAP_DELTA : Fld := ⟨3, 0⟩
abbrev PIT_REMAP_ARM : Fld := ⟨4, 4⟩
abbrev PIT_REMAP_DISARM : Fld := ⟨5, 5⟩
abbrev PIT_REMAP_TICK_LO_TICK : Fld := ⟨31, 0⟩
abbrev PIT_REMAP_TICK_HI_TICK : Fld := ⟨31, 0⟩
abbrev PIT_CFG_SEL_SECT : Fld := ⟨7, 0⟩
abbrev PIT_CFG_SEL_WORD : Fld := ⟨31, 8⟩
abbrev PIT_CFG_DATA_DATA : Fld := ⟨31, 0⟩
abbrev PIT_LIVE_PEND_PEND : Fld := ⟨0, 0⟩
abbrev PIT_LIVE_CNT_COUNT : Fld := ⟨31, 0⟩
abbrev PIT_DENY_CNT_COUNT : Fld := ⟨31, 0⟩
abbrev PIT_ACT_CNT_FULL : Fld := ⟨15, 0⟩
abbrev PIT_ACT_CNT_REMAP : Fld := ⟨31, 16⟩
abbrev TRN_STAT_READY : Fld := ⟨0, 0⟩
abbrev TRN_STAT_BRIDGE : Fld := ⟨1, 1⟩
abbrev TRN_STAT_RESTART : Fld := ⟨14, 8⟩
abbrev TRN_TIMEOUT_US : Fld := ⟨15, 0⟩
abbrev TRN_TIMEOUT_RETRY : Fld := ⟨19, 16⟩
abbrev TRN_DEDUP_USED : Fld := ⟨19, 0⟩
abbrev TRN_DEDUP_FULL : Fld := ⟨31, 31⟩
abbrev TRN_RETX_CNT_COUNT : Fld := ⟨31, 0⟩
abbrev TRN_ALT_CNT_COUNT : Fld := ⟨31, 0⟩
abbrev TRN_DUP_CNT_COUNT : Fld := ⟨31, 0⟩
abbrev TRN_DISCARD_CNT_COUNT : Fld := ⟨31, 0⟩
abbrev TRN_STALE_CNT_COUNT : Fld := ⟨31, 0⟩
abbrev TRN_TTL_DROP_CNT_COUNT : Fld := ⟨31, 0⟩
abbrev TRN_UNREACH_CNT_COUNT : Fld := ⟨31, 0⟩
abbrev TRN_TIMEOUT_LAST_NODE : Fld := ⟨19, 0⟩
abbrev TRN_TIMEOUT_LAST_MTYPE : Fld := ⟨27, 20⟩
abbrev TRN_TIMEOUT_LAST_VALID : Fld := ⟨31, 31⟩
abbrev TRN_ETH_DROP_CNT_COUNT : Fld := ⟨31, 0⟩
abbrev TRN_HCTX_SEL_HCTX : Fld := ⟨11, 0⟩
abbrev TRN_HCTX_ADDR_ADDR : Fld := ⟨31, 0⟩
abbrev TRN_HCTX_PORT_PORT : Fld := ⟨15, 0⟩
abbrev TRN_HCTX_PORT_BOUND : Fld := ⟨16, 16⟩
abbrev WSQ_JRN_USED_OWN : Fld := ⟨16, 0⟩
abbrev WSQ_MIR_USED_MIRROR : Fld := ⟨16, 0⟩
abbrev WSQ_ACCEPT_CNT_COUNT : Fld := ⟨31, 0⟩
abbrev WSQ_NACC_CNT_COUNT : Fld := ⟨31, 0⟩
abbrev WSQ_NACC_LAST_REASON : Fld := ⟨7, 0⟩
abbrev WSQ_NACC_LAST_HCTX : Fld := ⟨19, 8⟩
abbrev WSQ_NACC_LAST_VALID : Fld := ⟨31, 31⟩
abbrev WSQ_MIRROR_STAT_BUDDY_OK : Fld := ⟨0, 0⟩
abbrev WSQ_MIRROR_STAT_ADOPTED : Fld := ⟨1, 1⟩
abbrev WSQ_BUDDY_NODE : Fld := ⟨19, 0⟩
abbrev WSQ_PRED_NODE : Fld := ⟨19, 0⟩
abbrev WSQ_COMP_PEND_ENTRIES : Fld := ⟨16, 0⟩
abbrev WSQ_RELAUNCH_CNT_COUNT : Fld := ⟨31, 0⟩
abbrev LNK_STAT_STATE : Fld := ⟨3, 0⟩
abbrev LNK_STAT_TX_W : Fld := ⟨8, 4⟩
abbrev LNK_STAT_RX_W : Fld := ⟨13, 9⟩
abbrev LNK_STAT_IMG_MISMATCH : Fld := ⟨14, 14⟩
abbrev LNK_STAT_SPILL : Fld := ⟨15, 15⟩
abbrev LNK_STAT_SPILL_WAIT : Fld := ⟨16, 16⟩
abbrev LNK_STAT_STOPPED : Fld := ⟨17, 17⟩
abbrev LNK_STAT_THROTTLED : Fld := ⟨18, 18⟩
abbrev LNK_STAT_LANE_REV : Fld := ⟨19, 19⟩
abbrev LNK_STAT_VER : Fld := ⟨23, 20⟩
abbrev LNK_STAT_HELD_CAUSE : Fld := ⟨27, 24⟩
abbrev LNK_CTL_EN : Fld := ⟨0, 0⟩
abbrev LNK_CTL_RETRAIN : Fld := ⟨1, 1⟩
abbrev LNK_CTL_RESTART : Fld := ⟨2, 2⟩
abbrev LNK_CTL_LINK_RESET : Fld := ⟨3, 3⟩
abbrev LNK_CAP_VER_MIN : Fld := ⟨3, 0⟩
abbrev LNK_CAP_VER_MAX : Fld := ⟨7, 4⟩
abbrev LNK_PEER_NODE : Fld := ⟨19, 0⟩
abbrev LNK_PEER_PORT : Fld := ⟨24, 20⟩
abbrev LNK_PEER_VALID : Fld := ⟨31, 31⟩
abbrev LNK_MAP_SEL_DIR : Fld := ⟨0, 0⟩
abbrev LNK_MAP_LANE (j : Nat) : Fld := ⟨5 * j + 4, 5 * j⟩
abbrev LNK_SPARE_A_LANE : Fld := ⟨4, 0⟩
abbrev LNK_SPARE_B_LANE : Fld := ⟨9, 5⟩
abbrev LNK_SPARE_A_CAL : Fld := ⟨10, 10⟩
abbrev LNK_SPARE_B_CAL : Fld := ⟨11, 11⟩
abbrev LNK_SPARE_CAL_DEFER : Fld := ⟨12, 12⟩
abbrev LNK_LINE_OOS_LINES : Fld := ⟨19, 0⟩
abbrev LNK_CREDIT_CFG0_VC0 : Fld := ⟨15, 0⟩
abbrev LNK_CREDIT_CFG0_VC1 : Fld := ⟨31, 16⟩
abbrev LNK_CREDIT_CFG1_VC2 : Fld := ⟨15, 0⟩
abbrev LNK_CREDIT_CFG1_CBC : Fld := ⟨21, 16⟩
abbrev LNK_WINDOW0_VC0 : Fld := ⟨15, 0⟩
abbrev LNK_WINDOW0_VC1 : Fld := ⟨31, 16⟩
abbrev LNK_WINDOW1_VC2 : Fld := ⟨15, 0⟩
abbrev LNK_WINDOW1_CBC : Fld := ⟨21, 16⟩
abbrev LNK_LEAK_CNT_COUNT : Fld := ⟨31, 0⟩
abbrev LNK_AUDIT_CNT_COUNT : Fld := ⟨31, 0⟩
abbrev LNK_RTT_TICKS : Fld := ⟨15, 0⟩
abbrev LNK_UNACK_NOW : Fld := ⟨15, 0⟩
abbrev LNK_UNACK_MAX : Fld := ⟨31, 16⟩
abbrev LNK_IDLE_EN : Fld := ⟨0, 0⟩
abbrev LNK_IDLE_US : Fld := ⟨31, 16⟩
abbrev LNK_FEC_CORR_CNT_COUNT : Fld := ⟨31, 0⟩
abbrev LNK_FLIT_BAD_CNT_COUNT : Fld := ⟨31, 0⟩
abbrev LNK_CRC_ONLY_CNT_COUNT : Fld := ⟨31, 0⟩
abbrev LNK_NAK_CNT_COUNT : Fld := ⟨31, 0⟩
abbrev LNK_REPLAY_CNT_COUNT : Fld := ⟨31, 0⟩
abbrev LNK_DUP_CNT_COUNT : Fld := ⟨31, 0⟩
abbrev LNK_SWITCH_CNT_COUNT : Fld := ⟨31, 0⟩
abbrev LNK_WRONG_LOCK_CNT_COUNT : Fld := ⟨31, 0⟩
abbrev LNK_RETRAIN_CNT_COUNT : Fld := ⟨31, 0⟩
abbrev LNK_RETRAIN_LAST_CAUSE : Fld := ⟨3, 0⟩
abbrev LNK_RETRAIN_LAST_FAR : Fld := ⟨4, 4⟩
abbrev LNK_RETRAIN_LAST_VALID : Fld := ⟨31, 31⟩
abbrev LNK_TRAIN_FAIL_CONSEC : Fld := ⟨15, 0⟩
abbrev LNK_TRAIN_FAIL_TOTAL : Fld := ⟨31, 16⟩
abbrev LNK_CBC_DROP_CNT_COUNT : Fld := ⟨31, 0⟩
abbrev OPT_STAT_LANT_ACT : Fld := ⟨0, 0⟩
abbrev OPT_STAT_STBY_OK : Fld := ⟨1, 1⟩
abbrev OPT_STAT_REF_LOCK : Fld := ⟨2, 2⟩
abbrev OPT_STAT_DARK : Fld := ⟨3, 3⟩
abbrev OPT_STAT_PORT_DARK : Fld := ⟨7, 4⟩
abbrev OPT_STAT_SEARCH_DONE : Fld := ⟨11, 8⟩
abbrev OPT_STAT_CAL_PEND : Fld := ⟨23, 16⟩
abbrev OPT_CTL_LANT_SWITCH : Fld := ⟨0, 0⟩
abbrev OPT_CTL_CAL_ALL : Fld := ⟨1, 1⟩
abbrev OPT_LANT_EVT_COUNT : Fld := ⟨15, 0⟩
abbrev OPT_LANT_EVT_LAST_CAUSE : Fld := ⟨18, 16⟩
abbrev OPT_LANT_STATE : Fld := ⟨1, 0⟩
abbrev OPT_LANT_BIAS : Fld := ⟨11, 2⟩
abbrev OPT_LANT_WEAR : Fld := ⟨12, 12⟩
abbrev OPT_LANT_PWR : Fld := ⟨26, 16⟩
abbrev OPT_LANE_SEL_PORT : Fld := ⟨1, 0⟩
abbrev OPT_LANE_SEL_DIR : Fld := ⟨2, 2⟩
abbrev OPT_LANE_SEL_LINE : Fld := ⟨7, 3⟩
abbrev OPT_LANE_STAT_STATE : Fld := ⟨2, 0⟩
abbrev OPT_LANE_STAT_RING : Fld := ⟨7, 3⟩
abbrev OPT_LANE_STAT_SENSOR : Fld := ⟨12, 8⟩
abbrev OPT_LANE_STAT_TRY : Fld := ⟨14, 13⟩
abbrev OPT_LANE_STAT_HEATER : Fld := ⟨29, 16⟩
abbrev OPT_LANE_PWR_PWR : Fld := ⟨15, 0⟩
abbrev OPT_CAL_CNT_COUNT : Fld := ⟨31, 0⟩
abbrev OPT_CAL_FTC_LO_FTC : Fld := ⟨31, 0⟩
abbrev OPT_CAL_FTC_HI_FTC : Fld := ⟨31, 0⟩
abbrev OPT_CAL_WALL_SECONDS : Fld := ⟨31, 0⟩
abbrev OPT_SLICER_LOW : Fld := ⟨9, 0⟩
abbrev OPT_SLICER_MID : Fld := ⟨19, 10⟩
abbrev OPT_SLICER_HIGH : Fld := ⟨29, 20⟩
abbrev OPT_LANE_CTL_CAL_REQ : Fld := ⟨0, 0⟩
abbrev OPT_MON_CFG_TINT : Fld := ⟨1, 0⟩
abbrev OPT_MON_SEL_STAGE : Fld := ⟨2, 0⟩
abbrev OPT_MON_SEL_PORT : Fld := ⟨4, 3⟩
abbrev OPT_MON_SEL_LINE : Fld := ⟨9, 5⟩
abbrev OPT_MON_SEL_LANT : Fld := ⟨10, 10⟩
abbrev OPT_MON_DATA_PWR : Fld := ⟨15, 0⟩
abbrev OPT_MON_DATA_VALID : Fld := ⟨31, 31⟩
abbrev OPT_XT_SEL_ROW : Fld := ⟨7, 0⟩
abbrev OPT_XT_SEL_TERM : Fld := ⟨10, 8⟩
abbrev OPT_XT_DATA_COL : Fld := ⟨7, 0⟩
abbrev OPT_XT_DATA_COEF : Fld := ⟨31, 16⟩
abbrev OPT_XT_CTL_REFINE : Fld := ⟨0, 0⟩
abbrev OPT_XT_CTL_FACTORY : Fld := ⟨1, 1⟩
abbrev OPT_FF_GAIN_GAIN : Fld := ⟨15, 0⟩
abbrev OPT_RXP_WARN : Fld := ⟨7, 0⟩
abbrev OPT_RXP_LOS : Fld := ⟨15, 8⟩
abbrev OPT_LOS_CNT_LINE : Fld := ⟨15, 0⟩
abbrev OPT_LOS_CNT_PORT : Fld := ⟨31, 16⟩
abbrev OPT_RELOCK_CNT_RELOCKS : Fld := ⟨15, 0⟩
abbrev OPT_RELOCK_CNT_RETIRED : Fld := ⟨31, 16⟩
abbrev OPT_FLAP_STAT_POS_LO : Fld := ⟨1, 0⟩
abbrev OPT_FLAP_STAT_POS_HI : Fld := ⟨3, 2⟩
abbrev OPT_FLAP_STAT_STATE : Fld := ⟨6, 4⟩
abbrev OPT_FLAP_STAT_STUCK : Fld := ⟨7, 7⟩
abbrev OPT_FLAP_STAT_MOVES : Fld := ⟨31, 16⟩
abbrev OPT_FLAP_CTL_HOLD_CLOSED : Fld := ⟨0, 0⟩
abbrev OPT_PATH_SEL_PORT : Fld := ⟨0, 0⟩
abbrev OPT_PATH_SEL_DIST : Fld := ⟨1, 1⟩
abbrev OPT_PATH_STAT_STATE : Fld := ⟨3, 0⟩
abbrev OPT_PATH_STAT_PARTNER : Fld := ⟨23, 4⟩
abbrev OPT_PATH_STAT_W : Fld := ⟨28, 24⟩
abbrev OPT_PATH_STAT_SUSPENDED : Fld := ⟨29, 29⟩
abbrev OPT_PATH_BAD_COUNT : Fld := ⟨31, 0⟩
abbrev OPT_PATH_DLY_OFFSET : Fld := ⟨19, 0⟩
abbrev OPT_TRANSIT_CNT_COUNT : Fld := ⟨31, 0⟩
abbrev OPT_GUARD_ERR_COUNT : Fld := ⟨31, 0⟩
abbrev SEAM_STAT_STATE : Fld := ⟨2, 0⟩
abbrev SEAM_STAT_WIDTH : Fld := ⟨10, 4⟩
abbrev SEAM_STAT_PEER_IN_RESET : Fld := ⟨11, 11⟩
abbrev SEAM_STAT_DRAINED : Fld := ⟨12, 12⟩
abbrev SEAM_STAT_ARMED : Fld := ⟨13, 13⟩
abbrev SEAM_STAT_CAL_DEFER : Fld := ⟨14, 14⟩
abbrev SEAM_STAT_SPARE_RTX : Fld := ⟨20, 15⟩
abbrev SEAM_STAT_SPARE_BTX : Fld := ⟨26, 21⟩
abbrev SEAM_STAT_HELD_CAUSE : Fld := ⟨29, 27⟩
abbrev SEAM_CTL_RETRAIN : Fld := ⟨0, 0⟩
abbrev SEAM_CTL_LINK_RESET : Fld := ⟨1, 1⟩
abbrev SEAM_CTL_CAL_ALL : Fld := ⟨2, 2⟩
abbrev SEAM_EPOCH_RIDGE : Fld := ⟨7, 0⟩
abbrev SEAM_EPOCH_BELL : Fld := ⟨15, 8⟩
abbrev SEAM_LANE_SEL_DIR : Fld := ⟨0, 0⟩
abbrev SEAM_LANE_SEL_LANE : Fld := ⟨7, 1⟩
abbrev SEAM_LANE_STAT_STATE : Fld := ⟨1, 0⟩
abbrev SEAM_LANE_STAT_FLANE : Fld := ⟨8, 2⟩
abbrev SEAM_LANE_STAT_PHASE : Fld := ⟨15, 9⟩
abbrev SEAM_LANE_STAT_VREF : Fld := ⟨23, 16⟩
abbrev SEAM_LANE_STAT_SWING : Fld := ⟨27, 24⟩
abbrev SEAM_LANE_CAL_CNT_COUNT : Fld := ⟨31, 0⟩
abbrev SEAM_LANE_CAL_FTC_LO_FTC : Fld := ⟨31, 0⟩
abbrev SEAM_LANE_CAL_FTC_HI_FTC : Fld := ⟨31, 0⟩
abbrev SEAM_LANE_CAL_WALL_SECONDS : Fld := ⟨31, 0⟩
abbrev SEAM_BAD_LANES : Fld := ⟨31, 0⟩
abbrev SEAM_CRC_ERR_CNT_COUNT : Fld := ⟨31, 0⟩
abbrev SEAM_REPLAY_CNT_COUNT : Fld := ⟨31, 0⟩
abbrev SEAM_SWITCH_CNT_COUNT : Fld := ⟨31, 0⟩
abbrev SEAM_RETRAIN_LAST_CAUSE : Fld := ⟨3, 0⟩
abbrev SEAM_RETRAIN_LAST_VALID : Fld := ⟨31, 31⟩
abbrev SEAM_WIDTH_FAIL_CONSEC : Fld := ⟨1, 0⟩
abbrev SEAM_WIDTH_FAIL_TOTAL : Fld := ⟨31, 16⟩
abbrev SEAM_B_STAT_STATE : Fld := ⟨2, 0⟩
abbrev SEAM_B_STAT_WIDTH : Fld := ⟨10, 4⟩
abbrev SEAM_B_STAT_STRAP : Fld := ⟨14, 11⟩
abbrev SEAM_B_STAT_ARMED : Fld := ⟨15, 15⟩
abbrev SEAM_B_CRC_ERR_CNT_COUNT : Fld := ⟨31, 0⟩
abbrev UCI_STAT_STATE : Fld := ⟨2, 0⟩
abbrev UCI_STAT_MODULES : Fld := ⟨6, 3⟩
abbrev UCI_STAT_RATE : Fld := ⟨9, 7⟩
abbrev UCI_STAT_ADMITTED : Fld := ⟨10, 10⟩
abbrev UCI_STAT_PEER_IN_RESET : Fld := ⟨11, 11⟩
abbrev UCI_STAT_PORTS : Fld := ⟨14, 12⟩
abbrev UCI_STAT_CAUSE : Fld := ⟨18, 16⟩
abbrev UCI_CTL_RETRAIN : Fld := ⟨0, 0⟩
abbrev UCI_CTL_LINK_RESET : Fld := ⟨1, 1⟩
abbrev UCI_ADMIT_ALLOW : Fld := ⟨0, 0⟩
abbrev UCI_DESC0_VENDOR : Fld := ⟨15, 0⟩
abbrev UCI_DESC0_CLASS : Fld := ⟨23, 16⟩
abbrev UCI_DESC0_REV : Fld := ⟨31, 24⟩
abbrev UCI_DESC1_WINDOW_LOG2 : Fld := ⟨7, 0⟩
abbrev UCI_DESC1_FLAGS : Fld := ⟨15, 8⟩
abbrev UCI_DESC1_NSENS : Fld := ⟨23, 16⟩
abbrev UCI_DESC1_PWR_MAX : Fld := ⟨31, 24⟩
abbrev UCI_EPOCH_RIDGE : Fld := ⟨7, 0⟩
abbrev UCI_EPOCH_PARTNER : Fld := ⟨15, 8⟩
abbrev UCI_RETRY_CNT_COUNT : Fld := ⟨31, 0⟩
abbrev UCI_REPAIR_REPAIRED (j : Nat) : Fld := ⟨4 * j + 3, 4 * j⟩
abbrev UCI_REPAIR_DISABLED : Fld := ⟨19, 16⟩
abbrev UCI_DISCARD_CNT_COUNT : Fld := ⟨31, 0⟩
abbrev FTC_NOW_LO_FTC : Fld := ⟨31, 0⟩
abbrev FTC_NOW_HI_FTC : Fld := ⟨31, 0⟩
abbrev FTC_STAT_STATE : Fld := ⟨2, 0⟩
abbrev FTC_STAT_UP_PORT : Fld := ⟨8, 3⟩
abbrev FTC_STAT_DIST : Fld := ⟨13, 9⟩
abbrev FTC_STAT_CONFLICT : Fld := ⟨14, 14⟩
abbrev FTC_STAT_WALL_OK : Fld := ⟨15, 15⟩
abbrev FTC_CFG_ROOT : Fld := ⟨0, 0⟩
abbrev FTC_CFG_LOAD : Fld := ⟨1, 1⟩
abbrev FTC_CFG_TAG : Fld := ⟨31, 12⟩
abbrev FTC_LOAD_LO_VALUE : Fld := ⟨31, 0⟩
abbrev FTC_LOAD_HI_VALUE : Fld := ⟨31, 0⟩
abbrev FTC_WALL_LO_WALL : Fld := ⟨31, 0⟩
abbrev FTC_WALL_HI_WALL : Fld := ⟨31, 0⟩
abbrev FTC_OFFSET_THETA : Fld := ⟨15, 0⟩
abbrev FTC_OFFSET_STEPS : Fld := ⟨23, 16⟩
abbrev FTC_OFFSET_UPSWITCH : Fld := ⟨31, 24⟩
abbrev FTC_PORT_SEL_PORT : Fld := ⟨4, 0⟩
abbrev FTC_PORT_DLY_D_IN : Fld := ⟨15, 0⟩
abbrev FTC_PORT_ASYM_ASYM : Fld := ⟨15, 0⟩
abbrev FTC_UPLINK_PORTS : Fld := ⟨31, 0⟩
abbrev CLK_CFG_MODE : Fld := ⟨0, 0⟩
abbrev CLK_CFG_LSRC : Fld := ⟨2, 1⟩
abbrev CLK_CFG_REFOUT_EN : Fld := ⟨3, 3⟩
abbrev CLK_CFG_SPREAD : Fld := ⟨4, 4⟩
abbrev CLK_STAT_SRC : Fld := ⟨2, 0⟩
abbrev CLK_STAT_RPLL_LOCK : Fld := ⟨3, 3⟩
abbrev CLK_STAT_FAST_READY : Fld := ⟨4, 4⟩
abbrev CLK_STAT_SLOW_OK : Fld := ⟨5, 5⟩
abbrev CLK_STAT_CLKLESS : Fld := ⟨6, 6⟩
abbrev CLK_STAT_ROLE_MISMATCH : Fld := ⟨7, 7⟩
abbrev CLK_STAT_SPREAD_SEEN : Fld := ⟨8, 8⟩
abbrev CLK_MON_SEL_CLOCK : Fld := ⟨3, 0⟩
abbrev CLK_MON_DATA_KHZ : Fld := ⟨31, 0⟩
abbrev CLK_TRIP_CLOCK : Fld := ⟨3, 0⟩
abbrev CLK_TRIP_KIND : Fld := ⟨5, 4⟩
abbrev CLK_TRIP_FORCED : Fld := ⟨13, 6⟩
abbrev CLK_TRIP_VALID : Fld := ⟨31, 31⟩
abbrev CLK_MUX_FORCE_MUX : Fld := ⟨9, 0⟩
abbrev CLK_GATE_SEL_DOMAIN : Fld := ⟨7, 0⟩
abbrev CLK_GATE_RUN_EN : Fld := ⟨0, 0⟩
abbrev CLK_GATE_SLEEP_EN : Fld := ⟨1, 1⟩
abbrev CLK_GATE_DSLEEP_EN : Fld := ⟨2, 2⟩
abbrev PWR_STAT_VIN_LOW : Fld := ⟨0, 0⟩
abbrev PWR_STAT_VIN_HIGH : Fld := ⟨1, 1⟩
abbrev PWR_STAT_LIMITING : Fld := ⟨2, 2⟩
abbrev PWR_STAT_PEAK : Fld := ⟨3, 3⟩
abbrev PWR_STAT_FAIL : Fld := ⟨6, 4⟩
abbrev PWR_STAT_AUX : Fld := ⟨7, 7⟩
abbrev PWR_IN_VIN : Fld := ⟨15, 0⟩
abbrev PWR_IN_IIN : Fld := ⟨31, 16⟩
abbrev PWR_INPUT_P_AVG : Fld := ⟨15, 0⟩
abbrev PWR_INPUT_P_PEAK : Fld := ⟨31, 16⟩
abbrev PWR_DOM_SEL_DOMAIN : Fld := ⟨7, 0⟩
abbrev PWR_DOM_CTL_REQ : Fld := ⟨1, 0⟩
abbrev PWR_DOM_STAT_STATE : Fld := ⟨1, 0⟩
abbrev PWR_DOM_STAT_PGOOD : Fld := ⟨2, 2⟩
abbrev PWR_DOM_STAT_ISO : Fld := ⟨3, 3⟩
abbrev PWR_DOM_STAT_REFUSED : Fld := ⟨4, 4⟩
abbrev PWR_DOM_STAT_PG_FAIL : Fld := ⟨5, 5⟩
abbrev PWR_BELL_OPP_OPP (j : Nat) : Fld := ⟨3 * j + 2, 3 * j⟩
abbrev PWR_OPP_CAP_CAP (j : Nat) : Fld := ⟨3 * j + 2, 3 * j⟩
abbrev PWR_BELL_P_P : Fld := ⟨15, 0⟩
abbrev PWR_BELL_P_PF : Fld := ⟨31, 16⟩
abbrev PWR_FF_CFG_THRESH : Fld := ⟨7, 0⟩
abbrev PWR_FF_CFG_TAU : Fld := ⟨23, 8⟩
abbrev PWR_LIMIT_CNT_COUNT : Fld := ⟨31, 0⟩
abbrev PWR_AUTO_ENG_EN : Fld := ⟨0, 0⟩
abbrev PWR_AUTO_IDLE_US : Fld := ⟨31, 16⟩
abbrev THM_STAT_SHUTDOWN : Fld := ⟨0, 0⟩
abbrev THM_STAT_WARN : Fld := ⟨1, 1⟩
abbrev THM_STAT_THROTTLE : Fld := ⟨2, 2⟩
abbrev THM_STAT_BAD : Fld := ⟨12, 3⟩
abbrev THM_SEL_SENSOR : Fld := ⟨9, 0⟩
abbrev THM_DATA_TEMP : Fld := ⟨11, 0⟩
abbrev THM_DATA_CLASS : Fld := ⟨13, 12⟩
abbrev THM_DATA_BAD : Fld := ⟨14, 14⟩
abbrev THM_DATA_CAUSE : Fld := ⟨16, 15⟩
abbrev THM_DATA_UNREAD : Fld := ⟨17, 17⟩
abbrev THM_POS_X : Fld := ⟨15, 0⟩
abbrev THM_POS_Y : Fld := ⟨31, 16⟩
abbrev THM_MAX_SENSOR : Fld := ⟨9, 0⟩
abbrev THM_MAX_TEMP : Fld := ⟨21, 10⟩
abbrev THM_THROTTLE_RIDGE : Fld := ⟨0, 0⟩
abbrev THM_THROTTLE_BELL : Fld := ⟨8, 1⟩
abbrev THM_THROTTLE_CANOPY : Fld := ⟨16, 9⟩
abbrev THM_LATCH_SENSOR : Fld := ⟨9, 0⟩
abbrev THM_LATCH_TEMP : Fld := ⟨21, 10⟩
abbrev THM_LATCH_VALID : Fld := ⟨31, 31⟩
abbrev THM_RELEASE_RELEASE : Fld := ⟨0, 0⟩
abbrev THM_RELEASE_RESULT : Fld := ⟨3, 1⟩
abbrev THM_XCHECK_DIE : Fld := ⟨4, 0⟩
abbrev THM_XCHECK_START : Fld := ⟨5, 5⟩
abbrev THM_XCHECK_RESULT : Fld := ⟨7, 6⟩
abbrev THM_BAD_BAD : Fld := ⟨31, 0⟩
abbrev THM_EVT_CNT_WARN : Fld := ⟨15, 0⟩
abbrev THM_EVT_CNT_THROTTLE : Fld := ⟨31, 16⟩
abbrev FLT_STAT_STRIKE : Fld := ⟨0, 0⟩
abbrev FLT_STAT_FAULT_N : Fld := ⟨1, 1⟩
abbrev FLT_STAT_SELF : Fld := ⟨2, 2⟩
abbrev FLT_STAT_TEST : Fld := ⟨3, 3⟩
abbrev FLT_STAT_MAXSEV : Fld := ⟨6, 4⟩
abbrev FLT_STAT_PENDING : Fld := ⟨17, 8⟩
abbrev FLT_FIRST_SOURCE : Fld := ⟨8, 0⟩
abbrev FLT_FIRST_SEV_CFG : Fld := ⟨11, 9⟩
abbrev FLT_FIRST_SEV_EFF : Fld := ⟨14, 12⟩
abbrev FLT_FIRST_ESC : Fld := ⟨15, 15⟩
abbrev FLT_FIRST_INJ : Fld := ⟨16, 16⟩
abbrev FLT_FIRST_VALID : Fld := ⟨31, 31⟩
abbrev FLT_FIRST_FTC_LO_FTC : Fld := ⟨31, 0⟩
abbrev FLT_FIRST_FTC_HI_FTC : Fld := ⟨31, 0⟩
abbrev FLT_FIRST_DET_DETAIL : Fld := ⟨31, 0⟩
abbrev FLT_SEL_SOURCE : Fld := ⟨8, 0⟩
abbrev FLT_SRC_ACTIVE : Fld := ⟨0, 0⟩
abbrev FLT_SRC_PEND : Fld := ⟨1, 1⟩
abbrev FLT_SRC_SEV_CFG : Fld := ⟨4, 2⟩
abbrev FLT_SRC_SEV_EFF : Fld := ⟨7, 5⟩
abbrev FLT_SRC_WIRE : Fld := ⟨8, 8⟩
abbrev FLT_SRC_FORCED : Fld := ⟨9, 9⟩
abbrev FLT_SRC_CNT_COUNT : Fld := ⟨31, 0⟩
abbrev FLT_PEND_PEND : Fld := ⟨31, 0⟩
abbrev FLT_ACK_ALL : Fld := ⟨0, 0⟩
abbrev FLT_ESC_CNT_COUNT : Fld := ⟨31, 0⟩
abbrev FLT_STRIKE_KEY : Fld := ⟨31, 0⟩
abbrev FLT_STRIKE_CAUSE_SOURCE : Fld := ⟨8, 0⟩
abbrev FLT_STRIKE_CAUSE_VALID : Fld := ⟨31, 31⟩
abbrev FLT_INJ_SOURCE : Fld := ⟨8, 0⟩
abbrev FLT_INJ_KIND : Fld := ⟨10, 9⟩
abbrev FLT_INJ_GO : Fld := ⟨11, 11⟩
abbrev WSQ_POLE_STAT_ACTIVE : Fld := ⟨0, 0⟩
abbrev WSQ_POLE_STAT_A_STATE : Fld := ⟨3, 1⟩
abbrev WSQ_POLE_STAT_B_STATE : Fld := ⟨6, 4⟩
abbrev WSQ_POLE_STAT_STBY_OK : Fld := ⟨7, 7⟩
abbrev WSQ_POLE_CTL_SWITCH : Fld := ⟨0, 0⟩
abbrev WSQ_SWITCH_CNT_SWITCHES : Fld := ⟨15, 0⟩
abbrev WSQ_SWITCH_CNT_DIVERGE : Fld := ⟨31, 16⟩
abbrev WSQ_SWITCH_LAST_FROM : Fld := ⟨0, 0⟩
abbrev WSQ_SWITCH_LAST_CAUSE : Fld := ⟨3, 1⟩
abbrev WSQ_SWITCH_LAST_VALID : Fld := ⟨31, 31⟩
abbrev WSQ_RESYNC_US_US : Fld := ⟨15, 0⟩
abbrev WSQ_AGENT_CFG_LEAD : Fld := ⟨31, 0⟩
abbrev WSQ_LOST_UNIT_NODE : Fld := ⟨19, 0⟩
abbrev WSQ_LOST_UNIT_DIE : Fld := ⟨24, 20⟩
abbrev WSQ_LOST_UNIT_VALID : Fld := ⟨31, 31⟩
abbrev WSQ_RELOAD_STAT_STATE : Fld := ⟨1, 0⟩
abbrev WSQ_RELOAD_STAT_DELTA : Fld := ⟨5, 2⟩
abbrev WSQ_RELOAD_STAT_LEFT : Fld := ⟨31, 6⟩
abbrev WSQ_RELOAD_CTL_DONE : Fld := ⟨0, 0⟩
abbrev DRY_STAT_READY : Fld := ⟨0, 0⟩
abbrev DRY_STAT_HOLDUP_OK : Fld := ⟨1, 1⟩
abbrev DRY_STAT_PIN_FULL : Fld := ⟨2, 2⟩
abbrev DRY_STAT_WRITE_ERR : Fld := ⟨3, 3⟩
abbrev DRY_STAT_PIN_USED : Fld := ⟨12, 4⟩
abbrev DRY_STAT_WRAPPED : Fld := ⟨13, 13⟩
abbrev DRY_HEAD_NEXT : Fld := ⟨15, 0⟩
abbrev DRY_SEQ_SEQ : Fld := ⟨31, 0⟩
abbrev DRY_SEL_OFFSET : Fld := ⟨25, 0⟩
abbrev DRY_DATA_DATA : Fld := ⟨31, 0⟩
abbrev DRY_CTL_KEY : Fld := ⟨31, 0⟩
abbrev DRY_HOLDUP_US : Fld := ⟨15, 0⟩
abbrev SEC_STAT_FW_STATE : Fld := ⟨1, 0⟩
abbrev SEC_STAT_SLOT : Fld := ⟨2, 2⟩
abbrev SEC_STAT_PENDING : Fld := ⟨3, 3⟩
abbrev SEC_STAT_BOUND : Fld := ⟨4, 4⟩
abbrev SEC_STAT_UNLOCK : Fld := ⟨5, 5⟩
abbrev SEC_STAT_TEST_MODE : Fld := ⟨6, 6⟩
abbrev SEC_STAT_KEYREV : Fld := ⟨10, 7⟩
abbrev SEC_STAT_COMMIT_RES : Fld := ⟨13, 11⟩
abbrev SEC_FW_VER_VERSION : Fld := ⟨31, 0⟩
abbrev SEC_FW_INFO_SVN : Fld := ⟨7, 0⟩
abbrev SEC_FW_INFO_FWNUM : Fld := ⟨15, 8⟩
abbrev SEC_FW_INFO_OTHER_SVN : Fld := ⟨23, 16⟩
abbrev SEC_LEVEL_FW_LVL : Fld := ⟨6, 0⟩
abbrev SEC_LEVEL_PIT_LVL : Fld := ⟨14, 8⟩
abbrev SEC_LEVEL_CERT_LVL : Fld := ⟨22, 16⟩
abbrev SEC_BIND_LO_KEY_ID : Fld := ⟨31, 0⟩
abbrev SEC_BIND_HI_KEY_ID : Fld := ⟨31, 0⟩
abbrev SEC_COMMIT_KEY : Fld := ⟨31, 0⟩
abbrev SEC_FW_CTL_CONFIRM : Fld := ⟨0, 0⟩
abbrev SEC_FW_CTL_ABANDON : Fld := ⟨1, 1⟩
abbrev SEC_RESET_KEY : Fld := ⟨31, 0⟩
abbrev SEC_GUY_DENY_CNT_COUNT : Fld := ⟨31, 0⟩
abbrev SEC_GUY_STAT_EID : Fld := ⟨7, 0⟩
abbrev SEC_GUY_STAT_DYN_ADDR : Fld := ⟨14, 8⟩
abbrev SEC_GUY_STAT_BUS : Fld := ⟨15, 15⟩
abbrev SEC_GUY_STAT_EVT_HELD : Fld := ⟨22, 16⟩
end F

def regsID0 : List (Nat × RegInfo) := [
  (0x0, ⟨.por, [⟨15, 0, .ro, 7275, .any⟩, ⟨31, 16, .ro, 25728, .any⟩]⟩),
  (0x4, ⟨.por, [⟨7, 0, .ro, 0, .any⟩, ⟨15, 8, .ro, 0, .any⟩, ⟨23, 16, .ro, 0, .any⟩]⟩),
  (0x8, ⟨.por, [⟨7, 0, .ro, 0, .any⟩, ⟨9, 8, .ro, 0, .any⟩, ⟨21, 16, .ro, 32, .any⟩, ⟨31, 24, .ro, 255, .any⟩]⟩),
  (0xC, ⟨.por, [⟨31, 0, .ro, 0, .any⟩]⟩),
  (0x10, ⟨.por, [⟨31, 0, .ro, 0, .any⟩]⟩),
  (0x14, ⟨.pin, [⟨3, 0, .ro, 0, .any⟩, ⟨7, 4, .ro, 0, .any⟩, ⟨11, 8, .ro, 0, .any⟩, ⟨15, 12, .ro, 0, .any⟩, ⟨19, 16, .ro, 0, .any⟩, ⟨23, 20, .ro, 0, .any⟩, ⟨27, 24, .ro, 0, .any⟩, ⟨31, 28, .ro, 0, .any⟩]⟩),
  (0x18, ⟨.pin, [⟨7, 0, .ro, 0, .any⟩, ⟨15, 8, .ro, 0, .any⟩, ⟨23, 16, .ro, 0, .any⟩]⟩),
  (0x1C, ⟨.pin, [⟨7, 0, .ro, 0, .any⟩, ⟨15, 8, .ro, 0, .any⟩]⟩),
  (0x20, ⟨.warm, [⟨31, 0, .rw, 0, .zero⟩]⟩),
  (0x24, ⟨.warm, [⟨3, 0, .ro, 0, .any⟩, ⟨8, 4, .ro, 0, .any⟩, ⟨14, 9, .ro, 0, .any⟩, ⟨31, 31, .w1c, 0, .any⟩]⟩),
  (0x28, ⟨.warm, [⟨31, 0, .ro, 0, .any⟩]⟩),
  (0x2C, ⟨.warm, [⟨31, 0, .ro, 0, .any⟩]⟩)]
/-- The ID_ block (R37, R451). -/
def regsID : List (Nat × RegInfo) := regsID0

def regsPIT0 : List (Nat × RegInfo) := [
  (0x0, ⟨.pin, [⟨2, 0, .ro, 0, .any⟩, ⟨3, 3, .ro, 0, .any⟩, ⟨4, 4, .ro, 0, .any⟩, ⟨6, 5, .ro, 0, .any⟩, ⟨7, 7, .ro, 0, .any⟩, ⟨8, 8, .ro, 0, .any⟩, ⟨9, 9, .ro, 0, .any⟩, ⟨21, 16, .ro, 0, .any⟩]⟩),
  (0x4, ⟨.pin, [⟨0, 0, .wo, 0, .any⟩, ⟨1, 1, .wo, 0, .any⟩, ⟨2, 2, .wo, 0, .any⟩, ⟨3, 3, .wo, 0, .any⟩, ⟨4, 4, .wo, 0, .any⟩]⟩),
  (0x8, ⟨.pin, [⟨7, 0, .ro, 0, .any⟩, ⟨11, 8, .ro, 0, .any⟩]⟩),
  (0xC, ⟨.pin, [⟨31, 0, .ro, 0, .any⟩]⟩),
  (0x10, ⟨.pin, [⟨31, 0, .rw, 0, .any⟩]⟩),
  (0x14, ⟨.pin, [⟨31, 0, .rw, 0, .any⟩]⟩),
  (0x18, ⟨.pin, [⟨31, 0, .ro, 0, .any⟩]⟩),
  (0x1C, ⟨.pin, [⟨31, 0, .ro, 0, .any⟩]⟩),
  (0x20, ⟨.pin, [⟨24, 0, .rw, 0, .any⟩]⟩),
  (0x24, ⟨.pin, [⟨31, 0, .wo, 0, .any⟩]⟩),
  (0x28, ⟨.pin, [⟨24, 0, .ro, 0, .any⟩]⟩),
  (0x30, ⟨.pin, [⟨31, 0, .ro, 0, .any⟩]⟩)]
def regsPIT1 : List (Nat × RegInfo) := [
  (0x34, ⟨.pin, [⟨31, 0, .ro, 0, .any⟩]⟩),
  (0x38, ⟨.pin, [⟨26, 0, .ro, 0, .any⟩, ⟨31, 27, .ro, 0, .any⟩]⟩),
  (0x3C, ⟨.pin, [⟨15, 0, .ro, 0, .any⟩]⟩),
  (0x40, ⟨.pin, [⟨15, 0, .ro, 0, .any⟩, ⟨31, 16, .ro, 0, .any⟩]⟩),
  (0x44, ⟨.por, [⟨7, 0, .ro, 0, .any⟩]⟩),
  (0x48, ⟨.pin, [⟨3, 0, .rw, 0, .any⟩, ⟨4, 4, .wo, 0, .any⟩, ⟨5, 5, .wo, 0, .any⟩]⟩),
  (0x4C, ⟨.pin, [⟨31, 0, .rw, 0, .any⟩]⟩),
  (0x50, ⟨.pin, [⟨31, 0, .rw, 0, .any⟩]⟩),
  (0x54, ⟨.warm, [⟨7, 0, .rw, 0, .any⟩, ⟨31, 8, .rw, 0, .any⟩]⟩),
  (0x58, ⟨.warm, [⟨31, 0, .rw, 0, .any⟩]⟩),
  (0x5C, ⟨.warm, [⟨0, 0, .ro, 0, .any⟩]⟩),
  (0x60, ⟨.warm, [⟨31, 0, .rw, 0, .zero⟩]⟩)]
def regsPIT2 : List (Nat × RegInfo) := [
  (0x64, ⟨.warm, [⟨31, 0, .rw, 0, .zero⟩]⟩),
  (0x68, ⟨.pin, [⟨15, 0, .ro, 0, .any⟩, ⟨31, 16, .ro, 0, .any⟩]⟩)]
/-- The PIT_ block (R37, R451). -/
def regsPIT : List (Nat × RegInfo) := regsPIT0 ++ regsPIT1 ++ regsPIT2

def regsWSQ0 : List (Nat × RegInfo) := [
  (0x100, ⟨.warm, [⟨16, 0, .ro, 0, .any⟩]⟩),
  (0x104, ⟨.warm, [⟨16, 0, .ro, 0, .any⟩]⟩),
  (0x108, ⟨.warm, [⟨31, 0, .rw, 0, .zero⟩]⟩),
  (0x10C, ⟨.warm, [⟨31, 0, .rw, 0, .zero⟩]⟩),
  (0x110, ⟨.warm, [⟨7, 0, .ro, 0, .any⟩, ⟨19, 8, .ro, 0, .any⟩, ⟨31, 31, .w1c, 0, .any⟩]⟩),
  (0x114, ⟨.warm, [⟨0, 0, .ro, 0, .any⟩, ⟨1, 1, .ro, 0, .any⟩]⟩),
  (0x118, ⟨.warm, [⟨19, 0, .ro, 0, .any⟩]⟩),
  (0x11C, ⟨.warm, [⟨19, 0, .ro, 0, .any⟩]⟩),
  (0x120, ⟨.warm, [⟨16, 0, .ro, 0, .any⟩]⟩),
  (0x124, ⟨.warm, [⟨31, 0, .rw, 0, .zero⟩]⟩),
  (0x0, ⟨.pin, [⟨0, 0, .ro, 0, .any⟩, ⟨3, 1, .ro, 0, .any⟩, ⟨6, 4, .ro, 0, .any⟩, ⟨7, 7, .ro, 0, .any⟩]⟩),
  (0x4, ⟨.pin, [⟨0, 0, .wo, 0, .any⟩]⟩)]
def regsWSQ1 : List (Nat × RegInfo) := [
  (0x8, ⟨.pin, [⟨15, 0, .ro, 0, .any⟩, ⟨31, 16, .ro, 0, .any⟩]⟩),
  (0xC, ⟨.pin, [⟨0, 0, .ro, 0, .any⟩, ⟨3, 1, .ro, 0, .any⟩, ⟨31, 31, .w1c, 0, .any⟩]⟩),
  (0x10, ⟨.pin, [⟨15, 0, .ro, 0, .any⟩]⟩),
  (0x20, ⟨.warm, [⟨31, 0, .rw, 20000000, .any⟩]⟩),
  (0x24, ⟨.warm, [⟨19, 0, .rw, 0, .any⟩, ⟨24, 20, .rw, 0, .any⟩, ⟨31, 31, .rw, 0, .any⟩]⟩),
  (0x28, ⟨.warm, [⟨1, 0, .ro, 0, .any⟩, ⟨5, 2, .ro, 0, .any⟩, ⟨31, 6, .ro, 0, .any⟩]⟩),
  (0x2C, ⟨.warm, [⟨0, 0, .wo, 0, .any⟩]⟩)]
/-- The WSQ_ block (R37, R451). -/
def regsWSQ : List (Nat × RegInfo) := regsWSQ0 ++ regsWSQ1

def regsFLT0 : List (Nat × RegInfo) := [
  (0x0, ⟨.pin, [⟨0, 0, .ro, 0, .any⟩, ⟨1, 1, .ro, 0, .any⟩, ⟨2, 2, .ro, 0, .any⟩, ⟨3, 3, .ro, 0, .any⟩, ⟨6, 4, .ro, 0, .any⟩, ⟨17, 8, .ro, 0, .any⟩]⟩),
  (0x4, ⟨.pin, [⟨8, 0, .ro, 0, .any⟩, ⟨11, 9, .ro, 0, .any⟩, ⟨14, 12, .ro, 0, .any⟩, ⟨15, 15, .ro, 0, .any⟩, ⟨16, 16, .ro, 0, .any⟩, ⟨31, 31, .w1c, 0, .any⟩]⟩),
  (0x8, ⟨.pin, [⟨31, 0, .ro, 0, .any⟩]⟩),
  (0xC, ⟨.pin, [⟨31, 0, .ro, 0, .any⟩]⟩),
  (0x10, ⟨.pin, [⟨31, 0, .ro, 0, .any⟩]⟩),
  (0x14, ⟨.pin, [⟨31, 0, .ro, 0, .any⟩]⟩),
  (0x18, ⟨.pin, [⟨31, 0, .ro, 0, .any⟩]⟩),
  (0x1C, ⟨.pin, [⟨31, 0, .ro, 0, .any⟩]⟩),
  (0x20, ⟨.warm, [⟨8, 0, .rw, 0, .any⟩]⟩),
  (0x24, ⟨.pin, [⟨0, 0, .ro, 0, .any⟩, ⟨1, 1, .w1c, 0, .any⟩, ⟨4, 2, .ro, 1, .any⟩, ⟨7, 5, .ro, 0, .any⟩, ⟨8, 8, .ro, 0, .any⟩, ⟨9, 9, .ro, 0, .any⟩]⟩),
  (0x28, ⟨.pin, [⟨31, 0, .rw, 0, .zero⟩]⟩),
  (0x40, ⟨.pin, [⟨31, 0, .w1c, 0, .any⟩]⟩)]
def regsFLT1 : List (Nat × RegInfo) := [
  (0x44, ⟨.pin, [⟨31, 0, .w1c, 0, .any⟩]⟩),
  (0x48, ⟨.pin, [⟨31, 0, .w1c, 0, .any⟩]⟩),
  (0x4C, ⟨.pin, [⟨31, 0, .w1c, 0, .any⟩]⟩),
  (0x50, ⟨.pin, [⟨31, 0, .w1c, 0, .any⟩]⟩),
  (0x54, ⟨.pin, [⟨31, 0, .w1c, 0, .any⟩]⟩),
  (0x58, ⟨.pin, [⟨31, 0, .w1c, 0, .any⟩]⟩),
  (0x5C, ⟨.pin, [⟨31, 0, .w1c, 0, .any⟩]⟩),
  (0x60, ⟨.pin, [⟨31, 0, .w1c, 0, .any⟩]⟩),
  (0x64, ⟨.pin, [⟨31, 0, .w1c, 0, .any⟩]⟩),
  (0x68, ⟨.pin, [⟨31, 0, .w1c, 0, .any⟩]⟩),
  (0x6C, ⟨.pin, [⟨31, 0, .w1c, 0, .any⟩]⟩),
  (0x70, ⟨.pin, [⟨31, 0, .w1c, 0, .any⟩]⟩)]
def regsFLT2 : List (Nat × RegInfo) := [
  (0x74, ⟨.pin, [⟨31, 0, .w1c, 0, .any⟩]⟩),
  (0x78, ⟨.pin, [⟨31, 0, .w1c, 0, .any⟩]⟩),
  (0x7C, ⟨.pin, [⟨31, 0, .w1c, 0, .any⟩]⟩),
  (0x80, ⟨.pin, [⟨0, 0, .wo, 0, .any⟩]⟩),
  (0x84, ⟨.pin, [⟨31, 0, .rw, 0, .zero⟩]⟩),
  (0x90, ⟨.pin, [⟨31, 0, .guy, 0, .any⟩]⟩),
  (0x94, ⟨.por, [⟨8, 0, .ro, 0, .any⟩, ⟨31, 31, .ro, 0, .any⟩]⟩),
  (0xA0, ⟨.pin, [⟨8, 0, .rw, 0, .any⟩, ⟨10, 9, .rw, 0, (.range 0 2)⟩, ⟨11, 11, .wo, 0, .any⟩]⟩)]
/-- The FLT_ block (R37, R451). -/
def regsFLT : List (Nat × RegInfo) := regsFLT0 ++ regsFLT1 ++ regsFLT2

def regsFTC0 : List (Nat × RegInfo) := [
  (0x0, ⟨.pin, [⟨31, 0, .ro, 0, .any⟩]⟩),
  (0x4, ⟨.pin, [⟨31, 0, .ro, 0, .any⟩]⟩),
  (0x8, ⟨.pin, [⟨2, 0, .ro, 0, .any⟩, ⟨8, 3, .ro, 63, .any⟩, ⟨13, 9, .ro, 31, .any⟩, ⟨14, 14, .w1c, 0, .any⟩, ⟨15, 15, .ro, 0, .any⟩]⟩),
  (0xC, ⟨.pin, [⟨0, 0, .guy, 0, .any⟩, ⟨1, 1, .guy, 0, .any⟩, ⟨31, 12, .guy, 0, .any⟩]⟩),
  (0x10, ⟨.pin, [⟨31, 0, .guy, 0, .any⟩]⟩),
  (0x14, ⟨.pin, [⟨31, 0, .guy, 0, .any⟩]⟩),
  (0x18, ⟨.pin, [⟨31, 0, .guy, 0, .any⟩]⟩),
  (0x1C, ⟨.pin, [⟨31, 0, .guy, 0, .any⟩]⟩),
  (0x20, ⟨.pin, [⟨15, 0, .ro, 0, .any⟩, ⟨23, 16, .ro, 0, .any⟩, ⟨31, 24, .ro, 0, .any⟩]⟩),
  (0x30, ⟨.pin, [⟨4, 0, .rw, 0, .any⟩]⟩),
  (0x34, ⟨.pin, [⟨15, 0, .ro, 65535, .any⟩]⟩),
  (0x38, ⟨.pin, [⟨15, 0, .guy, 0, .any⟩]⟩)]
def regsFTC1 : List (Nat × RegInfo) := [
  (0x3C, ⟨.pin, [⟨31, 0, .guy, 196611, .any⟩]⟩)]
/-- The FTC_ block (R37, R451). -/
def regsFTC : List (Nat × RegInfo) := regsFTC0 ++ regsFTC1

def regsCLK0 : List (Nat × RegInfo) := [
  (0x0, ⟨.por, [⟨0, 0, .guy, 0, .any⟩, ⟨2, 1, .guy, 0, (.range 0 2)⟩, ⟨3, 3, .guy, 0, .any⟩, ⟨4, 4, .guy, 0, .any⟩]⟩),
  (0x4, ⟨.pin, [⟨2, 0, .ro, 4, .any⟩, ⟨3, 3, .ro, 0, .any⟩, ⟨4, 4, .ro, 0, .any⟩, ⟨5, 5, .ro, 0, .any⟩, ⟨6, 6, .ro, 0, .any⟩, ⟨7, 7, .ro, 0, .any⟩, ⟨8, 8, .ro, 0, .any⟩]⟩),
  (0x10, ⟨.pin, [⟨3, 0, .rw, 0, (.notVal 7)⟩]⟩),
  (0x14, ⟨.pin, [⟨31, 0, .ro, 0, .any⟩]⟩),
  (0x18, ⟨.por, [⟨3, 0, .ro, 0, .any⟩, ⟨5, 4, .ro, 0, .any⟩, ⟨13, 6, .ro, 0, .any⟩, ⟨31, 31, .w1c, 0, .any⟩]⟩),
  (0x20, ⟨.pin, [⟨9, 0, .wo, 0, .any⟩]⟩),
  (0x30, ⟨.warm, [⟨7, 0, .rw, 0, (.range 0 147)⟩]⟩),
  (0x34, ⟨.warm, [⟨0, 0, .rw, 1, .any⟩, ⟨1, 1, .rw, 0, .any⟩, ⟨2, 2, .rw, 0, .any⟩]⟩)]
/-- The CLK_ block (R37, R451). -/
def regsCLK : List (Nat × RegInfo) := regsCLK0

def regsPWR0 : List (Nat × RegInfo) := [
  (0x0, ⟨.aon, [⟨0, 0, .ro, 0, .any⟩, ⟨1, 1, .ro, 0, .any⟩, ⟨2, 2, .ro, 0, .any⟩, ⟨3, 3, .w1c, 0, .any⟩, ⟨6, 4, .ro, 0, .any⟩, ⟨7, 7, .ro, 0, .any⟩]⟩),
  (0x4, ⟨.aon, [⟨15, 0, .ro, 0, .any⟩, ⟨31, 16, .ro, 0, .any⟩]⟩),
  (0x8, ⟨.warm, [⟨15, 0, .ro, 0, .any⟩, ⟨31, 16, .rw, 0, .zero⟩]⟩),
  (0x10, ⟨.warm, [⟨7, 0, .rw, 0, (.range 0 147)⟩]⟩),
  (0x14, ⟨.warm, [⟨1, 0, .rw, 0, .any⟩]⟩),
  (0x18, ⟨.warm, [⟨1, 0, .ro, 0, .any⟩, ⟨2, 2, .ro, 0, .any⟩, ⟨3, 3, .ro, 1, .any⟩, ⟨4, 4, .w1c, 0, .any⟩, ⟨5, 5, .w1c, 0, .any⟩]⟩),
  (0x20, ⟨.warm, [⟨2, 0, .ro, 0, .any⟩, ⟨5, 3, .ro, 0, .any⟩, ⟨8, 6, .ro, 0, .any⟩, ⟨11, 9, .ro, 0, .any⟩, ⟨14, 12, .ro, 0, .any⟩, ⟨17, 15, .ro, 0, .any⟩, ⟨20, 18, .ro, 0, .any⟩, ⟨23, 21, .ro, 0, .any⟩]⟩),
  (0x24, ⟨.warm, [⟨2, 0, .rw, 5, (.range 0 5)⟩, ⟨5, 3, .rw, 5, (.range 0 5)⟩, ⟨8, 6, .rw, 5, (.range 0 5)⟩, ⟨11, 9, .rw, 5, (.range 0 5)⟩, ⟨14, 12, .rw, 5, (.range 0 5)⟩, ⟨17, 15, .rw, 5, (.range 0 5)⟩, ⟨20, 18, .rw, 5, (.range 0 5)⟩, ⟨23, 21, .rw, 5, (.range 0 5)⟩]⟩),
  (0x30, ⟨.warm, [⟨15, 0, .ro, 0, .any⟩, ⟨31, 16, .ro, 0, .any⟩]⟩),
  (0x34, ⟨.warm, [⟨15, 0, .ro, 0, .any⟩, ⟨31, 16, .ro, 0, .any⟩]⟩),
  (0x38, ⟨.warm, [⟨15, 0, .ro, 0, .any⟩, ⟨31, 16, .ro, 0, .any⟩]⟩),
  (0x3C, ⟨.warm, [⟨15, 0, .ro, 0, .any⟩, ⟨31, 16, .ro, 0, .any⟩]⟩)]
def regsPWR1 : List (Nat × RegInfo) := [
  (0x40, ⟨.warm, [⟨15, 0, .ro, 0, .any⟩, ⟨31, 16, .ro, 0, .any⟩]⟩),
  (0x44, ⟨.warm, [⟨15, 0, .ro, 0, .any⟩, ⟨31, 16, .ro, 0, .any⟩]⟩),
  (0x48, ⟨.warm, [⟨15, 0, .ro, 0, .any⟩, ⟨31, 16, .ro, 0, .any⟩]⟩),
  (0x4C, ⟨.warm, [⟨15, 0, .ro, 0, .any⟩, ⟨31, 16, .ro, 0, .any⟩]⟩),
  (0x50, ⟨.pin, [⟨7, 0, .rw, 40, (.range 5 255)⟩, ⟨23, 8, .rw, 0, (.range 20 5000)⟩]⟩),
  (0x54, ⟨.warm, [⟨31, 0, .rw, 0, .zero⟩]⟩),
  (0x58, ⟨.warm, [⟨0, 0, .rw, 0, .any⟩, ⟨31, 16, .rw, 10, (.range 1 65535)⟩]⟩)]
/-- The PWR_ block (R37, R451). -/
def regsPWR : List (Nat × RegInfo) := regsPWR0 ++ regsPWR1

def regsTHM0 : List (Nat × RegInfo) := [
  (0x0, ⟨.pin, [⟨0, 0, .ro, 0, .any⟩, ⟨1, 1, .ro, 0, .any⟩, ⟨2, 2, .ro, 0, .any⟩, ⟨12, 3, .ro, 0, .any⟩]⟩),
  (0x4, ⟨.pin, [⟨9, 0, .rw, 0, (.range 0 607)⟩]⟩),
  (0x8, ⟨.pin, [⟨11, 0, .ro, 0, .any⟩, ⟨13, 12, .ro, 0, .any⟩, ⟨14, 14, .ro, 0, .any⟩, ⟨16, 15, .ro, 0, .any⟩, ⟨17, 17, .ro, 1, .any⟩]⟩),
  (0xC, ⟨.pin, [⟨15, 0, .ro, 0, .any⟩, ⟨31, 16, .ro, 0, .any⟩]⟩),
  (0x10, ⟨.pin, [⟨9, 0, .ro, 0, .any⟩, ⟨21, 10, .ro, 0, .any⟩]⟩),
  (0x14, ⟨.pin, [⟨0, 0, .ro, 0, .any⟩, ⟨8, 1, .ro, 0, .any⟩, ⟨16, 9, .ro, 0, .any⟩]⟩),
  (0x18, ⟨.aon, [⟨9, 0, .ro, 0, .any⟩, ⟨21, 10, .ro, 0, .any⟩, ⟨31, 31, .ro, 0, .any⟩]⟩),
  (0x1C, ⟨.aon, [⟨0, 0, .guy, 0, .any⟩, ⟨3, 1, .ro, 0, .any⟩]⟩),
  (0x20, ⟨.pin, [⟨4, 0, .rw, 0, (.range 0 16)⟩, ⟨5, 5, .wo, 0, .any⟩, ⟨7, 6, .ro, 0, .any⟩]⟩),
  (0x40, ⟨.pin, [⟨31, 0, .ro, 0, .any⟩]⟩),
  (0x44, ⟨.pin, [⟨31, 0, .ro, 0, .any⟩]⟩),
  (0x48, ⟨.pin, [⟨31, 0, .ro, 0, .any⟩]⟩)]
def regsTHM1 : List (Nat × RegInfo) := [
  (0x4C, ⟨.pin, [⟨31, 0, .ro, 0, .any⟩]⟩),
  (0x50, ⟨.pin, [⟨31, 0, .ro, 0, .any⟩]⟩),
  (0x54, ⟨.pin, [⟨31, 0, .ro, 0, .any⟩]⟩),
  (0x58, ⟨.pin, [⟨31, 0, .ro, 0, .any⟩]⟩),
  (0x5C, ⟨.pin, [⟨31, 0, .ro, 0, .any⟩]⟩),
  (0x60, ⟨.pin, [⟨31, 0, .ro, 0, .any⟩]⟩),
  (0x64, ⟨.pin, [⟨31, 0, .ro, 0, .any⟩]⟩),
  (0x68, ⟨.pin, [⟨31, 0, .ro, 0, .any⟩]⟩),
  (0x6C, ⟨.pin, [⟨31, 0, .ro, 0, .any⟩]⟩),
  (0x70, ⟨.pin, [⟨31, 0, .ro, 0, .any⟩]⟩),
  (0x74, ⟨.pin, [⟨31, 0, .ro, 0, .any⟩]⟩),
  (0x78, ⟨.pin, [⟨31, 0, .ro, 0, .any⟩]⟩)]
def regsTHM2 : List (Nat × RegInfo) := [
  (0x7C, ⟨.pin, [⟨31, 0, .ro, 0, .any⟩]⟩),
  (0x80, ⟨.pin, [⟨31, 0, .ro, 0, .any⟩]⟩),
  (0x84, ⟨.pin, [⟨31, 0, .ro, 0, .any⟩]⟩),
  (0x88, ⟨.pin, [⟨31, 0, .ro, 0, .any⟩]⟩),
  (0x90, ⟨.warm, [⟨15, 0, .rw, 0, .zero⟩, ⟨31, 16, .rw, 0, .zero⟩]⟩)]
/-- The THM_ block (R37, R451). -/
def regsTHM : List (Nat × RegInfo) := regsTHM0 ++ regsTHM1 ++ regsTHM2

def regsSEC0 : List (Nat × RegInfo) := [
  (0x0, ⟨.pin, [⟨1, 0, .ro, 0, .any⟩, ⟨2, 2, .ro, 0, .any⟩, ⟨3, 3, .ro, 0, .any⟩, ⟨4, 4, .ro, 0, .any⟩, ⟨5, 5, .ro, 0, .any⟩, ⟨6, 6, .ro, 0, .any⟩, ⟨10, 7, .ro, 0, .any⟩, ⟨13, 11, .ro, 0, .any⟩]⟩),
  (0x4, ⟨.pin, [⟨31, 0, .ro, 0, .any⟩]⟩),
  (0x8, ⟨.pin, [⟨7, 0, .ro, 0, .any⟩, ⟨15, 8, .ro, 0, .any⟩, ⟨23, 16, .ro, 255, .any⟩]⟩),
  (0xC, ⟨.por, [⟨6, 0, .ro, 0, .any⟩, ⟨14, 8, .ro, 0, .any⟩, ⟨22, 16, .ro, 0, .any⟩]⟩),
  (0x10, ⟨.por, [⟨31, 0, .ro, 0, .any⟩]⟩),
  (0x14, ⟨.por, [⟨31, 0, .ro, 0, .any⟩]⟩),
  (0x20, ⟨.pin, [⟨31, 0, .guy, 0, .any⟩]⟩),
  (0x24, ⟨.pin, [⟨0, 0, .guy, 0, .any⟩, ⟨1, 1, .guy, 0, .any⟩]⟩),
  (0x28, ⟨.pin, [⟨31, 0, .guy, 0, .any⟩]⟩),
  (0x30, ⟨.warm, [⟨31, 0, .rw, 0, .zero⟩]⟩),
  (0x34, ⟨.aon, [⟨7, 0, .ro, 0, .any⟩, ⟨14, 8, .ro, 0, .any⟩, ⟨15, 15, .ro, 1, .any⟩, ⟨22, 16, .ro, 0, .any⟩]⟩)]
/-- The SEC_ block (R37, R451). -/
def regsSEC : List (Nat × RegInfo) := regsSEC0

def regsDRY0 : List (Nat × RegInfo) := [
  (0x0, ⟨.aon, [⟨0, 0, .ro, 0, .any⟩, ⟨1, 1, .ro, 0, .any⟩, ⟨2, 2, .ro, 0, .any⟩, ⟨3, 3, .w1c, 0, .any⟩, ⟨12, 4, .ro, 0, .any⟩, ⟨13, 13, .ro, 0, .any⟩]⟩),
  (0x4, ⟨.aon, [⟨15, 0, .ro, 0, .any⟩]⟩),
  (0x8, ⟨.aon, [⟨31, 0, .ro, 0, .any⟩]⟩),
  (0x10, ⟨.aon, [⟨25, 0, .rw, 0, .any⟩]⟩),
  (0x14, ⟨.aon, [⟨31, 0, .ro, 0, .any⟩]⟩),
  (0x18, ⟨.aon, [⟨31, 0, .guy, 0, .any⟩]⟩),
  (0x1C, ⟨.aon, [⟨15, 0, .ro, 0, .any⟩]⟩)]
/-- The DRY_ block (R37, R451). -/
def regsDRY : List (Nat × RegInfo) := regsDRY0

def regsLNK0 : List (Nat × RegInfo) := [
  (0x0, ⟨.link, [⟨3, 0, .ro, 0, .any⟩, ⟨8, 4, .ro, 0, .any⟩, ⟨13, 9, .ro, 0, .any⟩, ⟨14, 14, .ro, 0, .any⟩, ⟨15, 15, .ro, 0, .any⟩, ⟨16, 16, .ro, 0, .any⟩, ⟨17, 17, .ro, 0, .any⟩, ⟨18, 18, .ro, 0, .any⟩, ⟨19, 19, .ro, 0, .any⟩, ⟨23, 20, .ro, 0, .any⟩, ⟨27, 24, .ro, 0, .any⟩]⟩),
  (0x4, ⟨.warm, [⟨0, 0, .rw, 1, .any⟩, ⟨1, 1, .wo, 0, .any⟩, ⟨2, 2, .wo, 0, .any⟩, ⟨3, 3, .wo, 0, .any⟩]⟩),
  (0x8, ⟨.por, [⟨3, 0, .ro, 0, .any⟩, ⟨7, 4, .ro, 0, .any⟩]⟩),
  (0xC, ⟨.link, [⟨19, 0, .ro, 0, .any⟩, ⟨24, 20, .ro, 0, .any⟩, ⟨31, 31, .ro, 0, .any⟩]⟩),
  (0x10, ⟨.warm, [⟨0, 0, .rw, 0, .any⟩]⟩),
  (0x14, ⟨.link, [⟨4, 0, .ro, 0, .any⟩, ⟨9, 5, .ro, 0, .any⟩, ⟨14, 10, .ro, 0, .any⟩, ⟨19, 15, .ro, 0, .any⟩, ⟨24, 20, .ro, 0, .any⟩, ⟨29, 25, .ro, 0, .any⟩]⟩),
  (0x18, ⟨.link, [⟨4, 0, .ro, 0, .any⟩, ⟨9, 5, .ro, 0, .any⟩, ⟨14, 10, .ro, 0, .any⟩, ⟨19, 15, .ro, 0, .any⟩, ⟨24, 20, .ro, 0, .any⟩, ⟨29, 25, .ro, 0, .any⟩]⟩),
  (0x1C, ⟨.link, [⟨4, 0, .ro, 0, .any⟩, ⟨9, 5, .ro, 0, .any⟩, ⟨14, 10, .ro, 0, .any⟩, ⟨19, 15, .ro, 0, .any⟩, ⟨24, 20, .ro, 0, .any⟩, ⟨29, 25, .ro, 0, .any⟩]⟩),
  (0x20, ⟨.link, [⟨4, 0, .ro, 31, .any⟩, ⟨9, 5, .ro, 31, .any⟩, ⟨10, 10, .ro, 0, .any⟩, ⟨11, 11, .ro, 0, .any⟩, ⟨12, 12, .ro, 0, .any⟩]⟩),
  (0x24, ⟨.link, [⟨19, 0, .ro, 0, .any⟩]⟩),
  (0x30, ⟨.warm, [⟨15, 0, .rw, 1024, (.range 16 65535)⟩, ⟨31, 16, .rw, 1024, (.range 16 65535)⟩]⟩),
  (0x34, ⟨.warm, [⟨15, 0, .rw, 6144, (.range 16 65535)⟩, ⟨21, 16, .rw, 32, (.range 4 32)⟩]⟩)]
def regsLNK1 : List (Nat × RegInfo) := [
  (0x38, ⟨.link, [⟨15, 0, .ro, 0, .any⟩, ⟨31, 16, .ro, 0, .any⟩]⟩),
  (0x3C, ⟨.link, [⟨15, 0, .ro, 0, .any⟩, ⟨21, 16, .ro, 0, .any⟩]⟩),
  (0x40, ⟨.link, [⟨31, 0, .rw, 0, .zero⟩]⟩),
  (0x44, ⟨.link, [⟨31, 0, .rw, 0, .zero⟩]⟩),
  (0x48, ⟨.link, [⟨15, 0, .ro, 0, .any⟩]⟩),
  (0x4C, ⟨.link, [⟨15, 0, .ro, 0, .any⟩, ⟨31, 16, .ro, 0, .any⟩]⟩),
  (0x54, ⟨.warm, [⟨0, 0, .rw, 0, .any⟩, ⟨31, 16, .rw, 100, (.range 10 65535)⟩]⟩),
  (0x60, ⟨.link, [⟨31, 0, .rw, 0, .zero⟩]⟩),
  (0x64, ⟨.link, [⟨31, 0, .rw, 0, .zero⟩]⟩),
  (0x68, ⟨.link, [⟨31, 0, .rw, 0, .zero⟩]⟩),
  (0x6C, ⟨.link, [⟨31, 0, .rw, 0, .zero⟩]⟩),
  (0x70, ⟨.link, [⟨31, 0, .rw, 0, .zero⟩]⟩)]
def regsLNK2 : List (Nat × RegInfo) := [
  (0x74, ⟨.link, [⟨31, 0, .rw, 0, .zero⟩]⟩),
  (0x78, ⟨.link, [⟨31, 0, .rw, 0, .zero⟩]⟩),
  (0x7C, ⟨.link, [⟨31, 0, .rw, 0, .zero⟩]⟩),
  (0x80, ⟨.link, [⟨31, 0, .rw, 0, .zero⟩]⟩),
  (0x84, ⟨.link, [⟨3, 0, .ro, 0, .any⟩, ⟨4, 4, .ro, 0, .any⟩, ⟨31, 31, .w1c, 0, .any⟩]⟩),
  (0x88, ⟨.link, [⟨15, 0, .ro, 0, .any⟩, ⟨31, 16, .ro, 0, .any⟩]⟩),
  (0x8C, ⟨.link, [⟨31, 0, .rw, 0, .zero⟩]⟩)]
/-- The LNK_ block (R37, R451). -/
def regsLNK : List (Nat × RegInfo) := regsLNK0 ++ regsLNK1 ++ regsLNK2

def regsOPT0 : List (Nat × RegInfo) := [
  (0x0, ⟨.die, [⟨0, 0, .ro, 0, .any⟩, ⟨1, 1, .ro, 0, .any⟩, ⟨2, 2, .ro, 0, .any⟩, ⟨3, 3, .ro, 0, .any⟩, ⟨7, 4, .ro, 0, .any⟩, ⟨11, 8, .ro, 0, .any⟩, ⟨23, 16, .ro, 0, .any⟩]⟩),
  (0x4, ⟨.die, [⟨0, 0, .wo, 0, .any⟩, ⟨1, 1, .wo, 0, .any⟩]⟩),
  (0x8, ⟨.por, [⟨15, 0, .ro, 0, .any⟩, ⟨18, 16, .ro, 0, .any⟩]⟩),
  (0x10, ⟨.die, [⟨1, 0, .ro, 0, .any⟩, ⟨11, 2, .ro, 0, .any⟩, ⟨12, 12, .ro, 0, .any⟩, ⟨26, 16, .ro, 0, .any⟩]⟩),
  (0x14, ⟨.die, [⟨1, 0, .ro, 0, .any⟩, ⟨11, 2, .ro, 0, .any⟩, ⟨12, 12, .ro, 0, .any⟩, ⟨26, 16, .ro, 0, .any⟩]⟩),
  (0x20, ⟨.die, [⟨1, 0, .rw, 0, .any⟩, ⟨2, 2, .rw, 0, .any⟩, ⟨7, 3, .rw, 1, (.range 1 18)⟩]⟩),
  (0x24, ⟨.die, [⟨2, 0, .ro, 0, .any⟩, ⟨7, 3, .ro, 0, .any⟩, ⟨12, 8, .ro, 0, .any⟩, ⟨14, 13, .ro, 0, .any⟩, ⟨29, 16, .ro, 0, .any⟩]⟩),
  (0x28, ⟨.die, [⟨15, 0, .ro, 0, .any⟩]⟩),
  (0x2C, ⟨.por, [⟨31, 0, .ro, 0, .any⟩]⟩),
  (0x30, ⟨.por, [⟨31, 0, .ro, 0, .any⟩]⟩),
  (0x34, ⟨.por, [⟨31, 0, .ro, 0, .any⟩]⟩),
  (0x38, ⟨.por, [⟨31, 0, .ro, 0, .any⟩]⟩)]
def regsOPT1 : List (Nat × RegInfo) := [
  (0x3C, ⟨.die, [⟨9, 0, .ro, 0, .any⟩, ⟨19, 10, .ro, 0, .any⟩, ⟨29, 20, .ro, 0, .any⟩]⟩),
  (0x40, ⟨.die, [⟨0, 0, .wo, 0, .any⟩]⟩),
  (0x50, ⟨.die, [⟨1, 0, .rw, 1, (.range 0 2)⟩]⟩),
  (0x54, ⟨.die, [⟨2, 0, .rw, 0, (.range 0 4)⟩, ⟨4, 3, .rw, 0, .any⟩, ⟨9, 5, .rw, 0, .any⟩, ⟨10, 10, .rw, 0, .any⟩]⟩),
  (0x58, ⟨.die, [⟨15, 0, .ro, 0, .any⟩, ⟨31, 31, .ro, 0, .any⟩]⟩),
  (0x60, ⟨.die, [⟨7, 0, .rw, 0, (.range 0 143)⟩, ⟨10, 8, .rw, 0, .any⟩]⟩),
  (0x64, ⟨.die, [⟨7, 0, .rw, 0, .any⟩, ⟨31, 16, .rw, 0, .any⟩]⟩),
  (0x68, ⟨.die, [⟨0, 0, .rw, 1, .any⟩, ⟨1, 1, .wo, 0, .any⟩]⟩),
  (0x70, ⟨.die, [⟨15, 0, .rw, 0, .any⟩]⟩),
  (0x74, ⟨.die, [⟨15, 0, .rw, 0, .any⟩]⟩),
  (0x78, ⟨.die, [⟨15, 0, .rw, 0, .any⟩]⟩),
  (0x7C, ⟨.die, [⟨15, 0, .rw, 0, .any⟩]⟩)]
def regsOPT2 : List (Nat × RegInfo) := [
  (0x80, ⟨.die, [⟨15, 0, .rw, 0, .any⟩]⟩),
  (0x84, ⟨.die, [⟨15, 0, .rw, 0, .any⟩]⟩),
  (0x88, ⟨.die, [⟨15, 0, .rw, 0, .any⟩]⟩),
  (0x8C, ⟨.die, [⟨15, 0, .rw, 0, .any⟩]⟩),
  (0x90, ⟨.die, [⟨7, 0, .rw, 90, .any⟩, ⟨15, 8, .rw, 160, (.range 120 220)⟩]⟩),
  (0x94, ⟨.die, [⟨15, 0, .rw, 0, .zero⟩, ⟨31, 16, .rw, 0, .zero⟩]⟩),
  (0x98, ⟨.por, [⟨15, 0, .ro, 0, .any⟩, ⟨31, 16, .ro, 0, .any⟩]⟩),
  (0xA0, ⟨.die, [⟨1, 0, .ro, 0, .any⟩, ⟨3, 2, .ro, 0, .any⟩, ⟨6, 4, .ro, 0, .any⟩, ⟨7, 7, .ro, 0, .any⟩, ⟨31, 16, .ro, 0, .any⟩]⟩),
  (0xA4, ⟨.pin, [⟨0, 0, .rw, 0, .any⟩]⟩),
  (0xB0, ⟨.die, [⟨0, 0, .rw, 0, .any⟩, ⟨1, 1, .rw, 0, .any⟩]⟩),
  (0xB4, ⟨.die, [⟨3, 0, .ro, 0, .any⟩, ⟨23, 4, .ro, 0, .any⟩, ⟨28, 24, .ro, 0, .any⟩, ⟨29, 29, .ro, 0, .any⟩]⟩),
  (0xB8, ⟨.die, [⟨31, 0, .rw, 0, .zero⟩]⟩)]
def regsOPT3 : List (Nat × RegInfo) := [
  (0xBC, ⟨.die, [⟨19, 0, .ro, 0, .any⟩]⟩),
  (0xC0, ⟨.die, [⟨31, 0, .rw, 0, .zero⟩]⟩),
  (0xC4, ⟨.die, [⟨31, 0, .rw, 0, .zero⟩]⟩)]
/-- The OPT_ block (R37, R451). -/
def regsOPT : List (Nat × RegInfo) := regsOPT0 ++ regsOPT1 ++ regsOPT2 ++ regsOPT3

def regsBEL0 : List (Nat × RegInfo) := [
  (0x0, ⟨.die, [⟨0, 0, .ro, 0, .any⟩, ⟨1, 1, .ro, 0, .any⟩, ⟨2, 2, .ro, 0, .any⟩, ⟨3, 3, .ro, 0, .any⟩, ⟨6, 4, .ro, 0, .any⟩, ⟨12, 8, .ro, 0, .any⟩]⟩),
  (0x4, ⟨.die, [⟨0, 0, .rw, 0, .any⟩]⟩),
  (0x10, ⟨.warm, [⟨11, 0, .ro, 0, .any⟩, ⟨19, 12, .ro, 0, .any⟩, ⟨31, 31, .w1c, 0, .any⟩]⟩),
  (0x14, ⟨.warm, [⟨11, 0, .ro, 0, .any⟩, ⟨15, 12, .ro, 0, .any⟩, ⟨19, 16, .ro, 0, .any⟩, ⟨27, 20, .ro, 0, .any⟩, ⟨31, 31, .w1c, 0, .any⟩]⟩),
  (0x18, ⟨.warm, [⟨31, 0, .rw, 0, .zero⟩]⟩),
  (0x20, ⟨.warm, [⟨3, 0, .rw, 4, (.range 1 15)⟩]⟩),
  (0x24, ⟨.warm, [⟨31, 0, .rw, 0, .zero⟩]⟩),
  (0x28, ⟨.warm, [⟨31, 0, .rw, 0, .zero⟩]⟩),
  (0x2C, ⟨.warm, [⟨1, 0, .ro, 0, .any⟩, ⟨7, 2, .ro, 0, .any⟩, ⟨9, 8, .ro, 0, .any⟩, ⟨15, 10, .ro, 0, .any⟩, ⟨16, 16, .ro, 0, .any⟩, ⟨31, 31, .w1c, 0, .any⟩]⟩),
  (0x30, ⟨.warm, [⟨28, 0, .ro, 0, .any⟩]⟩),
  (0x40, ⟨.pin, [⟨0, 0, .rw, 1, .any⟩, ⟨15, 8, .rw, 24, (.range 1 168)⟩]⟩),
  (0x44, ⟨.pin, [⟨15, 0, .ro, 0, .any⟩, ⟨16, 16, .w1c, 0, .any⟩]⟩)]
def regsBEL1 : List (Nat × RegInfo) := [
  (0x50, ⟨.die, [⟨1, 0, .ro, 0, .any⟩, ⟨3, 2, .ro, 0, .any⟩, ⟨5, 4, .ro, 0, .any⟩, ⟨7, 6, .ro, 0, .any⟩]⟩),
  (0x54, ⟨.pin, [⟨7, 0, .ro, 0, .any⟩, ⟨15, 8, .ro, 0, .any⟩, ⟨16, 16, .ro, 0, .any⟩]⟩),
  (0x60, ⟨.warm, [⟨31, 0, .rw, 0, .zero⟩]⟩),
  (0x64, ⟨.warm, [⟨31, 0, .rw, 0, .zero⟩]⟩),
  (0x80, ⟨.warm, [⟨5, 0, .rw, 0, .any⟩]⟩),
  (0x84, ⟨.warm, [⟨23, 0, .ro, 0, .any⟩]⟩),
  (0x88, ⟨.warm, [⟨23, 0, .ro, 0, .any⟩]⟩),
  (0x8C, ⟨.warm, [⟨23, 0, .ro, 0, .any⟩]⟩),
  (0x90, ⟨.warm, [⟨16, 0, .ro, 0, .any⟩]⟩)]
/-- The BEL_ block (R37, R451). -/
def regsBEL : List (Nat × RegInfo) := regsBEL0 ++ regsBEL1

def regsSEAM0 : List (Nat × RegInfo) := [
  (0x0, ⟨.link, [⟨2, 0, .ro, 0, .any⟩, ⟨10, 4, .ro, 0, .any⟩, ⟨11, 11, .ro, 0, .any⟩, ⟨12, 12, .ro, 0, .any⟩, ⟨13, 13, .ro, 0, .any⟩, ⟨14, 14, .ro, 0, .any⟩, ⟨20, 15, .ro, 0, .any⟩, ⟨26, 21, .ro, 0, .any⟩, ⟨29, 27, .ro, 0, .any⟩]⟩),
  (0x4, ⟨.warm, [⟨0, 0, .wo, 0, .any⟩, ⟨1, 1, .wo, 0, .any⟩, ⟨2, 2, .wo, 0, .any⟩]⟩),
  (0x8, ⟨.aon, [⟨7, 0, .ro, 0, .any⟩, ⟨15, 8, .ro, 0, .any⟩]⟩),
  (0x10, ⟨.warm, [⟨0, 0, .rw, 0, .any⟩, ⟨7, 1, .rw, 0, (.range 0 67)⟩]⟩),
  (0x14, ⟨.link, [⟨1, 0, .ro, 0, .any⟩, ⟨8, 2, .ro, 127, .any⟩, ⟨15, 9, .ro, 0, .any⟩, ⟨23, 16, .ro, 0, .any⟩, ⟨27, 24, .ro, 0, .any⟩]⟩),
  (0x18, ⟨.por, [⟨31, 0, .ro, 0, .any⟩]⟩),
  (0x1C, ⟨.por, [⟨31, 0, .ro, 0, .any⟩]⟩),
  (0x20, ⟨.por, [⟨31, 0, .ro, 0, .any⟩]⟩),
  (0x24, ⟨.por, [⟨31, 0, .ro, 0, .any⟩]⟩),
  (0x30, ⟨.pin, [⟨31, 0, .ro, 0, .any⟩]⟩),
  (0x34, ⟨.pin, [⟨31, 0, .ro, 0, .any⟩]⟩),
  (0x38, ⟨.pin, [⟨31, 0, .ro, 0, .any⟩]⟩)]
def regsSEAM1 : List (Nat × RegInfo) := [
  (0x40, ⟨.link, [⟨31, 0, .rw, 0, .zero⟩]⟩),
  (0x44, ⟨.link, [⟨31, 0, .rw, 0, .zero⟩]⟩),
  (0x48, ⟨.link, [⟨31, 0, .rw, 0, .zero⟩]⟩),
  (0x4C, ⟨.link, [⟨3, 0, .ro, 0, .any⟩, ⟨31, 31, .w1c, 0, .any⟩]⟩),
  (0x50, ⟨.pin, [⟨1, 0, .ro, 0, .any⟩, ⟨31, 16, .ro, 0, .any⟩]⟩),
  (0x2000, ⟨.die, [⟨2, 0, .ro, 0, .any⟩, ⟨10, 4, .ro, 0, .any⟩, ⟨14, 11, .ro, 0, .any⟩, ⟨15, 15, .ro, 0, .any⟩]⟩),
  (0x2004, ⟨.die, [⟨31, 0, .rw, 0, .zero⟩]⟩)]
/-- The SEAM_ block (R37, R451). -/
def regsSEAM : List (Nat × RegInfo) := regsSEAM0 ++ regsSEAM1

def regsUCI0 : List (Nat × RegInfo) := [
  (0x0, ⟨.link, [⟨2, 0, .ro, 0, .any⟩, ⟨6, 3, .ro, 0, .any⟩, ⟨9, 7, .ro, 0, .any⟩, ⟨10, 10, .ro, 0, .any⟩, ⟨11, 11, .ro, 0, .any⟩, ⟨14, 12, .ro, 0, .any⟩, ⟨18, 16, .ro, 0, .any⟩]⟩),
  (0x4, ⟨.warm, [⟨0, 0, .wo, 0, .any⟩, ⟨1, 1, .wo, 0, .any⟩]⟩),
  (0x8, ⟨.por, [⟨0, 0, .guy, 0, .any⟩]⟩),
  (0x10, ⟨.link, [⟨15, 0, .ro, 0, .any⟩, ⟨23, 16, .ro, 0, .any⟩, ⟨31, 24, .ro, 0, .any⟩]⟩),
  (0x14, ⟨.link, [⟨7, 0, .ro, 0, .any⟩, ⟨15, 8, .ro, 0, .any⟩, ⟨23, 16, .ro, 0, .any⟩, ⟨31, 24, .ro, 0, .any⟩]⟩),
  (0x18, ⟨.aon, [⟨7, 0, .ro, 0, .any⟩, ⟨15, 8, .ro, 0, .any⟩]⟩),
  (0x20, ⟨.link, [⟨31, 0, .rw, 0, .zero⟩]⟩),
  (0x24, ⟨.link, [⟨3, 0, .ro, 0, .any⟩, ⟨7, 4, .ro, 0, .any⟩, ⟨11, 8, .ro, 0, .any⟩, ⟨15, 12, .ro, 0, .any⟩, ⟨19, 16, .ro, 0, .any⟩]⟩),
  (0x28, ⟨.link, [⟨31, 0, .rw, 0, .zero⟩]⟩)]
/-- The UCI_ block (R37, R451). -/
def regsUCI : List (Nat × RegInfo) := regsUCI0

def regsCOL0 : List (Nat × RegInfo) := [
  (0x0, ⟨.warm, [⟨3, 0, .ro, 0, .any⟩, ⟨18, 8, .ro, 0, .any⟩]⟩),
  (0x10, ⟨.pin, [⟨7, 0, .ro, 0, .any⟩, ⟨15, 8, .ro, 0, .any⟩, ⟨23, 16, .ro, 0, .any⟩]⟩),
  (0x14, ⟨.warm, [⟨7, 0, .ro, 0, .any⟩, ⟨31, 8, .ro, 0, .any⟩]⟩),
  (0x20, ⟨.warm, [⟨15, 0, .rw, 4000, (.range 100 65535)⟩]⟩),
  (0x30, ⟨.warm, [⟨31, 0, .rw, 0, .zero⟩]⟩),
  (0x34, ⟨.warm, [⟨31, 0, .rw, 0, .zero⟩]⟩),
  (0x38, ⟨.warm, [⟨13, 0, .ro, 0, .any⟩, ⟨14, 14, .ro, 0, .any⟩, ⟨31, 31, .w1c, 0, .any⟩]⟩),
  (0x3C, ⟨.warm, [⟨31, 0, .ro, 0, .any⟩]⟩),
  (0x40, ⟨.warm, [⟨31, 0, .rw, 0, .zero⟩]⟩),
  (0x44, ⟨.warm, [⟨13, 0, .ro, 0, .any⟩, ⟨17, 14, .ro, 0, .any⟩, ⟨29, 18, .ro, 0, .any⟩, ⟨31, 31, .w1c, 0, .any⟩]⟩),
  (0x50, ⟨.warm, [⟨31, 0, .rw, 0, .zero⟩]⟩),
  (0x54, ⟨.warm, [⟨31, 0, .rw, 0, .zero⟩]⟩)]
/-- The COL_ block (R37, R451). -/
def regsCOL : List (Nat × RegInfo) := regsCOL0

def regsTRN0 : List (Nat × RegInfo) := [
  (0x0, ⟨.warm, [⟨0, 0, .ro, 0, .any⟩, ⟨1, 1, .ro, 0, .any⟩, ⟨14, 8, .ro, 0, .any⟩]⟩),
  (0x4, ⟨.warm, [⟨15, 0, .rw, 2000, (.range 100 10000)⟩, ⟨19, 16, .rw, 3, (.range 1 15)⟩]⟩),
  (0x8, ⟨.warm, [⟨19, 0, .ro, 0, .any⟩, ⟨31, 31, .w1c, 0, .any⟩]⟩),
  (0x10, ⟨.warm, [⟨31, 0, .rw, 0, .zero⟩]⟩),
  (0x14, ⟨.warm, [⟨31, 0, .rw, 0, .zero⟩]⟩),
  (0x18, ⟨.warm, [⟨31, 0, .rw, 0, .zero⟩]⟩),
  (0x1C, ⟨.warm, [⟨31, 0, .rw, 0, .zero⟩]⟩),
  (0x20, ⟨.warm, [⟨31, 0, .rw, 0, .zero⟩]⟩),
  (0x24, ⟨.warm, [⟨31, 0, .rw, 0, .zero⟩]⟩),
  (0x28, ⟨.warm, [⟨31, 0, .rw, 0, .zero⟩]⟩),
  (0x30, ⟨.warm, [⟨19, 0, .ro, 0, .any⟩, ⟨27, 20, .ro, 0, .any⟩, ⟨31, 31, .w1c, 0, .any⟩]⟩),
  (0x40, ⟨.warm, [⟨31, 0, .rw, 0, .zero⟩]⟩)]
def regsTRN1 : List (Nat × RegInfo) := [
  (0x44, ⟨.warm, [⟨11, 0, .rw, 0, .any⟩]⟩),
  (0x48, ⟨.warm, [⟨31, 0, .ro, 0, .any⟩]⟩),
  (0x4C, ⟨.warm, [⟨31, 0, .ro, 0, .any⟩]⟩),
  (0x50, ⟨.warm, [⟨31, 0, .ro, 0, .any⟩]⟩),
  (0x54, ⟨.warm, [⟨31, 0, .ro, 0, .any⟩]⟩),
  (0x58, ⟨.warm, [⟨15, 0, .ro, 0, .any⟩, ⟨16, 16, .ro, 0, .any⟩]⟩)]
/-- The TRN_ block (R37, R451). -/
def regsTRN : List (Nat × RegInfo) := regsTRN0 ++ regsTRN1

/-- The register table of a block. -/
def blockRegs : Blk → List (Nat × RegInfo)
  | .id => regsID
  | .pit => regsPIT
  | .wsq => regsWSQ
  | .flt => regsFLT
  | .ftc => regsFTC
  | .clk => regsCLK
  | .pwr => regsPWR
  | .thm => regsTHM
  | .sec => regsSEC
  | .dry => regsDRY
  | .lnk => regsLNK
  | .opt => regsOPT
  | .bel => regsBEL
  | .seam => regsSEAM
  | .uci => regsUCI
  | .col => regsCOL
  | .trn => regsTRN

/-- R37: the block, the repetition number and the offset in the block that a control address names; none outside
every window (R38). -/
def blockOf (a : Nat) : Option (Blk × Nat × Nat) :=
  if a < 0xA0000 then
    match a / 0x10000 with
    | 0 => some (.id, 0, a % 0x10000)
    | 1 => some (.pit, 0, a % 0x10000)
    | 2 => some (.wsq, 0, a % 0x10000)
    | 3 => some (.flt, 0, a % 0x10000)
    | 4 => some (.ftc, 0, a % 0x10000)
    | 5 => some (.clk, 0, a % 0x10000)
    | 6 => some (.pwr, 0, a % 0x10000)
    | 7 => some (.thm, 0, a % 0x10000)
    | 8 => some (.sec, 0, a % 0x10000)
    | _ => some (.dry, 0, a % 0x10000)
  else if 0x100000 ≤ a ∧ a < 0x120000 then some (.lnk, (a - 0x100000) / 0x1000, a % 0x1000)
  else if 0x200000 ≤ a ∧ a < 0x280000 then some (.opt, (a - 0x200000) / 0x10000, a % 0x10000)
  else if 0x300000 ≤ a ∧ a < 0x380000 then
    if a % 0x10000 < 0xC000 then some (.bel, (a - 0x300000) / 0x10000, a % 0x10000)
    else some (.seam, (a - 0x300000) / 0x10000, a % 0x10000 - 0xC000)
  else if 0x400000 ≤ a ∧ a < 0x480000 then some (.uci, (a - 0x400000) / 0x10000, a % 0x10000)
  else if 0x500000 ≤ a ∧ a < 0x510000 then some (.col, 0, a % 0x10000)
  else if 0x600000 ≤ a ∧ a < 0x610000 then some (.trn, 0, a % 0x10000)
  else none

/-- The register at a control address; none for an unassigned offset (R18). The flap and path registers of OPT_ exist
on Canopies 0 and 4 only (R451). -/
def regInfo? (a : Nat) : Option RegInfo :=
  match blockOf a with
  | none => none
  | some (b, n, off) =>
    if b = .opt ∧ 0xA0 ≤ off ∧ n ≠ 0 ∧ n ≠ 4 then none
    else (blockRegs b).lookup off

/-- The word a register holds at its reset value. -/
def resetWord (a : Nat) : Word :=
  match regInfo? a with
  | none => 0
  | some i => i.fields.foldl (fun w f => w ||| BitVec.ofNat 32 (f.rst <<< f.lo)) 0

end Sys2Proof.Machine
end

