-- ==== Sys2Proof/Machine/Flags.lean ====
section
/-!
DEFINITION. The status flags INEXACT, NONFINITE and SATURATED of a run (R72), at the bits that byte 2 of a completion gives them
(R90), and the flag byte of a collective message (R125).
-/

namespace Sys2Proof.Machine

/-- INEXACT, NONFINITE and SATURATED as bits [1], [2] and [3] (R90). -/
abbrev flInexact : Nat := 2
abbrev flNonfinite : Nat := 4
abbrev flSaturated : Nat := 8
abbrev flDetMixed : Nat := 16
abbrev flOutUndef : Nat := 32

/-- A flag raised where a condition holds. -/
def flagIf (c : Bool) (f : Nat) : Nat := if c then f else 0

/-- The OR of a list of flag sets. -/
def orAll (l : List Nat) : Nat := l.foldl (· ||| ·) 0

/-- The flags of a collective header (R125): bits [0] to [2] there are [1] to [3] of a completion, and [3] is DET_MIXED. -/
def flagsToHeader (f : Nat) : Nat := bits f 4 1
def flagsOfHeader (h : Nat) : Nat := (h % 16) * 2

end Sys2Proof.Machine
end

