-- ==== Sys2Proof/Machine/Numerics.lean ====
section
/-!
DEFINITION. Number formats and arithmetic (R59 to R71, R73): values as exact dyadic numbers, the element formats, one rounding
to nearest with ties to even, rows of operands and results, MX blocks, FP32 operations, block exponents, ESF.
-/

namespace Sys2Proof.Machine

/-- A value: finite ± m × 2^e (a zero keeps its sign), an infinity, or NaN. -/
inductive Num where
  | fin (neg : Bool) (m : Nat) (e : Int)
  | inf (neg : Bool)
  | nan
  deriving DecidableEq, Repr

def Num.zero : Num := .fin false 0 0
def Num.isNan : Num → Bool
  | .nan => true
  | _ => false
def Num.isFin : Num → Bool
  | .fin _ _ _ => true
  | _ => false
def Num.isZero : Num → Bool
  | .fin _ 0 _ => true
  | _ => false
def Num.neg : Num → Num
  | .fin s m e => .fin (!s) m e
  | .inf s => .inf (!s)
  | .nan => .nan
def Num.sign : Num → Bool
  | .fin s _ _ => s
  | .inf s => s
  | .nan => false

/-- The finite value i × 2^e; a zero is +0. -/
def Num.ofInt (i : Int) (e : Int) : Num := .fin (decide (i < 0)) i.natAbs e

/-- A signed integer from a sign and a magnitude. -/
def sgn (s : Bool) (m : Nat) : Int := if s then -(m : Int) else m

/-- floor(log2 (m × 2^e)) of a non-zero magnitude. -/
def ilog (m : Nat) (e : Int) : Int := (Nat.log2 m : Int) + e

/-- m × 2^e as a multiple of 2^q for q ≤ e. -/
def scaleTo (m : Nat) (e q : Int) : Nat := m * 2 ^ (e - q).toNat

/-- The order of two finite values. -/
def finLt (s : Bool) (m : Nat) (e : Int) (t : Bool) (n : Nat) (f : Int) : Bool :=
  let q := min e f
  decide (sgn s (scaleTo m e q) < sgn t (scaleTo n f q))

/-- a < b for values that are not NaN. -/
def Num.lt : Num → Num → Bool
  | .fin s m e, .fin t n f => finLt s m e t n f
  | .fin _ _ _, .inf t => !t
  | .inf s, .fin _ _ _ => s
  | .inf s, .inf t => s && !t
  | _, _ => false

/-- m × 2^e rounded to a multiple of 2^q, to nearest, ties to even. -/
def roundUnit (m : Nat) (e q : Int) : Nat :=
  if q ≤ e then scaleTo m e q
  else
    let sh := (q - e).toNat
    let d := m / 2 ^ sh
    let r := m % 2 ^ sh
    let h := 2 ^ (sh - 1)
    if h < r ∨ (r = h ∧ d % 2 = 1) then d + 1 else d

/-- m × 2^e rounded to a significand of P bits with gradual underflow below 2^emin (R63, R71): the significand and its exponent. -/
def roundSig (P : Nat) (emin : Int) (m : Nat) (e : Int) : Nat × Int :=
  if m = 0 then (0, emin)
  else
    let q := max (ilog m e - ((P : Int) - 1)) (emin - ((P : Int) - 1))
    (roundUnit m e q, q)

/-- A floating format (R59): field widths and bias. `ieee` formats keep the top exponent for infinities and NaNs; E4M3 keeps one
code of it for NaN; the others have neither. -/
structure FFmt where
  ebits : Nat
  mbits : Nat
  bias : Nat
  ieee : Bool
  deriving DecidableEq, Repr

def FFmt.emin (f : FFmt) : Int := 1 - (f.bias : Int)

/-- The floating formats of R59 by code; MXINT8 and ESF have none. -/
def ffmt? (c : Nat) : Option FFmt :=
  match c with
  | 0 => some ⟨4, 3, 7, false⟩
  | 1 => some ⟨5, 2, 15, true⟩
  | 2 => some ⟨3, 2, 3, false⟩
  | 3 => some ⟨2, 3, 1, false⟩
  | 4 => some ⟨2, 1, 1, false⟩
  | 8 => some ⟨8, 7, 127, true⟩
  | 9 => some ⟨5, 10, 15, true⟩
  | 10 => some ⟨8, 23, 127, true⟩
  | _ => none

/-- MX formats (R59, R60). -/
def isMx (c : Nat) : Bool := decide (c ≤ 5)

/-- Format codes that R59 does not reserve. -/
def fmtOk (c : Nat) : Bool := decide (c ≤ 5) || (decide (8 ≤ c) && decide (c ≤ 11))

/-- Bits of an element (R59). -/
def elemBits (c : Nat) : Nat :=
  if c ≤ 1 then 8 else if c ≤ 3 then 6 else if c = 4 then 4 else if c = 5 then 8 else if c ≤ 9 then 16 else if c = 10 then 32 else 128

/-- emax and β of an MX format (R59). -/
def mxEmax (c : Nat) : Int := if c = 0 then 8 else if c = 1 then 15 else if c = 2 then 4 else if c = 3 then 2 else if c = 4 then 2 else 0
def mxBeta (c : Nat) : Int := if c = 5 then 1 else mxEmax c

/-- The value of an element code (R59, R62), scale apart. -/
def decodeElem (c code : Nat) : Num :=
  match ffmt? c with
  | none => .fin (decide (signed 8 code < 0)) (signed 8 code).natAbs (-6)
  | some f =>
    let s := bit code (f.ebits + f.mbits)
    let ex := code / 2 ^ f.mbits % 2 ^ f.ebits
    let fr := code % 2 ^ f.mbits
    if f.ieee ∧ ex = 2 ^ f.ebits - 1 then (if fr = 0 then .inf s else .nan)
    else if c = 0 ∧ ex = 15 ∧ fr = 7 then .nan
    else if ex = 0 then .fin s fr (f.emin - f.mbits)
    else .fin s (2 ^ f.mbits + fr) ((ex : Int) - f.bias - f.mbits)

/-- The code of the largest finite magnitude of a format. -/
def maxCode (c : Nat) (f : FFmt) : Nat :=
  if c = 0 then 0x7E
  else if f.ieee then (2 ^ f.ebits - 1) * 2 ^ f.mbits - 1
  else 2 ^ (f.ebits + f.mbits) - 1

/-- The infinity and NaN codes of R63's table. -/
def infCode (f : FFmt) : Nat := (2 ^ f.ebits - 1) * 2 ^ f.mbits
def nanCode (c : Nat) (f : FFmt) : Nat :=
  if c = 0 ∨ c = 1 then 0x7F else infCode f + 2 ^ (f.mbits - 1)

/-- Magnitude code of a rounded significand d × 2^q that is within range. -/
def magCode (f : FFmt) (d : Nat) (q : Int) : Nat :=
  if d = 0 then 0
  else
    let lg := ilog d q
    if lg < f.emin then scaleTo d q (f.emin - f.mbits)
    else ((lg + f.bias).toNat) * 2 ^ f.mbits + (scaleTo d q (min q (lg - f.mbits))) / 2 ^ (lg - f.mbits - min q (lg - f.mbits)).toNat % 2 ^ f.mbits

/-- Conversion of a value into an element code, and whether the result saturates (R63). A NaN into E3M2, E2M3, E2M1 or MXINT8 is
written through the block scale. -/
def encodeElem (c : Nat) (sat : Bool) (x : Num) : Nat × Bool :=
  match ffmt? c with
  | none =>
    let put (s : Bool) (n : Nat) : Nat := unsigned 8 (sgn s n)
    match x with
    | .nan => (0, false)
    | .inf s => (put s 127, true)
    | .fin s m e =>
      let d := roundUnit m e (-6)
      if 127 < d then (put s 127, true) else (put s d, false)
  | some f =>
    let sb (s : Bool) : Nat := if s then 2 ^ (f.ebits + f.mbits) else 0
    let mx := maxCode c f
    match x with
    | .nan => if c = 2 ∨ c = 3 ∨ c = 4 then (0, false) else (nanCode c f, false)
    | .inf s => if f.ieee then (sb s + infCode f, false) else (sb s + mx, true)
    | .fin s m e =>
      let r := roundSig (f.mbits + 1) f.emin m e
      let top := match decodeElem c mx with
        | .fin _ mm me => finLt false mm me false r.1 r.2
        | _ => false
      if top then (if f.ieee ∧ !sat then (sb s + infCode f, false) else (sb s + mx, true))
      else (sb s + magCode f r.1 r.2, false)

/-- A value multiplied by 2^k. -/
def Num.shift (x : Num) (k : Int) : Num :=
  match x with
  | .fin s m e => .fin s m (e + k)
  | y => y

/-- R64: the scale byte, the element codes and the saturation flag of one block of an MX output. -/
def encodeBlock (c : Nat) (sat : Bool) (vs : List Num) : Nat × List Nat × Bool :=
  if vs.any (·.isNan) ∧ (2 ≤ c) then (255, vs.map (fun _ => 0), false)
  else
    let tops := vs.filterMap fun v => match v with
      | .fin _ m e => if m = 0 then none else some (ilog m e)
      | _ => none
    match tops with
    | [] => let es := vs.map (encodeElem c sat); (0, es.map (·.1), es.any (·.2))
    | t :: ts =>
      let X := max (-127) (min 127 (ts.foldl max t - mxEmax c))
      let es := vs.map (fun v => encodeElem c sat (v.shift (-X)))
      ((X + 127).toNat, es.map (·.1), es.any (·.2))

/-- Lists cut into blocks of 32. `n` is the number of blocks. -/
def blocks32 {α : Type} (l : List α) : Nat → List (List α)
  | 0 => []
  | n + 1 => l.take 32 :: blocks32 (l.drop 32) n
def nblk (k : Nat) : Nat := (k + 31) / 32

/-- Element codes laid into bytes (R61). -/
def packCodes (c : Nat) (codes : List Nat) : List Byte :=
  let w := elemBits c
  if w % 8 = 0 then codes.flatMap (le (w / 8))
  else
    let total := codes.foldr (fun x acc => x % 2 ^ w + 2 ^ w * acc) 0
    le ((codes.length * w + 7) / 8) total

/-- Element codes read from bytes (R61). -/
def unpackCodes (c k : Nat) (l : List Byte) : List Nat :=
  let w := elemBits c
  if w % 8 = 0 then (List.range k).map (fun i => leAt l (i * (w / 8)) (w / 8))
  else
    let n := leNat (l.take ((k * w + 7) / 8))
    (List.range k).map (fun i => n / 2 ^ (w * i) % 2 ^ w)

/-- Bytes of the elements of a row of k, whole blocks of an MX format (R76), and of the row before padding (R61). -/
def dataLen (c k : Nat) : Nat := if isMx c then nblk k * (32 * elemBits c / 8) else (k * elemBits c + 7) / 8
def rowLen (c k : Nat) : Nat := dataLen c k + (if isMx c then nblk k else 0)

/-- The row stride of R453: the packed length rounded up to a multiple of 64. -/
def rowStride (c k : Nat) : Nat := alignUp (rowLen c k) 64

/-- One operand row: its element values, and the scale byte of each block (127, which is 2^0, where the format has none). -/
structure Row where
  elems : List Num
  scales : List Nat
  deriving DecidableEq, Repr

/-- A row read from its bytes (R60, R61). -/
def readRow (c k : Nat) (l : List Byte) : Row :=
  ⟨(unpackCodes c k l).map (decodeElem c),
   if isMx c then (List.range (nblk k)).map (fun i => leAt l (dataLen c k + i) 1) else List.replicate (nblk k) 127⟩

/-- The values of a row with the scales applied; every element under a NaN scale is NaN (R60). -/
def Row.values (r : Row) : List Num :=
  ((blocks32 r.elems r.scales.length).zip r.scales).flatMap fun (es, s) =>
    if s = 255 then es.map (fun _ => .nan) else es.map (·.shift ((s : Int) - 127))

/-- A row of values written in an output format other than ESF (R61, R63, R64), and its flags. The unused element positions of a final MX block are
zero (R76). -/
def writeRow (c : Nat) (sat : Bool) (vs : List Num) : List Byte × Nat :=
  if isMx c then
    let bs := (blocks32 vs (nblk vs.length)).map (encodeBlock c sat)
    let raw := fit (dataLen c vs.length) (packCodes c (bs.flatMap (·.2.1))) ++ bs.map (fun b => BitVec.ofNat 8 b.1)
    (fit (rowStride c vs.length) raw, flagIf (bs.any (·.2.2)) flSaturated)
  else
    let es := vs.map (encodeElem c sat)
    (packCodes c (es.map (·.1)), flagIf (es.any (·.2)) flSaturated)

/-- NONFINITE where a value is NaN. -/
def nanFlag (vs : List Num) : Nat := flagIf (vs.any (·.isNan)) flNonfinite

/-- A value rounded to FP32, to nearest, ties to even, with subnormals and overflow to ±∞. -/
def f32 (x : Num) : Num :=
  match x with
  | .fin s m e =>
    let r := roundSig 24 (-126) m e
    if finLt false (2 ^ 24 - 1) 104 false r.1 r.2 then .inf s else .fin s r.1 r.2
  | y => y

/-- Exact sum of two values with the IEEE rules for infinities and signed zeros. -/
def Num.add (a b : Num) : Num :=
  match a, b with
  | .nan, _ => .nan
  | _, .nan => .nan
  | .inf s, .inf t => if s = t then .inf s else .nan
  | .inf s, _ => .inf s
  | _, .inf t => .inf t
  | .fin s m e, .fin t n f =>
    if m = 0 ∧ n = 0 then .fin (s && t) 0 0
    else let q := min e f; .ofInt (sgn s (scaleTo m e q) + sgn t (scaleTo n f q)) q

/-- Exact product with the IEEE rules. -/
def Num.mul (a b : Num) : Num :=
  match a, b with
  | .nan, _ => .nan
  | _, .nan => .nan
  | .inf s, .inf t => .inf (s != t)
  | .inf s, .fin t n _ => if n = 0 then .nan else .inf (s != t)
  | .fin s m _, .inf t => if m = 0 then .nan else .inf (s != t)
  | .fin s m e, .fin t n f => .fin (s != t) (m * n) (e + f)

/-- FP32 addition, subtraction and multiplication, and fused multiply-add (R73). -/
def fadd (a b : Num) : Num := f32 (a.add b)
def fsub (a b : Num) : Num := f32 (a.add b.neg)
def fmul (a b : Num) : Num := f32 (a.mul b)
def ffma (a b c : Num) : Num := f32 ((a.mul b).add c)

/-- The FP32 value nearest to ± n / d × 2^e; a remainder enters as a sticky bit below every rounding position. -/
def roundRat (s : Bool) (n d : Nat) (e : Int) : Num :=
  let k := 64 + Nat.log2 d
  let q := n * 2 ^ k / d
  f32 (.fin s (2 * q + b2n (n * 2 ^ k % d != 0)) (e - k - 1))

/-- FP32 division (R73). -/
def fdiv (a b : Num) : Num :=
  match a, b with
  | .nan, _ => .nan
  | _, .nan => .nan
  | .inf _, .inf _ => .nan
  | .inf s, .fin t _ _ => .inf (s != t)
  | .fin s _ _, .inf t => .fin (s != t) 0 0
  | .fin s m e, .fin t n f =>
    if n = 0 then (if m = 0 then .nan else .inf (s != t))
    else if m = 0 then .fin (s != t) 0 0 else roundRat (s != t) m n (e - f)

/-- The integer square root, one bit per step from bit k - 1 down. -/
def isqrtGo (n : Nat) : Nat → Nat → Nat
  | 0, r => r
  | k + 1, r => isqrtGo n k (if (r + 2 ^ k) * (r + 2 ^ k) ≤ n then r + 2 ^ k else r)
def isqrt (n : Nat) : Nat := isqrtGo n (Nat.log2 n / 2 + 1) 0

/-- FP32 square root (R73). -/
def fsqrt (a : Num) : Num :=
  match a with
  | .nan => .nan
  | .inf s => if s then .nan else .inf false
  | .fin s m e =>
    if m = 0 then .fin s 0 0
    else if s then .nan
    else
      let m2 := if e % 2 = 0 then m else 2 * m
      let e2 := if e % 2 = 0 then e else e - 1
      let n := m2 * 4 ^ 64
      let r := isqrt n
      f32 (.fin false (2 * r + b2n (r * r != n)) (e2 / 2 - 64 - 1))

/-- Exact sum of finite dyadic values as an integer multiple of 2^q, q the least exponent. -/
def sumExact (l : List (Int × Int)) : Num :=
  match l with
  | [] => .zero
  | x :: t =>
    let q := t.foldl (fun a y => min a y.2) x.2
    .ofInt (l.foldl (fun a y => a + y.1 * 2 ^ (y.2 - q).toNat) 0) q

/-- The exact sum of a block's products (R65), with the IEEE rules for the rest (R62). -/
def sumNums (l : List Num) : Num :=
  if l.all (·.isFin) then
    sumExact (l.filterMap fun v => match v with
      | .fin s m e => if m = 0 then none else some (sgn s m, e)
      | _ => none)
  else if l.any (·.isNan) then .nan
  else if l.any (· == Num.inf false) ∧ l.any (· == Num.inf true) then .nan
  else .inf (l.any (· == Num.inf true))

/-- R65: one block pair's products summed exactly, scaled, and rounded once to FP32. -/
def blockDot (a b : List Num) (sa sb : Nat) : Num :=
  if sa = 255 ∨ sb = 255 then .nan
  else f32 ((sumNums ((a.zip b).map fun p => p.1.mul p.2)).shift ((sa : Int) + sb - 254))

/-- R65: the Ordered dot product of two rows. -/
def orderedDot (a b : Row) : Num :=
  let n := a.scales.length
  let prs := ((blocks32 a.elems n).zip (blocks32 b.elems n)).zip (a.scales.zip b.scales)
  prs.foldl (fun acc p => fadd acc (blockDot p.1.1 p.1.2 p.2.1 p.2.2)) Num.zero

/-- floor(log2 |x|) of the largest non-zero finite value (R69). -/
def topExp (vs : List Num) : Option Int :=
  vs.foldl (fun a v => match v with
    | .fin _ m e => if m = 0 then a else match a with
      | none => some (ilog m e)
      | some t => some (max t (ilog m e))
    | _ => a) none

/-- One side's part of a block exponent (R69). -/
def sideExp (c : Nat) (s : Nat) (es : List Num) : Option Int :=
  if isMx c then (if s = 255 then none else some ((s : Int) - 127 + mxBeta c)) else topExp es

/-- Eb of a block pair (R69). -/
def blockExp (ca cb : Nat) (sa sb : Nat) (ea eb : List Num) : Option Int :=
  match sideExp ca sa ea, sideExp cb sb eb with
  | some x, some y => some (x + y + 1)
  | _, _ => none

/-- The largest of optional exponents. -/
def maxOpt (l : List (Option Int)) : Option Int :=
  l.foldl (fun a o => match a, o with
    | none, y => y
    | x, none => x
    | some x, some y => some (max x y)) none

/-- The largest Eb over the block pairs of one output (R70). -/
def rowExp (ca cb : Nat) (a b : Row) : Option Int :=
  let n := a.scales.length
  maxOpt (((blocks32 a.elems n).zip (blocks32 b.elems n)).zip (a.scales.zip b.scales) |>.map fun p =>
    blockExp ca cb p.2.1 p.2.2 p.1.1 p.1.2)

/-- The ESF NaN marker (R66). -/
def esfNan : Int := -(2 ^ 127)

/-- An ESF value as a number (R66, R71). -/
def esfNum (i : Int) (a : Int) : Num := if i = esfNan then .nan else .ofInt i (a - 95)

/-- trunc(t / 2^(A - 95)) of one term, and whether a non-zero bit falls below bit 0 (R67). -/
def esfTerm (x : Num) (a : Int) : Option (Int × Bool) :=
  match x with
  | .fin s m e =>
    let q := a - 95
    if q ≤ e then some (sgn s (scaleTo m e q), false)
    else let d := 2 ^ (q - e).toNat; some (sgn s (m / d), m % d != 0)
  | _ => none

/-- Two ESF integers added; the marker absorbs (R67, R128). -/
def esfAdd (x y : Int) : Int := if x = esfNan ∨ y = esfNan then esfNan else x + y

/-- Terms summed against an anchor (R67): I and the flags. -/
def esfSum (terms : List Num) (a : Int) : Int × Nat :=
  terms.foldl (fun acc t => match esfTerm t a with
    | none => (esfNan, acc.2 ||| flNonfinite)
    | some (i, ix) => (esfAdd acc.1 i, acc.2 ||| flagIf ix flInexact)) (0, 0)

/-- The element products of two rows with their scales: the terms of R67. -/
def rowTerms (a b : Row) : List Num := (a.values.zip b.values).map fun p => p.1.mul p.2

/-- R67 and R70 under a given anchor: none where a block pair reaches it (ANCHOR_LOW), else I and flags. -/
def exactDot (ca cb : Nat) (a b : Row) (anchor : Int) (given : Bool) : Option (Int × Nat) :=
  match rowExp ca cb a b with
  | none =>
    let r := esfSum (rowTerms a b) anchor
    some (r.1, r.2)
  | some e => if given ∧ anchor ≤ e then none else some (esfSum (rowTerms a b) anchor)

/-- The LOCAL anchor (R70). -/
def localAnchor (o : Option Int) : Int :=
  match o with
  | none => 0
  | some e => e + 1

/-- The sum of values in Exact mode with a LOCAL anchor (R73, R69 last row): as a number, with flags. -/
def esfSumLocal (vs : List Num) : Num × Nat :=
  let a := localAnchor (topExp vs)
  let r := esfSum vs a
  (esfNum r.1 a, r.2)

/-- The sum of values that the vector unit forms (R73). -/
def vectorSum (exact : Bool) (vs : List Num) : Num × Nat :=
  if exact then let r := esfSumLocal vs; (f32 r.1, r.2)
  else let r := vs.foldl fadd Num.zero; (r, nanFlag [r])

/-- 16 bytes of an ESF integer, and the integer they hold (R66). -/
def esfBytes (i : Int) : List Byte := le 16 (unsigned 128 i)
def esfInt (l : List Byte) : Int := signed 128 (leNat (l.take 16))

/-- A signed 16-bit value in two bytes. -/
def i16 (i : Int) : List Byte := le 2 (unsigned 16 i)

/-- FP32 from its bit pattern. -/
def ofF32 (n : Nat) : Num := decodeElem 10 n

end Sys2Proof.Machine
end

