-- ==== Sys2Proof/Machine/Operands.lean ====
section
/-!
DEFINITION. Operation descriptors (R77): their fields, the operand forms of every operation (R75, R452 to R454) with the areas they
read and write, and the limits that R78 checks.
-/

namespace Sys2Proof.Machine

/-- An operation descriptor (R77). -/
structure Desc where
  opcode : Nat
  exact : Bool
  sat : Bool
  anchorSrc : Nat
  overlap : Bool
  fmtA : Nat
  fmtB : Nat
  fmtOut : Nat
  space : Nat
  clusterMask : Nat
  bseMask : Nat
  n : Nat
  k : Nat
  m : Nat
  aux0 : Nat
  aux1 : Nat
  aOff : Nat
  bOff : Nat
  outOff : Nat
  aStride : Nat
  anchorArg : Nat
  collId : Nat
  next : Nat
  faddr : Nat
  rsvZero : Bool
  crcOk : Bool
  deriving DecidableEq, Repr

/-- The descriptor in 64 bytes (R77). -/
def Desc.decode (l : List Byte) : Desc :=
  let n := leAt l
  { opcode := n 0 1, exact := bit (n 1 1) 0, sat := bit (n 1 1) 1, anchorSrc := bits (n 1 1) 3 2, overlap := bit (n 1 1) 4,
    fmtA := bits (n 2 1) 3 0, fmtB := bits (n 2 1) 7 4, fmtOut := bits (n 3 1) 3 0, space := bits (n 3 1) 6 4,
    clusterMask := n 4 2, bseMask := n 6 2, n := n 8 4, k := n 12 4, m := n 16 2, aux0 := n 18 2, aux1 := n 20 4,
    aOff := n 24 4, bOff := n 28 4, outOff := n 32 4, aStride := n 36 4, anchorArg := n 40 4, collId := n 44 4, next := n 48 2,
    faddr := n 50 8, rsvZero := bits (n 1 1) 7 5 == 0 && !bit (n 3 1) 7 && n 58 2 == 0,
    crcOk := n 60 4 == crc32 ((fit 64 l).take 60) }

/-- A descriptor whose operation has an output and names a collective for it (R75, R77). -/
def Desc.sends (d : Desc) : Bool := d.space == 2 && [0x01, 0x02, 0x03, 0x04, 0x05, 0x06, 0x07, 0x08, 0x0A, 0x0D].contains d.opcode

/-- The clusters a descriptor selects, ascending. -/
def Desc.clusters (d : Desc) : List Nat := (List.range 16).filter (fun c => bit d.clusterMask c)

/-- The BSEs of each selected cluster, ascending. -/
def Desc.bses (d : Desc) : List Nat := (List.range 16).filter (fun i => bit d.bseMask i)

/-- The selected BSEs in the order of R452, as (cluster, BSE). -/
def Desc.sel (d : Desc) : List (Nat × Nat) := d.clusters.flatMap (fun c => d.bses.map (fun i => (c, i)))

/-- The logical BSE number of BSE i of cluster c (R29). -/
def bseNum (c i : Nat) : Nat := 16 * c + i

/-- The lowest selected BSE, where a cluster-level region output goes (R452). -/
def Desc.lowBse (d : Desc) : Nat := d.bses.headD 0

/-- The pool an ATTN or KV_APPEND names (R453). -/
def Desc.poolNum (d : Desc) : Nat := if d.opcode = 0x0B then d.aux0 % 64 else bits d.aux0 13 8

/-- The pool record of a number on a Bell, mirrors apart (R153). -/
def Store.poolOf (st : Store) (b q : Nat) : Option Pool := st.pools.find? (fun p => p.bell == b && p.pool == q && !p.isMirror)

/-- H of R453: the heads of a pool on the selected BSEs. -/
def Desc.heads (d : Desc) (p : Pool) : Nat := d.bses.length * p.heads

/-- Elements of one ATTN query or output row, and of one KV_APPEND input row (R453). -/
def Desc.attnRow (d : Desc) (p : Pool) : Nat := d.heads p * (bits d.aux0 7 4 + 1) * p.headDim
def Desc.kvRow (d : Desc) (p : Pool) : Nat := d.heads p * 2 * p.headDim

/-- Bytes of one output row of MATMUL and EXPMAX (R76). -/
def Desc.outRow (d : Desc) : Nat :=
  if d.opcode = 0x0D then 2 * d.n else if isMx d.fmtOut then rowStride d.fmtOut d.n else dataLen d.fmtOut d.n

/-- Where an operand lies: the region of each selected BSE, the region of each cluster's lowest selected BSE, or the cluster
buffer. -/
inductive Place where
  | region | lowest | cbuf
  deriving DecidableEq, Repr

/-- An operand or output area of a descriptor. -/
structure Area where
  out : Bool
  place : Place
  off : Nat
  len : Nat
  deriving DecidableEq, Repr

/-- The place that OUT_SPACE 0 or 1 names, for operations of the BSEs and of the clusters (R452). -/
def Desc.outPlace (d : Desc) : Option Place :=
  if d.space = 0 then some .cbuf
  else if d.space = 1 then some (if d.opcode = 0x01 ∨ d.opcode = 0x02 ∨ d.opcode = 0x0D then .region else .lowest)
  else none

/-- An output area where OUT_SPACE names memory. -/
def Desc.outArea (d : Desc) (len : Nat) : List Area :=
  match d.outPlace with
  | some p => [⟨true, p, d.outOff, len⟩]
  | none => []

/-- The second operand of ELTWISE is read (R75). -/
def Desc.eltTwo (d : Desc) : Bool := d.aux0 == 0 || d.aux0 == 1 || d.aux0 == 4

/-- The output areas and operand areas of a descriptor (R75, R76, R452 to R454), with the pool of an ATTN or KV_APPEND. A MOE_DISPATCH does not say
how many experts its table has, so the table counts with its first entry (DESIGN CHOICE, log entry 167). -/
def Desc.areas (d : Desc) (pool : Option Pool) : List Area :=
  let inC (off len : Nat) : Area := ⟨false, .cbuf, off, len⟩
  let rows (f w : Nat) : Nat := d.m * rowStride f w
  let nb := d.sel.length
  match d.opcode with
  | 0x01 =>
    [⟨false, .region, d.aOff, (d.n - 1) * d.aStride + rowLen d.fmtA d.k⟩, inC d.bOff (rows d.fmtB d.k)]
      ++ d.outArea (nb * d.m * d.outRow)
      ++ (if d.exact ∧ d.anchorSrc = 1 then [inC d.anchorArg (2 * ((if d.space = 2 then d.outOff else 0) + nb * d.m * d.n))]
          else if d.exact ∧ d.anchorSrc = 0 ∧ d.fmtOut = 11 then [⟨true, .cbuf, d.anchorArg, 2 * nb * d.m * d.n⟩] else [])
  | 0x0D =>
    [⟨false, .region, d.aOff, (d.n - 1) * d.aStride + rowLen d.fmtA d.k⟩, inC d.bOff (rows d.fmtB d.k)]
      ++ d.outArea (nb * d.m * d.outRow)
  | 0x02 => match pool with
    | none => []
    | some p => [inC d.collId 65556, inC d.bOff (rows d.fmtB (d.attnRow p))] ++
      (if d.space = 0 then [⟨true, .cbuf, d.outOff, rows d.fmtOut (d.attnRow p)⟩]
       else if d.space = 1 then [⟨true, .lowest, d.outOff, rows d.fmtOut (d.attnRow p)⟩] else [])
  | 0x03 => [inC d.aOff (rows d.fmtA d.k)] ++ d.outArea (rows d.fmtOut d.k)
  | 0x04 => [inC d.aOff (rowLen d.fmtA d.k), inC d.bOff (rows d.fmtB d.k)] ++ d.outArea (rows d.fmtOut d.k)
  | 0x05 => [inC d.aOff (rows d.fmtA (d.n * d.k))] ++ d.outArea (rows d.fmtOut (d.n * d.k))
  | 0x06 => [inC d.aOff (rows d.fmtA d.k)] ++ (if d.eltTwo then [inC d.bOff (rows d.fmtB d.k)] else []) ++ d.outArea (rows d.fmtOut d.k)
  | 0x07 => [inC d.aOff (rows d.fmtA d.k)] ++ (if d.fmtA = 11 then [inC d.anchorArg (2 * d.m * d.k)] else [])
      ++ (if d.fmtOut = 11 then [⟨true, .cbuf, d.anchorArg, 2 * d.m * d.k⟩] else []) ++ d.outArea (rows d.fmtOut d.k)
  | 0x08 => [inC d.aOff (rows d.fmtA d.k)] ++ d.outArea (d.m * alignUp (8 * (d.aux0 % 64)) 64)
  | 0x09 => [inC d.aOff (rows d.fmtA d.k), inC d.bOff (d.m * alignUp (8 * (d.aux0 % 64)) 64), inC d.collId 16]
  | 0x0A => [inC d.aOff (rows d.fmtA d.k)] ++ d.outArea (4 * d.m)
  | 0x0B => match pool with
    | none => []
    | some p => [inC d.aOff (rows d.fmtA (d.kvRow p))]
  | 0x0C =>
    let rev := bit d.aux0 0
    let loc : Place := if bits d.aux0 2 1 = 0 then .region else .cbuf
    let far : List Area :=
      if d.space = 0 then [⟨!rev, .cbuf, d.outOff, d.k⟩]
      else if d.space = 1 then [⟨!rev, if bits d.aux0 2 1 = 0 then .region else .lowest, d.outOff, d.k⟩] else []
    ⟨rev, loc, d.aOff, d.k⟩ :: far
  | _ => []

/-- An area lies in its region or in the 4 MiB cluster buffer. -/
def Area.fits (a : Area) : Bool :=
  a.len == 0 || decide (a.off + a.len ≤ match a.place with
    | .cbuf => 0x400000
    | _ => 375000000)

/-- The bytes of an area in its Bell, as (Bell offset, length) (R29). -/
def Desc.spans (d : Desc) (a : Area) : List (Nat × Nat) :=
  match a.place with
  | .region => d.sel.map fun ci => (bseOff' (bseNum ci.1 ci.2) a.off, a.len)
  | .lowest => d.clusters.map fun c => (bseOff' (bseNum c d.lowBse) a.off, a.len)
  | .cbuf => d.clusters.map fun c => (0x4000000000 + c * 0x400000 + a.off, a.len)
where
  bseOff' (n o : Nat) : Nat := n / 64 * 0x800000000 + n % 64 * 0x20000000 + o

/-- R453: the pool is declared, lies on the single selected cluster with the same BSE mask, and agrees in format and head
dimension. -/
def Desc.poolOk (d : Desc) (pool : Option Pool) : Bool :=
  match pool with
  | none => false
  | some p => d.clusterMask == 2 ^ p.cluster && d.bseMask == p.mask && d.fmtA == p.fmt &&
      (if d.opcode = 0x0B then d.fmtOut == p.fmt else 64 * 2 ^ (d.aux0 % 4) == p.headDim)

/-- Reason 0x02: the formats that R75 allows the operation. -/
def Desc.formatsOk (d : Desc) : Bool :=
  let mmIn (c : Nat) : Bool := fmtOk c && c != 11
  let vec (c : Nat) : Bool := c == 8 || c == 10
  let kv (c : Nat) : Bool := c == 0 || c == 1 || c == 8
  match d.opcode with
  | 0x01 => mmIn d.fmtA && mmIn d.fmtB && fmtOk d.fmtOut && !(d.fmtOut == 11 && !d.exact)
  | 0x02 => kv d.fmtA && vec d.fmtB && vec d.fmtOut
  | 0x03 => vec d.fmtA && vec d.fmtOut
  | 0x04 => vec d.fmtA && vec d.fmtB && vec d.fmtOut
  | 0x05 => vec d.fmtA && vec d.fmtOut
  | 0x06 => vec d.fmtA && vec d.fmtOut && (!d.eltTwo || vec d.fmtB)
  | 0x07 => fmtOk d.fmtA && fmtOk d.fmtOut
  | 0x08 => vec d.fmtA
  | 0x09 => fmtOk d.fmtA
  | 0x0A => vec d.fmtA
  | 0x0B => kv d.fmtA && kv d.fmtOut
  | 0x0D => mmIn d.fmtA && mmIn d.fmtB
  | _ => true

/-- Reason 0x03: the shape limits of R75, and R78's bound on N × K × M. -/
def Desc.shapeOk (d : Desc) : Bool :=
  let within (v lo hi : Nat) : Bool := decide (lo ≤ v) && decide (v ≤ hi)
  let m256 := within d.m 1 256
  match d.opcode with
  | 0x01 => within d.n 1 65536 && within d.k 32 1048576 && m256 && decide (d.n * d.k * d.m * d.sel.length ≤ 0xFFFFFFFF)
  | 0x0D => within d.n 1 65536 && within d.k 32 1048576 && m256 && decide (d.n * d.k * d.m * d.sel.length ≤ 0xFFFFFFFF)
  | 0x02 => d.aux0 % 4 != 3 && within d.k 1 16384 && m256
  | 0x03 => m256 && within d.k 1 1048576
  | 0x04 => m256 && within d.k 1 65536
  | 0x05 => (d.k == 64 || d.k == 128 || d.k == 256) && d.aux0 % 2 == 0 && within d.aux0 2 d.k && within d.n 1 64 && m256
  | 0x06 => decide (d.aux0 ≤ 4) && decide (d.k * d.m ≤ 4194304)
  | 0x08 => within d.k 2 1024 && within (d.aux0 % 64) 1 16 && m256
  | 0x09 => m256 && within (d.aux0 % 64) 0 16
  | 0x0A => within d.k 2 1048576 && m256
  | 0x0B => within d.m 1 (if d.space = 3 then 32 else 256)
  | 0x0C => within d.k 64 67108864 && d.k % 64 == 0
  | _ => true

/-- Reason 0x04: K a multiple of 32 where the operation requires it. -/
def Desc.k32Ok (d : Desc) : Bool :=
  if d.opcode = 0x01 ∨ d.opcode = 0x0D ∨ (d.opcode = 0x07 ∧ isMx d.fmtOut) then d.k % 32 == 0 else true

/-- Reason 0x05: every area fits, and the pool of R453. -/
def Desc.extentOk (d : Desc) (pool : Option Pool) : Bool :=
  (d.areas pool).all (·.fits) && (!(d.opcode == 0x02 || d.opcode == 0x0B) || d.poolOk pool)

/-- Reason 0x06: reserved fields and values. -/
def Desc.reservedOk (d : Desc) : Bool :=
  d.rsvZero && d.anchorSrc != 3 && decide (d.space ≤ 4) && (d.space != 4 || d.opcode == 0x0C)
    && !(d.opcode == 0x0C && (decide (2 ≤ bits d.aux0 2 1) || d.space == 2 || d.space == 3))
    && (d.anchorSrc != 2 || d.opcode != 0x01 || decide (d.anchorArg < 65536))
    && (d.faddr == 0 || (d.opcode == 0x0C && d.space == 4))

/-- The first failing reason of R78 for one descriptor: its CRC, then the others in ascending code, 0x08 apart. -/
def Desc.reason (d : Desc) (pool : Option Pool) (live : Bool) : Option Nat :=
  if !d.crcOk then some 7
  else if 0x0E < d.opcode then some 1
  else if !d.formatsOk then some 2
  else if !d.shapeOk then some 3
  else if !d.k32Ok then some 4
  else if !d.extentOk pool then some 5
  else if !d.reservedOk then some 6
  else if !live then some 9
  else none

/-- R452: elements a descriptor with OUT_SPACE 2 contributes to its instance. An expert number and a gate weight are two elements, and a sampled token
one (DESIGN CHOICE, log entry 171). -/
def Desc.elements (d : Desc) (pool : Option Pool) : Nat :=
  if d.opcode = 0x01 ∨ d.opcode = 0x0D then d.sel.length * d.n * d.m
  else if d.opcode = 0x02 then d.m * pool.elim 0 d.attnRow
  else if d.opcode = 0x05 then d.m * d.n * d.k
  else if d.opcode = 0x08 then d.m * 2 * (d.aux0 % 64)
  else if d.opcode = 0x0A then d.m
  else d.m * d.k

/-- R452: the collective is declared, every selected cluster belongs to a rank on this device, and every element lies below
ELEMS. -/
def Desc.collOk (d : Desc) (img : Store) (b : Nat) : Bool :=
  match img.coll? d.collId with
  | none => false
  | some c => d.clusters.all (fun k => c.locals.any (fun r => r.die == b + 1 && bit r.clusters k))
      && decide (d.outOff + d.elements (img.poolOf b d.poolNum) ≤ c.elems)

/-- What R136 requires of a contribution to a SUM in Class E: the collective is EXACT, and a MATMUL takes the anchors of the collective's phase 1 or its
static one. -/
def Desc.classE (d : Desc) (c : Coll) : Bool :=
  c.mode == 0 && (d.opcode != 1 || (if c.isStatic then d.anchorSrc == 2 && signed 16 (d.anchorArg % 65536) == c.staticA
    else d.anchorSrc == 1 && d.anchorArg == c.anchorDest))

/-- A descriptor's use of its collective is one that its run may make, after the run's descriptors `before` (R123, R133, R136): the second use of one
COLL_ID is none but the sum that follows phase 1; Class E and O take no ARRIVAL; in Class E a MATMUL whose anchors are GIVEN follows an EXPMAX of that
collective (DEDUCED, log entry 177). -/
def Store.useOk (st : Store) (cls : Nat) (before : List Desc) (d : Desc) : Bool :=
  let earlier := before.filter fun e => e.sends && e.collId == d.collId
  let phase1 := d.opcode == 0x0D
  !d.sends || match st.coll? d.collId with
    | none => true
    | some c => (earlier.all fun e => (e.opcode == 0x0D) != phase1)
        && (c.op != 0 || ((decide (2 ≤ cls) || c.mode != 2)
          && (cls != 0 || phase1 || (d.classE c && (c.isStatic || d.opcode != 1 || earlier.any fun e => e.opcode == 0x0D)))))

/-- A SAMPLE's logits were gathered (R107, R136): its rows start where a GATHER delivers its result, in clusters of ranks of that collective (DEDUCED,
log entry 177). -/
def Store.gathered (st : Store) (b : Nat) (d : Desc) : Bool :=
  st.colls.any fun c => c.op == 2 && decide (c.resultDest ≤ d.aOff) && decide (d.aOff < c.resultDest + dataLen c.outFmt c.elems)
    && d.clusters.all fun k => c.locals.any fun r => r.die == b + 1 && bit r.clusters k

/-- The offset of the rows that an operation reads in a cluster buffer. -/
def Desc.rowsAt (d : Desc) : Nat := if d.opcode = 0x01 ∨ d.opcode = 0x02 ∨ d.opcode = 0x04 ∨ d.opcode = 0x0D then d.bOff else d.aOff

end Sys2Proof.Machine
end

