-- ==== Sys2Proof/Machine/TypesBell.lean ====
section
/-!
DEFINITION. The state of one Bell as plain data (its reset and retirement, runs and queues of R57 and R94, DRAM health of R46 to
R53), and the state of the collective engines (R121 to R142).
-/

namespace Sys2Proof.Machine

/-- A descriptor that a run has fetched and not completed (R57): its index, the descriptor with references applied (R94), and
whether its operation has been carried out. -/
structure Active where
  idx : Nat
  d : Desc
  done : Bool := false
  deriving DecidableEq, Repr

/-- An active run (R57): its order, the descriptor to fetch next, whether the first fetch has been made, the index last fetched,
the descriptors in execution, its status flags (R72), the output areas of the descriptors that have started (Bell offset and
length, R79), the kind of its last contribution to each collective (1 exponents, 3 sums), and the pools it has appended to. -/
structure RunSt where
  stream : Nat
  seq : Nat
  next : Nat
  begun : Bool := false
  last : Nat := 0xFFFF
  cur : List Active := []
  flags : Nat := 0
  areas : List (Nat × Nat) := []
  sent : SMap Nat := []
  appended : List Nat := []
  deriving DecidableEq, Repr

/-- A receive area of dispatched rows that a cluster holds (R103): RX_OFF, RX_STRIDE, and for each row placed there its number j, its rank r and its
gate weight, an FP32 code. -/
structure MoeArea where
  cluster : Nat
  rxOff : Nat
  rxStride : Nat
  rows : List (Nat × Nat × Nat) := []
  deriving DecidableEq, Repr

/-- One Bell. `runs` are the active runs in launch order; `queue` the run queue and `held` the runs
that wait on the Ridge (R57). `dead` says that a failed power domain or the sensor
cross-check holds it in die reset (R343, R350). `initPending` says that the DRAM initialisation of R51 has to finish; `poison` lists poisoned words
(Bell offset div 64), `rowCe` the corrected errors of each row in this scrub period, `cand` the repair candidates (R53),
`scrubNext` the next word of the scrub pass, `scrubFrom` the start of the scrub period that runs and `scrubPass` of the one in which the pass
began (R52), `refAt` the last refresh of each bank (R49), `moe` the receive areas of dispatched rows (R103), `moeWait` the rows that
wait for the end of its reset (R34), and `engAt` when each engine group last executed a descriptor (R342). -/
structure BellSt where
  inReset : Bool := true
  retired : Bool := false
  strapFail : Bool := false
  dead : Bool := false
  runs : List RunSt := []
  queue : List (Nat × Nat) := []
  held : List (Nat × Nat) := []
  initPending : Bool := true
  poison : List Nat := []
  rowCe : SMap Nat := []
  cand : List Nat := []
  scrubNext : Nat := 0
  scrubFrom : Option Nat := none
  scrubPass : Nat := 0
  refAt : SMap Nat := []
  moe : List MoeArea := []
  moeWait : List MoeRow := []
  engAt : SMap Nat := []
  deriving DecidableEq, Repr

/-- A chunk held in an engine's staging (R124): the kind, the node and logical rank it came from, LAST and the status flags of its header, its first
element, its values and, for a row that an expert returns, the rank r it was dispatched with (R104). Exponents and ESF sums are signed integers; other formats are element codes. -/
structure Chunk where
  kind : Nat
  node : Nat
  rank : Nat
  last : Bool
  flags : Nat
  off : Nat
  vals : List Int
  moeRank : Nat := 0
  deriving DecidableEq, Repr

/-- An instance of a collective on this device's engine (R123). `seen` holds the identities of the chunks received (R124), `recv` the
staged contributions in arrival order, `anchors` the anchors once known, `up` the aggregates sent (kind, rank, chunk), `anchGot` and
`resGot` the pieces (first element, elements) delivered to this device, `flags` the status flags of everything received and `finFlags` those of
what this device's engine has finished as the final node, `mixed` DET_DESC differences (R140), `aborted` the cause and error code (R139). -/
structure ColInst where
  coll : Nat
  stream : Nat
  seq : Nat
  gen : Nat
  strict : Bool := false
  lastMsg : Nat := 0
  stalled : Bool := false
  flags : Nat := 0
  mixed : Bool := false
  seen : List (Nat × Nat × Nat × Nat) := []
  recv : List Chunk := []
  anchors : List Int := []
  up : List (Nat × Nat × Nat) := []
  anchGot : List (Nat × Nat) := []
  resGot : List (Nat × Nat) := []
  finFlags : Nat := 0
  closed : Bool := false
  aborted : Option (Nat × Nat) := none
  deriving DecidableEq, Repr

/-- The collective engines: their instances, and the contribution bytes not yet counted in COL_BYTES_IN. -/
structure ColSt where
  insts : List ColInst := []
  bytesRem : Nat := 0
  deriving DecidableEq, Repr

end Sys2Proof.Machine
end

