-- ==== Sys2Proof/Machine/TypesLink.lean ====
section
/-!
DEFINITION. The state of the ZLL links as plain data (R198 to R241), and of the slots' occupants (R31, R305).
-/

namespace Sys2Proof.Machine

open Sys2Proof

/-- A flit held for replay (R210): its sequence number, VC, FIRST and payload (empty while its entry is in the Stuff sack, R215), and when a replay last
resent it. -/
structure Held where
  seq : Nat
  vc : Nat := 0
  first : Nat := 0
  payload : List Byte
  resentAt : Option Nat := none
  deriving DecidableEq, Repr

/-- The transmitter's side of one sequence space (R210, R213): the next new sequence number, the flits held, oldest first, the
sequence number a running replay sends next, when ACK last advanced (ns), and the replays since without any advance. -/
structure TxSide where
  next : Nat := 0
  held : List Held := []
  replay : Option Nat := none
  advAt : Nat := 0
  stalls : Nat := 0
  deriving DecidableEq, Repr

/-- The receiver's side of one sequence space (R211, R212): the next sequence number expected, whether a NAK is due in the next header,
and when the outstanding NAK was last sent. -/
structure RxSide where
  exp : Nat := 0
  nakDue : Bool := false
  nakAt : Option Nat := none
  deriving DecidableEq, Repr

/-- One VC of the transmit side (R209, R217): the messages that wait and the rest of the message that has begun. -/
structure TxVc where
  part : List Byte := []
  queue : List Msg := []
  deriving DecidableEq, Repr

/-- One credit counter (R222 to R225): credits held here for the far buffers, the far window in use, the usable window, the credits
returned by the far end (its cumulative count as rebuilt), the flits acknowledged; and for the local buffers, the window in force,
the credits freed and the credits returned. -/
structure Credit where
  held : Int := 0
  win : Nat := 0
  usable : Nat := 0
  seen : Nat := 0
  acked : Nat := 0
  ownWin : Nat := 0
  freed : Nat := 0
  told : Nat := 0
  deriving DecidableEq, Repr

/-- A planned marker (R228, R230, R231): a lane moved to a line, or a new width. -/
inductive MarkOp where
  | switch (lane line : Nat)
  | resize (w : Nat)
  deriving DecidableEq, Repr

/-- A lane reported failed and not yet moved (R227). -/
structure LaneFail where
  line : Nat
  lane : Nat
  cause : Nat
  sentAt : Nat
  sends : Nat := 1
  deriving DecidableEq, Repr

/-- A lane moved to a spare for a calibration (R231): the lane, its own line and the spare's line. -/
structure CalUse where
  lane : Nat
  home : Nat
  spare : Nat
  deriving DecidableEq, Repr

/-- What an IMAGE_INFO says (R165, R219): SYSTEM_ID, LAYOUT_GEN, sub-generation and COMPAT_EPOCH. -/
structure ImgInfo where
  sys : Nat
  gen : Nat
  sub : Nat
  epoch : Nat
  deriving DecidableEq, Repr

/-- One ZLL link end: an optical port (0 to 31) or an end of a path link (32 to 39). `down` says that the port has reported itself
down for a reason other than IMG_MISMATCH (R239). `vcs` are VC0 to VC2; `cr` the counters VC0, VC1, VC2, CBC; `turn` the counter the
next header carries; `rxBuf` the receive streams (R209). `chunks` are the bytes of a flit still to be sent (R200), `scr` the scrambler of
each line (R201), `txMap` and `rxMap` the line of each lane, `txOos` and `rxOos` the lines out of service. `rxScr` is the receive
scrambler of each line since the last marker interval, `rxPrev` and `rxOld` the scramblers and lanes before it, `rxMarkAt` the tick of the last marker
outside ACTIVE, `rxCount` the chunks received in the count of R200, and `rxIvl` the data intervals before that count. `fecAt` are the data intervals with
byte errors on each line (R227). `stop` is the STOP in force and `thr` every THROTTLE with its VCs and rate (R221), `winAt` and `winCnt` the new DATA
flits of each VC in the present 256 intervals. `bad` counts bad flits since `badAt`. `lit` is the set of lit lines since `litAt`; `since` is when the training state was entered; `retrainAt` when the
running retrain began; `protoAt` the times of PROTO retrains. `own` counts the intervals of a path link (R277); `resume` is 2 when a
preamble and 1 when a marker has to be sent after a guard (R279); `lastMark` are LANE and LINE of the last marker of each line. Nothing is sent
before the tick `guardUntil`, and a path link sends before `winUntil` and takes flits and markers before `rxUntil`. `lost` and `rxLost` are lanes that have failed with their
lines, in each direction (R228); `rxMc` the MCOUNT last seen; `farSent` the sending tick of the last PARAM received (R220); `dataFrom` the first data interval since the last audit tick, and
`audited` the tick of the last audit (R224); `acklog` sequence number and VC of acknowledged DATA flits (R224); `pcs` the
Ethernet instances of the port whose PCS is locked (R446). -/
structure PortSt where
  down : Bool := true
  data : TxSide := {}
  ctrl : TxSide := {}
  rxData : RxSide := {}
  rxCtrl : RxSide := {}
  vcs : List TxVc := [{}, {}, {}]
  cbcq : List (List Byte) := []
  cbcIn : List (List Byte) := []
  cr : List Credit := [{}, {}, {}, {}]
  turn : Nat := 0
  altVc : Bool := false
  rxBuf : List (List Byte) := [[], [], []]
  chunks : List Byte := []
  scr : SMap Nat := []
  txMap : List Nat := []
  rxMap : List (Nat × Nat) := []
  rxOld : List (Nat × Nat) := []
  rxScr : SMap Nat := []
  rxPrev : SMap Nat := []
  rxMarkAt : Option Nat := none
  rxCount : Nat := 0
  rxIvl : Nat := 0
  fecAt : SMap (List Nat) := []
  txOos : List Nat := []
  rxOos : List Nat := []
  inverted : List Nat := []
  badMark : List Nat := []
  mcount : Nat := 0
  marks : List (Nat × MarkOp) := []
  calUse : List CalUse := []
  calWait : List Nat := []
  fails : List LaneFail := []
  lastNak : Option Nat := none
  lastCnak : Option Nat := none
  stop : Nat := 0
  thr : List (Nat × Nat) := []
  winAt : Nat := 0
  winCnt : List Nat := [0, 0, 0]
  bad : Nat := 0
  badAt : Nat := 0
  lit : List Nat := []
  litAt : Nat := 0
  since : Nat := 0
  retryOk : Bool := false
  retrainAt : Option Nat := none
  protoAt : List Nat := []
  resync : Bool := false
  far : Option (List Byte) := none
  farAt : Nat := 0
  farSent : Nat := 0
  rttSum : Nat := 0
  rttN : Nat := 0
  peerInfo : Option ImgInfo := none
  lastInfo : Option ImgInfo := none
  quietAt : Nat := 0
  own : Nat := 0
  resume : Nat := 0
  guardUntil : Nat := 0
  winUntil : Nat := 0
  rxUntil : Nat := 0
  lost : List (Nat × Nat) := []
  rxLost : List (Nat × Nat) := []
  rxMc : Nat := 256
  dataFrom : Nat := 0
  audited : Option Nat := none
  acklog : List (Nat × Nat) := []
  lastMark : SMap (Nat × Nat) := []
  lowAt : Option Nat := none
  pcs : List Nat := []
  deriving DecidableEq, Repr

/-- What occupies a Canopy slot (R31, R305). -/
inductive Occupant where
  | canopy
  | thirdParty (base size : Nat)
  | empty
  deriving DecidableEq, Repr

/-- One Canopy slot. `dead` says that a failed power domain or the sensor cross-check holds its die in reset (R343, R350). -/
structure SlotSt where
  occ : Occupant := .canopy
  retired : Bool := false
  inReset : Bool := true
  dead : Bool := false
  deriving DecidableEq, Repr

end Sys2Proof.Machine
end

