-- ==== Sys2Proof/Machine/TypesOptics.lean ====
section
/-!
DEFINITION. The state of a Canopy as plain data: its rings, calibration queue, crosstalk matrix, monitors, flaps and transit entries
(R242 to R284).
-/

namespace Sys2Proof.Machine

open Sys2Proof

/-- One ring with its heater (R249). `line` is the assigned line (0 none), `st` the state of OPT_LANE_STAT, `map` the resonance map
(line, code), `slope` its tuning in MHz per code and `searchTemp` its sensor's reading at the search, `tries` the relock attempts begun, `relocks` the times (ns) of its relocks, `calTemp` the reading of its sensor at its last
calibration, `held` a temperature trigger that waits for the end of a relock, `reqCal` a calibration to queue after a relock, `warnAt` the
last low-power report (ns). `calCnt`, `calFtc`, `calWall` are the values of R259. -/
structure Ring where
  line : Nat := 0
  st : Nat := 0
  code : Nat := 0
  map : List (Nat × Nat) := []
  slope : Nat := 1
  searchTemp : Int := 0
  tries : Nat := 0
  relocks : List Nat := []
  calTemp : Int := 0
  held : Bool := false
  warnAt : Option Nat := none
  calCnt : Nat := 0
  calFtc : Nat := 0
  calWall : Nat := 0
  slicer : Nat × Nat × Nat := (0, 0, 0)
  pwr : Nat := 0
  deriving DecidableEq, Repr

/-- One Canopy. `queue` holds the queued heaters with the time of the trigger and whether the wait has been reported overdue (R256, R260);
`wins` the heaters with an open calibration window (R257); `heat` the powers p_j of the last update (R249) and `ff` the feed-forward
term (R250, 1/2560 code), `gain` the gains that differ from the factory's; `xt` the rows of the matrix that differ from the factory's, `xtMoved` the coefficient moves since the last save
and `xtAt` its time; `hourCals` and `hourMove` the calibrations and largest change of set point since `hourAt` (R259); `dark` the lines of
each local port still dark and since when (R261); `flapAt` when the flaps' state was entered; `suspended` the transit entries (R282);
`misses` the times of destination windows with no valid preamble and marker (R279); `paths` the window start offsets in force (R278); `lantAt` since when
the Lanterns have been steady (R350). -/
structure CanopySt where
  rings : SMap Ring := []
  queue : List (Nat × Nat × Bool) := []
  wins : List Nat := []
  heat : SMap Int := []
  ff : Int := 0
  gain : SMap (Option Nat) := []
  xt : SMap (Option (List (Nat × Int))) := []
  xtMoved : SMap Int := []
  xtAt : Option Nat := none
  hourCals : Nat := 0
  hourMove : Nat := 0
  hourAt : Nat := 0
  dark : SMap (Option (List Nat × Nat)) := []
  flapAt : Nat := 0
  suspended : Bool := false
  misses : List Nat := []
  paths : SMap Nat := []
  lantAt : Nat := 0
  deriving DecidableEq, Repr

end Sys2Proof.Machine
end

