-- ==== Sys2Proof/Machine/TypesPower.lean ====
section
/-!
DEFINITION. The state of time, clocks, power and sensors as plain data (R312 to R357).
-/

namespace Sys2Proof.Machine

open Sys2Proof

/-- Time transfer on one port (R315 to R318): the number of the next SYNC sent and the transmit timestamps of those sent; SEQ and receive
timestamp of the last SYNC received and the tick of its arrival; its FLAGS, TAG and DIST; D_IN (R335); D0 and D1 of the last DELAYS;
ASYM. -/
structure TimePort where
  txSeq : Nat := 0
  txAt : SMap Nat := []
  rxSeq : Option Nat := none
  rxAt : Nat := 0
  rxTick : Nat := 0
  flags : Nat := 0
  tag : Nat := 0
  dist : Nat := 31
  dIn : Nat := 0xFFFF
  d0 : Nat := 0xFFFF
  d1 : Nat := 0xFFFF
  asym : Nat := 0
  deriving DecidableEq, Repr

/-- The Fabric Time Counter's alignment (R312 to R322): whether the FTC counts, its phase within the tick in 1/16, the whole ticks gained or
lost by slewing that local time has not yet shown, the exchanges of the running average and the last average, whether ACQUIRE has stepped,
the consecutive updates within 0.25 ns and beyond 1.0 ns, since when there has been no eligible upstream, when HOLDOVER began, the TAG of
the upstream, whether a LOAD waits, FTC_NOW_HI as latched, whether the root has sent a SYNC toward another device, and the tick below which every
periodic event has fired, after a step back (R322). -/
structure TimeSt where
  counting : Bool := false
  ports : SMap TimePort := []
  phase : Int := 0
  skew : Int := 0
  acc : List Int := []
  avg : Option Int := none
  stepped : Bool := false
  good : Nat := 0
  bad : Nat := 0
  noUpAt : Nat := 0
  holdAt : Nat := 0
  tag : Option Nat := none
  loadDue : Bool := false
  nowHi : Nat := 0
  sentSync : Bool := false
  firedTo : Nat := 0
  deriving DecidableEq, Repr

/-- Clocks (R325 to R334): CLK_CFG as sampled at the release of RESET_N, the muxes with a switch pending and when it was requested, whether
the control logic runs from the fast oscillator, a reference trip that waits for FAST_READY, the last trip of each Bell PLL, and the
enables of each domain that differ from their reset value. -/
structure ClkSt where
  cfg : Nat := 0
  pend : List (Nat × Nat) := []
  onFast : Bool := false
  waitFast : Option Nat := none
  bellTrip : SMap (Option Nat) := []
  gate : SMap (Option Nat) := []
  deriving DecidableEq, Repr

/-- One thermal sensor (R348, R349): the last four samples, newest first, in 0.25 °C, its cause code when it is marked bad (THM_DATA), and
the samples in a row at the trip limit. -/
structure Sensor where
  samples : List Int := []
  bad : Bool := false
  cause : Nat := 0
  hot : Nat := 0
  deriving DecidableEq, Repr

/-- A thermal region (R351): the Ridge (0), Bell b (1 + b) or Canopy k (9 + k). When the limit last moved, since when it is cool, since
when it has been at OPP 0, and whether it is above a warning threshold. -/
structure Region where
  on : Bool := false
  stepAt : Nat := 0
  coolAt : Option Nat := none
  zeroAt : Option Nat := none
  warn : Bool := false
  deriving DecidableEq, Repr

/-- Power and temperature (R337 to R357): the power state of each of the 148 domains (0 RUN to 3 OFF), those whose request was refused or
that failed power-good, the state last requested of each domain, the DVFS step of each Bell in progress (the point it ends at), the thermal limit
of each region and the power limit of each Bell, since when the average has allowed a rise, the reference and last filtered power of each Bell,
the sensors and regions, whether the always-on domain has power, and whether a power fail holds the main conversion off. -/
structure PwrSt where
  dom : SMap Nat := []
  refused : List Nat := []
  pgFail : List Nat := []
  req : SMap (Option Nat) := []
  step : SMap (Option Nat) := []
  thLim : SMap Nat := []
  pwLim : SMap Nat := []
  riseAt : Option Nat := none
  ffRef : SMap Nat := []
  ffLast : SMap Nat := []
  sens : SMap Sensor := []
  region : SMap Region := []
  aon : Bool := true
  failed : Bool := false
  deriving DecidableEq, Repr

end Sys2Proof.Machine
end

