-- ==== Sys2Proof/Machine/TypesSeam.lean ====
section
/-!
DEFINITION. The state of the Seam links, of the domain crossings and of the test access chain as plain data (R285 to R308).
-/

namespace Sys2Proof.Machine

/-- One direction of a Seam link (R285 to R294), with the transmitter at one end and the receiver at the other. `noc` and `ctl` are the payloads of
NoC units and the control messages that wait, `tx` the transmitter's sequence space and replay buffer (a held flit's `vc` is its TYPE), `resends`
the times the oldest held flit was resent, `rx` the receiver's sequence space, `cin` the control messages received. `map` and `rmap` are the logical
lane of each flit lane at the transmitter and the receiver, `marks` the SWITCH markers planned (interval, flit lane, logical lane), `iv` the flit intervals counted, `markAt`
the interval of the last marker, `chunks` the bytes of a flit still to be sent, `scr` the scramblers that differ from their load, `badMark` the
lanes whose last marker failed, `okMark` the valid markers in a row of each lane in ALIGN, `rxMc` the MCOUNT last seen, `rxScr` the receive scrambler of each
lane, and `rxPrev` and `rxOld` the scramblers and lanes before the last marker. `bad` counts the bad flits since `badAt`. `calQ` holds the lanes queued for
calibration, `calAsk` the lane whose window has been asked for, `calUse` the window open (flit lane, its own lane, the spare), `waitAt` since when
a calibration has waited for a spare and whether that has been reported. -/
structure SeamDir where
  noc : List (List Byte) := []
  ctl : List (List Byte) := []
  tx : TxSide := {}
  resends : Nat := 0
  lastNak : Option Nat := none
  rx : RxSide := {}
  cin : List (List Byte) := []
  map : List Nat := []
  rmap : List Nat := []
  marks : List (Nat × Nat × Nat) := []
  iv : Nat := 0
  markAt : Nat := 0
  mcount : Nat := 0
  chunks : List Byte := []
  scr : SMap Nat := []
  badMark : List Nat := []
  okMark : SMap Nat := []
  rxMc : Nat := 256
  rxScr : SMap Nat := []
  rxPrev : SMap Nat := []
  rxOld : List Nat := []
  bad : Nat := 0
  badAt : Nat := 0
  calQ : List Nat := []
  calAsk : Option Nat := none
  calUse : Option (Nat × Nat × Nat) := none
  waitAt : Option (Nat × Bool) := none
  deriving DecidableEq, Repr

/-- What the Ridge keeps of one logical lane and direction (R294, R296): the taps, the calibrations counted, FTC and wall time in seconds of the
last, and the reading of its sensor then. -/
structure SeamLane where
  phase : Nat := 0
  vref : Nat := 0
  swing : Nat := 0
  cnt : Nat := 0
  ftc : Nat := 0
  wall : Nat := 0
  temp : Int := 0
  deriving DecidableEq, Repr

/-- One Seam link. Direction 0 is Ridge to Bell, 1 Bell to Ridge. `bad0` and `bad1` are SEAM_BAD, `since` when the training state was entered,
`fresh` that a die or link reset came before this training (R297), `lanes` the records by 68 × direction + lane. -/
structure SeamSt where
  d0 : SeamDir := {}
  d1 : SeamDir := {}
  bad0 : List Nat := []
  bad1 : List Nat := []
  since : Nat := 0
  fresh : Bool := true
  lanes : SMap SeamLane := []
  hourCals : Nat := 0
  hourMove : Nat := 0
  deriving DecidableEq, Repr

/-- One side of a domain crossing (R299 to R301): whether it is in PEER_IN_RESET and drained, whether it has sent and received REARM_ACK, and the
peer's epoch as last received. -/
structure CrossSide where
  peerIn : Bool := false
  drained : Bool := false
  sentAck : Bool := false
  gotAck : Bool := false
  peer : Nat := 0
  deriving DecidableEq, Repr

/-- A domain crossing: a re-arm in progress since the link became ACTIVE, the timeouts in a row (R301). -/
structure CrossSt where
  ridge : CrossSide := {}
  die : CrossSide := {}
  armAt : Option Nat := none
  armed : Bool := false
  timeouts : Nat := 0
  deriving DecidableEq, Repr

/-- Instructions of the test access port (R307, R308) that can be in force. -/
inductive TapInstr where
  | bypass | idcode | samplePreload | segmentInsert | extest | clamp | highz
  deriving DecidableEq, Repr

/-- The test access port: the instruction in force, the boundary levels preloaded, the die segments in the chain (R307: 0 to 7 Bells, 8 to 15
slots), and the levels driven on the pins by EXTEST or CLAMP (none: mission). -/
structure TapSt where
  ir : TapInstr := .idcode
  boundary : Nat := 0
  segs : List Nat := []
  drive : Option Nat := none
  hiz : Bool := false
  idcode : Nat := 0
  deriving DecidableEq, Repr

end Sys2Proof.Machine
end

