-- ==== Sys2Proof/Machine/State.lean ====
section
/-!
DEFINITION. The state of one SG-6480 as plain data, the reasons a step can stop, and the state after reset.
-/

namespace Sys2Proof.Machine

open Sys2Proof

/-- What the device sends or drives outward, oldest first. -/
inductive Out where
  | zfp (port : Nat) (m : Msg)
  | frame (port inst : Nat) (bytes : List Byte)
  | word (v : Nat)
  | reply (packets : List (List Byte))
  | giveUp (m : Msg)
  | moe (node die : Nat) (row : MoeRow)
  | ibi
  | chunks (link : Nat) (lines : List (Nat × List Nat))
  | training (link : Nat) (msg : List Byte)
  | burst (link : Nat)
  | seam (b dir : Nat) (lanes : List (Nat × List Byte))
  | noc (b dir : Nat) (units : List Byte)
  | prbs (b : Nat)
  | result (b dir : Nat) (failed bad : List Nat) (epoch : Nat)
  | sideband (k : Nat) (toDie : Bool) (msg : List Byte)
  | partnerWrite (k off : Nat) (v : Nat)
  | partner (k : Nat) (m : Msg)
  | tdo (bits : Nat)
  deriving DecidableEq, Repr

/-- Values set at manufacture or by an irreversible fuse (R4, R40, R410, R414). -/
structure Fuses where
  step : Nat := 0
  bellStep : Nat := 0
  numrev : Nat := 0
  stepnum : Nat := 0
  bellMap : Nat := 0xFF
  grade : Nat := 0
  serial : Nat := 0
  fwLvl : Nat := 0
  pitLvl : Nat := 0
  certLvl : Nat := 0
  keyRev : Nat := 0
  bound : Bool := false
  bindId : Nat := 0
  deriving DecidableEq, Repr

/-- Input pins as last sampled (R425, R442) and the supplies: GADDR is sampled when PD_RIDGE_00 powers up. -/
structure Pins where
  testMode : Bool := false
  resetN : Bool := false
  gaddr : Nat := 0
  deriving DecidableEq, Repr

/-- Stops with a fault. -/
inductive Fault where
  /-- Raised by no command on an operand within the absolute maximum ratings (R432): the manual gives no behaviour beyond
  them. Safe. -/
  | absoluteMaximum
  deriving DecidableEq, Repr

/-- Stops with a refusal. -/
inductive Refusal where
  /-- A command whose meaning has not been written. Safe. -/
  | notModelled (mnemonic : String)
  deriving DecidableEq, Repr

/-- The state of the device. -/
structure State where
  pending : List Instr := []
  free : Nat := 0
  now : Nat := 0
  ftc : Nat := 0
  regs : SMap Word := []
  fuses : Fuses := {}
  mem : List Host.Cell := []
  out : List Out := []
  trn : TrnSt := {}
  jrn : JrnSt := {}
  pit : PitSt := {}
  flt : FltSt := {}
  pole : PoleSt := {}
  loss : LossSt := {}
  dry : DrySt := {}
  sec : SecSt := {}
  pins : Pins := {}
  bells : SMap BellSt := []
  col : ColSt := {}
  ports : SMap PortSt := []
  slots : SMap SlotSt := []
  canopies : SMap CanopySt := []
  seams : SMap SeamSt := []
  cross : SMap CrossSt := []
  tap : TapSt := {}
  time : TimeSt := {}
  clk : ClkSt := {}
  pwr : PwrSt := {}
  spillq : List Nat := []
  deriving DecidableEq, Repr

/-- The state right after reset. -/
def State.reset : State := {}

end Sys2Proof.Machine
end

