-- ==== Sys2Proof/Machine/Ops.lean ====
section
/-!
DEFINITION. Named operations over the state that every family uses: registers and their fields, counters and captures (R16,
R18), the bytes of Bell DRAM and cluster buffers (R29), free values, what the device sends, fault pairs (R358) and Dry bag
records (R389, R391).
-/

namespace Sys2Proof.Machine

open Sys2Proof

/-- The stored word of a register. -/
def State.reg (s : State) (a : Nat) : Word := SMap.get resetWord s.regs a

/-- The state with a register's stored word replaced. -/
def State.setReg (s : State) (a : Nat) (w : Word) : State := { s with regs := SMap.set resetWord s.regs a w }

/-- A field of a register. -/
def State.fld (s : State) (a : Nat) (f : Fld) : Nat := fget (s.reg a) f

/-- The state with a field of a register replaced. -/
def State.setFld (s : State) (a : Nat) (f : Fld) (v : Nat) : State := s.setReg a (fset (s.reg a) f v)

/-- The bits [31:0] of a register. -/
def whole : Fld := ⟨31, 0⟩

/-- n added to a counter field, which saturates. -/
def State.addFld (s : State) (a : Nat) (f : Fld) (n : Nat) : State :=
  s.setFld a f (min (s.fld a f + n) (2 ^ (f.hi + 1 - f.lo) - 1))

/-- One added to a 32-bit counter register, which saturates at 0xFFFF_FFFF. -/
def State.bump (s : State) (a : Nat) : State := s.addFld a whole 1

/-- A capture register: takes the word, with VALID in bit 31, only while VALID is 0. -/
def State.capture (s : State) (a : Nat) (v : Nat) : State :=
  if s.fld a ⟨31, 31⟩ = 0 then s.setReg a (BitVec.ofNat 32 (v % 2 ^ 31 + 2 ^ 31)) else s

/-- A 64-bit number in a LO and HI register pair. -/
def State.setPair (s : State) (lo hi v : Nat) : State :=
  (s.setReg lo (BitVec.ofNat 32 v)).setReg hi (BitVec.ofNat 32 (v / 2 ^ 32))
def State.getPair (s : State) (lo hi : Nat) : Nat := (s.reg lo).toNat + 2 ^ 32 * (s.reg hi).toNat

/-- A fresh free number, byte or condition: the counter of the state moves on. -/
def State.freshNat (s : State) : Nat × State := (Config.freeNat s.free, { s with free := s.free + 1 })
def State.freshBool (s : State) : Bool × State := (Config.freeBool s.free, { s with free := s.free + 1 })
def State.freshBytes (s : State) (n : Nat) : List Byte × State :=
  ((List.range n).map (fun i => Config.freeByte (s.free + i)), { s with free := s.free + n })

/-- Sends or drives something outward. -/
def State.emit (s : State) (o : Out) : State := { s with out := s.out ++ [o] }

/-- The key of a byte of Bell b's DRAM or cluster buffers in `mem` (R29): the Bell number above a 39-bit offset. -/
def cell (b off : Nat) : Nat := 2 ^ 39 * b + off

/-- Byte at an offset of Bell b; a byte nothing has written reads 0 (R51). -/
def State.memByte (s : State) (b off : Nat) : Byte := SMap.get (fun _ => 0) s.mem (cell b off)

/-- The state with one byte of Bell b written. -/
def State.setMem (s : State) (b off : Nat) (v : Byte) : State :=
  { s with mem := SMap.set (fun _ => 0) s.mem (cell b off) v }

/-- n bytes of Bell b from an offset. -/
def State.memBytes (s : State) (b off : Nat) : Nat → List Byte
  | 0 => []
  | n + 1 => s.memByte b off :: s.memBytes b (off + 1) n

/-- A byte string written to Bell b from an offset. -/
def State.writeMem (s : State) (b : Nat) : Nat → List Byte → State
  | _, [] => s
  | off, v :: t => (s.setMem b off v).writeMem b (off + 1) t

/-- An n-byte little-endian number in Bell b's memory. -/
def State.memNum (s : State) (b off n : Nat) : Nat := leNat (s.memBytes b off n)

/-- The canonical form of memory: keys strictly rising, and no entry equal to what an unlisted byte reads as. -/
def Memory.wf (m : List Host.Cell) : Bool := SMap.wf (fun _ => (0 : Byte)) m

/-- The offset of byte o of the cluster buffer of cluster c (R29). -/
def cbOff (c o : Nat) : Nat := 0x4000000000 + c * 0x400000 + o

/-- The offset of byte o of the region of BSE n (R29). -/
def bseOff (n o : Nat) : Nat := n / 64 * 0x800000000 + n % 64 * 0x20000000 + o

/-- Whether the image in force exists (PIT_STAT.ACTIVE). -/
def State.active (s : State) : Bool := s.fld R.PIT_STAT F.PIT_STAT_ACTIVE == 1

/-- The image in force. -/
def State.img (s : State) : Store := s.pit.force

/-- This device's node ID: ROLE.NODE_ID of the image in force; 0 before one is in force. -/
def State.node (s : State) : Nat := if s.active then s.img.nodeId else 0

/-- The Strike state (R371). -/
def State.inStrike (s : State) : Bool := s.fld R.FLT_STAT F.FLT_STAT_STRIKE == 1

/-- FTC states (R321), as FTC_STAT.STATE numbers them: FREE 0, ACQUIRE 1, ALIGNED 2, HOLDOVER 3, UNALIGNED 4, ROOT 5. -/
def State.ftcState (s : State) : Nat := s.fld R.FTC_STAT F.FTC_STAT_STATE

/-- The first slot boundary at or after a tick (R88). -/
def slotAt (t : Nat) : Nat := alignUp t 128

/-- Bell b is in service by grade (R4). -/
def State.fitted (s : State) (b : Nat) : Bool := bit s.fuses.bellMap b

/-- ID_DIE_LIVE.BELL_LIVE and SLOT_LIVE. -/
def State.bellLive (s : State) (b : Nat) : Bool := bit (s.fld R.ID_DIE_LIVE F.ID_DIE_LIVE_BELL_LIVE) b
def State.slotLive (s : State) (k : Nat) : Bool := bit (s.fld R.ID_DIE_LIVE F.ID_DIE_LIVE_SLOT_LIVE) k
def State.setBellLive (s : State) (b : Nat) (v : Bool) : State :=
  s.setFld R.ID_DIE_LIVE F.ID_DIE_LIVE_BELL_LIVE (withBit (s.fld R.ID_DIE_LIVE F.ID_DIE_LIVE_BELL_LIVE) b v)
def State.setSlotLive (s : State) (k : Nat) (v : Bool) : State :=
  s.setFld R.ID_DIE_LIVE F.ID_DIE_LIVE_SLOT_LIVE (withBit (s.fld R.ID_DIE_LIVE F.ID_DIE_LIVE_SLOT_LIVE) k v)

/-- Source numbers of R360. -/
def srcBell (b n : Nat) : Nat := 32 + 8 * b + n
def srcSeam (b n : Nat) : Nat := 96 + 4 * b + n
def srcCross (c n : Nat) : Nat := 128 + 2 * c + n
def srcSlot (k n : Nat) : Nat := 160 + 4 * k + n
def srcCan (k n : Nat) : Nat := 192 + 12 * k + n
def srcPort (p n : Nat) : Nat := 288 + 7 * p + n

/-- The pair of a source. -/
def State.pair (s : State) (i : Nat) : Pair := SMap.get (fun _ => {}) s.flt.pairs i
def State.setPairSt (s : State) (i : Nat) (p : Pair) : State :=
  { s with flt := { s.flt with pairs := SMap.set (fun _ => {}) s.flt.pairs i p } }

/-- A unit drives its source active as a level, with its detail (R358). -/
def State.raise (s : State) (i : Nat) (detail : List Byte) : State :=
  s.setPairSt i { s.pair i with active := true, event := false, detail := fit 16 detail }

/-- A unit reports an event: the pair is active until the collector has sampled it (R358). -/
def State.pulse (s : State) (i : Nat) (detail : List Byte) : State :=
  s.setPairSt i { s.pair i with active := true, event := true, detail := fit 16 detail, seen := false }

/-- A unit drives its source inactive again. -/
def State.lower (s : State) (i : Nat) : State :=
  s.setPairSt i { s.pair i with active := false, seen := false }

/-- The FTC_WALL number (R314). -/
def State.wall (s : State) : Nat :=
  if s.fld R.FTC_STAT F.FTC_STAT_WALL_OK = 1 then (s.ftc + s.getPair R.FTC_WALL_LO R.FTC_WALL_HI) % 2 ^ 64 else 0

/-- A record placed in its area: the pinned area while it has room and the record is pinned, and otherwise the ring slot
DRY_HEAD.NEXT (R391, R392). -/
def State.dryPlace (s : State) (r : DryRec) : State :=
  let pin := bit r.flags 0
  if pin ∧ s.dry.pinned.length < 256 then
    let s1 := { s with dry := { s.dry with pinned := s.dry.pinned ++ [r] } }
    let s2 := s1.setFld R.DRY_STAT F.DRY_STAT_PIN_USED s1.dry.pinned.length
    if s1.dry.pinned.length = 256 then s2.setFld R.DRY_STAT F.DRY_STAT_PIN_FULL 1 else s2
  else
    let r := { r with flags := withBit r.flags 0 false }
    let h := s.fld R.DRY_HEAD F.DRY_HEAD_NEXT
    let wraps := (SMap.get (fun _ => none) s.dry.ring h).isSome
    let s1 := { s with dry := { s.dry with ring := SMap.set (fun _ => none) s.dry.ring h (some r) } }
    let s2 := s1.setFld R.DRY_HEAD F.DRY_HEAD_NEXT ((h + 1) % 65536)
    if wraps then s2.setFld R.DRY_STAT F.DRY_STAT_WRAPPED 1 else s2

/-- A record written whole, or queued while the Dry bag is not READY (R391); SEQ rises by 1 per record (R389). -/
def State.dryWrite (s : State) (r : DryRec) : State :=
  if s.fld R.DRY_STAT F.DRY_STAT_READY = 1 then
    let q := ((s.reg R.DRY_SEQ).toNat + 1) % 2 ^ 32
    (s.setReg R.DRY_SEQ (BitVec.ofNat 32 q)).dryPlace { r with seq := q }
  else { s with dry := { s.dry with queued := s.dry.queued ++ [r] } }

/-- The records queued while the Dry bag was not READY, written in turn (R391), with extra flags. -/
def State.dryFlush (s : State) (flags : Nat) : State :=
  s.dry.queued.foldl (fun t r => t.dryWrite { r with flags := r.flags ||| flags }) { s with dry := { s.dry with queued := [] } }

/-- A record that is not a fault, at the present FTC (R389, R390): its TYPE, the die its detail concerns and the detail. -/
def State.dryEvent (s : State) (type die : Nat) (detail : List Byte) : State :=
  s.dryWrite { type := type, die := die, ftc := s.ftc, wall := s.wall, node := s.node, restart := s.trn.restart,
               detail := fit 80 detail }

/-- A reset counted in the restart number, which starts the TID counter again (R173), the nonce of R415 void, with its RESET record (R416, R421): type 0 power-on, 1 pin, 2 warm, 3 die, 4 link; requester 0 pin, 1 Guy line, 2 thermal release, 3 TEST_MODE,
4 power, 0xFF another (the manual names none for warm, die and link resets). -/
def State.resetRecord (s : State) (type req die : Nat) : State :=
  { s with trn := { s.trn with restart := (s.trn.restart + 1) % 128, tidCnt := 0 }, sec := { s.sec with nonce := none } }.dryEvent 0x0105 die (le 1 type ++ le 1 req)

/-- Reset types of R416, by the domain of R17 they reach. -/
def Dom.rank : Dom → Nat
  | .aon => 5 | .por => 4 | .pin => 3 | .warm => 2 | .die => 1 | .link => 0

/-- Registers of the addresses chosen by `held` whose domain is at most d return to their reset values (R17). -/
def State.resetRegs (s : State) (d : Dom) (held : Nat → Bool) : State :=
  { s with regs := s.regs.filter fun e =>
      !(held e.1 && (match regInfo? e.1 with
                     | some i => decide (i.dom.rank ≤ d.rank)
                     | none => false)) }

/-- Addresses of one register window. -/
def inWindow (base size a : Nat) : Bool := decide (base ≤ a) && decide (a < base + size)

/-- Bell b, port p and slot k of the state. -/
def State.bell (s : State) (b : Nat) : BellSt := SMap.get (fun _ => {}) s.bells b
def State.setBell (s : State) (b : Nat) (v : BellSt) : State := { s with bells := SMap.set (fun _ => {}) s.bells b v }
def State.onBell (s : State) (b : Nat) (f : BellSt → BellSt) : State := s.setBell b (f (s.bell b))
def State.port (s : State) (p : Nat) : PortSt := SMap.get (fun _ => {}) s.ports p
def State.setPort (s : State) (p : Nat) (v : PortSt) : State := { s with ports := SMap.set (fun _ => {}) s.ports p v }
def State.slot (s : State) (k : Nat) : SlotSt := SMap.get (fun _ => {}) s.slots k
def State.setSlot (s : State) (k : Nat) (v : SlotSt) : State := { s with slots := SMap.set (fun _ => {}) s.slots k v }

/-- Seam link b and crossing c of the state. -/
def State.seam (s : State) (b : Nat) : SeamSt := SMap.get (fun _ => {}) s.seams b
def State.setSeam (s : State) (b : Nat) (v : SeamSt) : State := { s with seams := SMap.set (fun _ => {}) s.seams b v }
def State.crossing (s : State) (c : Nat) : CrossSt := SMap.get (fun _ => {}) s.cross c
def State.setCrossing (s : State) (c : Nat) (v : CrossSt) : State := { s with cross := SMap.set (fun _ => {}) s.cross c v }

/-- The state of a power domain: 0 to 27 of the Ridge, 28 + 12b + n of Bell b, 124 + 3k + n of Canopy k (R336). Only the always-on
domain is on before the sequencer has run. -/
def domDefault (d : Nat) : Nat := if d = 0 then 0 else 3
def State.dom (s : State) (d : Nat) : Nat := SMap.get domDefault s.pwr.dom d
def State.setDom (s : State) (d v : Nat) : State := { s with pwr := { s.pwr with dom := SMap.set domDefault s.pwr.dom d v } }

/-- The reset value of a domain's clock enables (R336), the enables in force, and whether the domain's clock runs (R334, R341). -/
def gateReset (d : Nat) : Nat := if [0, 6, 7].contains d then 7 else 1
def State.gate (s : State) (d : Nat) : Nat := (SMap.get (fun _ => none) s.clk.gate d).getD (gateReset d)
def State.clocked (s : State) (d : Nat) : Bool := decide (s.dom d < 3) && bit (s.gate d) (s.dom d)
def domBell (b n : Nat) : Nat := 28 + 12 * b + n
def domCan (k n : Nat) : Nat := 124 + 3 * k + n

/-- Two byte ranges overlap. -/
def overlap (a n c m : Nat) : Bool := decide (a < c + m) && decide (c < a + n) && n != 0 && m != 0

end Sys2Proof.Machine
end

