-- ==== Sys2Proof/Machine/Dram.lean ====
section
/-!
DEFINITION. Reads and writes of Bell DRAM and of the cluster buffers with their error correction (R46 to R48, R54, R56, R457), the
corrected-error counts and repair candidates of R53, refresh (R49), initialisation (R51) and scrubbing (R52).
-/

namespace Sys2Proof.Machine

open Sys2Proof

/-- How a read of one stored word comes out (R46, R47): `wrong` is the outcome of R46's last case in which the data delivered is not
what was stored. -/
inductive Ecc where
  | ok
  | corrected (sym : Nat)
  | ue (sym : Nat)
  | poisoned
  | wrong (counted : Bool)
  deriving DecidableEq, Repr

/-- The symbols of a word in error (R46, R48): those given, and the virtual symbol, number 36, of a poisoned word. -/
def badSyms (poison : Bool) (syms : List Nat) : List Nat := ((if poison then [36] else []) ++ syms).eraseDups

/-- R46 for a word with the given symbols in error. An error in the virtual symbol of a poisoned word that is also read from the wrong address does
not have the value 0x8000. With four or more in error the code makes no promise, and the free number c chooses. -/
def eccOf (poison : Bool) (syms : List Nat) (c : Nat) : Ecc :=
  match badSyms poison syms with
  | [] => .ok
  | [k] => if k ≠ 36 then .corrected k else if poison ∧ !syms.contains 36 then .poisoned else .ue 36
  | ss => if ss.length < 4 then .ue 63 else if c % 3 = 0 then .wrong false else if c % 3 = 1 then .wrong true else .ue 63

/-- The symbols in error that the environment gives for word w of Bell b. -/
def upsetsAt (ups : List Upset) (b w : Nat) : List Nat :=
  (ups.filter (fun u => u.bell.val == b && u.word == w)).flatMap (·.syms)

/-- The logical BSE number and the region offset of a Bell offset in DRAM (R29). -/
def bseOfOff (o : Nat) : Nat := o / 0x800000000 * 64 + o % 0x800000000 / 0x20000000
def regionOff (o : Nat) : Nat := o % 0x20000000

/-- The bank and row of a word of a region (R44), and the key of a row of a Bell. -/
def bankOf (w : Nat) : Nat := w % 16
def rowOf (w : Nat) : Nat := w / 16 / 32
def rowKey (o : Nat) : Nat := let w := regionOff o / 64; (bseOfOff o * 16 + bankOf w) * 2 ^ 14 + rowOf w


/-- A row becomes a repair candidate (R53): counted, and recorded as pending. -/
def State.rowCandidate (s : State) (b o : Nat) : State :=
  let k := rowKey o
  if (s.bell b).cand.contains k then s
  else
    let s1 : State := s.onBell b (fun x => { x with cand := x.cand ++ [k] })
    let s2 : State := s1.addFld (R.BEL_ROWSPARE b) F.BEL_ROWSPARE_PENDING 1
    let n := bseOfOff o
    let w := regionOff o / 64
    s2.dryEvent 0x0F (b + 1) (le 1 b ++ le 1 (n / 64) ++ le 1 (n % 64) ++ le 1 (bankOf w) ++ le 2 (rowOf w) ++ le 1 0)

/-- The capture rule of BEL_ECC_LAST: while VALID is 0, and an uncorrectable or poisoned event replaces a corrected one. -/
def State.eccCapture (s : State) (b o type sym : Nat) (scrub : Bool) : State :=
  let a := R.BEL_ECC_LAST b
  let valid := s.fld a F.BEL_ECC_LAST_VALID
  if valid = 0 ∨ (type ≠ 1 ∧ s.fld a F.BEL_ECC_LAST_TYPE = 1) then
    let n := bseOfOff o
    let s1 : State := s.setReg a (BitVec.ofNat 32 (type + sym * 2 ^ 2 + n / 64 * 2 ^ 8 + n % 64 * 2 ^ 10 + b2n scrub * 2 ^ 16 + 2 ^ 31))
    s1.setReg (R.BEL_ECC_LAST_OFF b) (BitVec.ofNat 32 (regionOff o / 64 * 64))
  else s

/-- The scrub period in ns. -/
def State.scrubPeriod (s : State) (b : Nat) : Nat := 3600000000000 * s.fld (R.BEL_SCRUB_CTL b) F.BEL_SCRUB_CTL_PERIOD

/-- The scrub period brought up to date (R52, R53): the first one begins when the Bell first scrubs or counts; at the end of one the row counts start
again. -/
def State.scrubRoll (s : State) (b : Nat) : State :=
  match (s.bell b).scrubFrom with
  | none => s.onBell b fun x => { x with scrubFrom := some s.now, scrubPass := s.now }
  | some t =>
    if t + s.scrubPeriod b ≤ s.now then
      s.onBell b fun x => { x with scrubFrom := some (t + (s.now - t) / s.scrubPeriod b * s.scrubPeriod b), rowCe := [] }
    else s

/-- One corrected error on a row (R53). -/
def State.countCe (s0 : State) (b o : Nat) : State :=
  let s : State := s0.scrubRoll b
  let k := rowKey o
  let c := SMap.get (fun _ => 0) (s.bell b).rowCe k + 1
  let s1 : State := s.onBell b (fun x => { x with rowCe := SMap.set (fun _ => 0) x.rowCe k c })
  if s1.fld (R.BEL_ECC_CTL b) F.BEL_ECC_CTL_SPARE_THR ≤ c then s1.rowCandidate b o else s1

/-- Why a read delivers no data. -/
inductive RdErr where
  | ue | poisoned
  deriving DecidableEq, Repr

/-- One word read under R47: the outcome and the reports. The word is at Bell offset o, a multiple of 64. -/
def State.readWord (s : State) (b o : Nat) (ups : List Upset) (scrub : Bool) : State × Option RdErr :=
  let w := o / 64
  let pz := (s.bell b).poison.contains w
  let (c, s0) := if 4 ≤ (badSyms pz (upsetsAt ups b w)).length then s.freshNat else (0, s)
  match eccOf pz (upsetsAt ups b w) c with
  | .ok => (s0, none)
  | .corrected k =>
    let s1 : State := (s0.bump (R.BEL_ECC_CE_CNT b)).eccCapture b o 1 k scrub
    ((s1.countCe b o).pulse (srcBell b 1) (le 8 o ++ le 1 k), none)
  | .ue k =>
    let s1 : State := (s0.bump (R.BEL_ECC_UE_CNT b)).eccCapture b o 2 k scrub
    let s2 : State := s1.onBell b (fun x => { x with poison := if pz then x.poison else x.poison ++ [w] })
    ((s2.rowCandidate b o).pulse (srcBell b 2) (le 8 o ++ le 1 k), some .ue)
  | .poisoned => ((s0.bump (R.BEL_ECC_UE_CNT b)).eccCapture b o 3 36 scrub, some .poisoned)
  | .wrong counted =>
    let (bytes, s1) := s0.freshBytes 64
    let s2 : State := s1.writeMem b o bytes
    let k := c / 3 % 36
    if counted then
      ((((s2.bump (R.BEL_ECC_CE_CNT b)).eccCapture b o 1 k scrub).countCe b o).pulse (srcBell b 1) (le 8 o ++ le 1 k), none)
    else (s2, none)

/-- The word offsets of a range of a Bell. -/
def wordsOf (o n : Nat) : List Nat :=
  if n = 0 then [] else (List.range ((o + n - 1) / 64 - o / 64 + 1)).map (fun i => (o / 64 + i) * 64)

/-- Every word of a range read under R47; with `stop` the read ends at the first word that delivers no data (R457). Which words a BSE has read ahead of
a failing one R457 does not define: none here (DESIGN CHOICE, log entry 160). -/
def State.readWords (s : State) (b : Nat) (ups : List Upset) (stop : Bool) : List Nat → State × Option RdErr
  | [] => (s, none)
  | o :: t =>
    let r := s.readWord b o ups false
    match r.2 with
    | none => r.1.readWords b ups stop t
    | some e => if stop then (r.1, some e) else ((r.1.readWords b ups stop t).1, some e)

/-- A Bell offset in DRAM, as against a cluster buffer. -/
def inDram (o : Nat) : Bool := decide (o < 0x4000000000)

/-- n bytes read from a Bell: from DRAM under R47, from a cluster buffer under R56, where only an uncorrectable word stops the
read. -/
def State.readRange (s : State) (b o n : Nat) (ups : List Upset) (stop : Bool) : State × Option RdErr × List Byte :=
  if inDram o then
    let r := s.readWords b ups stop (wordsOf o n)
    (r.1, r.2, if r.2 = none then r.1.memBytes b o n else [])
  else if (wordsOf o n).any (fun w => decide (2 ≤ (upsetsAt ups b (w / 64)).eraseDups.length)) then
    (s.pulse (srcBell b 4) (le 8 o), some .ue, [])
  else (s, none, s.memBytes b o n)

/-- One word's part of a write (R48, R54): a whole aligned word is replaced and its poison cleared; a shorter write merges after a
read, and an uncorrectable or poisoned word stays unwritten. -/
def State.writePart (s : State) (b o : Nat) (bytes : List Byte) (ups : List Upset) : State × Option RdErr :=
  if o % 64 = 0 ∧ bytes.length = 64 then
    ((s.onBell b (fun x => { x with poison := x.poison.filter (fun w => w != o / 64) })).writeMem b o bytes, none)
  else
    let r := s.readWord b (o / 64 * 64) ups false
    match r.2 with
    | none => (r.1.writeMem b o bytes, none)
    | some e => (r.1, some e)

/-- The bytes of a write cut at word boundaries. `n` bounds the number of words. -/
def cutWords (o : Nat) (bytes : List Byte) : Nat → List (Nat × List Byte)
  | 0 => []
  | n + 1 =>
    if bytes.isEmpty then []
    else
      let k := 64 - o % 64
      (o, bytes.take k) :: cutWords (o + k) (bytes.drop k) n

/-- A write to a Bell: words in ascending order (R54); the first word that errs is reported. -/
def State.writeRange (s : State) (b o : Nat) (bytes : List Byte) (ups : List Upset) : State × Option RdErr :=
  if inDram o then
    (cutWords o bytes (bytes.length / 64 + 2)).foldl (fun (a : State × Option RdErr) p =>
      let r := a.1.writePart b p.1 p.2 ups
      (r.1, if a.2 = none then r.2 else a.2)) (s, none)
  else (s.writeMem b o bytes, none)

/-- Bell b's DRAM cells and cluster buffers cleared (R51). -/
def State.clearDram (s : State) (b : Nat) : State :=
  { s with mem := s.mem.filter (fun e => !(e.1 / 2 ^ 39 == b && inDram (e.1 % 2 ^ 39))) }

/-- A receive area of cluster c with one more row (R103): a row of the same number takes the place of an earlier one. -/
def BellSt.noteMoe (x : BellSt) (c : Nat) (r : MoeRow) : BellSt :=
  let mine (a : MoeArea) : Bool := a.cluster == c && a.rxOff == r.rxOff && a.rxStride == r.rxStride
  let row := (r.j.val, r.r, r.gate)
  if x.moe.any mine then { x with moe := x.moe.map fun a => if mine a then { a with rows := a.rows.filter (·.1 != r.j.val) ++ [row] } else a }
  else { x with moe := x.moe ++ [{ cluster := c, rxOff := r.rxOff, rxStride := r.rxStride, rows := [row] }] }

/-- A dispatched row placed in a receive area (R103): the row at RX_OFF + j × RX_STRIDE of each cluster of the mask, and its presence bit; its rank
and gate weight are kept for the expert's run (R104). -/
def State.placeMoe (s : State) (x : MoeRow) : State :=
  ((List.range 16).filter (fun c => bit x.clusters c)).foldl (fun t c =>
    let t1 : State := t.writeMem x.bell.val (cbOff c (x.rxOff + x.j.val * x.rxStride)) x.row
    let o := cbOff c (x.rxOff + 256 * x.rxStride + x.j.val / 8)
    (t1.setMem x.bell.val o (BitVec.ofNat 8 (withBit (t1.memByte x.bell.val o).toNat (x.j.val % 8) true))).onBell x.bell.val (·.noteMoe c x)) s

/-- A Bell can take dispatched rows: it is live, out of reset, and its crossing is armed (R34). -/
def State.moeOpen (s : State) (b : Nat) : Bool :=
  !(s.bell b).inReset && !(s.bell b).retired && s.bellLive b && s.fld (R.SEAM_STAT b) F.SEAM_STAT_ARMED == 1

/-- The rows that this device's own dispatches hold for a Bell in reset arrive once its crossing is armed (R34, R178). -/
def State.placeWaiting (s : State) (b : Nat) : State :=
  if s.moeOpen b then (s.bell b).moeWait.foldl State.placeMoe (s.onBell b fun x => { x with moeWait := [] }) else s

/-- DRAM_INIT_DONE (R51): every word holds zero data and valid check symbols. A Bell whose Seam link has trained
is live from then on (R420). -/
def execDramInitDone (b : Fin 8) (s : State) : Host.Outcome State Fault Refusal :=
  let x := s.bell b.val
  if x.initPending ∧ !x.inReset then
    let s1 : State := (s.clearDram b.val).onBell b.val (fun x => { x with initPending := false, poison := [] })
    let s2 : State := s1.setFld (R.BEL_STAT b.val) F.BEL_STAT_DRAM_INIT_DONE 1
    .next (if s2.fld (R.SEAM_STAT b.val) F.SEAM_STAT_STATE = 3 ∧ !x.retired then (s2.setBellLive b.val true).placeWaiting b.val else s2)
  else .next s

/-- The refresh interval in ns of a rate (R49). -/
def refreshNs (rate : Nat) : Nat := if rate = 0 then 3900 else if rate = 1 then 1950 else 975

/-- BANK_REFRESH (R49, R50): a bank whose interval has passed is refreshed. It changes no data. -/
def execBankRefresh (b : Fin 8) (die : Fin 4) (bse : Fin 64) (bank : Fin 16) (s : State) : Host.Outcome State Fault Refusal :=
  let k := (die.val * 64 + bse.val) * 16 + bank.val
  let last := SMap.get (fun _ => 0) (s.bell b.val).refAt k
  let iv := refreshNs (s.fld (R.BEL_REFRESH b.val) (F.BEL_REFRESH_RATE die.val))
  if last + iv ≤ s.now then .next (s.onBell b.val (fun x => { x with refAt := SMap.set (fun _ => 0) x.refAt k s.now })) else .next s

/-- Words that a scrub pass reads: 5,859,375 in each of 256 regions (R44, R52). -/
def scrubWords : Nat := 256 * 5859375

/-- The Bell offset of the i-th word of a pass. -/
def scrubOff (i : Nat) : Nat := bseOff (i / 5859375) (i % 5859375 * 64)

/-- The next word of the pass read by the scrubber under R47. -/
def State.scrubWord (s : State) (b : Nat) (ups : List Upset) : State :=
  let i := (s.bell b).scrubNext
  let s1 : State := (s.readWord b (scrubOff i) ups true).1.onBell b fun y => { y with scrubNext := i + 1 }
  s1.setFld (R.BEL_SCRUB_STAT b) F.BEL_SCRUB_STAT_PROGRESS (min 65535 ((i + 1) * 65536 / scrubWords))

/-- SCRUB_STEP (R52, R53): the next word of the pass is read. A pass that is not finished within its period sets LATE and goes on; one that has ended
waits for the next period. -/
def execScrubStep (b : Fin 8) (ups : List Upset) (s : State) : Host.Outcome State Fault Refusal :=
  let b := b.val
  let x := s.bell b
  if x.inReset ∨ x.retired ∨ x.initPending ∨ s.fld (R.BEL_SCRUB_CTL b) F.BEL_SCRUB_CTL_EN = 0 ∨ s.inStrike then .next s
  else
    let s1 : State := s.scrubRoll b
    let y := s1.bell b
    let lagging := decide (some y.scrubPass ≠ y.scrubFrom)
    if y.scrubNext < scrubWords then
      .next ((if lagging then s1.setFld (R.BEL_SCRUB_STAT b) F.BEL_SCRUB_STAT_LATE 1 else s1).scrubWord b ups)
    else if lagging then
      .next ((s1.onBell b (fun z => { z with scrubNext := 0, scrubPass := z.scrubFrom.getD 0 })).setFld (R.BEL_SCRUB_STAT b) F.BEL_SCRUB_STAT_PROGRESS 0)
    else .next s1

/-- R53 at a reset: each candidate row of a Bell is remapped to a free repair row of its bank, or stays pending with EXHAUSTED and its
source raised. A bank has 75 repair rows (R43). -/
def State.repairRows (s : State) (b : Nat) : State :=
  let cands := (s.bell b).cand
  let s0 : State := s.setFld (R.BEL_ROWSPARE b) F.BEL_ROWSPARE_APPLIED 0
  let s1 : State := cands.foldl (fun t k =>
    let row := k % 2 ^ 14
    let bank := k / 2 ^ 14 % 16
    let n := k / 2 ^ 18
    let used := (t.dry.remap.filter (fun e => e.1 == b && e.2.1 == n / 64 && e.2.2.1 == n % 64 && e.2.2.2.1 == bank)).length
    if used < 75 then
      let t1 : State := { t with dry := { t.dry with remap := t.dry.remap ++ [(b, n / 64, n % 64, bank, row)] } }
      let t2 : State := t1.onBell b (fun x => { x with cand := x.cand.filter (fun j => j != k) })
      (t2.addFld (R.BEL_ROWSPARE b) F.BEL_ROWSPARE_APPLIED 1).dryEvent 0x0F (b + 1) (le 1 b ++ le 1 (n / 64) ++ le 1 (n % 64) ++ le 1 bank ++ le 2 row ++ le 1 1)
    else (t.setFld (R.BEL_ROWSPARE b) F.BEL_ROWSPARE_EXHAUSTED 1).pulse (srcBell b 5) (le 1 (n / 64) ++ le 1 (n % 64) ++ le 1 bank ++ le 2 row)) s0
  s1.setFld (R.BEL_ROWSPARE b) F.BEL_ROWSPARE_PENDING (min 255 (s1.bell b).cand.length)

end Sys2Proof.Machine
end

