-- ==== Sys2Proof/Machine/Fec.lean ====
section
/-!
DEFINITION. The line codes of the links: the CRC-64 and the RS(128,120) codewords of a flit (R207, R208), the CRC16 of markers (R203),
and the lane scrambler (R201).
-/

namespace Sys2Proof.Machine

open Sys2Proof

/-- CRC-64 of R208. -/
def crc64 (l : List Byte) : Nat := crcMsb 64 0x42F0E1EBA9EA3693 (2 ^ 64 - 1) l ^^^ (2 ^ 64 - 1)

/-- CRC16 of a marker (R203). -/
def crc16 (l : List Byte) : Nat := crcMsb 16 0x1021 0xFFFF l

/-- Multiplication by α in GF(2⁸) with x⁸ + x⁴ + x³ + x² + 1 (R207). -/
def gfDbl (a : Nat) : Nat := if 128 ≤ a then (2 * a) % 256 ^^^ 0x1D else 2 * a

/-- The product in GF(2⁸), over the low n bits of b. -/
def gfMulBits : Nat → Nat → Nat → Nat
  | 0, _, _ => 0
  | n + 1, a, b => (if b % 2 = 1 then a else 0) ^^^ gfMulBits n (gfDbl a) (b / 2)

/-- The product in GF(2⁸). -/
def gfMul (a b : Nat) : Nat := gfMulBits 8 a b

/-- α to the power n. -/
def gfExp : Nat → Nat
  | 0 => 1
  | n + 1 => gfDbl (gfExp n)

/-- a to the power n. -/
def gfPow (a : Nat) : Nat → Nat
  | 0 => 1
  | n + 1 => gfMul a (gfPow a n)

/-- The inverse of a nonzero element: a to the power 254. -/
def gfInv (a : Nat) : Nat :=
  let a2 := gfMul a a
  let a4 := gfMul a2 a2
  let a8 := gfMul a4 a4
  let a16 := gfMul a8 a8
  let a32 := gfMul a16 a16
  let a64 := gfMul a32 a32
  let a128 := gfMul a64 a64
  gfMul a2 (gfMul a4 (gfMul a8 (gfMul a16 (gfMul a32 (gfMul a64 a128)))))

/-- The value at x of a polynomial with its highest coefficient first. -/
def gfHorner (x : Nat) (l : List Nat) : Nat := l.foldl (fun acc c => gfMul acc x ^^^ c) 0

/-- The generator with roots α⁰ to α⁷, highest coefficient (1) first (R207). -/
def rsGen : List Nat :=
  (List.range 8).foldl (fun g i => (List.range (g.length + 1)).map fun j =>
    (g.getD j 0) ^^^ (if j = 0 then 0 else gfMul (gfExp i) (g.getD (j - 1) 0))) [1]

/-- The eight parity bytes of a codeword's data: the remainder of data · x⁸ by the generator. -/
def rsParity (data : List Nat) : List Nat :=
  let g := rsGen.drop 1
  data.foldl (fun r d =>
    let f := d ^^^ r.getD 0 0
    (List.range 8).map fun j => r.getD (j + 1) 0 ^^^ gfMul f (g.getD j 0)) (List.replicate 8 0)

/-- The syndromes of a codeword: its values at α⁰ to α⁷. -/
def rsSyn (cw : List Nat) : List Nat := (List.range 8).map fun i => gfHorner (gfExp i) cw

/-- State of the search for the error locator (lowest coefficient first): locator, previous locator, length, gap, discrepancy. -/
structure Bm where
  c : List Nat
  b : List Nat
  len : Nat
  gap : Nat
  d : Nat
  deriving DecidableEq, Repr

/-- One step of the search, with syndrome n. -/
def bmStep (syn : List Nat) (x : Bm) (n : Nat) : Bm :=
  let d := (List.range (x.len + 1)).foldl (fun acc i => acc ^^^ gfMul (x.c.getD i 0) (syn.getD (n - i) 0)) 0
  if d = 0 then { x with gap := x.gap + 1 }
  else
    let k := gfMul d (gfInv x.d)
    let shifted := List.replicate x.gap 0 ++ x.b.map (gfMul k)
    let c' := (List.range (max x.c.length shifted.length)).map fun i => x.c.getD i 0 ^^^ shifted.getD i 0
    if 2 * x.len ≤ n then ⟨c', x.c, n + 1 - x.len, 1, d⟩ else { x with c := c', gap := x.gap + 1 }

/-- The corrected codeword of 128 bytes and the number of bytes corrected; none where it is not within 4 bytes of a codeword (R207). -/
def rsDecode (cw : List Nat) : Option (List Nat × Nat) :=
  let syn := rsSyn cw
  if syn.all (· == 0) then some (cw, 0)
  else
    let x := (List.range 8).foldl (bmStep syn) ⟨[1], [1], 0, 1, 1⟩
    let value (p : List Nat) (v : Nat) : Nat := gfHorner v p.reverse
    let degs := (List.range 128).filter fun e => value x.c (gfInv (gfExp e)) == 0
    if 4 < x.len ∨ degs.length ≠ x.len then none
    else
      let omega := (List.range 8).map fun i =>
        (List.range (i + 1)).foldl (fun acc j => acc ^^^ gfMul (x.c.getD j 0) (syn.getD (i - j) 0)) 0
      let deriv := (List.range 8).map fun i => if i % 2 = 0 then x.c.getD (i + 1) 0 else 0
      let mag (e : Nat) : Nat :=
        let xi := gfInv (gfExp e)
        gfMul (gfExp e) (gfMul (value omega xi) (gfInv (value deriv xi)))
      let fixed := (List.range 128).map fun i =>
        let e := 127 - i
        if degs.contains e then cw.getD i 0 ^^^ mag e else cw.getD i 0
      if (rsSyn fixed).all (· == 0) then some (fixed, degs.length) else none

/-- Every second byte of a flit from byte i: codeword 0 from 0, codeword 1 from 1 (R207). -/
def codeword (flit : List Byte) (i : Nat) : List Nat := (List.range 128).map fun k => (flit.getD (2 * k + i) 0).toNat

/-- The bytes of two codewords in turn. -/
def interleave (a b : List Nat) : List Byte :=
  (List.range a.length).flatMap fun k => [BitVec.ofNat 8 (a.getD k 0), BitVec.ofNat 8 (b.getD k 0)]

/-- A flit of 256 bytes: header, payload, CRC-64 and parity (R205). -/
def flitBytes (header : Nat) (payload : List Byte) : List Byte :=
  let l := le 8 header ++ fit 224 payload
  let l := l ++ le 8 (crc64 l)
  let half (i : Nat) : List Nat := (List.range 120).map fun k => (l.getD (2 * k + i) 0).toNat
  l ++ interleave (rsParity (half 0)) (rsParity (half 1))

/-- What a receiver makes of 256 bytes (R208): the header and the payload of a good flit; otherwise whether only the CRC failed. `errs` are the places of
the bytes that the decoder has corrected. -/
structure FlitRead where
  good : Option (Nat × List Byte) := none
  crcOnly : Bool := false
  errs : List Nat := []
  deriving DecidableEq, Repr

/-- The places in a flit where codeword i was corrected (R207, R227). -/
def errPlaces (i : Nat) (cw : List Nat) (fixed : List Nat) : List Nat :=
  (List.range 128).filterMap fun k => if cw.getD k 0 = fixed.getD k 0 then none else some (2 * k + i)

/-- A flit decoded: both codewords first, then the CRC-64 on the corrected bytes (R208). -/
def flitDecode (l : List Byte) : FlitRead :=
  let a := rsDecode (codeword l 0)
  let b := rsDecode (codeword l 1)
  let errs := a.elim [] (errPlaces 0 (codeword l 0) ·.1) ++ b.elim [] (errPlaces 1 (codeword l 1) ·.1)
  match a, b with
  | some x, some y =>
    let f := interleave x.1 y.1
    if crc64 (f.take 232) = leAt f 232 8 then ⟨some (leAt f 0 8, (f.drop 8).take 224), false, errs⟩ else ⟨none, true, errs⟩
  | _, _ => ⟨none, false, errs⟩

/-- k bits of the scrambler x³¹ + x²⁸ + 1 from a state (R201): the bits in order and the state after them. -/
def scramble : Nat → Nat → List Bool × Nat
  | 0, st => ([], st)
  | k + 1, st =>
    let o := bit st 30
    let r := scramble k (st * 2 % 2 ^ 31 + b2n (o != bit st 27))
    (o :: r.1, r.2)

/-- A byte from eight bits, least significant first (R199). -/
def byteOf (l : List Bool) : Byte := BitVec.ofNat 8 ((List.range 8).foldl (fun n i => n + b2n (l.getD i false) * 2 ^ i) 0)

/-- The level of a symbol of two bits, Gray coded (R199): 0b00, 0b01, 0b11 and 0b10 are the levels 0 to 3. -/
def grayLevel (n : Nat) : Nat := if n = 2 then 3 else if n = 3 then 2 else n

/-- The PAM4 levels of bytes in transmission order (R199): the four symbols of each byte, from its low bits up. -/
def pam4 (l : List Byte) : List Nat := l.flatMap fun b => (List.range 4).map fun j => grayLevel (b.toNat / 4 ^ j % 4)

/-- Bytes with the most significant bit of every symbol inverted (R204). -/
def flipMsb (l : List Byte) : List Byte := l.map (· ^^^ 0xAA)

/-- The n bytes that a line carries in an interval scrambled, and the scrambler after them; the receiver takes the scrambling away in the same way
(R201, R285). -/
def scrambleBytes (n st : Nat) (c : List Byte) : List Byte × Nat :=
  let r := scramble (8 * n) st
  ((List.range n).map fun i => c.getD i 0 ^^^ byteOf ((r.1.drop (8 * i)).take 8), r.2)

/-- A 16-byte chunk scrambled (R201). -/
def scrambleChunk (st : Nat) (c : List Byte) : List Byte × Nat := scrambleBytes 16 st c

/-- The scrambler as a marker loads it (R201). -/
def scrLoad (port line : Nat) : Nat := 0x40000000 + 256 * port + line

end Sys2Proof.Machine
end

