-- ==== Sys2Proof/Machine/Strike.lean ====
section
/-!
DEFINITION. The Strike state (R370 to R372): entry, its record, and the guard that stops the mission blocks in it.
-/

namespace Sys2Proof.Machine

open Sys2Proof

/-- MIRROR_GAP records of a list of streams, 19 to a record (R390, R391). -/
def gapRecords : Nat → List Nat → List (List Byte)
  | 0, _ => []
  | n + 1, l => if l.isEmpty then [] else (le 1 (l.take 19).length ++ zeros 3 ++ (l.take 19).flatMap (le 4)) :: gapRecords n (l.drop 19)

/-- A second failure that may lose accepted orders (R191): the streams of the entries of certain homes that wait for this device's buddy. -/
def State.mirrorGap (s : State) (homes : Nat → Bool) : State :=
  let idx := s.trn.reqs.filterMap fun r => match r.purpose with
    | Purpose.mirror i _ => some i
    | _ => none
  let streams := ((s.jrn.own.filter fun e => idx.contains e.1 && homes e.2.node).map fun e => e.2.wo.stream).eraseDups
  if streams.isEmpty then s
  else (gapRecords streams.length streams).foldl (fun t d => t.dryEvent 0x0D 0 d) (s.pulse 27 (le 2 streams.length))

/-- Entry into the Strike state from a cause (R370): FLT_STAT.STRIKE, FLT_STRIKE_CAUSE, the strike in progress, and every port down
since the transmitters go dark (R371). A cause met in the Strike state changes nothing. A device that fails before its buddy holds the entries it adopts
records the gap itself: no other Dry bag can (R191; DEDUCED, log entry 188). -/
def State.enterStrike (s : State) (cause check : Nat) : State :=
  if s.inStrike then s
  else
    let s1 : State := s.setFld R.FLT_STAT F.FLT_STAT_STRIKE 1
    let s2 : State := s1.setReg R.FLT_STRIKE_CAUSE (BitVec.ofNat 32 (cause % 512 + 2 ^ 31))
    let s3 : State := { s2 with flt := { s2.flt with strike := some { cause := cause, at_ := s.now, check := check } } }.mirrorGap s.jrn.adopting.contains
    (List.range 32).foldl (fun t p => t.setPort p { t.port p with down := true }) s3

/-- A step that the Strike state stops (R371): link layers, Bells, collective engines and poles. -/
def State.live (s : State) (k : State → State) : State := if s.inStrike then s else k s

/-- The DETAIL of a STRIKE record (R390). -/
def strikeDetail (x : StrikeSt) : List Byte :=
  le 2 x.cause ++ le 2 x.check ++ x.steps.flatMap (fun t => le 4 (t.getD 0xFFFFFFFF))

/-- The STRIKE record, written once (R371). -/
def State.strikeRecord (s : State) : State :=
  match s.flt.strike with
  | some x =>
    if x.recorded then s
    else
      let s1 : State := { s with flt := { s.flt with strike := some { x with recorded := true } } }
      s1.dryWrite { type := 3, flags := 4 * b2n (s.pair x.cause).injected, ftc := s.ftc, wall := s.wall, node := s.node, restart := s.trn.restart,
                    detail := fit 80 (strikeDetail x) }
  | none => s

/-- STRIKE_RECORD_WRITE (R371): the measured times of the four steps are taken; the record is written once every step has completed,
or 5 ms after the cause. -/
def execStrikeRecordWrite (faultN outputs dark flaps : Option Nat) (s : State) : Host.Outcome State Fault Refusal :=
  match s.flt.strike with
  | some x =>
    let ts := [faultN, outputs, dark, flaps]
    let merged := (List.range 4).map fun i =>
      match x.steps.getD i none with
      | some t => some t
      | none => ts.getD i none
    let s1 : State := { s with flt := { s.flt with strike := some { x with steps := merged } } }
    if merged.all (·.isSome) ∨ 5000000 + x.at_ ≤ s.now then .next s1.strikeRecord else .next s1
  | none => .next s

/-- STRIKE_COMMAND (R370): the key 0x5354_524B written to FLT_STRIKE over the Guy line reports source 30 and enters Strike; other
values are ignored. -/
def execStrikeCommand (key : BitVec 32) (s : State) : Host.Outcome State Fault Refusal :=
  if key = 0x5354524B then .next ((s.pulse 30 []).enterStrike 30 0xFFFF) else .next s

end Sys2Proof.Machine
end

