-- ==== Sys2Proof/Machine/Ether.lean ====
section
/-!
DEFINITION. Frames of the bridge (R192, R193): Ethernet, IPv6, UDP and ICMPv6 fields and checksums. The header layouts and the neighbour discovery
messages are those of their published standards (PRESUMED, log entry 62).
-/

namespace Sys2Proof.Machine

open Sys2Proof

/-- The sum of the 16-bit words of a byte string, most significant byte first; an odd last byte is padded with zero. -/
def sum16 : List Byte → Nat
  | [] => 0
  | [a] => a.toNat * 256
  | a :: b :: t => a.toNat * 256 + b.toNat + sum16 t

/-- One's-complement folding to 16 bits; the sums here stay below 2^32. -/
def fold16 (n : Nat) : Nat :=
  let a := n % 65536 + n / 65536
  let b := a % 65536 + a / 65536
  b % 65536 + b / 65536

/-- The pseudo-header of IPv6 upper-layer checksums. -/
def pseudo (src dst : List Byte) (len next : Nat) : List Byte := src ++ dst ++ be 4 len ++ zeros 3 ++ le 1 next

/-- The upper-layer checksum of a payload whose checksum field holds 0; 0 is sent as 0xFFFF. -/
def cksum (src dst : List Byte) (next : Nat) (payload : List Byte) : Nat :=
  let c := 65535 - fold16 (sum16 (pseudo src dst payload.length next ++ payload))
  if c = 0 then 65535 else c

/-- A received upper-layer payload verifies: the sum with its checksum is 0xFFFF. -/
def cksumOk (src dst : List Byte) (next : Nat) (payload : List Byte) : Bool :=
  fold16 (sum16 (pseudo src dst payload.length next ++ payload)) == 65535

/-- An IPv6 packet. -/
def ip6 (src dst : List Byte) (flow next hop : Nat) (payload : List Byte) : List Byte :=
  be 4 (6 * 2 ^ 28 + flow % 2 ^ 20) ++ be 2 payload.length ++ le 1 next ++ le 1 hop ++ src ++ dst ++ payload

/-- A UDP datagram in IPv6 with hop limit 64 (R193). -/
def udpPacket (src dst : List Byte) (flow sport dport : Nat) (data : List Byte) : List Byte :=
  let head := be 2 sport ++ be 2 dport ++ be 2 (8 + data.length)
  ip6 src dst flow 17 64 (head ++ be 2 (cksum src dst 17 (head ++ zeros 2 ++ data)) ++ data)

/-- An ICMPv6 message in IPv6: type, code 0, and the rest of the message. -/
def icmpPacket (src dst : List Byte) (hop type : Nat) (rest : List Byte) : List Byte :=
  let head := le 1 type ++ zeros 1
  ip6 src dst 0 58 hop (head ++ be 2 (cksum src dst 58 (head ++ zeros 2 ++ rest)) ++ rest)

/-- The solicited-node multicast address of an IPv6 address, the MAC of a multicast address, and the all-nodes address. -/
def solicited (a : List Byte) : List Byte := [0xFF, 0x02] ++ zeros 9 ++ [0x01, 0xFF] ++ a.drop 13
def mcastMac (a : List Byte) : List Byte := [0x33, 0x33] ++ a.drop 12
def allNodes : List Byte := [0xFF, 0x02] ++ zeros 13 ++ [0x01]

/-- An Ethernet frame that carries an IPv6 packet (R193). -/
def ip6Frame (dmac smac packet : List Byte) : List Byte := dmac ++ smac ++ [0x86, 0xDD] ++ packet

/-- A neighbour solicitation for an address, from an interface with a MAC. -/
def solicitation (src smac a : List Byte) : List Byte :=
  ip6Frame (mcastMac (solicited a)) smac (icmpPacket src (solicited a) 255 135 (zeros 4 ++ a ++ [1, 1] ++ smac))

/-- A received frame without its FCS, as far as the bridge reads it: MAC addresses, EtherType, the IPv6 fields and the upper-layer payload. -/
structure Frame where
  dmac : List Byte
  smac : List Byte
  etype : Nat
  ver : Nat
  next : Nat
  hop : Nat
  src : List Byte
  dst : List Byte
  whole : Bool
  payload : List Byte
  deriving DecidableEq, Repr

/-- Reading a frame. `whole` says that it is no longer than 9,216 bytes with its FCS (R192) and holds the payload its IPv6 header announces. -/
def Frame.parse (l : List Byte) : Frame :=
  let n := beAt l 18 2
  { dmac := l.take 6, smac := (l.drop 6).take 6, etype := beAt l 12 2, ver := beAt l 14 1 / 16, next := beAt l 20 1, hop := beAt l 21 1,
    src := (l.drop 22).take 16, dst := (l.drop 38).take 16, whole := decide (l.length + 4 ≤ 9216) && decide (54 + n ≤ l.length),
    payload := (l.drop 54).take n }

end Sys2Proof.Machine
end

