-- ==== Sys2Proof/Machine/Messages.lean ====
section
/-!
DEFINITION. ZFP messages on the wire (R171), what a receiver discards (R172), message types and classes (R174), and the byte
layouts of the work order (R81), its response (R183), completions (R90, R186), part reports and mirror updates.
-/

namespace Sys2Proof.Machine

open Sys2Proof

/-- The 32-byte header and the body of a message (R171). -/
def Msg.bytes (m : Msg) : List Byte :=
  [BitVec.ofNat 8 (m.ver % 16), BitVec.ofNat 8 m.mtype,
   BitVec.ofNat 8 (b2n m.resp + 2 * b2n m.alt + 4 * b2n m.retx), BitVec.ofNat 8 m.ttl]
  ++ le 4 (m.dstNode % 2 ^ 20 + m.dstDie % 32 * 2 ^ 20) ++ le 4 (m.srcNode % 2 ^ 20 + m.srcDie % 32 * 2 ^ 20)
  ++ le 2 m.epoch ++ le 2 m.body.length ++ le 8 m.tid ++ le 4 m.origTick ++ [BitVec.ofNat 8 m.status] ++ zeros 3 ++ m.body

/-- The message as put on a wire: header, body and MCRC (R171). -/
def Msg.encode (m : Msg) : List Byte := m.bytes ++ le 4 (crc32 m.bytes)

/-- The message that a byte string holds; none where R172 has the receiver discard it: an unknown VER, a failing MCRC, a
reserved field that is not 0, a LEN above 8,192 or a length other than LEN's. -/
def Msg.parse (l : List Byte) : Option Msg :=
  let len := leAt l 14 2
  let d := leAt l 4 4
  let c := leAt l 8 4
  let f := leAt l 2 1
  if l.length = 36 + len ∧ len ≤ 8192 ∧ (leAt l 0 1 = 1 ∨ leAt l 0 1 = 2) ∧ f < 8 ∧ d < 2 ^ 25 ∧ c < 2 ^ 25
      ∧ leAt l 29 3 = 0 ∧ leAt l (32 + len) 4 = crc32 (l.take (32 + len)) then
    some { ver := leAt l 0 1, mtype := leAt l 1 1, resp := bit f 0, alt := bit f 1, retx := bit f 2, ttl := leAt l 3 1,
           dstNode := bits d 19 0, dstDie := bits d 24 20, srcNode := bits c 19 0, srcDie := bits c 24 20,
           epoch := leAt l 12 2, tid := leAt l 16 8, origTick := leAt l 24 4, status := leAt l 28 1,
           body := (l.drop 32).take len }
  else none

/-- Repeat classes of R174. -/
inductive MClass where
  | idem | window | selfDedup
  deriving DecidableEq, Repr

/-- The class of a request's MTYPE (R174). -/
def mclass (mtype : Nat) : MClass :=
  if mtype = 0x02 ∨ mtype = 0x06 ∨ mtype = 0x2A then .idem
  else if mtype = 0x04 ∨ mtype = 0x08 ∨ mtype = 0x14 then .window
  else .selfDedup

/-- The drain class of R165: REG_RD, REG_WR, PITCH_QUERY, JRN_MIRROR and COMPLETION, with their responses. -/
def drainType (mtype : Nat) : Bool :=
  [0x06, 0x07, 0x08, 0x09, 0x2A, 0x2B, 0x24, 0x25, 0x12, 0x13].contains mtype

/-- Node IDs that R13 reserves. The broadcast value is not one. -/
def reservedNode (n : Nat) : Bool := decide (0x3FFFF < n) && n != 0xFFFFF

/-- The fields of a 128-byte work order (R81). -/
def WorkOrder.decode (l : List Byte) : WorkOrder :=
  let n := leAt l
  { type := n 0 1, dclass := bits (n 1 1) 1 0, strict := bit (n 1 1) 2, spec := bit (n 1 1) 3, branch := bits (n 2 1) 2 0,
    arg8 := n 3 1, stream := n 4 4, seq := n 8 8, launchTick := n 16 8, pipe := bits (n 24 2) 9 0, hctx := bits (n 26 2) 11 0,
    tag := n 28 4, pos := n 32 4, ntok := n 36 2, topK := n 38 1, temp := n 40 4, topP := n 44 4, seed := (l.drop 48).take 16,
    refB := n 64 4, refOut := n 68 4, refColl := n 72 4, refMask := bits (n 76 1) 2 0, srcAddr := n 80 8, srcLen := n 88 4,
    tokens := (List.range 8).map (fun i => n (92 + 4 * i) 4), crc := n 124 4 }

/-- Reserved bits and bytes of R81 are zero. -/
def reservedZero (l : List Byte) : Bool :=
  let n := leAt l
  bits (n 1 1) 7 4 == 0 && bits (n 2 1) 7 3 == 0 && bits (n 24 2) 15 10 == 0 && bits (n 26 2) 15 12 == 0 && n 39 1 == 0
    && bits (n 76 1) 7 3 == 0 && n 77 3 == 0

/-- The order as bytes again (for LAUNCH and JRN_MIRROR, which carry it). -/
def WorkOrder.encode (w : WorkOrder) : List Byte :=
  le 1 w.type ++ le 1 (w.dclass + 4 * b2n w.strict + 8 * b2n w.spec) ++ le 1 w.branch ++ le 1 w.arg8 ++ le 4 w.stream
    ++ le 8 w.seq ++ le 8 w.launchTick ++ le 2 w.pipe ++ le 2 w.hctx ++ le 4 w.tag ++ le 4 w.pos ++ le 2 w.ntok ++ le 1 w.topK
    ++ le 1 0 ++ le 4 w.temp ++ le 4 w.topP ++ fit 16 w.seed ++ le 4 w.refB ++ le 4 w.refOut ++ le 4 w.refColl
    ++ le 1 w.refMask ++ le 3 0 ++ le 8 w.srcAddr ++ le 4 w.srcLen
    ++ ((List.range 8).flatMap (fun i => le 4 (w.tokens.getD i 0))) ++ le 4 w.crc

/-- The WO_SUBMIT response body (R183). -/
def submitBody (ok : Bool) (reason : Nat) (w : WorkOrder) (tick : Nat) : List Byte :=
  le 1 (b2n (!ok)) ++ le 1 reason ++ le 2 0 ++ le 4 w.stream ++ le 8 w.seq ++ le 8 (if ok then tick else 0)

/-- The LAUNCH body (R174): GEN, the launch tick and the work order. -/
def launchBody (gen tick : Nat) (w : WorkOrder) : List Byte := le 1 gen ++ le 8 tick ++ w.encode

/-- The PART_REPORT body. R174 names its fields and gives them no offsets: a layout of the model, with the identity (STREAM,
SEQ), L and n_b that R90 needs. -/
def Report.encode (stream seq : Nat) (r : Report) : List Byte :=
  le 4 stream ++ le 8 seq ++ le 1 r.gen ++ le 1 r.status ++ le 1 r.flags ++ le 1 r.errCode ++ le 2 r.nsamp ++ le 1 r.errDie
    ++ le 1 r.vlen ++ le 4 r.len ++ r.tokens.flatMap (le 4)

/-- Reading that layout. -/
def Report.decode (node : Nat) (l : List Byte) : Nat × Nat × Report :=
  let n := leAt l
  (n 0 4, n 4 8, { node := node, gen := n 12 1, status := n 13 1, flags := n 14 1, errCode := n 15 1, nsamp := n 16 2,
                   errDie := n 18 1, vlen := n 19 1, len := n 20 4,
                   tokens := (List.range (n 16 2)).map (fun i => n (24 + 4 * i) 4) })

/-- A 64-byte completion (R90). -/
def completionBytes (w : WorkOrder) (status flags dclass nsamp start len vlen errCode errNode errDie : Nat) (tok : List Nat) :
    List Byte :=
  let b := le 1 w.type ++ le 1 status ++ le 1 flags ++ le 1 (dclass + 4 * w.branch) ++ le 4 w.stream ++ le 8 w.seq ++ le 4 w.tag
    ++ le 2 w.hctx ++ le 2 nsamp ++ le 8 start ++ le 4 len ++ le 1 vlen ++ le 1 errCode ++ le 2 0
    ++ le 4 (errNode + errDie * 2 ^ 20) ++ (List.range 4).flatMap (fun i => le 4 (tok.getD i 0xFFFFFFFF))
  b ++ le 4 (crc32 b)

/-- The token block of R92: all tokens, padded with zeros to a multiple of 64 bytes; none for four tokens or fewer. -/
def tokenBlock (tok : List Nat) : List Byte :=
  if tok.length ≤ 4 then [] else fit (alignUp (4 * tok.length) 64) (tok.flatMap (le 4))

/-- The COMPLETION body (R186): delivery header, completion, token block. -/
def deliveryBody (dseq hctx : Nat) (owner resend : Bool) (comp : List Byte) : List Byte :=
  le 8 dseq ++ le 2 hctx ++ le 1 (b2n owner + 2 * b2n resend) ++ le 1 0 ++ le 4 (comp.length - 64) ++ comp

/-- The state of a journal entry as a JRN_MIRROR update codes it. R181 and R184 say what an update carries and not its
offsets: the model's layout is the entry index, the target state (5 = released), then the entry's data. -/
def JState.code : JState → Nat
  | .awaiting => 0 | .accepted => 1 | .launched => 2 | .done => 3 | .delivered => 4
def JState.ofCode (n : Nat) : Option JState :=
  if n = 0 then some .accepted else if n = 1 then some .accepted else if n = 2 then some .launched else if n = 3 then some .done
  else if n = 4 then some .delivered else none

/-- A JRN_MIRROR body: index, state, home node, GEN, the order, then the DSEQ values and the completion. -/
def mirrorBody (idx target : Nat) (e : JEntry) : List Byte :=
  le 4 idx ++ le 1 target ++ le 1 e.gen ++ le 1 e.dseqs.length ++ le 1 0 ++ le 4 e.node ++ le 8 e.acceptTick ++ e.wo.encode
    ++ e.dseqs.flatMap (fun d => le 2 d.1 ++ le 6 d.2.1) ++ e.comp

/-- The bodies of a JRN_MIRROR that carries a binding record (R187) or a stream record (R190): the number no entry has, the code 6 or 7, and the record. -/
def bindingBody (hctx bridge : Nat) : List Byte := le 4 0xFFFFFFFF ++ le 4 6 ++ le 4 hctx ++ le 4 bridge
def streamBody (st : Stream) (h : HomeSt) : List Byte :=
  le 4 0xFFFFFFFF ++ le 4 7 ++ le 4 st.id ++ le 4 h.node ++ le 8 h.nextSeq ++ le 2 h.pipe ++ le 2 st.owner ++ h.dseq.flatMap fun d => le 2 d.1 ++ le 6 d.2

/-- Reading a stream record; `shards` gives the shard set of its pipeline. -/
def streamDecode (shards : Nat → List Nat) (l : List Byte) : Stream :=
  let n := leAt l
  { id := n 8 4, owner := n 26 2,
    home := some { node := n 12 4, nextSeq := n 16 8, pipe := n 24 2, shards := shards (n 24 2),
                   dseq := (List.range ((l.length - 28) / 8)).foldl (fun m i => SMap.set (fun _ => 0) m (n (28 + 8 * i) 2) (n (30 + 8 * i) 6)) [] } }

/-- Reading a JRN_MIRROR body: index, state code and the entry as the mirror holds it. -/
def mirrorDecode (now : Nat) (l : List Byte) (sub : Msg) : Nat × Nat × JEntry :=
  let n := leAt l
  let k := n 6 1
  (n 0 4, n 4 1,
   { node := n 8 4, wo := WorkOrder.decode ((l.drop 20).take 128), sub := sub, st := (JState.ofCode (n 4 1)).getD .accepted,
     gen := n 5 1, acceptTick := n 12 8, acceptAt := now,
     dseqs := (List.range k).map (fun i => (n (148 + 8 * i) 2, n (150 + 8 * i) 6, false)), comp := l.drop (148 + 8 * k) })

end Sys2Proof.Machine
end

