-- ==== Sys2Proof/Machine/Links.lean ====
section
/-!
DEFINITION. Ports as the layers above and below see them: the port uses (R149, R198, R418), the state of a link (R234), what
waits to be sent on it (R209, R217, R219), and path links (R277, R281). Link ends 0 to 31 are ports; 32 + 2i and 33 + 2i are the path
links of ring port i of 0, 1, 16 and 17 to the devices two and three hops away.
-/

namespace Sys2Proof.Machine

open Sys2Proof

/-- The ring ports (R418). -/
def ringPorts : List Nat := [0, 1, 16, 17]

/-- The port of a link end: a path link runs on its ring port (R277). -/
def basePort (p : Nat) : Nat := if p < 32 then p else ringPorts.getD ((p - 32) / 2) 0

/-- PORT_USE in force (R149); until an image is in force the ring ports are RING and the others OFF (R418). 0 OFF, 1 RING, 2 FABRIC,
3 ETHERNET, 4 COMPAT. -/
def State.portUse (s : State) (p : Nat) : Nat :=
  if s.active then s.img.portUse (basePort p) else if ringPorts.contains (basePort p) then 1 else 0

/-- The link layer runs on the port (R198). -/
def State.linkUse (s : State) (p : Nat) : Bool := [1, 2, 4].contains (s.portUse p)
def State.compat (s : State) (p : Nat) : Bool := s.portUse p == 4
def State.isRing (s : State) (p : Nat) : Bool := s.portUse p == 1

/-- LNK_STAT.STATE (R234): 0 DISABLED, 1 DARK, 2 LOCK, 3 ALIGN, 4 PARAM, 5 ACTIVE, 6 IDLE, 7 RETRAIN, 8 HELD. -/
def State.lnk (s : State) (p : Nat) : Nat := s.fld (R.LNK_STAT p) F.LNK_STAT_STATE
def State.setLnk (s : State) (p v : Nat) : State := s.setFld (R.LNK_STAT p) F.LNK_STAT_STATE v
def State.isActive (s : State) (p : Nat) : Bool := s.lnk p == 5

/-- The time that a link's timers count (R277): ns, and for a path link its own intervals. -/
def State.linkNow (s : State) (p : Nat) : Nat := if p < 32 then s.now else (s.port p).own

/-- A port's part replaced by a function of it. -/
def State.modPort (s : State) (p : Nat) (f : PortSt → PortSt) : State := s.setPort p (f (s.port p))

/-- The VC of a message (R174). -/
def vcOf (m : Msg) : Nat :=
  if [0x04, 0x26, 0x28].contains m.mtype then 2
  else if m.resp ∨ [0x12, 0x22].contains m.mtype then 1
  else 0

/-- An element of a list replaced. -/
def setAt {α : Type} : List α → Nat → α → List α
  | [], _, _ => []
  | _ :: t, 0, v => v :: t
  | h :: t, n + 1, v => h :: setAt t n v

/-- A message put into the VC queue of a link end. -/
def State.enqueue (s : State) (p : Nat) (m : Msg) : State :=
  s.modPort p fun q =>
    let v := vcOf m
    let x := q.vcs.getD v {}
    { q with vcs := setAt q.vcs v { x with queue := x.queue ++ [m] } }

/-- The path links of a ring port. -/
def pathLinks (p : Nat) : List Nat :=
  match ringPorts.idxOf? p with
  | some i => [32 + 2 * i, 33 + 2 * i]
  | none => []

/-- The link end that a message leaves on (R281): an ACTIVE path link of the port whose far end is the message's destination, and
otherwise the port itself. -/
def State.linkFor (s : State) (p : Nat) (m : Msg) : Nat :=
  match (pathLinks p).find? (fun q => s.isActive q && s.fld (R.LNK_PEER q) F.LNK_PEER_NODE == m.dstNode) with
  | some q => q
  | none => p

/-- A control bypass message put into the queue of a link end (R217, R219). -/
def State.sendCbc (s : State) (p : Nat) (m : List Byte) : State := s.modPort p fun q => { q with cbcq := q.cbcq ++ [m] }

/-- A control bypass message of 8 bytes: CTYPE, LEN and up to four bytes of body (R219). -/
def cbc8 (ctype : Nat) (body : List Byte) : List Byte := le 1 ctype ++ le 1 8 ++ zeros 2 ++ fit 4 body
def cbc4 (ctype : Nat) : List Byte := le 1 ctype ++ le 1 4 ++ zeros 2

/-- THROTTLE of VC2 at rate 128 and RESUME of VC2, sent on a port (R221, R351, R363). -/
def State.sendThrottle (s : State) (p : Nat) : State := if s.isActive p then s.sendCbc p (cbc8 9 (le 1 4 ++ le 1 128)) else s
def State.sendResume (s : State) (p : Nat) : State := if s.isActive p then s.sendCbc p (cbc8 10 (le 1 4)) else s

/-- A timetable entry with the role and the hop of its byte 3 (R151, R276). -/
structure Entry3 where
  slot : Nat
  pair : Nat
  role : Nat
  hop : Nat
  lines : Nat
  deriving DecidableEq, Repr

/-- Entry i of the SLOT section. -/
def Store.entry (st : Store) (i : Nat) : Option Entry3 :=
  if i < st.sectNum 4 2 2 then
    let b := st.sectNum 4 (19 + 8 * i) 1
    some ⟨st.sectNum 4 (16 + 8 * i) 2, st.sectNum 4 (18 + 8 * i) 1, bits b 1 0, bits b 3 2, st.sectNum 4 (20 + 8 * i) 4 % 2 ^ 20⟩
  else none

/-- Input and output port of a PAIR code (R151). -/
def pairIn (pair : Nat) : Nat := [0, 1, 16, 17].getD pair 0
def pairOutPort (pair : Nat) : Nat := [1, 0, 17, 16].getD pair 0

/-- Entries of a role whose path uses a port: SOURCE by its output, DESTINATION by its input, in order of the section. -/
def Store.roleEntries (st : Store) (role port : Nat) : List (Nat × Entry3) :=
  (List.range (st.sectNum 4 2 2)).filterMap fun i =>
    match st.entry i with
    | some e => if e.role = role ∧ (if role = 1 then pairOutPort e.pair else pairIn e.pair) = port then some (i, e) else none
    | none => none

/-- The path link of an entry (R277): a DESTINATION's by its HOP; the k-th SOURCE entry of a port belongs to the path of the k-th DESTINATION
entry of that port, as the manual gives a SOURCE entry no distance. -/
def State.entryLink (s : State) (i : Nat) (e : Entry3) : Option Nat :=
  let port := if e.role = 1 then pairOutPort e.pair else pairIn e.pair
  let hop : Option Nat :=
    if e.role = 2 then some e.hop
    else
      let srcs := s.img.roleEntries 1 port
      let dsts := s.img.roleEntries 2 port
      let n := (srcs.takeWhile (fun x => x.1 != i)).length
      (dsts[n]?).map (·.2.hop)
  match hop, pathLinks port with
  | some 2, a :: _ => some a
  | some 3, _ :: b :: _ => some b
  | _, _ => none

/-- The lines that the SOURCE entries of a path link name (R277); all of them for a port. -/
def State.pathMask (s : State) (p : Nat) : Nat :=
  if p < 32 then 2 ^ 20 - 1
  else ((List.range (s.img.sectNum 4 2 2)).filterMap fun i =>
    (s.img.entry i).bind fun e => if e.role = 1 ∧ s.entryLink i e = some p then some e.lines else none).foldl (· &&& ·) (2 ^ 20 - 1)

/-- Lines: the spares of a port (R151), the lines of COMPAT (R268), and the comb lines a port or a path link may use for lanes (R277). -/
def State.spares (s : State) (p : Nat) : List Nat :=
  if s.active ∧ !s.compat p then [s.img.spareA (basePort p), s.img.spareB (basePort p)].filter fun k => bit (s.pathMask p) k else []
def State.lines (s : State) (p : Nat) : List Nat :=
  if s.compat p then (List.range 8).map fun i => i + 1 + s.img.compatLines (basePort p) % 256
  else ((List.range 18).map (· + 1)).filter (bit (s.pathMask p))

/-- A degrade action is in effect on a port (R363): one of its sources, or of its Canopy, slot or crossing. -/
def State.portDegraded (s : State) (p : Nat) : Bool :=
  let k := p / 4
  ((List.range 7).any fun n => (s.pair (srcPort p n)).degr) || ((List.range 12).any fun n => (s.pair (srcCan k n)).degr)
    || ((List.range 4).any fun n => (s.pair (srcSlot k n)).degr) || ((List.range 2).any fun n => (s.pair (srcCross (8 + k) n)).degr)

/-- A THROTTLE is due on a port (R351, R363): the port is degraded, or the Ridge, by heat or a device source, or its Canopy is throttled. -/
def State.throttleDue (s : State) (p : Nat) : Bool :=
  let hot (r : Nat) : Bool := (SMap.get (fun _ => {}) s.pwr.region r).on
  s.portDegraded p || hot 0 || hot (9 + p / 4) || (List.range 32).any fun i => (s.pair i).degr

/-- The THROTTLE of a port lifted by a RESUME, once nothing asks for it (R351, R363). -/
def State.liftThrottle (s : State) (p : Nat) : State := if s.throttleDue p then s else s.sendResume p

/-- The transmit width. -/
def State.txW (s : State) (p : Nat) : Nat := (s.port p).txMap.length

end Sys2Proof.Machine
end

