-- ==== Sys2Proof/Machine/Transport.lean ====
section
/-!
DEFINITION. The fabric transport: which ports a message may use (R165, R176), forwarding (R176, R177), requests of this device
with their timers and resends (R173, R178, R180), responses (R175), and the responder's deduplication table (R179, R180).
-/

namespace Sys2Proof.Machine

open Sys2Proof

/-- ZFP traffic flows: an image is in force and the FTC is ALIGNED, HOLDOVER or ROOT (R172), and the device is not in Strike
(R371). -/
def State.zfpFlows (s : State) : Bool :=
  s.active && (s.ftcState == 2 || s.ftcState == 3 || s.ftcState == 5) && !s.inStrike

/-- The switch does not treat port p as down (R176, R239), but for image disagreement. -/
def State.portUp (s : State) (p : Nat) : Bool := decide (p < 32) && !(s.port p).down

/-- A port is usable for a message (R176): it is up, and in image disagreement it carries the drain class only, from this end's
node or to the far end's (R165); nothing crosses while the FTC is not ALIGNED, HOLDOVER or ROOT (R238). -/
def State.usable (s : State) (p : Nat) (m : Msg) : Bool :=
  s.portUp p && (s.ftcState == 2 || s.ftcState == 3 || s.ftcState == 5) &&
    (s.fld (R.LNK_STAT p) F.LNK_STAT_IMG_MISMATCH == 0 ||
      (drainType m.mtype && (m.srcNode == s.node || m.dstNode == s.fld (R.LNK_PEER p) F.LNK_PEER_NODE)))

/-- What a switch does with a message (R176). -/
inductive RouteAct where
  | here
  | ttlDrop
  | send (port : Nat) (alternate : Bool)
  | unreach
  deriving DecidableEq, Repr

/-- The table of R176, first true row. -/
def State.route (s : State) (m : Msg) : RouteAct :=
  let r := s.img.route m.dstNode
  if r.1 = 62 then .here
  else if m.ttl = 0 then .ttlDrop
  else if m.alt ∧ r.2 ≠ 63 ∧ s.usable r.2 m then .send r.2 true
  else if r.1 ≠ 63 ∧ s.usable r.1 m then .send r.1 false
  else if r.2 ≠ 63 ∧ s.usable r.2 m then .send r.2 true
  else .unreach

/-- The bound address of the context whose number stands in bits [63:52] of a TID, or in a COMPLETION's delivery header. -/
def hostCtx (m : Msg) : Nat := if m.mtype = 0x12 then bits (leAt m.body 8 2) 11 0 else m.tid / 2 ^ 52

/-- STREAM[19:0] as the flow label of WO_SUBMIT, COMPLETION and COMP_ACK; 0 otherwise (R193). -/
def flowLabel (m : Msg) : Nat :=
  if m.mtype = 0x10 then leAt m.body 4 4 % 2 ^ 20
  else if m.mtype = 0x11 then leAt m.body 4 4 % 2 ^ 20
  else if m.mtype = 0x12 then leAt m.body 20 4 % 2 ^ 20
  else if m.mtype = 0x13 then leAt m.body 0 4 % 2 ^ 20
  else 0

/-- The Ethernet port and instance that a datagram leaves on: the first one whose PCS is locked (R192, R446); where none is, none. -/
def State.ethVia (s : State) : Option (Nat × Nat) :=
  ((List.range 32).filter (fun p => s.img.portUse p == 3)).findSome? fun p =>
    ([0, 1].find? fun i => (s.port p).pcs.contains i).map fun i => (p, i)

/-- A port's MAC (R193): 0x02, the port number, ID_SERIAL[31:0] most significant byte first. -/
def State.mac (s : State) (p : Nat) : List Byte := [2] ++ le 1 p ++ be 4 (s.fuses.serial % 2 ^ 32)

/-- A packet sent to an IPv6 address on an Ethernet instance (R193), to the MAC that neighbour discovery gave for it; while it has given none, the packet
waits and the address is solicited. -/
def State.ethSend (s : State) (p i addr : Nat) (packet : List Byte) : State :=
  match SMap.get (fun _ => none) s.trn.neigh addr with
  | some mac => s.emit (.frame p i (ip6Frame (be 6 mac) (s.mac p) packet))
  | none =>
    { s with trn := { s.trn with ethWait := s.trn.ethWait ++ [(addr, packet)] } }.emit (.frame p i (solicitation s.img.bridgeAddr (s.mac p) (be 16 addr)))

/-- The code of ID_REFUSE_LAST.SRC (R458). -/
def entryCode : Entry → Nat
  | .port p => p.val
  | .guy => 32
  | .bell b => 33 + b.val
  | .slot k => 41 + k.val
  | .ridge => 49

/-- A refused access (R32): counted, and captured while VALID is 0. -/
def State.refuseAt (s : State) (src : Entry) (cause die addr : Nat) : State :=
  let s1 : State := s.bump R.ID_REFUSE_CNT
  if s1.fld R.ID_REFUSE_LAST F.ID_REFUSE_LAST_VALID = 1 then s1
  else (s1.capture R.ID_REFUSE_LAST (cause % 16 + die % 32 * 2 ^ 4 + entryCode src * 2 ^ 9)).setPair R.ID_REFUSE_ADDR_LO R.ID_REFUSE_ADDR_HI addr

/-- A message that belongs on this device: to a bound host when its DST_DIE is 31 on a bridge, and otherwise to the die it names, where the
command that serves it takes it up. -/
def State.place (s : State) (src : Entry) (m : Msg) : State :=
  if 17 ≤ m.dstDie then
    if m.dstDie = 31 ∧ s.img.bridge then
      match SMap.get (fun _ => none) s.trn.binds (hostCtx m) with
      | some b => match s.ethVia with
        | some (p, i) => s.ethSend p i b.addr (udpPacket s.img.bridgeAddr (be 16 b.addr) (flowLabel m) s.img.udpPort b.port m.encode)
        | none => s
      | none => s
    else s
  else { s with trn := { s.trn with inbox := s.trn.inbox ++ [(src, m)] } }

/-- A response that this switch itself gives to a request, with no body (R32, R176). -/
def switchReply (s : State) (m : Msg) (status : Nat) : Msg :=
  { m with mtype := m.mtype + 1, resp := true, alt := false, retx := false, ttl := 32, dstNode := m.srcNode, dstDie := m.srcDie,
           srcNode := s.node, srcDie := 0, epoch := s.img.epoch, status := status, body := [] }

/-- A message sent on a port with one hop taken from its TTL. -/
def State.sendOn (s : State) (p : Nat) (m : Msg) : State :=
  let m1 := { m with ttl := m.ttl - 1 }
  (s.enqueue (s.linkFor p m) m1).emit (.zfp p m1)

/-- A switch's own response routed (R176): one that finds no route is discarded and counted. -/
def State.sendBack (s : State) (u : Msg) : State :=
  match s.route u with
  | .here => s.place .ridge u
  | .send p alt => (if alt then s.bump R.TRN_ALT_CNT else s).sendOn p u
  | .ttlDrop => s
  | .unreach => s.bump R.TRN_UNREACH_CNT

/-- The Fabric Address of a message that its header alone refuses: of an access its ADDR, and otherwise the node and die that it names. That
ID_REFUSE_ADDR takes these is DEDUCED (log entry 157). -/
def Msg.target (m : Msg) : Nat :=
  if m.mtype = 0x02 ∨ m.mtype = 0x04 ∨ m.mtype = 0x06 ∨ m.mtype = 0x08 then leAt m.body 0 8 else 2 ^ 44 * m.dstNode + 2 ^ 39 * m.dstDie

/-- A request refused by its header (R13, R32, R176): counted, captured and answered. A response is discarded. -/
def State.refuseIn (s : State) (src : Entry) (m : Msg) (cause : Nat) : State :=
  if m.resp then s else (s.refuseAt src cause (bits m.target 43 39) m.target).sendBack (switchReply s m cause)

/-- A message delivered on this device (R176, R32): a DST_DIE of 17 to 31 is reserved, but for 31 on a bridge. -/
def State.deliver (s : State) (src : Entry) (m : Msg) : State :=
  if 17 ≤ m.dstDie ∧ ¬(m.dstDie = 31 ∧ s.img.bridge) then s.refuseIn src m 2 else s.place src m

/-- The table of R176 applied to a message: the origin of a request that finds no route is told. -/
def State.forward (s : State) (src : Entry) (m : Msg) : State :=
  match s.route m with
  | .here => s.deliver src m
  | .ttlDrop => (s.bump R.TRN_TTL_DROP_CNT).pulse 20 (le 8 m.tid)
  | .send p alt => (if alt then s.bump R.TRN_ALT_CNT else s).sendOn p m
  | .unreach =>
    let s1 := s.bump R.TRN_UNREACH_CNT
    if m.resp then s1 else s1.sendBack (switchReply s m 0x10)

/-- A broadcast (R177): one copy delivered here and one sent on on port 0; the origin removes it when it returns. -/
def State.broadcast (s : State) (src : Entry) (m : Msg) : State :=
  if m.srcNode = s.node ∧ src ≠ .ridge then s
  else
    let s1 := if src = .ridge then s else s.deliver src m
    if s1.usable 0 m then s1.sendOn 0 m else s1

/-- A message put into this device's switch, from a port or from the device itself. A reserved node is refused (R13, R32);
broadcast is accepted on HOST_BIND and REG_WR requests only (R177). -/
def State.switchIn (s : State) (src : Entry) (m : Msg) : State :=
  if m.dstNode = 0xFFFFF then
    if (m.mtype = 0x14 ∨ m.mtype = 0x08) ∧ !m.resp then s.broadcast src m else s
  else if reservedNode m.dstNode then s.refuseIn src m 6
  else s.forward src m

/-- The port that a message of this device leaves on; none where it stays or cannot leave (R178). -/
def State.firstPort (s : State) (m : Msg) : Option Nat :=
  if m.dstNode = 0xFFFFF then some 0
  else match s.route m with
    | .send p _ => some p
    | _ => none

/-- A response to a request that this device serves (R171, R173, R174). -/
def State.response (s : State) (m : Msg) (status : Nat) (body : List Byte) : Msg :=
  { ver := m.ver, mtype := m.mtype + 1, resp := true, dstNode := m.srcNode, dstDie := m.srcDie,
    srcNode := if m.dstNode = 0xFFFFF then s.node else m.dstNode, srcDie := m.dstDie, epoch := s.img.epoch, tid := m.tid,
    origTick := m.origTick, status := status, body := body }

/-- The response sent. -/
def State.respond (s : State) (m : Msg) (status : Nat) (body : List Byte) : State :=
  s.switchIn .ridge (s.response m status body)

/-- The next TID of this device (R173), from die 0. -/
def State.nextTid (s : State) : Nat :=
  2 ^ 44 * s.node + 2 ^ 32 * (s.trn.restart % 128) + s.trn.tidCnt % 2 ^ 32

/-- TRN_TIMEOUT.US in ns and RETRY. -/
def State.timeoutNs (s : State) : Nat := 1000 * s.fld R.TRN_TIMEOUT F.TRN_TIMEOUT_US
def State.retries (s : State) : Nat := s.fld R.TRN_TIMEOUT F.TRN_TIMEOUT_RETRY

/-- A request of this device sent for the first time: TID, ORIG_TICK, EPOCH, and the timer of R178. -/
def State.request (s : State) (m0 : Msg) (purpose : Purpose) : State :=
  let m := { m0 with srcNode := s.node, epoch := s.img.epoch, tid := s.nextTid, origTick := s.ftc % 2 ^ 32 }
  let r : Req := { msg := m, port := s.firstPort m, deadline := s.now + s.timeoutNs, purpose := purpose }
  ({ s with trn := { s.trn with tidCnt := s.trn.tidCnt + 1, reqs := s.trn.reqs ++ [r] } }).switchIn .ridge m

/-- The outstanding request of a TID. -/
def State.req? (s : State) (tid : Nat) : Option Req := s.trn.reqs.find? (fun r => r.msg.tid == tid)

/-- The request ended. -/
def State.dropReq (s : State) (tid : Nat) : State :=
  { s with trn := { s.trn with reqs := s.trn.reqs.filter (fun r => r.msg.tid != tid) } }

/-- An outstanding request replaced. -/
def State.putReq (s : State) (r : Req) (tid : Nat) : State :=
  { s with trn := { s.trn with reqs := s.trn.reqs.map (fun q => if q.msg.tid = tid then r else q) } }

/-- A resend with RETX = 1 and the first send's TID and ORIG_TICK; `alt` sets ALT, `counted` counts it against RETRY (R178).
The timer restarts. -/
def State.resend (s : State) (r : Req) (alt counted : Bool) : State :=
  let m := { r.msg with retx := true, alt := alt || r.msg.alt }
  let r' := { r with msg := m, deadline := s.now + s.timeoutNs, resends := if counted then r.resends + 1 else r.resends,
                     wait := .none }
  ((s.putReq r' r.msg.tid).bump R.TRN_RETX_CNT).switchIn .ridge m

/-- A class I or W request given up with TIMEOUT (R178): reported to the agent that made it, and captured. -/
def State.giveUp (s : State) (r : Req) : State :=
  (((s.dropReq r.msg.tid).capture R.TRN_TIMEOUT_LAST (r.msg.dstNode + r.msg.mtype * 2 ^ 20)).pulse 21
    (le 4 r.msg.dstNode ++ le 1 r.msg.mtype)).emit (.giveUp r.msg)

/-- A class S request that has used its RETRY resends: sent again with a new TID and ORIG_TICK; the transport timeout source is
raised at the first give-up (R178). -/
def State.renew (s : State) (r : Req) : State :=
  let m := { r.msg with tid := s.nextTid, origTick := s.ftc % 2 ^ 32, retx := true, alt := true }
  let r' := { r with msg := m, deadline := s.now + s.timeoutNs, resends := 0, wait := .none, gaveUp := true }
  let s1 := s.putReq r' r.msg.tid
  let s2 := { s1 with trn := { s1.trn with tidCnt := s1.trn.tidCnt + 1 } }
  let s3 := if r.gaveUp then s2 else s2.pulse 21 (le 4 r.msg.dstNode ++ le 1 r.msg.mtype)
  (s3.bump R.TRN_RETX_CNT).switchIn .ridge m

/-- The age of a request (R178, R179). -/
def State.age (s : State) (origTick : Nat) : Nat := (2 ^ 32 + s.ftc % 2 ^ 32 - origTick) % 2 ^ 32

/-- Every unanswered request first sent on a port that reports itself down is resent at once with ALT = 1 (R178, R239). -/
def State.resendPort (s : State) (p : Nat) : State :=
  (s.trn.reqs.filter (fun r => r.port == some p)).foldl (fun t r => t.resend r true true) s

/-- The table holds 524,288 keys at most (R180). -/
def dedupMax : Nat := 524288

/-- A responder's verdict on a class W request (R179, R180). -/
inductive DedupVerdict where
  | execute
  | held (resp : Msg)
  | discard
  | stale
  | busy
  deriving DecidableEq, Repr

/-- R179 and R180 for one copy of a class W request. -/
def State.dedupCheck (s : State) (m : Msg) : DedupVerdict :=
  if 12000000 < s.age m.origTick then .stale
  else match s.trn.dedup.find? (fun d => d.node == m.srcNode && d.die == m.srcDie && d.tid == m.tid) with
    | some d => match d.resp with
      | some r => .held r
      | none => .discard
    | none => if dedupMax ≤ s.trn.dedup.length then .busy else .execute

/-- TRN_DEDUP.FULL shows that the table has been full (R180). -/
def State.noteFull (s : State) : State := if dedupMax ≤ s.trn.dedup.length then s.setFld R.TRN_DEDUP F.TRN_DEDUP_FULL 1 else s

/-- A key held with its response from the time it was sent (R179). -/
def State.holdKey (s : State) (m resp : Msg) : State :=
  let t : State := { s with trn := { s.trn with dedup := s.trn.dedup ++ [⟨m.srcNode, m.srcDie, m.tid, some resp, s.now⟩] } }
  t.noteFull

/-- EPOCH refuses a request whose EPOCH differs by more than 1 from the image in force's (R172). -/
def State.epochOk (s : State) (m : Msg) : Bool :=
  decide (m.epoch ≤ s.img.epoch + 1) && decide (s.img.epoch ≤ m.epoch + 1)

/-- A message taken up by the command that serves it: its first copy leaves the inbox. -/
def dropFirst (m : Msg) : List (Entry × Msg) → List (Entry × Msg)
  | [] => []
  | e :: t => if e.2 = m then t else e :: dropFirst m t
def State.takeUp (s : State) (m : Msg) : State := { s with trn := { s.trn with inbox := dropFirst m s.trn.inbox } }

/-- What the Ridge takes from a slot's partner (R306): RD and WR from an AGENT, and the responses to its own RD and WR. -/
def State.partnerOk (s : State) (src : Entry) (m : Msg) : Bool :=
  match src with
  | .slot k => if m.resp then m.mtype == 3 || m.mtype == 5
               else s.fld (R.UCI_DESC0 k) F.UCI_DESC0_CLASS == 2 && (m.mtype == 2 || m.mtype == 4)
  | _ => true
def State.partnerDrop (s : State) (src : Entry) : State :=
  match src with
  | .slot k => s.bump (R.UCI_DISCARD_CNT k)
  | _ => s

/-- A received message: parsed and checked under R172 and R306, or discarded and counted. Nothing is taken while ZFP does not flow. -/
def State.receive (s : State) (src : Entry) (raw : List Byte) (k : Msg → State) : State :=
  if s.zfpFlows then
    match Msg.parse raw with
    | none => s.bump R.TRN_DISCARD_CNT
    | some m => if s.partnerOk src m then k m else s.partnerDrop src
  else s

/-- A received request of the given MTYPE, past check 1 of R32 on DST_NODE and R172's EPOCH check. One for a node whose journal this device is adopting
stays in the inbox until its own buddy holds the adopted entries (R189). A request with a reserved MTYPE is served by no
command: it stays in the inbox, neither discarded nor answered, since the manual names neither (DESIGN CHOICE, log entry 158). -/
def State.receiveReq (s : State) (src : Entry) (raw : List Byte) (mtype : Nat) (k : Msg → State) : State :=
  s.receive src raw fun m =>
    if m.mtype = mtype ∧ !m.resp ∧ !s.jrn.adopting.contains m.dstNode then
      if reservedNode m.dstNode then (s.refuseIn src m 6).takeUp m
      else if s.epochOk m then (k m).takeUp m else (s.respond m 0x12 []).takeUp m
    else s

/-- A class W request served once (R179, R180): `serve` answers the state, the STATUS and whether the request was executed. -/
def State.window (s : State) (m : Msg) (serve : State → State × Nat × List Byte × Bool) : State :=
  match s.dedupCheck m with
  | .stale => (s.bump R.TRN_STALE_CNT).respond m 0x13 []
  | .busy => (s.setFld R.TRN_DEDUP F.TRN_DEDUP_FULL 1).respond m 0x11 []
  | .discard => s.bump R.TRN_DUP_CNT
  | .held r => (s.bump R.TRN_DUP_CNT).switchIn .ridge r
  | .execute =>
    let (s1, st, body, done) := serve s
    let r := s1.response m st body
    (if done then s1.holdKey m r else s1).switchIn .ridge r

/-- The response to a WR handed to a slot's partner ends the execution of its key, which then holds it (R179, R306); a refusal holds nothing. -/
def State.settle (s : State) (m : Msg) : State :=
  let mine (d : Dedup) : Bool := d.node == m.dstNode && d.die == m.dstDie && d.tid == m.tid && d.resp.isNone
  if m.mtype ≠ 5 then s
  else if m.status = 7 then { s with trn := { s.trn with dedup := s.trn.dedup.filter fun d => !mine d } }
  else { s with trn := { s.trn with dedup := s.trn.dedup.map fun d => if mine d then { d with resp := some m, sentAt := s.now } else d } }

/-- The access handed to slot k that a response answers. -/
def State.handed? (s : State) (k : Nat) (m : Msg) : Option (Nat × Msg) :=
  s.trn.handed.find? fun h => h.1 == k && h.2.srcNode == m.dstNode && h.2.srcDie == m.dstDie && h.2.tid == m.tid && h.2.mtype + 1 == m.mtype

/-- A response of slot k's partner (R306): it ends the access that was handed over. One that answers none, since the access has been completed
otherwise (R33, R300), is discarded. -/
def State.partnerAnswer (s : State) (k : Nat) (m : Msg) : State :=
  match s.handed? k m with
  | none => s
  | some h => ({ s with trn := { s.trn with handed := s.trn.handed.erase h } }.settle m).switchIn (.slot (Fin.ofNat 8 k)) m

/-- ZFP_FORWARD (R176): a message reaches this device's switch. -/
def execZfpForward (src : Entry) (raw : List Byte) (s : State) : Host.Outcome State Fault Refusal :=
  .next (s.receive src raw fun m => match src with
    | .slot k => if m.resp then s.partnerAnswer k.val m else s.switchIn src m
    | _ => s.switchIn src m)

/-- DEDUP_KEY_EXPIRE (R179, R180): a key leaves the table when 16 ms have passed since its response was sent. -/
def execDedupKeyExpire (node die tid : Nat) (s : State) : Host.Outcome State Fault Refusal :=
  .next { s with trn := { s.trn with dedup := s.trn.dedup.filter fun d =>
    !(d.node == node && d.die == die && d.tid == tid && d.resp.isSome && decide (16000000 + d.sentAt ≤ s.now)) } }

end Sys2Proof.Machine
end

