-- ==== Sys2Proof/Machine/LinkCtl.lean ====
section
/-!
DEFINITION. Shared operations of the link layer: a port that reports itself down or up (R239), image agreement (R165, R238), link resets,
retrains, HELD and training failures (R234, R235), replay loss (R216), lane maps and planned markers (R226 to R231).
-/

namespace Sys2Proof.Machine

open Sys2Proof

/-- Source n of a link end's port (R240). -/
def State.portFault (s : State) (p n : Nat) (detail : List Byte) : State := s.pulse (srcPort (basePort p) n) (le 1 p ++ detail)

/-- Since when a port has been down, for R382. -/
def State.markDown (s : State) (p : Nat) (d : Bool) : State :=
  let old := SMap.get (fun _ => none) s.loss.downSince p
  let new := if d then (if old.isSome then old else some s.now) else none
  { s with loss := { s.loss with downSince := SMap.set (fun _ => none) s.loss.downSince p new } }

/-- The port reports itself down (R239): the switch stops using it, and its requests are sent again at once (R178). -/
def State.portDown (s : State) (p : Nat) : State :=
  if (s.port p).down then s
  else
    let s1 : State := s.modPort p fun q => { q with down := true }
    if p < 32 then (s1.markDown p true).resendPort p else s1

/-- This end's IMAGE_INFO (R165). -/
def State.ownInfo (s : State) : ImgInfo :=
  ⟨s.img.systemId, s.img.layoutGen, s.fld R.PIT_LAYOUT F.PIT_LAYOUT_DELTA, s.img.epoch⟩

/-- The two ends agree (R165). -/
def ImgInfo.agrees (a b : ImgInfo) : Bool :=
  a.sys == b.sys && a.gen == b.gen && a.sub == b.sub && decide (a.epoch ≤ b.epoch + 1) && decide (b.epoch ≤ a.epoch + 1)

/-- The IMAGE_INFO message (R219). -/
def ImgInfo.msg (i : ImgInfo) : List Byte :=
  le 1 2 ++ le 1 20 ++ zeros 2 ++ le 8 i.sys ++ le 4 i.gen ++ le 1 i.sub ++ le 2 i.epoch ++ zeros 1
def ImgInfo.read (l : List Byte) : ImgInfo := ⟨leAt l 4 8, leAt l 12 4, leAt l 16 1, leAt l 17 2⟩

/-- IMAGE_INFO sent on a port (R238). -/
def State.sendInfo (s : State) (p : Nat) : State :=
  (s.sendCbc p s.ownInfo.msg).modPort p fun q => { q with lastInfo := some s.ownInfo }

/-- The FTC states in which ZFP flows (R321). -/
def State.ftcOk (s : State) : Bool := s.ftcState == 2 || s.ftcState == 3 || s.ftcState == 5

/-- IMG_MISMATCH of an ACTIVE or IDLE port brought up to date (R238). A port that it turns down sends again at once the requests that
disagreement keeps off it (R239); a port that it turns up is up. -/
def State.refreshMismatch (s : State) (p : Nat) : State :=
  if s.lnk p = 5 ∨ s.lnk p = 6 then
    let mm := !(s.ftcOk && (s.port p).peerInfo.elim false (fun i => i.agrees s.ownInfo))
    let old := s.fld (R.LNK_STAT p) F.LNK_STAT_IMG_MISMATCH == 1
    let s1 : State := s.setFld (R.LNK_STAT p) F.LNK_STAT_IMG_MISMATCH (b2n mm)
    if 32 ≤ p then s1
    else if mm ∧ !old then
      let far := s1.fld (R.LNK_PEER p) F.LNK_PEER_NODE
      let out := s1.trn.reqs.filter fun r => r.port == some p &&
        !(s1.ftcOk && drainType r.msg.mtype && (r.msg.srcNode == s1.node || r.msg.dstNode == far))
      out.foldl (fun t r => t.resend r true true) (s1.markDown p true)
    else if mm then s1.markDown p true
    else s1.markDown p false
  else s

/-- Every link end. -/
def allLinks : List Nat := List.range 40

/-- IMG_MISMATCH of every port, after an activation or a change of the FTC state (R238, R321). -/
def State.refreshAll (s : State) : State := allLinks.foldl State.refreshMismatch s

/-- A link end's registers of reset domain LINK return to their reset values. -/
def State.clearLink (s : State) (p : Nat) : State :=
  if p < 32 then s.resetRegs .link (inWindow (R.LNK_STAT p) 0x1000)
  else { s with regs := s.regs.filter fun e => !inWindow (R.LNK_STAT p) 0x1000 e.1 }

/-- LSRC = FAST in leader mode (R325): the device trains no optical port, Seam link or slot. -/
def State.fastClock (s : State) : Bool := s.fld R.CLK_STAT F.CLK_STAT_SRC == 3

/-- The port may train: enabled, with a link use, and one of the ports that its Canopy runs (R304). A path link trains while an entry gives it
windows, which its rows check. -/
def State.mayTrain (s : State) (p : Nat) : Bool :=
  s.fld (R.LNK_CTL (basePort p)) F.LNK_CTL_EN == 1 && s.linkUse p && !s.fastClock
    && decide (basePort p % 4 < s.fld (R.UCI_STAT (basePort p / 4)) F.UCI_STAT_PORTS)

/-- A Canopy, and its part replaced. -/
def State.canopy (s : State) (k : Nat) : CanopySt := SMap.get (fun _ => {}) s.canopies k
def State.setCanopy (s : State) (k : Nat) (v : CanopySt) : State := { s with canopies := SMap.set (fun _ => {}) s.canopies k v }
def State.modCanopy (s : State) (k : Nat) (f : CanopySt → CanopySt) : State := s.setCanopy k (f (s.canopy k))

/-- The ring of heater h of Canopy k (R249). -/
def State.ring (s : State) (k h : Nat) : Ring := SMap.get (fun _ => {}) (s.canopy k).rings h
def State.setRing (s : State) (k h : Nat) (r : Ring) : State :=
  s.modCanopy k fun c => { c with rings := SMap.set (fun _ => {}) c.rings h r }

/-- The global port, direction and ring number of a heater (R249). -/
def heaterPort (k h : Nat) : Nat := 4 * k + h / 36
def heaterDir (h : Nat) : Nat := h % 36 / 18

/-- A ring queued for calibration (R256): first in, first out, once; a trigger that comes in a relock waits for its end (R255); a retired
ring is not queued. -/
def State.queueCal (s : State) (k h : Nat) : State :=
  let r := s.ring k h
  if r.st = 5 ∨ r.st = 0 then s
  else if r.st = 4 then s.setRing k h { r with held := true }
  else if (s.canopy k).queue.any (fun e => e.1 == h) then s
  else s.modCanopy k fun c => { c with queue := c.queue ++ [(h, s.now, false)] }

/-- A window that ends without a calibration: not counted, and queued again (R255, R257). -/
def State.abandonCal (s : State) (k h : Nat) : State :=
  if (s.canopy k).wins.contains h then
    let s1 : State := s.modCanopy k fun c => { c with wins := c.wins.filter (· != h) }
    let r := s1.ring k h
    if r.st = 3 then (s1.setRing k h { r with st := 2 }).queueCal k h else s1
  else s

/-- A port leaves ACTIVE (R257): the calibration windows open on it are aborted. -/
def State.abortWindows (s : State) (p : Nat) : State :=
  if p < 32 then
    (((s.canopy (p / 4)).wins).filter fun h => heaterPort (p / 4) h == p).foldl (fun t h => t.abandonCal (p / 4) h) s
  else s

/-- DARK when the port may train, and otherwise DISABLED. -/
def State.restartLink (s : State) (p : Nat) : State :=
  ((s.abortWindows p).setLnk p (if s.mayTrain p then 1 else 0)).modPort p fun q => { q with since := s.linkNow p, retrainAt := none, litAt := s.linkNow p }

/-- A link reset (R239): the registers of domain LINK are cleared, replay and received state dropped, the spill channel given up, and
sequence numbers restart with RESYNC; a RESET record is written (R416). Messages not yet begun stay in their queues. -/
def State.linkReset (s : State) (p : Nat) : State :=
  let s1 : State := (s.portDown p).clearLink p
  let s2 : State := { s1 with spillq := s1.spillq.filter (· != p) }
  let s3 : State := s2.modPort p fun q =>
    { down := true, resync := true, own := q.own, mcount := q.mcount, lit := q.lit, litAt := q.litAt,
      vcs := q.vcs.map fun v => { v with part := [] } }
  (s3.restartLink p).resetRecord 4 0xFF 0xFF

/-- The port enters HELD (R234, R235): source link held, HELD_CAUSE, and down. -/
def State.holdPort (s : State) (p cause : Nat) : State :=
  if s.lnk p = 8 then s
  else
    let s1 : State := (s.portDown p).abortWindows p
    let s2 : State := (s1.setLnk p 8).setFld (R.LNK_STAT p) F.LNK_STAT_HELD_CAUSE cause
    let s3 : State := s2.modPort p fun q => { q with since := s.linkNow p, retrainAt := none }
    (s3.capture (R.LNK_RETRAIN_LAST p) cause).portFault p 6 (le 1 cause)

/-- A retrain of an ACTIVE port (R235): counted and captured, RETRAIN_REQ sent unless the far end asked for it, STOP and THROTTLE
lifted, and on to LOCK with replay buffers, sequence numbers and lane map kept. The third PROTO within 1 s holds the port. -/
def State.retrain (s : State) (p cause : Nat) : State :=
  if s.isActive p then
    let s1 : State := ((s.abortWindows p).bump (R.LNK_RETRAIN_CNT p)).capture (R.LNK_RETRAIN_LAST p) (cause + (if cause = 7 then 16 else 0))
    let s2 : State := if cause = 1 then s1.portFault p 3 [] else s1
    let old := (s.port p).protoAt.filter (fun t => decide (s.now < 1000000000 + t))
    let protos := if cause = 1 then old ++ [s.now] else old
    let s3 : State := s2.modPort p fun q => { q with protoAt := protos }
    if cause = 1 ∧ 3 ≤ protos.length then s3.holdPort p 1
    else
      let s4 : State := if cause = 7 then s3 else s3.emit (.training p (cbc8 13 (le 1 cause)))
      let s5 : State := s4.modPort p fun q =>
        { q with stop := 0, thr := [], since := s.linkNow p, retrainAt := some (q.retrainAt.getD (s.linkNow p)), chunks := [],
                 fails := [] }
      ((s5.setFld (R.LNK_STAT p) F.LNK_STAT_STOPPED 0).setFld (R.LNK_STAT p) F.LNK_STAT_THROTTLED 0).setLnk p 2
  else s

/-- A training failure (R234): back to DARK, counted and captured; the eighth in a row raises the training source. A port that was
retraining reports itself down. -/
def State.trainFail (s : State) (p cause : Nat) : State :=
  let s1 : State := (s.portDown p).capture (R.LNK_RETRAIN_LAST p) cause
  let s2 : State := (s1.addFld (R.LNK_TRAIN_FAIL p) F.LNK_TRAIN_FAIL_CONSEC 1).addFld (R.LNK_TRAIN_FAIL p) F.LNK_TRAIN_FAIL_TOTAL 1
  let s3 : State := if s2.fld (R.LNK_TRAIN_FAIL p) F.LNK_TRAIN_FAIL_CONSEC = 8 then s2.portFault p 2 (le 1 cause) else s2
  (s3.modPort p fun q => { q with retryOk := false }).restartLink p

/-- Replay loss (R216): the source, a link reset, and REPLAY_LOST captured. -/
def State.replayLost (s : State) (p : Nat) : State :=
  ((s.portFault p 5 []).linkReset p).capture (R.LNK_RETRAIN_LAST p) 8

/-- Flits held past the 2,048 on chip (R215). -/
def PortSt.spilled (q : PortSt) : Nat := q.data.held.length - 2048

/-- The spill channel of a port given up, held or waited for (R216). -/
def State.dropSpill (s : State) (p : Nat) : State :=
  let s1 : State := { s with spillq := s.spillq.filter (· != p) }
  (s1.setFld (R.LNK_STAT p) F.LNK_STAT_SPILL_WAIT 0).setFld (R.LNK_STAT p) F.LNK_STAT_SPILL 0

/-- The Stuff sacks of a Bell are lost (R216): replay loss of every port that holds unacknowledged entries there; no port spills to it any more. -/
def State.stuffLost (s : State) (b : Nat) : State :=
  (List.range 32).foldl (fun t p =>
    if t.img.stuffBell p = b then (if 0 < (t.port p).spilled then t.replayLost p else t.dropSpill p) else t) s

/-- The regions of a Bell's STUFF_SACK extents in the image's order: Bell offset and length (R152). -/
def State.sackRegions (s : State) (b : Nat) : List (Nat × Nat) :=
  (s.img.extents.filter fun e => e.kind == 4 && e.bell == b).flatMap fun e =>
    ((List.range 64).filter (bit e.mask)).map fun j => (bseOff (64 * e.die + j) e.off, e.len)

/-- Byte n of the space that regions make up in order, as a Bell offset. -/
def placeIn : List (Nat × Nat) → Nat → Option Nat
  | [], _ => none
  | (o, l) :: t, n => if n < l then some (o + n) else placeIn t (n - l)

/-- The Bell offset of byte n of a port's Stuff sack (R214, R215): 64 MiB for each port, in the order of their numbers, in the STUFF_SACK extents of its Bell
(DESIGN CHOICE, log entry 78). -/
def State.sackAt (s : State) (p n : Nat) : Option Nat :=
  let b := s.img.stuffBell p
  placeIn (s.sackRegions b) (67108864 * ((List.range p).filter fun q => s.img.stuffBell q == b).length + n)

/-- The Bell offsets of the four words of a sequence number's entry in the Stuff sack; none where the image gives the port no room. -/
def State.sackSlot (s : State) (p seq : Nat) : List Nat := (List.range 4).filterMap fun i => s.sackAt p (256 * seq + 64 * i)

/-- An entry written to the Stuff sack (R215): sequence number, VC, FIRST and payload, in a 256-byte slot of the sequence number. -/
def State.sackWrite (s : State) (p : Nat) (h : Held) : State :=
  let bytes := le 2 h.seq ++ le 1 h.vc ++ le 1 h.first ++ zeros 4 ++ fit 248 h.payload
  let slot := s.sackSlot p h.seq
  (List.range 4).foldl (fun t i => (t.writeRange (s.img.stuffBell p) (slot.getD i 0) ((bytes.drop (64 * i)).take 64) []).1) s

/-- The payload of an entry read back from the Stuff sack under R47; none where the read delivers no data (R216). -/
def State.sackRead (s : State) (p : Nat) (h : Held) : State × Option (List Byte) :=
  let r := (s.sackSlot p h.seq).foldl (fun (a : State × Option (List Byte)) o =>
    let x := a.1.readRange (s.img.stuffBell p) o 64 [] true
    (x.1, if x.2.1 = none then a.2.map (· ++ x.2.2) else none)) (s, some [])
  (r.1, r.2.map fun l => (l.drop 8).take 224)

/-- The lines the far end receives, from its PARAM (R220). -/
def PortSt.farLines (q : PortSt) : Nat := q.far.elim 0 fun m => leAt m 8 3

/-- The heater of the ring assigned to a line of a port, in direction d (0 transmit, 1 receive). -/
def State.heaterOf (s : State) (p d line : Nat) : Option Nat :=
  let b := basePort p
  ((List.range 18).map (fun r => 36 * (b % 4) + 18 * d + r)).find? fun h => (s.ring (b / 4) h).line == line && decide (0 < line)

/-- A line has a ring that holds it: LOCKED, or in a calibration window (R248, R257). -/
def State.lineHeld (s : State) (p d line : Nat) : Bool :=
  match s.heaterOf p d line with
  | some h => let st := (s.ring (basePort p / 4) h).st; st == 2 || st == 3
  | none => false

/-- Lines that this end transmits, and lines that it receives (R220, R226). -/
def State.txLine (s : State) (p line : Nat) : Bool := s.lineHeld p 0 line && !(s.port p).txOos.contains line
def State.rxLine (s : State) (p line : Nat) : Bool := s.lineHeld p 1 line && !(s.port p).rxOos.contains line

/-- Lines in service at both ends (R226). -/
def State.inService (s : State) (p line : Nat) : Bool :=
  decide (1 ≤ line) && decide (line ≤ 18) && bit (s.port p).farLines line && s.txLine p line

/-- A line under calibration (R231): its transmit ring is in a window, or its lane has been moved away for the far receive ring. -/
def State.calLine (s : State) (p line : Nat) : Bool :=
  (s.port p).calUse.any (fun c => c.home == line) ||
    (s.heaterOf p 0 line).elim false fun h => (s.ring (basePort p / 4) h).st == 3

/-- The lane map of R226 for at most w lanes: ordinary lines in ascending order, then the spares A and B; no line that is under calibration (R231). On
a COMPAT port 8 lines or the 4 lowest (R233). -/
def State.laneLines (s : State) (p w : Nat) : List Nat :=
  let sp := s.spares p
  let can (k : Nat) : Bool := s.inService p k && !s.calLine p k
  let plain := (s.lines p).filter fun k => can k && !sp.contains k
  (plain ++ sp.filter can).take (if s.compat p then (if plain.length < 8 then min w 4 else w) else w)

/-- The spares of a port that carry no lane and no planned lane, and are not under calibration (R228). -/
def State.freeSpares (s : State) (p : Nat) : List Nat :=
  let q := s.port p
  let planned := q.marks.filterMap fun m => match m.2 with
    | .switch _ l => some l
    | .resize _ => none
  (s.spares p).filter fun k => s.inService p k && !s.calLine p k && !q.txMap.contains k && !planned.contains k

/-- A marker planned at least 16 intervals from now (R228). -/
def State.planMark (s : State) (p : Nat) (m : MarkOp) : State :=
  s.modPort p fun q => { q with marks := q.marks ++ [(s.ftc + 16, m)] }

/-- A SPARING record (R390): unit, direction (0 transmit, 1 receive), lane, old, new, width and kind. Kinds: 0 SWITCH, 1 RESIZE, 2 Seam
SWITCH, 3 half width, 4 ring retired, 5 Lantern switch-over, 6 module disabled, 7 Storm flap stuck. -/
def State.sparing (s : State) (die unit dir lane old new w kind : Nat) : State :=
  s.dryEvent 9 die (le 1 unit ++ le 1 dir ++ le 1 lane ++ le 1 old ++ le 1 new ++ le 1 w ++ le 1 kind)

/-- The width a port still has when it loses a lane: one less, and 4 in COMPAT (R228, R233). -/
def State.lesserWidth (s : State) (p : Nat) : Nat := if s.compat p then 4 else s.txW p - 1

/-- The transmitter's action on the failure of lane l (R228, R233): a planned SWITCH to a free spare, otherwise a planned RESIZE, and
HELD with cause WIDTH when too few lines remain. Lanes 16 and 17 are idle spares. -/
def State.loseLane (s : State) (p l : Nat) : State :=
  match (s.port p).txMap[l]? with
  | none =>
    if 16 ≤ l then s.modPort p fun q => { q with txOos := (q.txOos ++ ((s.spares p)[l - 16]?).toList).eraseDups } else s
  | some line =>
    let s1 : State := s.modPort p fun q => { q with txOos := (q.txOos ++ [line]).eraseDups, lost := q.lost.filter (·.1 != l) ++ [(l, line)] }
    match s1.freeSpares p with
    | sp :: _ => s1.planMark p (.switch l sp)
    | [] =>
      let w := s1.lesserWidth p
      let left := (s1.lines p).filter (s1.inService p)
      if w < (if s.compat p then 4 else 8) ∨ left.length < (if s.compat p then 4 else 8) then s1.holdPort p 0xA
      else s1.planMark p (.resize w)

/-- A lane moved to a free spare for the calibration of its ring (R231); with none free the calibration waits, and CAL_DEFER reads 1. -/
def State.calMove (s : State) (p l : Nat) : State :=
  if s.compat p then s
  else
    match (s.port p).txMap[l]?, s.freeSpares p with
    | some line, sp :: _ =>
      (s.planMark p (.switch l sp)).modPort p fun q => { q with calUse := q.calUse ++ [⟨l, line, sp⟩], calWait := q.calWait.filter (· != l) }
    | some _, [] => (s.modPort p fun q => { q with calWait := (q.calWait ++ [l]).eraseDups }).setFld (R.LNK_SPARE p) F.LNK_SPARE_CAL_DEFER 1
    | none, _ => s

/-- The width is below 16, one more line is in service, and no RESIZE is planned yet (R230). -/
def State.canRestore (s : State) (p : Nat) : Bool :=
  let planned := (s.port p).marks.any fun m => match m.2 with
    | .switch _ _ => false
    | .resize _ => true
  !s.compat p && s.isActive p && decide (0 < s.txW p) && decide (s.txW p < 16) && decide (s.txW p < (s.laneLines p 16).length) && !planned

/-- A line that is back in service, or a spare that is free again, restores a lane at once while the width is below 16 (R230). -/
def State.restoreWidth (s : State) (p : Nat) : State :=
  if s.canRestore p then s.modPort p fun q => { q with marks := q.marks ++ [(s.ftc, .resize (s.txW p + 1))] } else s

/-- A spare has become free (R230, R231): a lost width comes first, and then a calibration that waits. -/
def State.spareFreed (s : State) (p : Nat) : State :=
  if s.canRestore p then s.restoreWidth p
  else match (s.port p).calWait with
    | w :: rest =>
      let s1 : State := s.modPort p fun q => { q with calWait := rest }
      (if rest = [] then s1.setFld (R.LNK_SPARE p) F.LNK_SPARE_CAL_DEFER 0 else s1).calMove p w
    | [] => s

/-- The lane of a finished calibration moves back to its own line (R231); where it stands there already, or has been taken away, the spare is free at
once (R230). -/
def State.calBack (s : State) (p l : Nat) : State :=
  match (s.port p).calUse.find? (fun c => c.lane == l) with
  | none =>
    match (s.port p).lost.find? (·.1 == l) with
    | none => s
    | some x =>
      let s1 : State := s.modPort p fun q => { q with txOos := q.txOos.filter (· != x.2), lost := q.lost.filter (· != x) }
      if ((s1.port p).txMap[l]?).any (fun k => (s1.spares p).contains k) then s1.planMark p (.switch l x.2) else s1.restoreWidth p
  | some c =>
    let s1 : State := s.modPort p fun q => { q with calUse := q.calUse.filter (· != c), txOos := q.txOos.filter (· != c.home) }
    if (s1.port p).txMap.contains c.spare then s1.planMark p (.switch l c.home) else s1.spareFreed p

end Sys2Proof.Machine
end

