-- ==== Sys2Proof/Machine/Rings.lean ====
section
/-!
DEFINITION. What the link layer and the Canopy do to a ring and a lane together: calibration queue (R256), relock and retirement
(R253 to R255), and the failure of a receive line (R227, R232).
-/

namespace Sys2Proof.Machine

open Sys2Proof

/-- Source n of a Canopy (R283). -/
def State.canFault (s : State) (k n : Nat) (detail : List Byte) : State := s.pulse (srcCan k n) (le 1 k ++ detail)

/-- OPT_STAT.CAL_PEND. -/
def CanopySt.calPend (c : CanopySt) : Nat := min 255 c.queue.length

/-- The ring is retired (R246, R254): counted, recorded, and the source raised. -/
def State.retireRing (s : State) (k h : Nat) : State :=
  let r := s.ring k h
  if r.st = 5 then s
  else
    let s1 : State := (s.setRing k h { r with st := 5, held := false }).modCanopy k fun c =>
      { c with wins := c.wins.filter (· != h), queue := c.queue.filter (fun e => e.1 != h) }
    let s2 : State := s1.addFld (R.OPT_RELOCK_CNT k) F.OPT_RELOCK_CNT_RETIRED 1
    (s2.canFault k 0 (le 1 h ++ le 1 r.line)).sparing (9 + k) (heaterPort k h) (heaterDir h) 0xFF r.line 0 0 4

/-- A relock starts (R253, R255): a window open on the ring is abandoned and the calibration queued again after it; a ring that has needed
more than 8 relocks within an hour is retired (R254). -/
def State.startRelock (s : State) (k h : Nat) : State :=
  let r := s.ring k h
  if r.st = 2 ∨ r.st = 3 then
    let recent := r.relocks.filter (fun t => decide (s.now < 3600000000000 + t)) ++ [s.now]
    let s1 : State := s.addFld (R.OPT_RELOCK_CNT k) F.OPT_RELOCK_CNT_RELOCKS 1
    let s2 : State := s1.modCanopy k fun c => { c with wins := c.wins.filter (· != h) }
    if 8 < recent.length then (s2.setRing k h { r with relocks := recent }).retireRing k h
    else s2.setRing k h { r with st := 4, tries := 0, relocks := recent, held := r.held || r.st == 3 }
  else s

/-- The transmit ring of a line has lost its lock or has to be relocked (R227, R232, R248): its lane is lost and the ring relocks. -/
def State.loseTxLine (s : State) (p line : Nat) : State :=
  let s1 : State := match (s.port p).txMap.idxOf? line with
    | some l => if s.isActive p then s.loseLane p l else s
    | none => s
  match s.heaterOf p 0 line with
  | some h => s1.startRelock (basePort p / 4) h
  | none => s1

/-- A receive line fails (R227): out of service, LANE_FAIL sent for its lane (16 or 17 for an idle spare), and the
wavelength-failure source. -/
def State.failLine (s : State) (p line cause : Nat) : State :=
  let q := s.port p
  if !s.isActive p ∨ q.rxOos.contains line then s
  else
    let lane := match q.rxMap.find? (fun x => x.2 == line) with
      | some x => some x.1
      | none => ((s.spares p).idxOf? line).map (16 + ·)
    let s1 : State := s.setPort p { q with rxOos := q.rxOos ++ [line], rxMap := q.rxMap.filter (fun x => x.2 != line) }
    let s2 : State := match lane with
      | some l =>
        (s1.modPort p fun q => { q with fails := q.fails ++ [⟨line, l, cause, s.linkNow p, 1⟩],
                                        rxLost := q.rxLost.filter (·.2 != line) ++ [(l, line)] }).sendCbc p
          (cbc8 4 (le 1 l ++ le 1 cause ++ le 1 line))
      | none => s1
    s2.portFault p 0 (le 1 line ++ le 1 cause)

/-- A foreign lane on a receive line (R204, R232, R252, R268): counted, the line failed; where the receive ring is off its line it relocks,
and otherwise WRONG_LOCK tells the far end (not in COMPAT, where the local ring is relocked). A line that is out of service already is left alone; in
training the line is out of service for the lane map to come. -/
def State.foreignLane (s : State) (p line : Nat) (ringOn : Bool) : State :=
  if (s.port p).rxOos.contains line then s
  else
    let m := SMap.get (fun _ => (0, 0)) (s.port p).lastMark line
    let s0 : State := s.bump (R.LNK_WRONG_LOCK_CNT p)
    let s1 : State := if s.isActive p then s0.failLine p line 4
      else (s0.modPort p fun q => { q with rxOos := q.rxOos ++ [line], rxMap := q.rxMap.filter (fun x => x.2 != line) }).pulse (srcPort (basePort p) 0)
        (le 1 p ++ le 1 line ++ le 1 4)
    if ringOn ∧ !s.compat p then s1.sendCbc p (cbc8 5 (le 1 line ++ le 1 m.1 ++ le 1 m.2))
    else match s1.heaterOf p 1 line with
      | some h => s1.startRelock (basePort p / 4) h
      | none => s1

end Sys2Proof.Machine
end

