-- ==== Sys2Proof/Machine/LinkTx.lean ====
section
/-!
DEFINITION. The transmitting side of a link: data intervals (R200, R201, R206, R209, R210, R217), marker intervals (R202, R203, R228), the
spill channel (R215), audits (R224), the timeouts of NAKs and ACKs (R212, R213), LANE_FAIL resends (R227) and electrical idle (R236).
-/

namespace Sys2Proof.Machine

open Sys2Proof

/-- LNK_RTT in ns. -/
def State.rtt (s : State) (p : Nat) : Nat := s.fld (R.LNK_RTT p) F.LNK_RTT_TICKS

/-- The distance from a to b modulo m. -/
def dist (m a b : Nat) : Nat := (b + m - a % m) % m

/-- The oldest sequence number held, or the next new one. -/
def TxSide.oldest (x : TxSide) : Nat := x.held.head?.elim x.next (·.seq)

/-- What a NAK naming a sequence number does (R213): a protocol fault, nothing, or a replay from it. -/
inductive NakAct where
  | proto
  | ignore
  | back
  deriving DecidableEq, Repr

/-- The table of R213. -/
def TxSide.nak (x : TxSide) (seq m rtt now : Nat) : NakAct :=
  let d := dist m x.oldest seq
  if x.held.length < d then .proto
  else if x.replay.elim false (fun r => decide (dist m x.oldest r ≤ d)) then .ignore
  else if (x.held.find? (fun h => h.seq == seq)).elim false (fun h => h.resentAt.elim false (fun t => decide (now < t + rtt + 200))) then .ignore
  else .back

/-- A message on a VC's stream, padded to 8 bytes (R209). -/
def streamBytes (m : Msg) : List Byte := fit (alignUp (36 + m.body.length) 8) m.encode

/-- The next 224 bytes of a VC's stream (R209): what is left of the message that has begun, then waiting messages in order. The payload,
FIRST, the rest of the last message and the number of messages begun. -/
def fillPayload : List Msg → List Byte → Option Nat → Nat → List Byte × Nat × List Byte × Nat
  | [], acc, f, n => (fit 224 acc, f.getD 31, acc.drop 224, n)
  | m :: t, acc, f, n =>
    if 224 ≤ acc.length then (acc.take 224, f.getD 31, acc.drop 224, n)
    else fillPayload t (acc ++ streamBytes m) (some (f.getD (acc.length / 8))) (n + 1)

/-- A list without its first n elements that satisfy a condition. -/
def dropOk {α : Type} (ok : α → Bool) : Nat → List α → List α
  | _, [] => []
  | 0, l => l
  | n + 1, h :: t => if ok h then dropOk ok n t else h :: dropOk ok (n + 1) t

/-- The messages that the transmitter may begin (R238): all, or in image disagreement those of the drain class that R165 lets cross. -/
def State.maySend (s : State) (p : Nat) (m : Msg) : Bool :=
  s.fld (R.LNK_STAT p) F.LNK_STAT_IMG_MISMATCH == 0 ||
    (drainType m.mtype && (m.srcNode == s.node || m.dstNode == s.fld (R.LNK_PEER p) F.LNK_PEER_NODE))

/-- The unacknowledged DATA flits a port may hold (R210, R215). -/
def State.holdMax (s : State) (p : Nat) : Nat := if s.fld (R.LNK_STAT p) F.LNK_STAT_SPILL = 1 then 32767 else 2048

/-- The new DATA flits of each VC in the present 256 intervals. -/
def State.winCounts (s : State) (p : Nat) : List Nat := if (s.port p).winAt = s.ftc / 256 then (s.port p).winCnt else [0, 0, 0]

/-- A new DATA flit of a VC is within every rate that names the VC: the new flits of the VCs of a THROTTLE together (R219, R221), and 128 of VC2 on a
degraded port (R363). -/
def State.inRate (s : State) (p v : Nat) : Bool :=
  let n (m : Nat) : Nat := (((List.range 3).filter (bit m)).map fun u => (s.winCounts p).getD u 0).foldl (· + ·) 0
  ((s.port p).thr ++ (if s.portDegraded (basePort p) then [(4, 128)] else [])).all fun x => !bit x.1 v || decide (n x.1 < x.2)

/-- A new DATA flit of a VC can be sent (R210, R215, R217, R221, R238). -/
def State.canData (s : State) (p v : Nat) : Bool :=
  let q := s.port p
  let x := q.vcs.getD v {}
  s.ftcOk && (!x.part.isEmpty || x.queue.any (s.maySend p)) && decide (0 < (q.cr.getD v {}).held) && !bit q.stop v
    && s.inRate p v && decide (q.data.held.length < s.holdMax p)

/-- The fields of a header that every transmission fills (R206), and the state that has sent them. A credit count is returned when it is
sent; a NAK is outstanding from the header that sends it (R212). -/
def State.headerFields (s : State) (p : Nat) : Nat × State :=
  let q := s.port p
  let t := q.turn % 4
  let c := q.cr.getD t {}
  let v := (65535 + q.rxData.exp) % 65536 * 2 ^ 20 + b2n q.rxData.nakDue * 2 ^ 36 + (q.rxCtrl.exp + 255) % 256 * 2 ^ 37
    + b2n q.rxCtrl.nakDue * 2 ^ 45 + t * 2 ^ 46 + c.freed % 1024 * 2 ^ 48
  let sent (r : RxSide) : RxSide := if r.nakDue then { r with nakDue := false, nakAt := some (s.linkNow p) } else r
  let s1 : State := s.setPort p
    { q with turn := q.turn + 1, cr := setAt q.cr t { c with told := c.freed }, rxData := sent q.rxData, rxCtrl := sent q.rxCtrl }
  (v, s1.addFld (R.LNK_NAK_CNT p) whole (b2n q.rxData.nakDue + b2n q.rxCtrl.nakDue))

/-- LNK_UNACK (R241) and the spill request at 1,920 unacknowledged flits (R215). -/
def State.noteUnack (s : State) (p : Nat) : State :=
  let n := (s.port p).data.held.length
  let s1 : State := (s.setFld (R.LNK_UNACK p) F.LNK_UNACK_NOW n).setFld (R.LNK_UNACK p) F.LNK_UNACK_MAX
    (max n (s.fld (R.LNK_UNACK p) F.LNK_UNACK_MAX))
  let s2 : State := s1.modPort p fun q => { q with lowAt := if n < 1024 then some (q.lowAt.getD (s.linkNow p)) else none }
  let b := s.img.stuffBell (basePort p)
  if p < 32 ∧ 1920 ≤ n ∧ b < 8 ∧ s.bellLive b ∧ (s.sackSlot p 65535).length = 4 ∧ s.fld (R.LNK_STAT p) F.LNK_STAT_SPILL = 0
      ∧ s.fld (R.LNK_STAT p) F.LNK_STAT_SPILL_WAIT = 0 then
    { s2.setFld (R.LNK_STAT p) F.LNK_STAT_SPILL_WAIT 1 with spillq := s2.spillq ++ [p] }
  else s2

/-- A flit of a type with its VC, sequence number and FIRST put on the lanes, and quiet time restarted for other than IDLE. -/
def State.putFlit (s : State) (p type vc seq first : Nat) (payload : List Byte) : State :=
  let (h, s1) := s.headerFields p
  let f := flitBytes (type + vc * 4 + seq * 16 + h + first * 2 ^ 58) payload
  s1.modPort p fun q => { q with chunks := q.chunks ++ f, quietAt := if type = 0 then q.quietAt else s.linkNow p }

/-- The transmitter side with one more held flit; ACK's clock starts when the first one is held. -/
def TxSide.hold (x : TxSide) (h : Held) (modulus now : Nat) : TxSide :=
  { x with next := (x.next + 1) % modulus, held := x.held ++ [h], advAt := if x.held.isEmpty then now else x.advAt }

/-- A held flit resent: its time, and the next sequence number of the replay. -/
def TxSide.resent (x : TxSide) (seq modulus now : Nat) : TxSide :=
  { x with held := x.held.map (fun h => if h.seq = seq then { h with resentAt := some now } else h),
           replay := if x.held.getLast?.any (fun h => h.seq == seq) then none else some ((seq + 1) % modulus) }

/-- The seven places of a CTRL flit (R209). -/
def ctrlPayload (l : List (List Byte)) : List Byte := (List.range 7).flatMap fun i => fit 32 (l.getD i [])

/-- Local time in 1/16 tick (R317). -/
def State.time16 (s : State) : Nat := (((s.ftc : Int) + s.time.skew) * 16 + s.time.phase).toNat

/-- The time-transfer part of a port. -/
def State.tport (s : State) (p : Nat) : TimePort := SMap.get (fun _ => {}) s.time.ports p
def State.setTport (s : State) (p : Nat) (v : TimePort) : State :=
  { s with time := { s.time with ports := SMap.set (fun _ => {}) s.time.ports p v } }

/-- A waiting SYNC gets its transmit timestamp when its flit leaves (R317, R318). The root's first SYNC toward another device ends the time
in which FTC_CFG.LOAD is allowed (R335). -/
def State.stampSync (s : State) (p : Nat) (m : List Byte) : List Byte × State :=
  if leAt m 0 1 = 0x10 ∧ leAt m 4 1 = 0 then
    let t := s.time16 + Config.txPath p
    let x := s.tport p
    let s1 : State := s.setTport p { x with txAt := SMap.set (fun _ => 0) x.txAt (leAt m 5 1) t }
    let outward : Bool := s.portUse p == 2 || (s.isRing p && s.fld (R.OPT_FLAP_STAT (basePort p / 4)) F.OPT_FLAP_STAT_STATE == 2)
    let s2 : State := if s.ftcState = 5 ∧ outward then { s1 with time := { s1.time with sentSync := true } } else s1
    (m.take 8 ++ le 8 t ++ m.drop 16, s2)
  else (m, s)

/-- The messages of a CTRL flit as they leave. -/
def State.stampAll (s : State) (p : Nat) (l : List (List Byte)) : List (List Byte) × State :=
  l.foldl (fun a m => let r := a.2.stampSync p m; (a.1 ++ [r.1], r.2)) ([], s)

/-- A new CTRL flit with up to seven waiting messages. Once IDLE_ACK has been sent both ends stop modulating (R236). -/
def State.sendCtrl (s : State) (p : Nat) : State :=
  let q := s.port p
  let (ms, s0) := s.stampAll p (q.cbcq.take 7)
  let pl := ctrlPayload ms
  let h : Held := { seq := q.ctrl.next, payload := pl }
  let c := q.cr.getD 3 {}
  let s1 : State := s0.setPort p { q with ctrl := q.ctrl.hold h 256 (s.linkNow p), cbcq := q.cbcq.drop 7, cr := setAt q.cr 3 { c with held := c.held - 1 } }
  let s2 : State := s1.putFlit p 2 0 h.seq 0 pl
  if (q.cbcq.take 7).any (fun m => leAt m 0 1 == 0x0C) then (s2.abortWindows p).setLnk p 6 else s2

/-- The oldest entry on chip goes to the Stuff sack when a new one has taken its place (R215). -/
def State.spillOldest (s : State) (p : Nat) : State :=
  let q := s.port p
  match q.data.held[q.data.held.length - 2049]? with
  | some h =>
    if q.data.held.length ≤ 2048 then s
    else (s.sackWrite p h).modPort p fun q => { q with data := { q.data with held := setAt q.data.held (q.data.held.length - 2049) { h with payload := [] } } }
  | none => s

/-- A new DATA flit of a VC. -/
def State.sendData (s : State) (p v : Nat) : State :=
  let q := s.port p
  let x := q.vcs.getD v {}
  let (pl, first, rest, n) := fillPayload (x.queue.filter (s.maySend p)) x.part none 0
  let h : Held := { seq := q.data.next, vc := v, first := first, payload := pl }
  let c := q.cr.getD v {}
  let cnts := s.winCounts p
  let s1 : State := s.setPort p
    { q with data := q.data.hold h 65536 (s.linkNow p), vcs := setAt q.vcs v ⟨rest, dropOk (s.maySend p) n x.queue⟩,
             cr := setAt q.cr v { c with held := c.held - 1 }, winAt := s.ftc / 256, winCnt := setAt cnts v (cnts.getD v 0 + 1),
             altVc := if v = 1 then q.altVc else v == 0 }
  ((s1.putFlit p 1 v h.seq first pl).spillOldest p).noteUnack p

/-- The payload of a held flit for its replay: from the on-chip buffer, or read from the Stuff sack (R215, R216). -/
def State.replayPayload (s : State) (p : Nat) (h : Held) : State × Option (List Byte) :=
  if h.payload.isEmpty then s.sackRead p h else (s, some h.payload)

/-- A held flit of a running replay resent (R213). -/
def State.sendReplay (s : State) (p : Nat) (cbc : Bool) (h : Held) : State :=
  let q := s.port p
  let q' := if cbc then { q with ctrl := q.ctrl.resent h.seq 256 (s.linkNow p) } else { q with data := q.data.resent h.seq 65536 (s.linkNow p) }
  let s1 : State := (s.setPort p q').bump (R.LNK_REPLAY_CNT p)
  if cbc then s1.putFlit p 2 0 h.seq 0 h.payload else s1.putFlit p 1 h.vc h.seq h.first h.payload

/-- The held flit that a running replay sends next. -/
def TxSide.replayNext (x : TxSide) : Option Held := x.replay.bind fun r => x.held.find? (fun h => h.seq == r)

/-- The next flit of a running replay; replay loss where its entry cannot be read (R216). -/
def State.replayFlit (s : State) (p : Nat) (cbc : Bool) (h : Held) (readErr : Bool) : State :=
  let r := s.replayPayload p h
  match r.2 with
  | some pl => if readErr then r.1.replayLost p else r.1.sendReplay p cbc { h with payload := pl }
  | none => r.1.replayLost p

/-- The choice of R217. `readErr`: the replay entry read is uncorrectable or poisoned (R216). -/
def State.pickFlit (s : State) (p : Nat) (readErr : Bool) : State :=
  let q := s.port p
  match q.ctrl.replayNext with
  | some h => s.replayFlit p true h readErr
  | none =>
    if !q.cbcq.isEmpty ∧ 0 < (q.cr.getD 3 {}).held ∧ q.ctrl.held.length < 64 then s.sendCtrl p
    else
      match q.data.replayNext with
      | some h => s.replayFlit p false h readErr
      | none =>
        if s.canData p 1 then s.sendData p 1
        else
          let a := if q.altVc then 2 else 0
          let b := if q.altVc then 0 else 2
          if s.canData p a then s.sendData p a
          else if s.canData p b then s.sendData p b
          else s.putFlit p 0 0 0 0 []

/-- Lit lines that carry no lane: those whose transmit ring holds its line (R226, R251). -/
def State.idleLit (s : State) (p : Nat) : List Nat := (s.lines p).filter fun k => s.lineHeld p 0 k && !(s.port p).txMap.contains k

/-- Chunks of lines scrambled and sent as PAM4 levels (R199, R201). -/
def State.sendScrambled (s : State) (p : Nat) (lines : List (Nat × List Byte)) : State :=
  let out := lines.map fun x => (x.1, scrambleChunk (SMap.get (fun k => scrLoad (basePort p) k) (s.port p).scr x.1) x.2)
  (s.modPort p fun q => { q with scr := out.foldl (fun m x => SMap.set (fun k => scrLoad (basePort p) k) m x.1 x.2.2) q.scr }).emit
    (.chunks p (out.map fun x => (x.1, pam4 x.2.1)))

/-- One data interval's chunks: a chunk of each lane, and zeros on the other lit lines (R200, R201, R226, R257). -/
def State.sendChunks (s : State) (p : Nat) : State :=
  let q := s.port p
  let w := q.txMap.length
  let lanes := (List.range w).map fun i => (q.txMap.getD i 0, (q.chunks.drop (16 * i)).take 16)
  (s.setPort p { q with chunks := q.chunks.drop (16 * w) }).sendScrambled p (lanes ++ (s.idleLit p).map fun k => (k, zeros 16))

/-- The tick is a multiple of n whose events have not fired before a step back (R322, R323). -/
def State.fires (s : State) (n : Nat) : Bool := s.ftc % n == 0 && decide (s.time.firedTo ≤ s.ftc)

/-- A planned marker is due, or the tick carries a marker (R202, R228). -/
def State.markDue (s : State) (p : Nat) : Bool :=
  (decide (p < 32) && s.fires 16384) || (s.port p).marks.any (fun m => decide (m.1 ≤ s.ftc)) || (s.port p).resume == 1

/-- The link may send in this interval (R279, R280): past a guard, and a path link inside its window. -/
def State.inWindowNow (s : State) (p : Nat) : Bool :=
  decide ((s.port p).guardUntil ≤ s.ftc) && (decide (p < 32) || decide (s.ftc < (s.port p).winUntil))

/-- Lines of the training pattern (R234): those in service here, lanes in ascending order. -/
def State.trainLanes (s : State) (p : Nat) : List (Nat × Nat) :=
  let sp := s.spares p
  let plain := (s.lines p).filter fun k => s.txLine p k && !sp.contains k
  (List.range (min 16 plain.length)).map (fun i => (plain.getD i 0, i)) ++
    (List.range sp.length).filterMap (fun i => if s.txLine p (sp.getD i 0) then some (sp.getD i 0, 16 + i) else none)

/-- The link sends the training pattern (R234): in DARK, LOCK, ALIGN, PARAM and HELD. -/
def State.inTraining (s : State) (p : Nat) : Bool := [1, 2, 3, 4, 8].contains (s.lnk p)

/-- The tick of the last audit (R224). -/
def State.auditTick (s : State) : Nat := s.ftc / 1000000 * 1000000

/-- A data interval of an ACTIVE link (R200, R217), or the preamble interval after a guard (R279); in training, scrambled zeros between the markers
(R234). -/
def State.dataInterval (s : State) (p : Nat) (readErr : Bool) : State :=
  if s.inTraining p then (if s.ftc % 64 = 0 then s else (s.modPort p fun q => { q with own := q.own + 1 }).sendScrambled p ((s.trainLanes p).map fun x => (x.1, zeros 16)))
  else if !s.isActive p ∨ !s.inWindowNow p ∨ (s.port p).txMap.length = 0 then s
  else
    let s0 : State := s.modPort p fun q => { q with own := q.own + 1, dataFrom := if q.dataFrom < s.auditTick then s.ftc else q.dataFrom }
    if (s.port p).resume = 2 then
      (s0.modPort p fun q => { q with resume := 1 }).emit (.chunks p ((s.port p).txMap.map fun k => (k, pam4 (List.replicate 16 0x88))))
    else if s.markDue p then s
    else
      let s1 : State := if (s.port p).chunks.length < 16 * s.txW p then s0.pickFlit p readErr else s0
      if s1.isActive p ∨ s1.lnk p = 6 then s1.sendChunks p else s1

/-- A marker chunk (R203). -/
def State.marker (s : State) (p lane line flags w : Nat) : List Byte :=
  let l := [0x1E, 0xD2, 0x87, 0x4B] ++ le 1 (basePort p) ++ le 1 lane ++ le 1 line ++ le 1 flags ++ le 3 s.node ++ le 1 (s.port p).mcount
    ++ zeros 1 ++ le 1 w
  l ++ le 2 (crc16 l)

/-- A marker interval on lines with their LANE values: the scramblers are loaded and MCOUNT rises (R201 to R203). -/
def State.sendMarkers (s : State) (p flags w : Nat) (lines : List (Nat × Nat)) : State :=
  let fl := flags + 4 * b2n (s.compat p)
  let s1 : State := s.emit (.chunks p (lines.map fun x => (x.1, pam4 (s.marker p x.2 x.1 fl w))))
  s1.modPort p fun q => { q with mcount := (q.mcount + 1) % 256, resume := 0, own := q.own + 1,
                                 scr := lines.foldl (fun m x => SMap.set (fun k => scrLoad (basePort p) k) m x.1 (scrLoad (basePort p) x.1)) q.scr }

/-- The LANE of a lit line that carries no lane (R251): 16 for SPARE_A and for a line whose lane has moved to SPARE_A, otherwise 17. -/
def State.idleLane (s : State) (p line : Nat) : Nat :=
  let q := s.port p
  let a := (s.spares p).head?
  let home := (q.calUse.find? (fun c => c.home == line)).elim ((q.lost.find? (fun x => x.2 == line)).map (·.1)) (fun c => some c.lane)
  if a = some line ∨ (home.bind fun l => q.txMap[l]?).any (fun k => a == some k) then 16 else 17

/-- Lit lines of an ACTIVE link with their LANE values (R202, R203, R251). -/
def State.litLanes (s : State) (p : Nat) : List (Nat × Nat) :=
  (List.range (s.txW p)).map (fun i => ((s.port p).txMap.getD i 0, i)) ++ (s.idleLit p).map (fun k => (k, s.idleLane p k))

/-- A replay from sequence number n on, where any flit from n on is unacknowledged (R228): from the oldest when n is older. -/
def TxSide.replayFrom (x : TxSide) (n m : Nat) : TxSide :=
  if x.held.isEmpty ∨ dist m x.oldest n = x.held.length then x
  else if x.held.any (fun h => h.seq == n) then { x with replay := some n }
  else { x with replay := some x.oldest }

/-- Go-back-N restarts from the most recent NAK and CNAK (R228). -/
def State.replayFromNak (s : State) (p : Nat) : State :=
  s.modPort p fun q => { q with data := q.lastNak.elim q.data (q.data.replayFrom · 65536), ctrl := q.lastCnak.elim q.ctrl (q.ctrl.replayFrom · 256) }

/-- A planned SWITCH or RESIZE carried out by its marker (R228, R230): counted and recorded. -/
def State.applyMark (s : State) (p : Nat) (m : MarkOp) : State :=
  let die := 9 + basePort p / 4
  let s0 : State := s.bump (R.LNK_SWITCH_CNT p)
  match m with
  | .switch lane line =>
    let old := (s.port p).txMap.getD lane 0
    let s1 : State := s0.modPort p fun q => { q with txMap := setAt q.txMap lane line }
    let s2 : State := s1.sendMarkers p 1 (s1.txW p) (s1.litLanes p)
    let s3 : State := (s2.replayFromNak p).sparing die p 0 lane old line (s1.txW p) 0
    if (s3.spares p).contains old then s3.spareFreed p else s3
  | .resize w =>
    let lines := s.laneLines p w
    let s1 : State := s0.modPort p fun q =>
      { q with txMap := lines, chunks := [], calUse := q.calUse.map fun c => if lines.contains c.spare then { c with spare := 0 } else c,
               marks := q.marks.filter fun m => match m.2 with
                 | .switch _ line => !lines.contains line
                 | .resize _ => true }
    let s2 : State := (s1.setFld (R.LNK_STAT p) F.LNK_STAT_TX_W lines.length).sendMarkers p 2 lines.length (s1.litLanes p)
    let s3 : State := (s2.replayFromNak p).sparing die p 0 0xFF 0xFF 0xFF lines.length 1
    if lines.length < (if s.compat p then 8 else 16) then s3.portFault p 1 (le 1 lines.length) else s3

/-- MARKER_INTERVAL (R202, R203, R228, R234): planned markers, the marker of a multiple of 16,384 ticks, the marker after a guard, and in
training a marker every 64 intervals. -/
def execMarkerInterval (p : Fin 40) (s : State) : Host.Outcome State Fault Refusal :=
  .next (s.live fun s =>
    let st := s.lnk p.val
    if st = 5 then
      if !s.inWindowNow p.val ∨ s.txW p.val = 0 ∨ (s.port p.val).resume = 2 then s
      else match (s.port p.val).marks.find? (fun m => decide (m.1 ≤ s.ftc)) with
        | some m => (s.modPort p.val fun q => { q with marks := q.marks.erase m }).applyMark p.val m.2
        | none => if s.markDue p.val then s.sendMarkers p.val 0 (s.txW p.val) (s.litLanes p.val) else s
    else if s.inTraining p.val ∧ s.ftc % 64 = 0 then
      s.sendMarkers p.val 0 ((s.trainLanes p.val).filter fun x => decide (x.2 < 16)).length (s.trainLanes p.val)
    else s)

/-- SPILL_GRANT (R214, R215): the first port that waits for the channel of its Bell, when no other port holds it. -/
def execSpillGrant (p : Fin 32) (s : State) : Host.Outcome State Fault Refusal :=
  .next (s.live fun s =>
    let b := s.img.stuffBell p.val
    let busy := (List.range 32).any fun q => s.img.stuffBell q == b && s.fld (R.LNK_STAT q) F.LNK_STAT_SPILL == 1
    if (s.spillq.find? (fun q => s.img.stuffBell q == b)) = some p.val ∧ !busy ∧ s.bellLive b then
      let s1 : State := { s with spillq := s.spillq.filter (· != p.val) }
      (s1.setFld (R.LNK_STAT p.val) F.LNK_STAT_SPILL_WAIT 0).setFld (R.LNK_STAT p.val) F.LNK_STAT_SPILL 1
    else s)

/-- SPILL_RELEASE (R215): nothing spilled, and fewer than 1,024 unacknowledged for 100 µs. -/
def execSpillRelease (p : Fin 32) (s : State) : Host.Outcome State Fault Refusal :=
  .next (s.live fun s =>
    if s.fld (R.LNK_STAT p.val) F.LNK_STAT_SPILL = 1 ∧ (s.port p.val).spilled = 0
        ∧ (s.port p.val).lowAt.elim false (fun t => decide (100000 + t ≤ s.now)) then
      s.setFld (R.LNK_STAT p.val) F.LNK_STAT_SPILL 0
    else s)

/-- The AUDIT message of a receiver (R224). -/
def State.auditMsg (s : State) (p : Nat) : List Byte :=
  let q := s.port p
  let hk (v : Nat) : List Byte :=
    let c := q.cr.getD v {}
    le 2 (c.ownWin - (c.freed - c.told)) ++ le 2 c.told
  le 1 3 ++ le 1 28 ++ zeros 2 ++ le 2 ((65535 + q.rxData.exp) % 65536) ++ hk 0 ++ hk 1 ++ hk 2 ++ hk 3
    ++ le 1 ((q.rxCtrl.exp + 255) % 256) ++ zeros 1 ++ le 4 s.auditTick

/-- The tick is the first data interval at or after the audit tick, and its audit has not been made (R224). -/
def State.auditDue (s : State) (p : Nat) : Bool :=
  let q := s.port p
  !s.markDue p && s.inWindowNow p && (decide (q.dataFrom < s.auditTick) || q.dataFrom == s.ftc) && q.audited != some s.auditTick

/-- CREDIT_AUDIT (R224): at the first data interval at or after a multiple of 1,000,000 ticks, in ACTIVE, and not on a version 1 link. -/
def execCreditAudit (p : Fin 40) (s : State) : Host.Outcome State Fault Refusal :=
  .next (s.live fun s =>
    if s.auditDue p.val ∧ s.isActive p.val ∧ s.fld (R.LNK_STAT p.val) F.LNK_STAT_VER ≠ 1 then
      (s.modPort p.val fun q => { q with audited := some s.auditTick }).sendCbc p.val (s.auditMsg p.val)
    else s)

/-- NAK_RESEND_TIMEOUT (R212). -/
def execNakResendTimeout (p : Fin 40) (cbc : Bool) (s : State) : Host.Outcome State Fault Refusal :=
  .next (s.live fun s =>
    let q := s.port p.val
    let x := if cbc then q.rxCtrl else q.rxData
    if s.isActive p.val ∧ x.nakAt.elim false (fun t => decide (t + s.rtt p.val + 500 ≤ s.linkNow p.val)) then
      s.setPort p.val (if cbc then { q with rxCtrl := { x with nakDue := true } } else { q with rxData := { x with nakDue := true } })
    else s)

/-- ACK_STALL_REPLAY (R213): a replay from the oldest entry as if a NAK had named it; after four in a row the port retrains with cause NO_ACK. -/
def execAckStallReplay (p : Fin 40) (cbc : Bool) (s : State) : Host.Outcome State Fault Refusal :=
  .next (s.live fun s =>
    let q := s.port p.val
    let x := if cbc then q.ctrl else q.data
    let act := x.nak x.oldest (if cbc then 256 else 65536) (s.rtt p.val) (s.linkNow p.val)
    if s.isActive p.val ∧ !x.held.isEmpty ∧ x.advAt + s.rtt p.val + 1000 ≤ s.linkNow p.val ∧ act = .back then
      if 4 ≤ x.stalls then s.retrain p.val 3
      else
        let x' := { x with stalls := x.stalls + 1, advAt := s.linkNow p.val, replay := x.held.head?.map (·.seq) }
        s.setPort p.val (if cbc then { q with ctrl := x' } else { q with data := x' })
    else s)

/-- A port drained before a reset (R221): a CTRL flit with a STOP of every VC leaves at once where a credit allows it (DESIGN CHOICE, log entry 189). -/
def State.drainPort (s : State) (p : Nat) : State :=
  if s.isActive p ∧ 0 < ((s.port p).cr.getD 3 {}).held ∧ (s.port p).ctrl.held.length < 64 then
    ((s.modPort p fun q => { q with cbcq := cbc8 8 (le 1 7) :: q.cbcq }).sendCtrl p).sendChunks p
  else s

/-- LANE_FAIL (R219). -/
def laneFailMsg (lane cause line : Nat) : List Byte := cbc8 4 (le 1 lane ++ le 1 cause ++ le 1 line)

/-- LANE_FAIL_RESEND (R227): LNK_RTT + 1 µs without a SWITCH or RESIZE for the lane; after three sends the port retrains. -/
def execLaneFailResend (p : Fin 40) (line : Fin 20) (s : State) : Host.Outcome State Fault Refusal :=
  .next (s.live fun s =>
    match (s.port p.val).fails.find? (fun f => f.line == line.val) with
    | some f =>
      if s.isActive p.val ∧ f.sentAt + s.rtt p.val + 1000 ≤ s.linkNow p.val then
        if 3 ≤ f.sends then s.retrain p.val 4
        else
          (s.modPort p.val fun q => { q with fails := q.fails.map fun g =>
            if g = f then { g with sends := g.sends + 1, sentAt := s.linkNow p.val } else g }).sendCbc p.val (laneFailMsg f.lane f.cause f.line)
      else s
    | none => s)

/-- The port has been quiet for LNK_IDLE.US, with electrical idle allowed on it (R236). -/
def State.quiet (s : State) (p : Nat) : Bool :=
  (s.portUse p == 2 || s.portUse p == 4) && s.fld (R.LNK_IDLE p) F.LNK_IDLE_EN == 1 && s.isActive p && decide (p < 32)
    && decide ((s.port p).quietAt + 1000 * s.fld (R.LNK_IDLE p) F.LNK_IDLE_US ≤ s.now) && (s.port p).cbcq.isEmpty
    && (s.port p).vcs.all (fun v => v.part.isEmpty && v.queue.isEmpty)

/-- IDLE_QUIET_TIMEOUT (R236). -/
def execIdleQuietTimeout (p : Fin 32) (s : State) : Host.Outcome State Fault Refusal :=
  .next (s.live fun s => if s.quiet p.val then s.sendCbc p.val (cbc4 0x0B) else s)

/-- IDLE_EXIT (R236): something to send, or a burst received; this end sends its own burst and enters ACTIVE. -/
def execIdleExit (p : Fin 32) (burst : Bool) (s : State) : Host.Outcome State Fault Refusal :=
  .next (s.live fun s =>
    let q := s.port p.val
    if s.lnk p.val = 6 ∧ (burst ∨ !q.cbcq.isEmpty ∨ q.vcs.any (fun v => !v.part.isEmpty || !v.queue.isEmpty)) then
      ((s.emit (.burst p.val)).setLnk p.val 5).modPort p.val fun q => { q with quietAt := s.now, chunks := [], scr := [], rxCount := 0 }
    else s)

end Sys2Proof.Machine
end

