-- ==== Sys2Proof/Machine/LinkRx.lean ====
section
/-!
DEFINITION. The receiving side of a link: flits (R208 to R213, R223), markers (R204, R228, R251), and the control bypass messages of an
ACTIVE link (R219 to R232, R236, R238).
-/

namespace Sys2Proof.Machine

open Sys2Proof

/-- Fields of a header (R206). -/
structure Header where
  type : Nat
  vc : Nat
  seq : Nat
  ack : Nat
  nak : Bool
  cack : Nat
  cnak : Bool
  crVc : Nat
  crCnt : Nat
  first : Nat
  deriving DecidableEq, Repr

def Header.read (h : Nat) : Header :=
  ⟨bits h 1 0, bits h 3 2, bits h 19 4, bits h 35 20, bit h 36, bits h 44 37, bit h 45, bits h 47 46, bits h 57 48, bits h 62 58⟩

/-- Every entry up to ACK freed (R213): the freed entries and the side without them. A replay that has not passed them goes on from the
oldest that is left. -/
def TxSide.ackTo (x : TxSide) (ack m now : Nat) : List Held × TxSide :=
  let n := dist m x.oldest (ack + 1)
  if n = 0 ∨ x.held.length < n then ([], x)
  else
    let rest := x.held.drop n
    let r := match x.replay with
      | some q => if rest.any (fun h => h.seq == q) then some q else rest.head?.map (·.seq)
      | none => none
    (x.held.take n, { x with held := rest, replay := r, advAt := now, stalls := 0 })

/-- The ACK and NAK of one sequence space used (R213). -/
def State.useAck (s : State) (p : Nat) (cbc : Bool) (ack : Nat) (nak : Bool) : State :=
  let m := if cbc then 256 else 65536
  let q := s.port p
  let x := if cbc then q.ctrl else q.data
  let (gone, y) := x.ackTo ack m (s.linkNow p)
  let cr := gone.foldl (fun cr h => let v := if cbc then 3 else h.vc; let c := cr.getD v {}; setAt cr v { c with acked := c.acked + 1 }) q.cr
  let q1 := if cbc then { q with ctrl := y, cr := cr }
    else { q with data := y, cr := cr, acklog := (q.acklog ++ gone.map (fun h => (h.seq, h.vc))).drop (q.acklog.length + gone.length - 32767) }
  let s1 : State := (s.setPort p q1).noteUnack p
  if nak then
    let seq := (ack + 1) % m
    match y.nak seq m (s.rtt p) (s.linkNow p) with
    | .proto => s1.retrain p 1
    | .ignore => s1.modPort p fun q => if cbc then { q with lastCnak := some seq } else { q with lastNak := some seq }
    | .back => s1.modPort p fun q =>
        let r := if y.held.any (fun h => h.seq == seq) then some seq else y.replay
        if cbc then { q with ctrl := { q.ctrl with replay := r }, lastCnak := some seq } else { q with data := { q.data with replay := r }, lastNak := some seq }
  else s1

/-- The credit count of a header used (R223): the increments rebuild the cumulative count; a credit for an unacknowledged flit is a
protocol fault. -/
def State.useCredit (s : State) (p v cnt : Nat) : State :=
  let q := s.port p
  let c := q.cr.getD v {}
  let inc := dist 1024 c.seen cnt
  if c.acked < c.seen + inc then s.retrain p 1
  else s.setPort p { q with cr := setAt q.cr v { c with seen := c.seen + inc, held := c.held + inc } }

/-- The header fields of a good flit used (R211). -/
def State.useHeader (s : State) (p : Nat) (h : Header) : State :=
  let s1 : State := s.useAck p false h.ack h.nak
  let s2 : State := if s1.isActive p then s1.useAck p true h.cack h.cnak else s1
  if s2.isActive p then s2.useCredit p h.crVc h.crCnt else s2

/-- A NAK that is due unless one is outstanding (R211, R212). -/
def RxSide.want (r : RxSide) : RxSide := if r.nakAt.isNone then { r with nakDue := true } else r

/-- Messages that a VC's stream holds whole, and what is left (R209). -/
def cutMessages : Nat → List Byte → List (List Byte) × List Byte
  | 0, b => ([], b)
  | f + 1, b =>
    if b.length < 8 then ([], b)
    else if (b.take 8).all (· == 0) then cutMessages f (b.drop 8)
    else if b.length < 16 then ([], b)
    else
      let n := 36 + leAt b 14 2
      if b.length < alignUp n 8 then ([], b)
      else
        let r := cutMessages f (b.drop (alignUp n 8))
        (b.take n :: r.1, r.2)

/-- A message completed on a port, put into the switch (R172, R176). -/
def State.fromPort (s : State) (p : Nat) (raw : List Byte) : State :=
  s.receive (.port (Fin.ofNat 32 (basePort p))) raw fun m => s.switchIn (.port (Fin.ofNat 32 (basePort p))) m

/-- A DATA flit accepted (R209, R211, R223): the stream goes on, or begins at FIRST; whole messages go to the switch, and the buffer is
free at once. -/
def State.acceptData (s : State) (p : Nat) (h : Header) (payload : List Byte) : State :=
  let q := s.port p
  let old := q.rxBuf.getD h.vc []
  let b := if old.isEmpty then (if h.first = 31 then [] else payload.drop (8 * h.first)) else old ++ payload
  let (ms, rest) := cutMessages (b.length / 8 + 1) b
  let c := q.cr.getD h.vc {}
  let s1 : State := s.setPort p { q with rxBuf := setAt q.rxBuf h.vc rest, cr := setAt q.cr h.vc { c with freed := c.freed + 1 },
                                         rxData := { exp := (q.rxData.exp + 1) % 65536 } }
  ms.foldl (fun t raw => t.fromPort p raw) s1

/-- CTYPE values with their lengths (R219). -/
def cbcLen (ctype : Nat) : Option Nat :=
  if ctype = 1 ∨ ctype = 0x10 then some 32 else if ctype = 2 then some 20 else if ctype = 3 then some 28
  else if (4 ≤ ctype ∧ ctype ≤ 10) ∨ ctype = 13 then some 8 else if ctype = 11 ∨ ctype = 12 then some 4 else none

/-- A CTRL flit accepted (R209, R211, R219): its messages wait for the commands that take them up; others are discarded and counted. -/
def State.acceptCtrl (s : State) (p : Nat) (payload : List Byte) : State :=
  let q := s.port p
  let c := q.cr.getD 3 {}
  let s1 : State := s.setPort p { q with rxCtrl := { exp := (q.rxCtrl.exp + 1) % 256 }, cr := setAt q.cr 3 { c with freed := c.freed + 1 } }
  (List.range 7).foldl (fun t i =>
    let m := (payload.drop (32 * i)).take 32
    if m.all (· == 0) then t
    else if cbcLen (leAt m 0 1) = some (leAt m 1 1) then t.modPort p fun q => { q with cbcIn := q.cbcIn ++ [m.take (leAt m 1 1)] }
    else t.bump (R.LNK_CBC_DROP_CNT p)) s1

/-- A bad flit (R208, R211, R235): counted; a NAK; more than 1,000 in 1 ms retrain with ERR_RATE. -/
def State.badFlit (s : State) (p : Nat) (crcOnly : Bool) : State :=
  let s1 : State := s.bump (R.LNK_FLIT_BAD_CNT p)
  let s2 : State := if crcOnly then s1.bump (R.LNK_CRC_ONLY_CNT p) else s1
  let fresh := decide (1000000 + (s.port p).badAt ≤ s.linkNow p)
  let s3 : State := s2.modPort p fun q => { q with bad := if fresh then 1 else q.bad + 1, badAt := if fresh then s.linkNow p else q.badAt, rxData := q.rxData.want }
  if 1000 < (s3.port p).bad then s3.retrain p 5 else s3

/-- The port reports PORT_DARK (R261). -/
def State.portDark (s : State) (p : Nat) : Bool := (SMap.get (fun _ => none) (s.canopy (basePort p / 4)).dark (basePort p % 4)).isSome

/-- The line that has brought chunk k of a flit (R200, R204): the line of its lane, before the last marker interval for the first `split` chunks. -/
def PortSt.chunkLine (q : PortSt) (w split k : Nat) : Option Nat :=
  ((if k < split then q.rxOld else q.rxMap).find? (fun x => x.1 == (q.rxCount + k) % w)).map (·.2)

/-- Chunk k of a flit with its line's inversion and scrambling taken away, and the line's scrambler past it (R201, R204). -/
def PortSt.takeChunk (q : PortSt) (w split k : Nat) (c : List Byte) : List Byte × PortSt :=
  match q.chunkLine w split k with
  | none => (c, q)
  | some line =>
    let r := scrambleChunk (SMap.get (fun _ => 0) (if k < split then q.rxPrev else q.rxScr) line) (if q.inverted.contains line then flipMsb c else c)
    (r.1, if k < split then { q with rxPrev := SMap.set (fun _ => 0) q.rxPrev line r.2 } else { q with rxScr := SMap.set (fun _ => 0) q.rxScr line r.2 })

/-- The receive scramblers past the scrambled zeros between the last training marker and this interval (R201, R234). -/
def PortSt.pastZeros (q : PortSt) (tick : Nat) : PortSt :=
  match q.rxMarkAt with
  | some t => { q with rxMarkAt := none, rxScr := q.rxScr.map fun e => (e.1, (scramble (128 * (tick - t - 1)) e.2).2) }
  | none => q

/-- A flit's 256 bytes collected from the lanes (R200, R201): its chunks in order, descrambled. -/
def State.collectFlit (s : State) (p split : Nat) (raw : List Byte) : List Byte × State :=
  let w := s.fld (R.LNK_STAT p) F.LNK_STAT_RX_W
  let r := (List.range 16).foldl (fun (a : List Byte × PortSt) k =>
    let c := a.2.takeChunk w split k ((raw.drop (16 * k)).take 16)
    (a.1 ++ c.1, c.2)) ([], (s.port p).pastZeros s.ftc)
  (r.1, s.setPort p { r.2 with rxCount := r.2.rxCount + 16 })

/-- Byte errors located by the FEC decoder (R227): a line with errors in at least 32 of the last 64 data intervals has failed. -/
def State.noteFec (s : State) (p split : Nat) (errs : List Nat) : State :=
  let q := { s.port p with rxCount := (s.port p).rxCount - 16 }
  let w := s.fld (R.LNK_STAT p) F.LNK_STAT_RX_W
  (List.range 16).foldl (fun t k =>
    match q.chunkLine w split k, errs.any (fun e => e / 16 == k) with
    | some line, true =>
      let i := q.rxIvl + (q.rxCount + k) / w
      let l := ((SMap.get (fun _ => []) (t.port p).fecAt line).filter (fun j => decide (i < j + 64)) ++ [i]).eraseDups
      let t1 : State := t.modPort p fun x => { x with fecAt := SMap.set (fun _ => []) x.fecAt line l }
      if 32 ≤ l.length then t1.failLine p line 3 else t1
    | _, _ => t) s

/-- A link takes what arrives now (R280): a path link inside a DESTINATION window, and its port's neighbour link outside them. -/
def State.hears (s : State) (p : Nat) : Bool :=
  if p < 32 then (pathLinks p).all fun q => decide ((s.port q).rxUntil ≤ s.ftc) else decide (s.ftc < (s.port p).rxUntil)

/-- A flit's 256 bytes as the lanes bring them, still scrambled, at an ACTIVE link that does not report PORT_DARK (R201, R208, R211). -/
def State.flitArrives (s : State) (p split : Nat) (flit : List Byte) : State :=
  if !s.isActive p ∨ s.portDark p ∨ !s.hears p then s
  else
    let c := s.collectFlit p split (fit 256 flit)
    let r := flitDecode c.1
    let s0 : State := (c.2.addFld (R.LNK_FEC_CORR_CNT p) whole r.errs.length).noteFec p split r.errs
    match r.good with
    | none => s0.badFlit p r.crcOnly
    | some (hd, payload) =>
      let h := Header.read hd
      let s1 : State := s0.useHeader p h
      if !s1.isActive p then s1
      else if h.type = 1 ∧ h.vc < 3 then
        let e := (s1.port p).rxData.exp
        if h.seq = e then s1.acceptData p h payload
        else if dist 65536 h.seq e ≤ 32767 then s1.bump (R.LNK_DUP_CNT p)
        else s1.modPort p fun q => { q with rxData := q.rxData.want }
      else if h.type = 2 then
        let e := (s1.port p).rxCtrl.exp
        let c := h.seq % 256
        if c = e then s1.acceptCtrl p payload
        else if dist 256 c e ≤ 127 then s1.bump (R.LNK_DUP_CNT p)
        else s1.modPort p fun q => { q with rxCtrl := q.rxCtrl.want }
      else s1

/-- DATA_FLIT (R211); `split` of its chunks arrived before the last marker interval. -/
def execDataFlit (p : Fin 40) (flit : LineFlit) (s : State) : Host.Outcome State Fault Refusal :=
  .next (s.live fun s => s.flitArrives p.val flit.split flit.bytes)

/-- CTRL_FLIT (R211, R219). -/
def execCtrlFlit (p : Fin 40) (flit : LineFlit) (s : State) : Host.Outcome State Fault Refusal :=
  .next (s.live fun s => s.flitArrives p.val flit.split flit.bytes)

/-- IDLE_FLIT (R211). -/
def execIdleFlit (p : Fin 40) (flit : LineFlit) (s : State) : Host.Outcome State Fault Refusal :=
  .next (s.live fun s => s.flitArrives p.val flit.split flit.bytes)

/-- SYNC of a marker (R203), and as it arrives with the most significant bit of every symbol inverted (R204). -/
def markSync : List Byte := [0x1E, 0xD2, 0x87, 0x4B]
def markSyncInv : List Byte := [0xB4, 0x78, 0x2D, 0xE1]

/-- A marker that fails on a line: ignored, and two in a row are a lane failure (R204, R227). -/
def State.badMarker (s : State) (p line : Nat) : State :=
  if (s.port p).badMark.contains line then (s.modPort p fun q => { q with badMark := q.badMark.filter (· != line) }).failLine p line 2
  else s.modPort p fun q => { q with badMark := q.badMark ++ [line] }

/-- The scrambler of a line loaded at a marker interval, with the far port's number (R201); outside ACTIVE its tick is kept, since zeros follow (R234). -/
def State.loadScr (s : State) (p line port : Nat) : State :=
  s.modPort p fun q => { q with rxScr := SMap.set (fun _ => 0) q.rxScr line (scrLoad port line), rxMarkAt := if s.isActive p then none else some s.ftc }

/-- A new marker interval of an ACTIVE link, known by its MCOUNT (R203, R212, R228): the lanes and scramblers before it are kept for the chunks that came
before it; at a SWITCH or RESIZE an outstanding NAK is sent again, and after a RESIZE the count of chunks restarts (R200). -/
def State.newInterval (s : State) (p mc w : Nat) (moved resize : Bool) : State :=
  s.modPort p fun q =>
    if q.rxMc = mc then q
    else
      let again (r : RxSide) : RxSide := if moved ∧ r.nakAt.isSome then { r with nakDue := true } else r
      { q with rxMc := mc, rxOld := q.rxMap, rxPrev := q.rxScr, rxData := again q.rxData, rxCtrl := again q.rxCtrl,
               rxIvl := if resize then q.rxIvl + (q.rxCount + w - 1) / w else q.rxIvl, rxCount := if resize then 0 else q.rxCount }

/-- A SWITCH or RESIZE marker at the receiver (R228): the lane moves to this line at the marker boundary, and LANE_FAIL for it is answered. -/
def State.applyRxMark (s : State) (p line lane w : Nat) (resize : Bool) : State :=
  let q := s.port p
  let kept := q.rxMap.filter (fun x => x.1 != lane && x.2 != line && (!resize || decide (x.1 < w)))
  let s1 : State := s.setPort p
    { q with rxMap := if lane < 16 then kept ++ [(lane, line)] else kept, fails := if resize then [] else q.fails.filter (·.lane != lane) }
  if resize then s1.setFld (R.LNK_STAT p) F.LNK_STAT_RX_W w else s1

/-- A marker's bytes on a receive line (R203, R204, R251), with the line's inversion removed. From LOCK on its LINE has to be that of its ring, and from
PARAM on its lane may not be held by another ring. -/
def State.markerOn (s : State) (p line : Nat) (l : List Byte) (ringOn : Bool) : State :=
  if l.length ≠ 16 ∨ l.take 4 ≠ markSync ∨ leAt l 14 2 ≠ crc16 (l.take 14) then
    (s.loadScr p line (s.fld (R.LNK_PEER p) F.LNK_PEER_PORT)).badMarker p line
  else
    let lane := leAt l 5 1
    let f := leAt l 7 1
    let moved : Bool := bit f 0 || bit f 1
    let s0 : State := s.modPort p fun q =>
      { q with badMark := q.badMark.filter (· != line), lastMark := SMap.set (fun _ => (31, 0)) q.lastMark line (lane, leAt l 6 1) }
    let s1 : State := (if s.isActive p then s0.newInterval p (leAt l 11 1) (s.fld (R.LNK_STAT p) F.LNK_STAT_RX_W) moved (bit f 1) else s0).loadScr p line
      (leAt l 4 1)
    let taken := decide (lane < 16) && !moved && (s.isActive p || s.lnk p == 4) && (s1.port p).rxMap.any (fun x => x.1 == lane && x.2 != line)
    if leAt l 6 1 ≠ line ∨ taken then s1.foreignLane p line ringOn
    else if !s.isActive p ∨ 17 < lane then s1
    else if bit f 1 then s1.applyRxMark p line lane (leAt l 13 1) true
    else if bit f 0 then s1.applyRxMark p line lane 16 false
    else s1

/-- MARKER_RECEIVE (R204): polarity first; outside the training and ACTIVE states no marker is used. -/
def execMarkerReceive (p : Fin 40) (line : Fin 20) (marker : List Byte) (ringOn : Bool) (s : State) : Host.Outcome State Fault Refusal :=
  .next (s.live fun s =>
    let inv := (s.port p.val).inverted
    let m := if inv.contains line.val then flipMsb marker else marker
    if s.lnk p.val < 2 ∨ 5 < s.lnk p.val ∨ s.portDark p.val ∨ !s.hears p.val then s
    else if m.take 4 = markSyncInv then
      (s.modPort p.val fun q => { q with inverted := if inv.contains line.val then inv.filter (· != line.val) else inv ++ [line.val] }).markerOn
        p.val line.val (flipMsb m) ringOn
    else s.markerOn p.val line.val m ringOn)

/-- A control bypass message taken up by its command, in a link state that receives it (R219). -/
def State.cbcRow (s : State) (p ctype : Nat) (m : List Byte) (k : State → State) : State :=
  s.live fun s =>
    if !s.isActive p then s
    else if leAt m 0 1 = ctype ∧ cbcLen ctype = some (leAt m 1 1) ∧ m.length = leAt m 1 1 ∧ leAt m 2 2 = 0 then
      k (s.modPort p fun q => { q with cbcIn := q.cbcIn.erase m })
    else s.bump (R.LNK_CBC_DROP_CNT p)

/-- IMAGE_INFO (R165, R238): sent again when it differs from the last one sent to that port. -/
def execImageInfo (p : Fin 40) (msg : List Byte) (s : State) : Host.Outcome State Fault Refusal :=
  .next (s.cbcRow p.val 2 msg fun s =>
    let i := ImgInfo.read msg
    let s1 : State := s.modPort p.val fun q => { q with peerInfo := some i }
    let s2 : State := if (s.port p.val).lastInfo = some i then s1 else s1.sendInfo p.val
    s2.refreshMismatch p.val)

/-- Credits leaked on one counter (R224): H − X with X = credits held − D + F. -/
def State.leaked (s : State) (p v : Nat) (m : List Byte) : Int :=
  let q := s.port p
  let c := q.cr.getD v {}
  let h := leAt m (6 + 4 * v) 2
  let k := leAt m (8 + 4 * v) 2
  let d := dist 65536 k c.seen
  let f := if v = 3 then dist 256 (leAt m 22 1 + 1) q.ctrl.next
    else
      let after (seq : Nat) : Bool := decide (dist 65536 (leAt m 4 2 + 1) seq < dist 65536 (leAt m 4 2 + 1) q.data.next)
      ((q.acklog.filter (fun x => x.2 == v && after x.1)) ++ (q.data.held.filter (fun x => x.vc == v && after x.seq)).map (fun x => (x.seq, x.vc))).length
  (h : Int) - (c.held - (d : Int) + (f : Int))

/-- The result of an audit for one counter (R225). The window check does not apply in COMPAT (R233). -/
def State.auditCounter (s : State) (p v : Nat) (m : List Byte) : State :=
  if !s.isActive p then s
  else
    let l := s.leaked p v m
    if l < 0 then s.retrain p 1
    else
      let q := s.port p
      let c := q.cr.getD v {}
      let c' := { c with usable := c.usable - l.toNat }
      let s1 : State := s.setPort p { q with cr := setAt q.cr v c' }
      let s2 : State := if 0 < l then (s1.addFld (R.LNK_LEAK_CNT p) whole l.toNat).portFault p 4 (le 1 v ++ le 2 l.toNat) else s1
      if !s.compat p ∧ 2 * c'.usable < c'.win then s2.retrain p 2 else s2

/-- AUDIT (R224, R225). -/
def execAuditMsg (p : Fin 40) (msg : List Byte) (s : State) : Host.Outcome State Fault Refusal :=
  .next (s.cbcRow p.val 3 msg fun s =>
    if s.fld (R.LNK_STAT p.val) F.LNK_STAT_VER = 1 then s
    else [0, 1, 2, 3].foldl (fun t v => t.auditCounter p.val v msg) (s.bump (R.LNK_AUDIT_CNT p.val)))

/-- LANE_FAIL (R228, R233). -/
def execLaneFailMsg (p : Fin 40) (msg : List Byte) (s : State) : Host.Outcome State Fault Refusal :=
  .next (s.cbcRow p.val 4 msg fun s => s.loseLane p.val (leAt msg 4 1))

/-- WRONG_LOCK (R232, R252): the transmit ring of the marker's LINE goes out of service and is relocked. -/
def execWrongLockMsg (p : Fin 40) (msg : List Byte) (s : State) : Host.Outcome State Fault Refusal :=
  .next (s.cbcRow p.val 5 msg fun s => s.loseTxLine p.val (leAt msg 6 1))

/-- CAL_REQ (R231). -/
def execCalReqMsg (p : Fin 40) (msg : List Byte) (s : State) : Host.Outcome State Fault Refusal :=
  .next (s.cbcRow p.val 6 msg fun s => s.calMove p.val (leAt msg 4 1))

/-- CAL_DONE (R230, R231). -/
def execCalDoneMsg (p : Fin 40) (msg : List Byte) (s : State) : Host.Outcome State Fault Refusal :=
  .next (s.cbcRow p.val 7 msg fun s => s.calBack p.val (leAt msg 4 1))

/-- LNK_STAT.STOPPED and THROTTLED (R221). -/
def State.noteStop (s : State) (p : Nat) : State :=
  let q := s.port p
  (s.setFld (R.LNK_STAT p) F.LNK_STAT_STOPPED (b2n (q.stop != 0))).setFld (R.LNK_STAT p) F.LNK_STAT_THROTTLED (b2n (!q.thr.isEmpty))

/-- STOP, THROTTLE and RESUME for the VCs of a mask: held or not, and their common rate (R219, R221). A later one replaces an earlier one for the VCs
it names. -/
def State.setStop (s : State) (p mask : Nat) (hold : Bool) (rate : Option Nat) : State :=
  (s.modPort p fun q => { q with
      stop := [0, 1, 2].foldl (fun n v => if bit mask v then withBit n v hold else n) q.stop
      thr := (q.thr.map fun x => ([0, 1, 2].foldl (fun n v => if bit mask v then withBit n v false else n) x.1, x.2)).filter (fun x => x.1 != 0)
        ++ (rate.elim [] fun r => if mask % 8 = 0 then [] else [(mask % 8, r)]) }).noteStop p

/-- STOP (R221). -/
def execStopMsg (p : Fin 40) (msg : List Byte) (s : State) : Host.Outcome State Fault Refusal :=
  .next (s.cbcRow p.val 8 msg fun s => s.setStop p.val (leAt msg 4 1) true none)

/-- THROTTLE (R221): a rate from 1 to 255. -/
def execThrottleMsg (p : Fin 40) (msg : List Byte) (s : State) : Host.Outcome State Fault Refusal :=
  .next (s.cbcRow p.val 9 msg fun s => if leAt msg 5 1 = 0 then s else s.setStop p.val (leAt msg 4 1) false (some (leAt msg 5 1)))

/-- RESUME (R221). -/
def execResumeMsg (p : Fin 40) (msg : List Byte) (s : State) : Host.Outcome State Fault Refusal :=
  .next (s.cbcRow p.val 10 msg fun s => s.setStop p.val (leAt msg 4 1) false none)

/-- IDLE_REQ (R236): answered with IDLE_ACK when this end is quiet too; sending it takes the port to IDLE. -/
def execIdleReqMsg (p : Fin 40) (msg : List Byte) (s : State) : Host.Outcome State Fault Refusal :=
  .next (s.cbcRow p.val 11 msg fun s => if s.quiet p.val then s.sendCbc p.val (cbc4 0x0C) else s)

/-- IDLE_ACK (R236): both ends stop modulating. -/
def execIdleAckMsg (p : Fin 40) (msg : List Byte) (s : State) : Host.Outcome State Fault Refusal :=
  .next (s.cbcRow p.val 12 msg fun s =>
    if (s.portUse p.val = 2 ∨ s.portUse p.val = 4) ∧ p.val < 32 ∧ s.fld (R.LNK_IDLE p.val) F.LNK_IDLE_EN = 1 then (s.abortWindows p.val).setLnk p.val 6 else s)

/-- RETRAIN_REQ (R235): cause FAR. -/
def execRetrainReqMsg (p : Fin 40) (msg : List Byte) (s : State) : Host.Outcome State Fault Refusal :=
  .next (s.cbcRow p.val 13 msg fun s => s.retrain p.val 7)

/-- LANE_FAILURE_DETECT (R227, R232, R252): a receive line fails by cause 0 LOS, 1 CDR, 2 MARKER, 3 FEC or 4 FOREIGN; `ringOn` says that
the receive ring is on its line. -/
def execLaneFailureDetect (p : Fin 40) (line : Fin 20) (cause : Fin 5) (ringOn : Bool) (s : State) : Host.Outcome State Fault Refusal :=
  .next (s.live fun s =>
    if cause.val = 4 then s.foreignLane p.val line.val ringOn else s.failLine p.val line.val cause.val)

end Sys2Proof.Machine
end

