-- ==== Sys2Proof/Machine/Training.lean ====
section
/-!
DEFINITION. The training state machine of a link (R234), PARAM (R220, R226, R237, R274), and retrain, restart and link reset by command
(R235, R239, R241).
-/

namespace Sys2Proof.Machine

open Sys2Proof

/-- A set of lines as a bit mask. -/
def lineMask (l : List Nat) : Nat := l.eraseDups.foldl (fun n k => withBit n k true) 0

/-- The PARAM message that this end sends (R220); ECHO and HOLD are 0 until a PARAM has been received. -/
def State.paramBytes (s : State) (p : Nat) : List Byte :=
  let q := s.port p
  let b := basePort p
  let lines := lineMask ((List.range 19).filter fun k => decide (1 ≤ k) && s.rxLine p k)
  le 1 1 ++ le 1 32 ++ zeros 2 ++ le 1 1 ++ le 1 2 ++ le 1 (b2n q.resync + 2 * b2n (s.compat p) + 4)
    ++ le 1 (s.fld (R.LNK_CREDIT_CFG1 b) F.LNK_CREDIT_CFG1_CBC) ++ le 3 lines ++ zeros 1 ++ le 2 ((65535 + q.rxData.exp) % 65536)
    ++ le 1 ((q.rxCtrl.exp + 255) % 256) ++ le 1 b ++ le 3 s.node ++ zeros 1 ++ le 2 (s.fld (R.LNK_CREDIT_CFG0 b) F.LNK_CREDIT_CFG0_VC0)
    ++ le 2 (s.fld (R.LNK_CREDIT_CFG0 b) F.LNK_CREDIT_CFG0_VC1) ++ le 2 (s.fld (R.LNK_CREDIT_CFG1 b) F.LNK_CREDIT_CFG1_VC2)
    ++ le 2 (if q.far.isSome then s.ftc - q.farAt else 0) ++ le 4 (if q.far.isSome then q.farSent else 0)

/-- PARAM sent in the training pattern (R234). -/
def State.sendParam (s : State) (p : Nat) : State :=
  s.emit (.training p (s.paramBytes p))

/-- Entry into a training state. -/
def State.enter (s : State) (p v : Nat) : State := (s.setLnk p v).modPort p fun q => { q with since := s.linkNow p }

/-- LINK_ENABLE (R198, R234): DISABLED to DARK. -/
def execLinkEnable (p : Fin 40) (s : State) : Host.Outcome State Fault Refusal :=
  .next (s.live fun s =>
    if s.lnk p.val = 0 ∧ s.mayTrain p.val ∧ (p.val < 32 ∨ (s.active ∧ !s.img.slotEntries.isEmpty)) then s.restartLink p.val else s)

/-- LIGHT_DETECT (R234): light on at least 16 lines (8 in COMPAT), or on at least 8 (4) with the set of lit lines unchanged for 50 µs. After
eight failures in a row a port tries again only when its retry is due. -/
def execLightDetect (p : Fin 40) (lit : List Nat) (s : State) : Host.Outcome State Fault Refusal :=
  .next (s.live fun s =>
    let q := s.port p.val
    let l := (List.range 19).filter fun k => decide (1 ≤ k) && lit.contains k
    let at_ := if l = q.lit then q.litAt else s.linkNow p.val
    let s1 : State := s.setPort p.val { q with lit := l, litAt := at_ }
    let n := if s.compat p.val then 8 else 16
    let free := decide (s.fld (R.LNK_TRAIN_FAIL p.val) F.LNK_TRAIN_FAIL_CONSEC < 8) || q.retryOk
    if s.lnk p.val = 1 ∧ free ∧ s.mayTrain p.val ∧ s.fld (R.OPT_STAT (basePort p.val / 4)) F.OPT_STAT_DARK = 0
        ∧ (n ≤ l.length ∨ (n / 2 ≤ l.length ∧ 50000 + at_ ≤ s.linkNow p.val)) then s1.enter p.val 2
    else s1)

/-- CLOCK_LOCK (R234): clock lock and valid markers on at least 8 lines (4 in COMPAT); the other lines are out of service. -/
def execClockLock (p : Fin 40) (lines : List Nat) (s : State) : Host.Outcome State Fault Refusal :=
  .next (s.live fun s =>
    let ok := (s.lines p.val).filter fun k => lines.contains k
    if s.lnk p.val = 2 ∧ (if s.compat p.val then 4 else 8) ≤ ok.length then
      (s.modPort p.val fun q => { q with rxOos := (s.lines p.val).filter (fun k => !ok.contains k), far := none, rttSum := 0, rttN := 0 }).enter
        p.val 3
    else s)

/-- Full lane reversal: the lanes stand on the lines in descending order (R204). -/
def reversed (l : List (Nat × Nat)) : Bool :=
  decide (1 < l.length) && l.all (fun a => l.all fun b => decide (a.2 < b.2) == decide (b.1 < a.1))

/-- ALIGN_DONE (R204, R234): polarity, deskew and lane identification are done; skew beyond 64 UI fails the training. -/
def execAlignDone (p : Fin 40) (lanes : List (Nat × Nat)) (skewUi : Nat) (s : State) : Host.Outcome State Fault Refusal :=
  .next (s.live fun s =>
    if s.lnk p.val ≠ 3 then s
    else if 64 < skewUi then s.trainFail p.val 0xB
    else
      let data := lanes.filter (fun x => decide (x.1 < 16))
      let s1 : State := s.modPort p.val fun q => { q with rxMap := lanes }
      ((s1.setFld (R.LNK_STAT p.val) F.LNK_STAT_LANE_REV (b2n (reversed data))).enter p.val 4).sendParam p.val)

/-- A credit counter at the start of ACTIVE (R222, R234): the far window less the flits that a replay will send, and the own window. -/
def freshCredit (win own unacked : Nat) : Credit := { held := (win : Int) - (unacked : Int), win := win, usable := win, ownWin := own }

/-- The line of each receive lane on entering ACTIVE (R204, R226): the lanes of the training markers whose lines this end receives, in their order, with
the spares filling the gap. -/
def State.rxLanes (s : State) (p : Nat) : List (Nat × Nat) :=
  let on := (List.range 18).filterMap fun l => ((s.port p).rxMap.find? fun x => x.1 == l && s.rxLine p x.2).map (·.2)
  let n := if s.compat p then (if on.length < 8 then 4 else 8) else 16
  (List.range (min n on.length)).map fun i => (i, on.getD i 0)

/-- Entry into ACTIVE (R220, R226, R234): sequence numbers from the far ACK and CACK or from 0, lane map, credits, IMAGE_INFO. -/
def State.enterActive (s : State) (p : Nat) (m : List Byte) : State :=
  let b := basePort p
  let q := s.port p
  let fresh := q.resync || bit (leAt m 6 1) 0
  let now := s.linkNow p
  let start (x : TxSide) (ack md : Nat) : TxSide :=
    if fresh then { advAt := now }
    else let y := (x.ackTo ack md now).2; { y with replay := y.held.head?.map (·.seq), advAt := now, stalls := 0 }
  let data := start q.data (leAt m 12 2) 65536
  let ctrl := start q.ctrl (leAt m 14 1) 256
  let n (v : Nat) : Nat := (data.held.filter (fun h => h.vc == v)).length
  let own0 := R.LNK_CREDIT_CFG0 b
  let own1 := R.LNK_CREDIT_CFG1 b
  let lines := s.laneLines p 16
  let q' : PortSt :=
    { q with down := false, data := data, ctrl := ctrl, rxData := { exp := if fresh then 0 else q.rxData.exp },
             rxCtrl := { exp := if fresh then 0 else q.rxCtrl.exp }, rxBuf := if fresh then [[], [], []] else q.rxBuf,
             vcs := if fresh then q.vcs.map (fun v => { v with part := [] }) else q.vcs,
             cr := [freshCredit (leAt m 20 2) (s.fld own0 F.LNK_CREDIT_CFG0_VC0) (n 0), freshCredit (leAt m 22 2) (s.fld own0 F.LNK_CREDIT_CFG0_VC1) (n 1),
                    freshCredit (leAt m 24 2) (s.fld own1 F.LNK_CREDIT_CFG1_VC2) (n 2),
                    freshCredit (leAt m 7 1) (s.fld own1 F.LNK_CREDIT_CFG1_CBC) ctrl.held.length],
             chunks := [], scr := [], txMap := lines, rxMap := s.rxLanes p, rxMc := 256, rxCount := 0, fecAt := [], badMark := [], marks := [], calUse := [], calWait := [], fails := [], lastNak := none, lastCnak := none,
             bad := 0, since := now, retrainAt := none, resync := false, quietAt := now, lost := [], rxLost := [], retryOk := false }
  let s1 : State := s.setPort p q'
  let st := R.LNK_STAT p
  let s2 : State := ((s1.setLnk p 5).setFld st F.LNK_STAT_TX_W lines.length).setFld st F.LNK_STAT_RX_W (s.rxLanes p).length
  let s3 : State := s2.setFld st F.LNK_STAT_VER (if s.compat p then 1 else min 2 (leAt m 5 1))
  let s4 : State := s3.setFld (R.LNK_RTT p) F.LNK_RTT_TICKS (if q.rttN = 0 then 0 else q.rttSum / q.rttN)
  let s5 : State := (s4.setFld (R.LNK_TRAIN_FAIL p) F.LNK_TRAIN_FAIL_CONSEC 0).setFld (R.LNK_SPARE p) F.LNK_SPARE_CAL_DEFER 0
  ((s5.noteUnack p).sendInfo p).refreshMismatch p

/-- PARAM (R220, R234, R237, R274): RTT and the far end's data are taken; a ring port that meets another peer takes a link reset and its
transit entries are suspended (R282); no common version or too few lines hold the port; ACTIVE follows when the far end is drained and
has received this end's PARAM, which its ECHO shows. `sent` is the sending tick of the PARAM, which no field carries; a line that RX_LINES shows again is
back in service (R228). -/
def execParamMsg (p : Fin 40) (m : TimedMsg) (s : State) : Host.Outcome State Fault Refusal :=
  .next (s.live fun s =>
    let k := p.val
    let msg := m.bytes
    if s.lnk k ≠ 4 then s
    else if leAt msg 0 1 ≠ 1 ∨ leAt msg 1 1 ≠ 32 ∨ msg.length ≠ 32 ∨ leAt msg 2 2 ≠ 0 then s.bump (R.LNK_CBC_DROP_CNT k)
    else
      let node := leAt msg 16 3 % 2 ^ 20
      let port := leAt msg 15 1 % 32
      let old := s.reg (R.LNK_PEER k)
      let changed := decide (k < 32) && s.isRing k && fget old F.LNK_PEER_VALID == 1 &&
        (fget old F.LNK_PEER_NODE != node || fget old F.LNK_PEER_PORT != port)
      let echo := leAt msg 28 4
      let rtt := (2 ^ 33 + s.ftc % 2 ^ 32 - echo - leAt msg 26 2) % 2 ^ 32 % 2 ^ 16
      let s1 : State := s.setReg (R.LNK_PEER k) (BitVec.ofNat 32 (node + port * 2 ^ 20 + 2 ^ 31))
      let s2 : State := s1.modPort k fun q =>
        { q with far := some msg, farAt := s.ftc, farSent := m.sent, txOos := q.txOos.filter (fun l => !bit (leAt msg 8 3) l), rttSum := if echo = 0 then q.rttSum else q.rttSum + rtt,
                 rttN := if echo = 0 then q.rttN else q.rttN + 1, cbcIn := q.cbcIn.erase msg }
      if changed then
        let c := basePort k / 4
        (s2.modCanopy c fun x => { x with suspended := true }).linkReset k
      else
        let v := min 2 (leAt msg 5 1)
        if v < 1 ∨ v < leAt msg 4 1 then s2.holdPort k 9
        else if (s2.laneLines k 16).length < (if s.compat k then 4 else 8) then s2.holdPort k 0xA
        else if bit (leAt msg 6 1) 2 ∧ echo ≠ 0 then (s2.sendParam k).enterActive k msg
        else s2.sendParam k)

/-- TRAINING_TIMEOUT (R234): 100 µs in LOCK, 10 µs in ALIGN, 100 µs in PARAM. -/
def execTrainingTimeout (p : Fin 40) (s : State) : Host.Outcome State Fault Refusal :=
  .next (s.live fun s =>
    let limit := if s.lnk p.val = 3 then 10000 else 100000
    if 2 ≤ s.lnk p.val ∧ s.lnk p.val ≤ 4 ∧ (s.port p.val).since + limit ≤ s.linkNow p.val then s.trainFail p.val 0xD else s)

/-- TRAINING_RETRY (R234): after 8 failures in a row, from DARK every 1 ms. -/
def execTrainingRetry (p : Fin 40) (s : State) : Host.Outcome State Fault Refusal :=
  .next (s.live fun s =>
    if s.lnk p.val = 1 ∧ 8 ≤ s.fld (R.LNK_TRAIN_FAIL p.val) F.LNK_TRAIN_FAIL_CONSEC ∧ 1000000 + (s.port p.val).since ≤ s.linkNow p.val then
      s.modPort p.val fun q => { q with retryOk := true, since := s.linkNow p.val }
    else s)

/-- RETRAIN_PORT_DOWN (R239): a retrain that has lasted 50 µs. -/
def execRetrainPortDown (p : Fin 32) (s : State) : Host.Outcome State Fault Refusal :=
  .next (s.live fun s =>
    if !s.isActive p.val ∧ (s.port p.val).retrainAt.elim false (fun t => decide (50000 + t ≤ s.now)) then s.portDown p.val else s)

/-- RETRAIN (R235, R241): cause COMMAND. -/
def execRetrain (p : Fin 32) (s : State) : Host.Outcome State Fault Refusal := .next (s.live fun s => s.retrain p.val 6)

/-- RESTART (R234, R241): a HELD port goes to DARK. -/
def State.restartHeld (s : State) (p : Nat) : State :=
  if s.lnk p = 8 then (s.setFld (R.LNK_STAT p) F.LNK_STAT_HELD_CAUSE 0).restartLink p else s
def execRestart (p : Fin 32) (s : State) : Host.Outcome State Fault Refusal := .next (s.live fun s => s.restartHeld p.val)

/-- LINK_RESET (R221, R239, R241): the port is drained, and reset. -/
def State.commandReset (s : State) (p : Nat) : State := (s.drainPort p).linkReset p
def execLinkReset (p : Fin 32) (s : State) : Host.Outcome State Fault Refusal := .next (s.live fun s => s.commandReset p.val)

end Sys2Proof.Machine
end

