-- ==== Sys2Proof/Machine/Optics.lean ====
section
/-!
DEFINITION. The rings of a Canopy (R245 to R260), its light levels (R261 to R263) and Lanterns (R264 to R267).
-/

namespace Sys2Proof.Machine

open Sys2Proof

/-- A sensor's part of the state, and its reading in 0.25 °C (R348). -/
def State.sensor (s : State) (i : Nat) : Sensor := SMap.get (fun _ => {}) s.pwr.sens i
def State.rawTemp (s : State) (i : Nat) : Int := (s.sensor i).samples.headD 0

/-- The global sensor index of the sensor assigned to a ring (R256, R348). -/
def ringSensorOf (k h : Nat) : Nat := 448 + 20 * k + (Config.ringSensor k h).val

/-- POLICY.CAL_DELTA in 0.25 °C (R157). -/
def State.calDelta (s : State) : Nat := s.img.policy 5 1 16

/-- A Canopy that runs: fitted, not retired, out of die reset. -/
def State.canopyRuns (s : State) (k : Nat) : Bool :=
  (s.slot k).occ == .canopy && !(s.slot k).retired && !(s.slot k).inReset

/-- Every heater of a Canopy. -/
def allHeaters : List Nat := List.range 144

/-- The registers of a Canopy as a search starts: the Lanterns with their measured powers, which are free, and OPT_STAT (R245). -/
def State.lanternsOn (s : State) (k lantern : Nat) (stbyOk : Bool) : State :=
  let (p0, s1) := s.freshNat
  let (p1, s2) := s1.freshNat
  let lant (i pw : Nat) (t : State) : State := t.setReg (R.OPT_LANT k i) (BitVec.ofNat 32 ((if i = lantern then 1 else 2) + pw % 2048 * 2 ^ 16))
  (lant 1 p1 (lant 0 p0 s2)).setReg (R.OPT_STAT k) (BitVec.ofNat 32 (lantern + 2 * b2n stbyOk + 4))

/-- Every ring that is not retired is in search (R245). -/
def State.searchRings (s : State) (k : Nat) : State :=
  allHeaters.foldl (fun t h => let r := t.ring k h; if r.st = 5 then t else t.setRing k h { r with st := 1 }) s

/-- RING_SEARCH (R245): every ring but the retired begins its search; the active Lantern is locked. -/
def execRingSearch (k : Fin 8) (lantern : Fin 2) (stbyOk : Bool) (s : State) : Host.Outcome State Fault Refusal :=
  .next (s.live fun s => if s.canopyRuns k.val then (s.lanternsOn k.val lantern.val stbyOk).searchRings k.val else s)

/-- The lines named by a sweep (R246): the dip before the half-spacing gap is line 1, the dip after it line 18, and the others follow by
counting; where a line shows twice the lower code counts. -/
def nameDips (codes : List Nat) (gap : Nat) : List (Nat × Nat) :=
  let all := (List.range codes.length).filterMap fun i =>
    let line := if i ≤ gap then 1 + (gap - i) else 18 - (i - gap - 1)
    if 1 ≤ line ∧ line ≤ 18 ∧ i ≤ gap + 18 then some (line, codes.getD i 0) else none
  (List.range 18).filterMap fun j => (all.filter fun x => x.1 == j + 1).foldl
    (fun (m : Option (Nat × Nat)) x => match m with
      | none => some x
      | some y => if x.2 < y.2 then some x else some y) none

/-- The smaller of the tuning above and below a line's code, in MHz (R247). -/
def margin (r : Ring) (line : Nat) : Nat :=
  match r.map.find? (fun x => x.1 == line) with
  | some x => min (x.2 * r.slope) ((16383 - x.2) * r.slope)
  | none => 0

/-- The line of ring r under a rotation (R247). -/
def rotLine (r rho : Nat) : Nat := 18 - (r + rho) % 18

/-- The code of a line in a ring's map. -/
def codeOf (r : Ring) (line : Nat) : Nat := (r.map.find? (fun x => x.1 == line)).elim 0 (·.2)

/-- The rotation of a bus (R247) for its rings by number, the retired left out: the candidate with the lowest largest code, and without
a candidate the one whose smallest margin is largest. The flag says that there was none. -/
def chooseRotation (rings : List (Nat × Ring)) : Nat × Bool :=
  let least (rho : Nat) : Nat := rings.foldl (fun m x => min m (margin x.2 (rotLine x.1 rho))) (2 ^ 40)
  let top (rho : Nat) : Nat := rings.foldl (fun m x => max m (codeOf x.2 (rotLine x.1 rho))) 0
  let cands := (List.range 18).filter fun rho => decide (170000 ≤ least rho)
  match cands with
  | c :: rest => (rest.foldl (fun m rho => if top rho < top m then rho else m) c, false)
  | [] => ((List.range 18).foldl (fun m rho => if least m < least rho then rho else m) 0, true)

/-- One bus assigned (R247): every ring takes its line, the working rings lock, and the rings without headroom raise the source. -/
def State.assignBus (s : State) (k q d : Nat) : State :=
  let h (r : Nat) : Nat := 36 * q + 18 * d + r
  let ok := (List.range 18).filterMap fun r => let x := s.ring k (h r); if x.st = 1 then some (r, x) else none
  let (rho, bad) := chooseRotation ok
  let s1 : State := (List.range 18).foldl (fun t r =>
    let x := t.ring k (h r)
    let line := rotLine r rho
    t.setRing k (h r) (if x.st = 1 then { x with line := line, st := 2, code := codeOf x line } else { x with line := line })) s
  if bad then s1.canFault k 1 (le 1 q ++ le 1 d) else s1

/-- One ring at the end of the search (R246): its resonances are named from the sweep, or it is retired. -/
def State.endSweep (t : State) (k : Nat) (sweeps : List Sweep) (h : Nat) : State :=
  let r := t.ring k h
  if r.st ≠ 1 then t
  else match sweeps.find? (fun w => w.heater == h) with
    | some w => match w.gap with
      | some g =>
        if 17 ≤ w.codes.length ∧ g + 1 < w.codes.length then
          t.setRing k h { r with map := nameDips w.codes g, slope := w.slope, searchTemp := t.rawTemp (ringSensorOf k h) }
        else t.retireRing k h
      | none => t.retireRing k h
    | none => t.retireRing k h

/-- The rings are assigned to the lines of each bus, and every ring is queued for calibration (R247, R254, R256). -/
def State.assignAll (s : State) (k : Nat) : State :=
  let s2 : State := (List.range 8).foldl (fun t i => t.assignBus k (i / 2) (i % 2)) s
  let s3 : State := s2.setFld (R.OPT_STAT k) F.OPT_STAT_SEARCH_DONE 15
  allHeaters.foldl (fun t h => t.queueCal k h) (s3.modCanopy k fun c => { c with hourAt := s.now })

/-- RING_SEARCH_DONE (R246, R247, R254, R256): the maps are recorded, rings without a gap or with fewer than 17 dips are retired, lines are
assigned bus by bus, and every ring is queued for calibration. -/
def execRingSearchDone (k : Fin 8) (sweeps : List Sweep) (s : State) : Host.Outcome State Fault Refusal :=
  .next (s.live fun s =>
    if s.canopyRuns k.val ∧ s.fld (R.OPT_STAT k.val) F.OPT_STAT_SEARCH_DONE = 0 then
      (allHeaters.foldl (fun t h => t.endSweep k.val sweeps h) s).assignAll k.val
    else s)

/-- A row of the crosstalk matrix in force (R249). -/
def State.xtRow (s : State) (k i : Nat) : List (Nat × Int) :=
  (SMap.get (fun _ => none) (s.canopy k).xt i).getD ((Config.factoryXt k i).take 8)

/-- The heater settings after one update of the lock loop: the requested codes, the feed-forward, and the crosstalk of the other heaters (R248 to R250). -/
def State.heatAfter (s : State) (k : Nat) (req : List (Nat × Int)) : SMap Int :=
  let c := s.canopy k
  req.foldl (fun m x =>
    let cross := (s.xtRow k x.1).foldl (fun a t => a + t.2 * SMap.get (fun _ => (0 : Int)) c.heat t.1) (0 : Int)
    SMap.set (fun _ => (0 : Int)) m x.1 (x.2 + c.ff / 2560 - cross / 16384)) c.heat

/-- A ring that has lost its lock: a transmit line is given up, a receive ring tries to lock again (R227, R250). -/
def State.lockLost (t : State) (k h : Nat) : State :=
  if heaterDir h = 0 then t.loseTxLine (heaterPort k h) (t.ring k h).line else t.startRelock k h

/-- LOCK_LOOP_UPDATE (R248 to R250): the powers applied, from the requests with the feed-forward term and the neighbours' last powers; rings
that have lost lock go to relock, and a transmit ring's lane fails (R227). -/
def execLockLoopUpdate (k : Fin 8) (req : List (Nat × Int)) (lost : List Nat) (s : State) : Host.Outcome State Fault Refusal :=
  .next (s.live fun s =>
    if s.canopyRuns k.val then
      lost.foldl (fun t h => t.lockLost k.val h) (s.setCanopy k.val { s.canopy k.val with heat := s.heatAfter k.val req })
    else s)

/-- The refined rows of a Canopy as the Dry bag keeps them. -/
def State.saveXt (s : State) (k : Nat) (rows : SMap (Option (List (Nat × Int)))) : State :=
  let mine := rows.filterMap fun e => e.2.map fun r => (k, e.1, r)
  { s with dry := { s.dry with xt := s.dry.xt.filter (fun e => e.1 != k) ++ mine } }

/-- XT_MATRIX_SAVE (R249): written to the Dry bag when a coefficient has moved by 0.005 or more (82 in Q1.14) since the last write, at most
once a minute. -/
def execXtMatrixSave (k : Fin 8) (s : State) : Host.Outcome State Fault Refusal :=
  let c := s.canopy k.val
  .next (if c.xtMoved.any (fun e => decide (82 ≤ e.2.natAbs)) ∧ c.xtAt.elim true (fun t => decide (60000000000 + t ≤ s.now)) then
    (s.saveXt k.val c.xt).setCanopy k.val { c with xtMoved := [], xtAt := some s.now }
  else s)

/-- XT_FACTORY (R249): the factory matrix, and the refinement discarded. -/
def State.xtFactory (s : State) (k : Nat) : State :=
  let s1 : State := s.modCanopy k fun c => { c with xt := [], xtMoved := [] }
  s1.saveXt k []
def execXtFactory (k : Fin 8) (s : State) : Host.Outcome State Fault Refusal := .next (s.xtFactory k.val)

/-- The resonance-map code of a ring's line, corrected for the temperature since the search: −12 GHz per °C of die temperature, which is
3,000 MHz per unit of 0.25 °C (R243, R253). -/
def State.mapCode (s : State) (k h : Nat) : Nat :=
  let r := s.ring k h
  let d := s.rawTemp (ringSensorOf k h) - r.searchTemp
  (max 0 (min 16383 ((codeOf r r.line : Int) - d * 3000 / (max 1 r.slope : Nat)))).toNat

/-- RELOCK_ATTEMPT (R253, R255): an attempt starts, unless the port reports PORT_DARK. -/
def execRelockAttempt (k : Fin 8) (h : Fin 144) (s : State) : Host.Outcome State Fault Refusal :=
  .next (s.live fun s =>
    let r := s.ring k.val h.val
    if r.st = 4 ∧ r.tries < 3 ∧ !s.portDark (heaterPort k.val h.val) then
      s.setRing k.val h.val { r with tries := r.tries + 1, code := s.mapCode k.val h.val }
    else s)

/-- A line returns to service after a relock (R254): a receive line by CAL_DONE, a transmit line by the transmitter's own SWITCH. In COMPAT
it returns at the next training (R268). -/
def State.returnLine (s : State) (k h : Nat) : State :=
  let p := heaterPort k h
  let line := (s.ring k h).line
  if s.compat p ∨ !s.isActive p then s
  else if heaterDir h = 0 then
    match ((s.port p).lost.find? (fun x => x.2 == line)) with
    | some x => s.calBack p x.1
    | none => (s.modPort p fun q => { q with txOos := q.txOos.filter (· != line) }).restoreWidth p
  else
    match ((s.port p).rxLost.find? (fun x => x.2 == line)) with
    | some x => (s.modPort p fun q => { q with rxOos := q.rxOos.filter (· != line), rxLost := q.rxLost.filter (· != x) }).sendCbc p (cbc8 7 (le 1 x.1))
    | none => s.modPort p fun q => { q with rxOos := q.rxOos.filter (· != line) }

/-- RELOCK_END (R253 to R256): on success the line returns and the ring is queued for calibration; the third failure retires it. -/
def execRelockEnd (k : Fin 8) (h : Fin 144) (locked : Bool) (code : Nat) (s : State) : Host.Outcome State Fault Refusal :=
  .next (s.live fun s =>
    let r := s.ring k.val h.val
    if r.st ≠ 4 ∨ r.tries = 0 then s
    else if locked then
      let s1 : State := s.setRing k.val h.val { r with st := 2, tries := 0, code := code % 16384, held := false }
      ((s1.returnLine k.val h.val).queueCal k.val h.val)
    else if 3 ≤ r.tries then s.retireRing k.val h.val
    else s)

/-- A calibration window may open on a ring: it is locked on an ACTIVE port, no other ring of its port and direction is in a
window, and it is the first of them in the queue (R257, R260). -/
def State.windowFree (s : State) (k h : Nat) : Bool :=
  let c := s.canopy k
  let p := heaterPort k h
  let same (g : Nat) : Bool := g / 18 == h / 18
  (s.ring k h).st == 2 && s.isActive p && !s.compat p && !c.wins.any same && (c.queue.find? (fun e => same e.1)).elim false (fun e => e.1 == h)

/-- A calibration window opened on a ring (R231, R257): its line moves to a spare first, or the far end is asked to move it. -/
def State.openWindow (s : State) (k h : Nat) : State :=
  let p := heaterPort k h
  let r := s.ring k h
  let t : State := (s.setRing k h { r with st := 3 }).modCanopy k fun c => { c with wins := c.wins ++ [h] }
  if heaterDir h = 0 then
    match (s.port p).txMap.idxOf? r.line with
    | some l => if (s.freeSpares p).isEmpty then s.calMove p l else t.calMove p l
    | none => t
  else
    match (s.port p).rxMap.find? (fun x => x.2 == r.line) with
    | some x => (t.modPort p fun q => { q with rxLost := q.rxLost.filter (·.2 != r.line) ++ [x] }).sendCbc p (cbc8 6 (le 1 x.1))
    | none => t

/-- CALIBRATION_WINDOW (R231, R257, R260): the first queued ring of its port and direction, with no window of that direction open on the port;
a transmit ring's lane moves to a spare, a receive ring sends CAL_REQ. With no spare free it waits. There are none in COMPAT (R268). -/
def execCalibrationWindow (k : Fin 8) (h : Fin 144) (s : State) : Host.Outcome State Fault Refusal :=
  .next (s.live fun s => if s.windowFree k.val h.val then s.openWindow k.val h.val else s)

/-- The refinement of row i at a calibration (R249): each named term moves by at most 0.01 (163 in Q1.14). -/
def State.refineRow (s : State) (k i : Nat) (moves : List (Nat × Int)) : State :=
  if s.fld (R.OPT_XT_CTL k) F.OPT_XT_CTL_REFINE = 0 then s
  else
    let cut (m : Int) : Int := max (-163) (min 163 m)
    let delta (j : Nat) : Int := (moves.find? (fun m => m.1 == j)).elim 0 (fun m => cut m.2)
    let row := (s.xtRow k i).map fun t => (t.1, max (-32768) (min 32767 (t.2 + delta t.1)))
    s.modCanopy k fun c =>
      { c with xt := SMap.set (fun _ => none) c.xt i (some row),
               xtMoved := moves.foldl (fun m x => SMap.set (fun _ => (0 : Int)) m (144 * i + x.1) (SMap.get (fun _ => (0 : Int)) m (144 * i + x.1) + cut x.2))
                 c.xtMoved }

/-- What a calibration leaves of a ring: its code, temperature, slicer and times (R257, R259). -/
def State.calibrated (s : State) (k h code : Nat) (slicer : Nat × Nat × Nat) : Ring :=
  let r := s.ring k h
  { r with
    st := 2, code := code % 16384, calTemp := s.rawTemp (ringSensorOf k h), slicer := if heaterDir h = 1 then slicer else (0, 0, 0),
    calCnt := min (2 ^ 32 - 1) (r.calCnt + 1), calFtc := s.ftc, calWall := s.wall / 1000000000 % 2 ^ 32 }

/-- The ring and its Canopy at the end of a calibration: the ring leaves its window and the queue, and the hour's counts take it (R257, R259). -/
def State.endCalibration (s : State) (k h code : Nat) (slicer : Nat × Nat × Nat) (moves : List (Nat × Int)) : State :=
  let r := s.ring k h
  let move := if r.code < code then code - r.code else r.code - code
  ((s.setRing k h (s.calibrated k h code slicer)).modCanopy k fun c =>
    { c with wins := c.wins.filter (· != h), queue := c.queue.filter (fun e => e.1 != h), hourCals := c.hourCals + 1, hourMove := max c.hourMove move }).refineRow k h moves

/-- CALIBRATION_WINDOW_DONE (R257 to R259, R231): the ring's new set points; the calibration is counted with its FTC and wall time, the row of
the matrix refined, and the lane moved back. Outside service (start-up, COMPAT) a queued ring is calibrated without a window (R258, R268). -/
def execCalibrationWindowDone (k : Fin 8) (h : Fin 144) (code : Nat) (slicer : Nat × Nat × Nat) (moves : List (Nat × Int)) (s : State) :
    Host.Outcome State Fault Refusal :=
  .next (s.live fun s =>
    let c := s.canopy k.val
    let p := heaterPort k.val h.val
    let r := s.ring k.val h.val
    let win := c.wins.contains h.val
    let startUp := (!s.isActive p || s.compat p) && c.queue.any (fun e => e.1 == h.val) && r.st == 2
    let t : State := s.endCalibration k.val h.val code slicer moves
    if win then
      if heaterDir h.val = 0 then
        match (t.port p).calUse.find? (fun u => u.home == r.line) with
        | some u => t.calBack p u.lane
        | none => t
      else t.returnLine k.val h.val
    else if startUp then t else s)

/-- CAL_OVERDUE (R260): a queued ring that has waited more than 1 s, once per wait. -/
def execCalOverdue (k : Fin 8) (h : Fin 144) (s : State) : Host.Outcome State Fault Refusal :=
  .next (s.live fun s =>
    match (s.canopy k.val).queue.find? (fun e => e.1 == h.val) with
    | some e =>
      if !e.2.2 ∧ 1000000000 + e.2.1 < s.now then
        (s.modCanopy k.val fun c => { c with queue := c.queue.map fun x => if x.1 = h.val then (x.1, x.2.1, true) else x }).canFault k.val 2 (le 1 h.val)
      else s
    | none => s)

/-- The summary of a Canopy's calibrations in the hour (R259). -/
def State.canopySummary (s : State) (k : Nat) : State :=
  let c := s.canopy k
  let s1 : State := if (s.slot k).occ = .canopy then s.dryEvent 0x0A (9 + k) (le 1 (9 + k) ++ le 4 c.hourCals ++ le 2 c.hourMove) else s
  s1.setCanopy k { c with hourCals := 0, hourMove := 0, hourAt := s.now }

/-- The summary of a Seam link's calibrations in the hour (R296). -/
def State.seamSummary (s : State) (b : Nat) : State :=
  let x := s.seam b
  let s1 : State := if s.fitted b then s.dryEvent 0x0A (1 + b) (le 1 (1 + b) ++ le 4 x.hourCals ++ le 2 x.hourMove) else s
  s1.setSeam b { x with hourCals := 0, hourMove := 0 }

/-- CAL_SUMMARY (R259, R296, R390): once an hour, the Canopy of a slot and the Seam link of the Bell of the same number. -/
def execCalSummary (k : Fin 8) (s : State) : Host.Outcome State Fault Refusal :=
  .next (if 3600000000000 + (s.canopy k.val).hourAt ≤ s.now then (s.canopySummary k.val).seamSummary k.val else s)

/-- Per-line loss of signal reported (R227, R261). -/
def State.reportLos (s : State) (p : Nat) (lines : List Nat) : State :=
  lines.foldl (fun t line => (t.addFld (R.OPT_LOS_CNT (p / 4)) F.OPT_LOS_CNT_LINE 1).failLine p line 0) s

/-- OPT_STAT.PORT_DARK of a local port. -/
def State.setPortDark (s : State) (p : Nat) (x : Option (List Nat × Nat)) : State :=
  let k := p / 4
  let s1 : State := s.modCanopy k fun c => { c with dark := SMap.set (fun _ => none) c.dark (p % 4) x }
  s1.setFld (R.OPT_STAT k) F.OPT_STAT_PORT_DARK (withBit (s1.fld (R.OPT_STAT k) F.OPT_STAT_PORT_DARK) (p % 4) x.isSome)

/-- The lines of an Ethernet instance (R446): the eight lowest that are no spares, or the next eight. -/
def State.ethLines (s : State) (p inst : Nat) : List Nat :=
  ((((List.range 18).map (· + 1)).filter fun k => k != s.img.spareA p && k != s.img.spareB p).drop (8 * inst)).take 8

/-- An Ethernet instance one of whose lines is lost has its link down at its PCS; the other goes on (R446). -/
def State.ethLoss (s : State) (p : Nat) (lines : List Nat) : State :=
  if s.portUse p = 3 then s.modPort p fun q => { q with pcs := q.pcs.filter fun i => !(s.ethLines p i).any lines.contains } else s

/-- LOSS_OF_SIGNAL (R261): lines that enter loss of signal within 32 ns of one another; 12 or more lit lines, or every lit line when fewer are
lit, are PORT_DARK and withhold the reports. -/
def execLossOfSignal (p : Fin 32) (lines : List Nat) (s : State) : Host.Outcome State Fault Refusal :=
  .next (s.live fun s =>
    let lit := (s.port p.val).lit
    let ls := lines.eraseDups.filter lit.contains
    let s0 : State := (s.modPort p.val fun q => { q with lit := q.lit.filter (fun k => !ls.contains k) }).ethLoss p.val ls
    if ls.isEmpty then s.ethLoss p.val lines
    else match SMap.get (fun _ => none) (s.canopy (p.val / 4)).dark (p.val % 4) with
      | some (d, t) => s0.setPortDark p.val (some ((d ++ ls).eraseDups, t))
      | none =>
        if min 12 lit.length ≤ ls.length then
          (s0.addFld (R.OPT_LOS_CNT (p.val / 4)) F.OPT_LOS_CNT_PORT 1).setPortDark p.val (some (ls, s.now))
        else s0.reportLos p.val ls)

/-- LOSS_OF_SIGNAL_END (R261): light returns on lines; on all of them, PORT_DARK ends. -/
def execLossOfSignalEnd (p : Fin 32) (lines : List Nat) (s : State) : Host.Outcome State Fault Refusal :=
  .next (s.live fun s =>
    let s0 : State := s.modPort p.val fun q => { q with lit := (List.range 19).filter fun k => decide (1 ≤ k) && (q.lit ++ lines).contains k }
    match SMap.get (fun _ => none) (s.canopy (p.val / 4)).dark (p.val % 4) with
    | some (d, t) =>
      let left := d.filter (fun k => !lines.contains k)
      s0.setPortDark p.val (if left.isEmpty then none else some (left, t))
    | none => s0)

/-- PORT_DARK_TIMEOUT (R261): after 10 µs the lines still dark are reported. -/
def execPortDarkTimeout (p : Fin 32) (s : State) : Host.Outcome State Fault Refusal :=
  .next (s.live fun s =>
    match SMap.get (fun _ => none) (s.canopy (p.val / 4)).dark (p.val % 4) with
    | some (d, t) => if 10000 + t ≤ s.now then (s.setPortDark p.val none).reportLos p.val d else s
    | none => s)

/-- A power in 1/16 µW below OPT_RXP.WARN, a threshold in units of −0.1 dBm (R262, R284): power < 16,000 · 10^(−WARN/100), in whole numbers. -/
def State.underWarn (s : State) (k power : Nat) : Bool := decide (power ^ 100 * 10 ^ s.fld (R.OPT_RXP k) F.OPT_RXP_WARN < 16000 ^ 100)

/-- RX_POWER_CHECK (R262): a line's received power, and the low-power source at most once per line per hour. -/
def execRxPowerCheck (p : Fin 32) (line : Fin 20) (power : Nat) (belowWarn : Bool) (s : State) : Host.Outcome State Fault Refusal :=
  .next (s.live fun s =>
    match s.heaterOf p.val 1 line.val with
    | none => s
    | some h =>
      let k := p.val / 4
      let r := s.ring k h
      let due := belowWarn && s.underWarn k power && r.warnAt.elim true (fun t => decide (3600000000000 + t ≤ s.now))
      let s1 : State := s.setRing k h { r with pwr := power % 65536, warnAt := if due then some s.now else r.warnAt }
      if due then s1.canFault k 3 (le 1 p.val ++ le 1 line.val ++ le 2 power) else s1)

/-- STAGE_CHECK (R263): a stage whose loss exceeds its maximum by more than 1 dB. -/
def execStageCheck (k : Fin 8) (stage : Fin 5) (port line : Nat) (excess : Bool) (s : State) : Host.Outcome State Fault Refusal :=
  .next (s.live fun s => if excess then s.canFault k.val 4 (le 1 stage.val ++ le 1 port ++ le 1 line) else s)

/-- LANTERN_WEAR (R264): the bias reported, and the wear source at 90 %. -/
def execLanternWear (k : Fin 8) (l : Fin 2) (bias : Fin 1001) (s : State) : Host.Outcome State Fault Refusal :=
  .next (s.live fun s =>
    let a := R.OPT_LANT k.val l.val
    let s1 : State := s.setFld a F.OPT_LANT_BIAS bias.val
    if 900 ≤ bias.val ∧ s.fld a F.OPT_LANT_WEAR = 0 then (s1.setFld a F.OPT_LANT_WEAR 1).canFault k.val 5 (le 1 l.val ++ le 2 bias.val)
    else s1)

/-- The selector moves to the standby (R266): counted, recorded, the source raised; open windows are abandoned and relock attempts restarted
(R255, R257). -/
def State.lantSwitch (s : State) (k cause : Nat) : State :=
  let act := s.fld (R.OPT_STAT k) F.OPT_STAT_LANT_ACT
  let s1 : State := s.setFld (R.OPT_STAT k) F.OPT_STAT_LANT_ACT (1 - act)
  let s2 : State := (s1.setFld (R.OPT_LANT k (1 - act)) F.OPT_LANT_STATE 1).setFld (R.OPT_LANT k act) F.OPT_LANT_STATE (if cause = 5 then 2 else 3)
  let s3 : State := (s2.addFld (R.OPT_LANT_EVT k) F.OPT_LANT_EVT_COUNT 1).setFld (R.OPT_LANT_EVT k) F.OPT_LANT_EVT_LAST_CAUSE cause
  let s4 : State := (s3.sparing (9 + k) k 0 0xFF act (1 - act) 0 5).canFault k 6 (le 1 cause)
  let s5 : State := (s4.canopy k).wins.foldl (fun t h => t.abandonCal k h) s4
  let s6 : State := allHeaters.foldl (fun t h => let r := t.ring k h; if r.st = 4 ∧ 0 < r.tries then t.setRing k h { r with tries := r.tries - 1 } else t) s5
  let s7 : State := s6.modCanopy k fun c => { c with lantAt := s.now }
  if cause = 5 then s7 else (s7.setFld (R.OPT_STAT k) F.OPT_STAT_STBY_OK 0).canFault k 7 []

/-- The active Lantern fails with no healthy standby (R267): the ports go dark and down. -/
def State.canopyDark (s : State) (k : Nat) : State :=
  let act := s.fld (R.OPT_STAT k) F.OPT_STAT_LANT_ACT
  let s1 : State := ((s.setFld (R.OPT_STAT k) F.OPT_STAT_DARK 1).setFld (R.OPT_STAT k) F.OPT_STAT_REF_LOCK 0).setFld (R.OPT_LANT k act) F.OPT_LANT_STATE 3
  let s2 : State := (s1.canFault k 8 []).modCanopy k fun c => { c with lantAt := s.now }
  (List.range 4).foldl (fun t q => (t.portDown (4 * k + q)).restartLink (4 * k + q)) s2

/-- LANTERN_SWITCH_OVER (R265 to R267): causes FAST_DROP, FREQ, BIAS and TEMP (codes 1 to 4). -/
def execLanternSwitchOver (k : Fin 8) (cause : Fin 4) (s : State) : Host.Outcome State Fault Refusal :=
  .next (s.live fun s =>
    if s.fld (R.OPT_STAT k.val) F.OPT_STAT_DARK = 1 then s
    else if s.fld (R.OPT_STAT k.val) F.OPT_STAT_STBY_OK = 1 then s.lantSwitch k.val (cause.val + 1) else s.canopyDark k.val)

/-- COMB_REFERENCE_FAULT (R283): both Lanterns' frequency loops unlocked for 1 ms. -/
def execCombReferenceFault (k : Fin 8) (s : State) : Host.Outcome State Fault Refusal :=
  .next (s.live fun s => (s.setFld (R.OPT_STAT k.val) F.OPT_STAT_REF_LOCK 0).canFault k.val 9 [])

/-- LANT_SWITCH (R265, R266): cause COMMAND; ignored when STBY_OK is 0. -/
def State.lantCommand (s : State) (k : Nat) : State := if s.fld (R.OPT_STAT k) F.OPT_STAT_STBY_OK = 1 then s.lantSwitch k 5 else s
def execLantSwitch (k : Fin 8) (s : State) : Host.Outcome State Fault Refusal := .next (s.live fun s => s.lantCommand k.val)

/-- STANDBY_LANTERN_LOST (R266): an unhealthy standby found in service. -/
def execStandbyLanternLost (k : Fin 8) (s : State) : Host.Outcome State Fault Refusal :=
  .next (s.live fun s =>
    if s.fld (R.OPT_STAT k.val) F.OPT_STAT_STBY_OK = 1 then (s.setFld (R.OPT_STAT k.val) F.OPT_STAT_STBY_OK 0).canFault k.val 7 [] else s)

/-- CAL_ALL (R256). -/
def State.calAll (s : State) (k : Nat) : State := allHeaters.foldl (fun t h => t.queueCal k h) s
def execCalAll (k : Fin 8) (s : State) : Host.Outcome State Fault Refusal := .next (s.live fun s => s.calAll k.val)

/-- The heater of the ring that OPT_LANE_SEL selects. -/
def State.selHeater (s : State) (k : Nat) : Option Nat :=
  s.heaterOf (4 * k + s.fld (R.OPT_LANE_SEL k) F.OPT_LANE_SEL_PORT) (s.fld (R.OPT_LANE_SEL k) F.OPT_LANE_SEL_DIR) (s.fld (R.OPT_LANE_SEL k) F.OPT_LANE_SEL_LINE)

/-- LANE_CAL_REQ (R256): the selected ring; ignored for a retired ring. -/
def State.laneCal (s : State) (k : Nat) : State := (s.selHeater k).elim s fun h => s.queueCal k h
def execLaneCalReq (k : Fin 8) (s : State) : Host.Outcome State Fault Refusal := .next (s.live fun s => s.laneCal k.val)

/-- MONITOR_MEASURE (R244, R284): a write of OPT_MON_SEL starts one measurement and clears VALID. Reserved encodings leave their field. -/
def State.monSelect (s : State) (k : Nat) (w : Word) : State :=
  let a := R.OPT_MON_SEL k
  let put (t : State) (f : Fld) (ok : Bool) : State := if ok then t.setFld a f (fget w f) else t
  let s1 : State := put s F.OPT_MON_SEL_STAGE (decide (fget w F.OPT_MON_SEL_STAGE ≤ 4))
  let s2 : State := put s1 F.OPT_MON_SEL_PORT true
  let l := fget w F.OPT_MON_SEL_LINE
  let s3 : State := put (put s2 F.OPT_MON_SEL_LINE (decide (1 ≤ l) && decide (l ≤ 18))) F.OPT_MON_SEL_LANT true
  s3.setFld (R.OPT_MON_DATA k) F.OPT_MON_DATA_VALID 0
def execMonitorMeasure (k : Fin 8) (sel : BitVec 32) (s : State) : Host.Outcome State Fault Refusal := .next (s.live fun s => s.monSelect k.val sel)

/-- MONITOR_MEASURE_DONE (R244): the reading of the measurement started by the last OPT_MON_SEL write. -/
def execMonitorMeasureDone (k : Fin 8) (power : BitVec 16) (s : State) : Host.Outcome State Fault Refusal :=
  .next (s.live fun s => s.setReg (R.OPT_MON_DATA k.val) (BitVec.ofNat 32 (power.toNat + 2 ^ 31)))

end Sys2Proof.Machine
end

