-- ==== Sys2Proof/Machine/Collective.lean ====
section
/-!
DEFINITION. The collective engines (R121 to R134, R139 to R142): instances, contributions, the exponent phase, sums in the three modes,
conversion and delivery of results, trees and rings, DET_DESC differences, duplicates and aborts.
-/

namespace Sys2Proof.Machine

open Sys2Proof

/-- The value of EXP_PARTIAL that says an element has no block exponent (R126). -/
def noExp : Int := -32768

/-- Bytes of n elements in a message (R125): exponents 2, and otherwise the elements of the format, with the scale bytes of an MX
result after them. -/
def payloadLen (kind fmt n : Nat) : Nat := if kind ≤ 2 then 2 * n else rowLen fmt n

/-- Elements that one message may carry (R125). An MX result is cut at whole blocks. -/
def maxCount (kind fmt : Nat) : Nat :=
  if kind ≤ 2 then 2048 else if isMx fmt then 2048 else min 2048 (4096 * 8 / elemBits fmt)

/-- The 32-byte header of R125 and the payload; `fl` are the flags of everything summed into the message. -/
def colBody (x : ColInst) (kind fmt det rank off count fl : Nat) (last : Bool) (payload : List Byte) : List Byte :=
  le 1 kind ++ le 1 (flagsToHeader fl % 8 + 8 * b2n x.mixed + 16 * b2n last) ++ le 1 (if kind ≤ 2 then 0 else fmt) ++ le 1 x.gen ++ le 4 x.coll
    ++ le 4 x.stream ++ le 8 x.seq ++ le 4 det ++ le 2 rank ++ le 2 count ++ le 4 off ++ payload

/-- Element values as payload bytes: exponents and ESF as two's complement, other formats as codes. -/
def valBytes (kind fmt : Nat) (vs : List Int) : List Byte :=
  if kind ≤ 2 then vs.flatMap i16
  else if fmt = 11 then vs.flatMap esfBytes
  else packCodes fmt (vs.map (·.toNat))

/-- Element values read from payload bytes. -/
def valsOf (kind fmt n : Nat) (l : List Byte) : List Int :=
  if kind ≤ 2 then (List.range n).map (fun i => signed 16 (leAt l (2 * i) 2))
  else if fmt = 11 then (List.range n).map (fun i => esfInt (l.drop (16 * i)))
  else (unpackCodes fmt n l).map (fun c => ((c : Nat) : Int))

/-- The instance of an identity (R123). -/
def State.inst? (s : State) (coll stream seq gen : Nat) : Option ColInst :=
  s.col.insts.find? (fun x => x.coll == coll && x.stream == stream && x.seq == seq && x.gen == gen)

/-- The engines' state with an instance replaced, or opened. -/
def State.putInst (s : State) (x : ColInst) : State :=
  let same (y : ColInst) : Bool := y.coll == x.coll && y.stream == x.stream && y.seq == x.seq && y.gen == x.gen
  if s.col.insts.any same then { s with col := { s.col with insts := s.col.insts.map (fun y => if same y then x else y) } }
  else { s with col := { s.col with insts := s.col.insts ++ [x] } }

/-- The order of an instance is STRICT, where this device has a part of it. -/
def State.strictOrder (s : State) (stream seq : Nat) : Bool :=
  s.jrn.parts.any fun p => p.wo.stream == stream && p.wo.seq == seq && p.wo.strict

/-- An instance, opened where there is none. STRICT is the order's, from the time this device has a part of it. -/
def State.openInst (s : State) (coll stream seq gen : Nat) : ColInst :=
  let x := (s.inst? coll stream seq gen).getD { coll := coll, stream := stream, seq := seq, gen := gen, lastMsg := s.now }
  { x with strict := x.strict || s.strictOrder stream seq }

/-- Instances open on an engine (R123). -/
def State.engineOpen (s : State) (e : Nat) : Nat :=
  (s.col.insts.filter fun x => !x.closed && (s.img.coll? x.coll).any fun c => c.engine == e).length

/-- The engine of a collective can take part in an instance (R121, R123): its domain is not OFF, and the instance is one of its 256 or there is room. One
that cannot takes nothing: a message stays unanswered, and an operation that contributes waits (DESIGN CHOICE, log entry 161). -/
def State.engineTakes (s : State) (c : Coll) (stream seq gen : Nat) : Bool :=
  s.dom (12 + c.engine / 2) != 3 && ((s.inst? c.id stream seq gen).isSome || decide (s.engineOpen c.engine < 256))

/-- This device's DET_DESC (R137). -/
def State.detDesc (s : State) : Nat :=
  s.fuses.numrev % 256 + s.fld R.COL_DET_DESC F.COL_DET_DESC_FWNUM * 2 ^ 8 + s.fuses.stepnum % 256 * 2 ^ 16

/-- The rank an engine node sends an aggregate under (R125): the lowest of its own. -/
def Coll.nodeRank (c : Coll) : Nat := (c.locals.map (·.rank)).foldl min 0xFFFF

/-- The first elements of the messages that n elements are cut into. -/
def cutAt (n m : Nat) : List Nat := if m = 0 then [] else (List.range ((n + m - 1) / m)).map (· * m)

/-- One COLL message to another engine node. -/
def State.sendColl (s : State) (node : Nat) (body : List Byte) : State :=
  s.request { mtype := 0x28, dstNode := node, srcNode := s.node, body := body } .coll

/-- Elements from `off` on sent to a node as messages of one kind (R125): `fl` gives the flags of n elements from one on, `last` says that the sender's
phase ends with them. -/
def State.sendVals (s : State) (x : ColInst) (kind fmt rank node off : Nat) (vs : List Int) (fl : Nat → Nat → Nat) (last : Bool) : State :=
  let m := maxCount kind fmt
  (cutAt vs.length m).foldl (fun t o =>
    let part := (vs.drop o).take m
    t.sendColl node (colBody x kind fmt t.detDesc rank (off + o) part.length (fl (off + o) part.length) (last && decide (vs.length ≤ o + m))
      (valBytes kind fmt part))) s

/-- Cluster-buffer offsets of every contributing cluster of this device, as (Bell, cluster). -/
def Coll.clusters (c : Coll) : List (Nat × Nat) :=
  (c.locals.flatMap (fun r => ((List.range 16).filter (fun k => bit r.clusters k)).map (fun k => (r.die - 1, k)))).eraseDups

/-- Bytes written at an offset of every contributing cluster's buffer. -/
def State.writeClusters (s : State) (c : Coll) (off : Nat) (bytes : List Byte) : State :=
  c.clusters.foldl (fun t bk => t.writeMem bk.1 (cbOff bk.2 off) bytes) s

/-- The pieces delivered hold every element. -/
def gotAll (c : Coll) (l : List (Nat × Nat)) : Bool := decide (c.elems ≤ (l.map (·.2)).sum)

/-- Anchors written at ANCHOR_DEST (R127). R122 does not say how a MAX_EXP collective is carried and delivered: its contributions go as EXP_PARTIAL and its
result as EXP_RESULT, with 0x8000 replaced by 0, at ANCHOR_DEST, and nothing at RESULT_DEST (DESIGN CHOICE, log entry 162). -/
def State.deliverAnchors (s : State) (c : Coll) (x : ColInst) (off : Nat) (vs : List Int) : State :=
  let base := if x.anchors.length = c.elems then x.anchors else List.replicate c.elems 0
  let got := x.anchGot ++ [(off, vs.length)]
  let x1 := { x with anchors := base.take off ++ vs ++ base.drop (off + vs.length), anchGot := got, closed := x.closed || (c.op == 1 && gotAll c got) }
  (s.writeClusters c (c.anchorDest + 2 * off) (vs.flatMap i16)).putInst x1

/-- A piece of the result written at RESULT_DEST (R129): n elements from `off`, with the scale bytes of an MX format in their place in
the row (R61). An Exact instance that completes inexact at a final node here is counted (R142). -/
def State.deliverResult (s : State) (c : Coll) (x : ColInst) (off n : Nat) (bytes : List Byte) : State :=
  let d := dataLen c.outFmt n
  let s1 : State := s.writeClusters c (c.resultDest + off * elemBits c.outFmt / 8) (bytes.take d)
  let s2 : State := if isMx c.outFmt then s1.writeClusters c (c.resultDest + dataLen c.outFmt c.elems + off / 32) (bytes.drop d) else s1
  let got := x.resGot ++ [(off, n)]
  let s3 : State := s2.putInst { x with resGot := got, closed := x.closed || gotAll c got, recv := if gotAll c got then [] else x.recv }
  if !x.closed ∧ gotAll c got ∧ c.op = 0 ∧ c.mode = 0 ∧ x.finFlags &&& flInexact ≠ 0 then s3.bump R.COL_INEXACT_CNT else s3

/-- The flags of an instance set in the reports of this device's part of its order (R140). -/
def State.noteMixed (s : State) (x : ColInst) : State :=
  if x.mixed then
    { s with jrn := { s.jrn with parts := s.jrn.parts.map fun p =>
        if p.wo.stream = x.stream ∧ p.wo.seq = x.seq then { p with flags := p.flags ||| flDetMixed } else p } }
  else s

/-- The neighbours of an engine node in a collective's tree or ring (R156). -/
def Coll.neighbours (c : Coll) : List Nat := (if c.parent = 0xFFFFF then [] else [c.parent]) ++ c.children

/-- An instance aborted (R139): its staging released, counted and captured, and ABORT sent on to the other nodes of the instance. The
payload is the cause, with the error code of the stopped run above it. -/
def State.abortInst (s : State) (x : ColInst) (cause err rank : Nat) (frm : Option Nat) : State :=
  if x.aborted.isSome then s
  else
    let x1 := { x with aborted := some (cause, err), recv := [], closed := true }
    let s1 : State := ((s.putInst x1).bump R.COL_ABORT_CNT).capture R.COL_ABORT_LAST (x.coll + cause * 2 ^ 14 + rank % 4096 * 2 ^ 18)
    if cause = 5 then s1
    else match s1.img.coll? x.coll with
      | none => s1
      | some c => (c.neighbours.filter (fun n => some n != frm)).foldl (fun t n =>
          t.sendColl n (colBody x1 5 0 t.detDesc rank 0 1 0 true (le 4 (cause + err * 2 ^ 8)))) s1

/-- The DET_DESC check of R140 on one message: a mixed instance is counted and captured, and aborted where the order is STRICT, which may become known
after the mismatch. -/
def State.detCheck (s : State) (x : ColInst) (det rank : Nat) (mixed : Bool) (frm : Option Nat) : State × ColInst :=
  if x.mixed then
    if x.strict ∧ !x.closed then
      let s1 : State := s.abortInst x 3 0 rank frm
      (s1, (s1.inst? x.coll x.stream x.seq x.gen).getD x)
    else (s, x)
  else if det = s.detDesc ∧ !mixed then (s, x)
  else
    let x1 := { x with mixed := true }
    let s1 : State := s.putInst x1
    let s2 : State := s1.bump R.COL_MIXED_CNT
    let s3 : State :=
      if s2.fld R.COL_MIXED_LAST F.COL_MIXED_LAST_VALID = 0 then
        (s2.capture R.COL_MIXED_LAST (x.coll + b2n x.strict * 2 ^ 14)).setReg R.COL_MIXED_DESC (BitVec.ofNat 32 det)
      else s2
    if x.strict then
      let s4 : State := s3.abortInst x1 3 0 rank frm
      (s4, (s4.inst? x.coll x.stream x.seq x.gen).getD x1)
    else (s3.noteMixed x1, x1)

/-- Values of one source's chunks at element e. -/
def chunkVals (cs : List Chunk) (e : Nat) : List Int :=
  cs.filterMap fun c => if c.off ≤ e ∧ e < c.off + c.vals.length then c.vals[e - c.off]? else none

/-- The status flags of the chunks that hold elements from `off` on. -/
def chunkFlags (cs : List Chunk) (off n : Nat) : Nat := orAll ((cs.filter fun k => overlap k.off k.vals.length off n).map (·.flags))

/-- A collective that forms a sum in Exact mode. -/
def Coll.exactSum (c : Coll) : Bool := c.op == 0 && c.mode == 0

/-- FP32 additions in the order given, from the first value on (R132, R133); a gathered element is the one supplied. -/
def Coll.sumNum (c : Coll) (vs : List Int) : Num :=
  let n (v : Int) : Num := decodeElem c.partFmt v.toNat
  match vs with
  | [] => .zero
  | v :: t => if c.op = 2 then n v else t.foldl (fun a w => fadd a (n w)) (n v)

/-- Contributions to one element combined for the next engine node (R127, R128, R132, R133), and the flags: the largest exponent, the exact sum, or
FP32 additions in the order given, rounded once to PART_FMT. -/
def Coll.combine (c : Coll) (kind : Nat) (vs : List Int) : Int × Nat :=
  if kind = 1 then (vs.foldl max noExp, 0)
  else if c.op = 2 then (vs.headD 0, 0)
  else if c.mode = 0 then (vs.foldl esfAdd 0, 0)
  else
    let r := encodeElem c.partFmt false (c.sumNum vs)
    ((r.1 : Nat), nanFlag [c.sumNum vs] ||| flagIf r.2 flSaturated)

/-- Chunks of a kind in the order in which R132 adds them: local ranks ascending, then children in declared order; in the modes whose result does not
depend on it, and in ARRIVAL mode, the order of arrival. Rows that this device's experts return come in ascending rank r (R104); a message of R125 has no
place for r, so across engine nodes the order is that of R132 (DEDUCED, log entry 165). -/
def State.ordered (s : State) (c : Coll) (x : ColInst) (kind : Nat) : List Chunk :=
  let mine := x.recv.filter (fun k => k.kind == kind)
  if (c.mode = 1 ∨ c.op = 2) ∧ kind = 3 then
    let own := c.locals.flatMap (fun r => mine.filter (fun k => k.node == s.node && k.rank == r.rank))
    (List.range 16).flatMap (fun r => own.filter (fun k => k.moeRank % 16 == r)) ++ c.children.flatMap (fun n => mine.filter (fun k => k.node == n))
  else mine

/-- Every declared contributor of this node has sent its share of a phase: a local rank its last chunk, a child the whole vector. -/
def State.phaseDone (s : State) (c : Coll) (x : ColInst) (kind : Nat) : Bool :=
  let mine := x.recv.filter (fun k => k.kind == kind)
  !(c.locals.isEmpty && c.children.isEmpty)
    && c.locals.all (fun r => mine.any (fun k => k.node == s.node && k.rank == r.rank && k.last))
    && c.children.all (fun n =>
      let ks := mine.filter (fun k => k.node == n)
      ks.any (·.last) && (c.op == 2 || decide (c.elems ≤ (ks.map (·.vals.length)).sum)))

/-- The anchor of an element of an Exact collective (R130). -/
def Coll.anchorAt (c : Coll) (x : ColInst) (e : Nat) : Int := if c.isStatic then c.staticA else x.anchors.getD e 0

/-- R129, R132: the elements from `off`, each with the contributions to it, converted once to OUT_FMT by the final node: element and scale bytes, and flags. The
FP32 sum of R132 and R133 is not rounded to PART_FMT on the way. -/
def Coll.convert (c : Coll) (x : ColInst) (off : Nat) (vs : List (List Int)) : List Byte × Nat :=
  if c.exactSum ∧ c.outFmt = 11 then
    (vs.flatMap fun v => esfBytes (v.foldl esfAdd 0), flagIf (vs.any fun v => v.foldl esfAdd 0 == esfNan) flNonfinite)
  else
    let ns := (List.range vs.length).map fun i =>
      if c.exactSum then esfNum ((vs.getD i []).foldl esfAdd 0) (c.anchorAt x (off + i)) else c.sumNum (vs.getD i [])
    let r := writeRow c.outFmt c.sat ns
    (r.1.take (rowLen c.outFmt vs.length), r.2 ||| nanFlag ns)

/-- One RESULT of the final node (R129): n elements from `off` converted, sent to `nodes` and delivered here. -/
def State.finishPiece (s : State) (c : Coll) (id : ColInst) (off : Nat) (vs : List (List Int)) (fl rank : Nat) (last : Bool) (nodes : List Nat) : State :=
  let x := s.openInst id.coll id.stream id.seq id.gen
  let r := c.convert x off vs
  let x1 := { x with flags := x.flags ||| r.2, finFlags := x.finFlags ||| fl ||| r.2 }
  let s1 : State := nodes.foldl (fun t n => t.sendColl n (colBody x1 4 c.outFmt t.detDesc rank off vs.length (fl ||| r.2) last r.1)) s
  s1.deliverResult c x1 off vs.length r.1

/-- The final node's result for elements from `off` (R129), in messages of R125. -/
def State.finish (s : State) (c : Coll) (x : ColInst) (off : Nat) (vs : List (List Int)) (fl : Nat → Nat → Nat) (rank : Nat) (nodes : List Nat) : State :=
  let m := maxCount 4 c.outFmt
  (cutAt vs.length m).foldl (fun t o =>
    let part := (vs.drop o).take m
    t.finishPiece c x (off + o) part (fl (off + o) part.length) rank (decide (vs.length ≤ o + m)) nodes) s

/-- A chunk list covers n elements from a. -/
def covers (cs : List Chunk) (a n : Nat) : Bool := (List.range n).all (fun i => !(chunkVals cs (a + i)).isEmpty)

/-- What a gathering engine node has received, passed on as it is (R122): no element that nobody below supplied is sent. -/
def State.passGather (s : State) (c : Coll) (x : ColInst) (cs : List Chunk) : State :=
  (List.range cs.length).foldl (fun t i => match cs[i]? with
    | some k => t.sendVals x 3 c.partFmt c.nodeRank c.parent k.off k.vals (fun _ _ => k.flags) (decide (i + 1 = cs.length))
    | none => t) s

/-- A tree node's progress in one phase (R127, R128, R132): once every contribution is in, the aggregate goes to the parent, or from
the root the anchors or the result go down. The root of a GATHER waits until every element has been supplied, since an engine delivers no partial
result (R139). -/
def State.treePhase (s : State) (c : Coll) (kind : Nat) (stream seq gen : Nat) : State :=
  match s.inst? c.id stream seq gen with
  | none => s
  | some x =>
    let cs := s.ordered c x kind
    let root := c.parent == 0xFFFFF
    if x.closed ∨ x.up.contains (kind, 0, 0) ∨ !s.phaseDone c x kind ∨ (root ∧ kind = 3 ∧ c.op = 2 ∧ !covers cs 0 c.elems) then s
    else
      let vs := (List.range c.elems).map (chunkVals cs)
      let rs := vs.map (c.combine kind)
      let x1 := { x with up := x.up ++ [(kind, 0, 0)] }
      let s1 : State := s.putInst x1
      if root then
        if kind = 1 then
          let as := rs.map (fun r => if r.1 = noExp then 0 else r.1)
          let s2 : State := c.children.foldl (fun t n => t.sendVals x1 2 0 c.nodeRank n 0 as (chunkFlags cs) true) s1
          s2.deliverAnchors c x1 0 as
        else s1.finish c x1 0 vs (chunkFlags cs) c.nodeRank c.children
      else if kind = 3 ∧ c.op = 2 then s1.passGather c x1 cs
      else s1.sendVals x1 kind c.partFmt c.nodeRank c.parent 0 (rs.map (·.1)) (fun o n => chunkFlags cs o n ||| orAll (((rs.drop o).take n).map (·.2))) true

/-- Elements of ring chunk i: ELEMS cut into RANKS equal chunks, of whole blocks for an MX result. -/
def Coll.chunk (c : Coll) (i : Nat) : Nat × Nat :=
  let n := (c.elems + c.ranks - 1) / c.ranks
  let n := if isMx c.outFmt then alignUp n 32 else n
  let a := min c.elems (i * n)
  (a, min c.elems (a + n) - a)

/-- Chunk i is the last that local rank r sends in a phase of the reduce-scatter (R125): every other one that is not empty has been sent. -/
def Coll.lastOf (c : Coll) (x : ColInst) (kind r i : Nat) : Bool :=
  (List.range c.ranks).all fun j => j == i || j == r || (c.chunk j).2 == 0 || x.up.contains (kind, r, j)

/-- One step of a ring's reduce-scatter at local rank r for chunk i (R131 note, R132): its own contribution folded in and passed to
the next rank, or, at rank i, finished. Aggregates from the previous rank are held with 16 added to their kind. An element that this rank supplies to a
GATHER takes the place of what came round. -/
def State.ringStep (s : State) (c : Coll) (kind r i : Nat) (stream seq gen : Nat) : State :=
  match s.inst? c.id stream seq gen with
  | none => s
  | some x =>
    let own := x.recv.filter (fun k => k.kind == kind && k.node == s.node && k.rank == r)
    let prev := x.recv.filter (fun k => k.kind == kind + 16 && k.rank == (r + c.ranks - 1) % c.ranks)
    let ch := c.chunk i
    let start := r == (i + 1) % c.ranks
    if x.closed ∨ ch.2 = 0 ∨ x.up.contains (kind, r, i) ∨ !own.any (·.last) ∨ !(start || covers prev ch.1 ch.2) then s
    else
      let vs := (List.range ch.2).map (fun j =>
        let before := if start then [] else (chunkVals prev (ch.1 + j)).take 1
        let mine := chunkVals own (ch.1 + j)
        if c.op = 2 ∧ kind = 3 then mine ++ before else before ++ mine)
      let rs := vs.map (c.combine kind)
      let fl (o n : Nat) : Nat := chunkFlags ((if start then [] else prev) ++ own) o n
      let x1 := { x with up := x.up ++ [(kind, r, i)] }
      let s1 : State := s.putInst x1
      let nextRank := (r + 1) % c.ranks
      let nextNode := c.children.headD s.node
      if r = i then
        let onward := if c.locals.any (fun l => l.rank == nextRank) && c.locals.length == c.ranks then [] else [nextNode]
        if kind = 1 then
          let as := rs.map (fun v => if v.1 = noExp then 0 else v.1)
          (onward.foldl (fun t n => t.sendVals x1 2 0 r n ch.1 as fl true) s1).deliverAnchors c x1 ch.1 as
        else s1.finish c x1 ch.1 vs fl r onward
      else
        let sum (o n : Nat) : Nat := fl o n ||| orAll (((rs.drop (o - ch.1)).take n).map (·.2))
        if c.locals.any (fun l => l.rank == nextRank) then
          s1.putInst { x1 with recv := x1.recv ++ [{ kind := kind + 16, node := s1.node, rank := r, last := c.lastOf x kind r i, flags := sum ch.1 ch.2,
                                                     off := ch.1, vals := rs.map (·.1) }] }
        else s1.sendVals x1 kind c.partFmt r nextNode ch.1 (rs.map (·.1)) sum (c.lastOf x kind r i)

/-- A ring node's progress: every local rank and chunk tried, often enough for a chunk to pass through all local ranks. -/
def State.ringPhase (s : State) (c : Coll) (kind stream seq gen : Nat) : State :=
  (List.range (c.locals.length + 1)).foldl (fun t _ => c.locals.foldl (fun t r =>
    (List.range c.ranks).foldl (fun t i => t.ringStep c kind r.rank i stream seq gen) t) t) s

/-- Whatever an instance can do now. -/
def State.colProgress (s : State) (c : Coll) (stream seq gen : Nat) : State :=
  if c.ring then (s.ringPhase c 1 stream seq gen).ringPhase c 3 stream seq gen
  else (s.treePhase c 1 stream seq gen).treePhase c 3 stream seq gen

/-- Contribution bytes counted in units of 4 KiB (COL_BYTES_IN). R142 does not say which bytes count: here the payload bytes of partials, those of this
device's own clusters included, without the 32-byte header (DESIGN CHOICE, log entry 163). -/
def State.countBytes (s : State) (n : Nat) : State :=
  let t := s.col.bytesRem + n
  ({ s with col := { s.col with bytesRem := t % 4096 } }).addFld R.COL_BYTES_IN whole (t / 4096)

/-- A chunk of a cluster of this device taken by its engine, or discarded as a second copy and counted (R124). -/
def State.takeLocal (s : State) (c : Coll) (stream seq gen : Nat) (k : Chunk) : State :=
  let x := s.openInst c.id stream seq gen
  let id := (k.kind, k.node, k.rank, k.off)
  if x.seen.contains id then s.bump R.COL_DUP_CNT
  else
    (s.putInst { x with seen := x.seen ++ [id], recv := x.recv ++ [k], flags := x.flags ||| k.flags, lastMsg := s.now, stalled := false }).countBytes
      (payloadLen k.kind c.partFmt k.vals.length)

/-- Elements that a cluster contributes to an instance: the first element, the values, their flags, and the rank r of an expert's row (R104). -/
structure Contrib where
  cluster : Nat
  off : Nat
  vals : List Int
  flags : Nat := 0
  moeRank : Nat := 0

/-- A contributing cluster's elements reach the engine over the Seam link (R127, R128), for the rank that holds the cluster
(R452). -/
def State.contribute (s : State) (b coll stream seq gen kind : Nat) (pieces : List Contrib) : State :=
  match s.img.coll? coll with
  | none => s
  | some c =>
    let x := s.openInst coll stream seq gen
    if x.closed then s
    else if x.mixed ∧ x.strict then s.abortInst x 3 0 c.nodeRank none
    else
      let chunks := c.locals.flatMap fun r =>
        let mine := if r.die = b + 1 then pieces.filter (fun p => bit r.clusters p.cluster) else []
        (List.range mine.length).filterMap fun i => (mine[i]?).map fun p =>
          ({ kind := kind, node := s.node, rank := r.rank, last := decide (i + 1 = mine.length), flags := p.flags, off := p.off, vals := p.vals,
             moeRank := p.moeRank } : Chunk)
      (chunks.foldl (fun t k => t.takeLocal c stream seq gen k) (s.putInst x)).colProgress c stream seq gen

/-- A received collective header (R125). -/
structure ColHdr where
  kind : Nat
  fl : Nat
  mixed : Bool
  last : Bool
  fmt : Nat
  gen : Nat
  coll : Nat
  stream : Nat
  seq : Nat
  det : Nat
  rank : Nat
  count : Nat
  off : Nat
  deriving DecidableEq, Repr

def ColHdr.decode (l : List Byte) : ColHdr :=
  let n := leAt l
  { kind := n 0 1, fl := flagsOfHeader (n 1 1 % 8), mixed := bit (n 1 1) 3, last := bit (n 1 1) 4, fmt := bits (n 2 1) 3 0, gen := n 3 1,
    coll := n 4 4, stream := n 8 4, seq := n 12 8, det := n 20 4, rank := n 24 2, count := n 26 2, off := n 28 4 }

/-- A contribution from another engine node (R124, R127, R128). -/
def State.takePartial (s : State) (c : Coll) (h : ColHdr) (node : Nat) (payload : List Byte) (stagingErr : Bool) : State :=
  let x := s.openInst h.coll h.stream h.seq h.gen
  let id := (h.kind, node, h.rank, h.off)
  if x.seen.contains id then s.bump R.COL_DUP_CNT
  else if x.closed then s
  else
    let ch : Chunk := { kind := if c.ring then h.kind + 16 else h.kind, node := node, rank := h.rank, last := h.last, flags := h.fl, off := h.off,
                        vals := valsOf h.kind h.fmt h.count payload }
    let x1 := { x with seen := x.seen ++ [id], recv := x.recv ++ [ch], flags := x.flags ||| h.fl, lastMsg := s.now, stalled := false }
    let s1 : State := (s.putInst x1).countBytes payload.length
    let r := s1.detCheck x1 h.det h.rank h.mixed (some node)
    if stagingErr then (r.1.abortInst r.2 4 0 c.nodeRank none).pulse 22 (le 4 h.coll)
    else r.1.colProgress c h.stream h.seq h.gen

/-- Anchors or a piece of the result on the way down, or round the ring (R127, R129). What this device's own rank finished has come round to its end. -/
def State.takeResult (s : State) (c : Coll) (h : ColHdr) (node : Nat) (payload : List Byte) : State :=
  let x := s.openInst h.coll h.stream h.seq h.gen
  let id := (h.kind, node, h.rank, h.off)
  if x.seen.contains id then s.bump R.COL_DUP_CNT
  else if x.closed ∨ (c.ring ∧ c.locals.any (fun l => l.rank == h.rank)) then s
  else
    let x1 := { x with seen := x.seen ++ [id], flags := x.flags ||| h.fl, lastMsg := s.now, stalled := false }
    let r := (s.putInst x1).detCheck x1 h.det h.rank h.mixed (some node)
    if r.2.aborted.isSome then r.1
    else
      let nodes := if c.ring then (if c.locals.any (fun l => l.rank == (h.rank + c.ranks - 1) % c.ranks) then [] else c.children) else c.children
      let s1 : State := nodes.foldl (fun t n =>
        t.sendColl n (colBody r.2 h.kind h.fmt t.detDesc h.rank h.off h.count h.fl h.last payload)) r.1
      if h.kind = 2 then (s1.deliverAnchors c r.2 h.off (valsOf 2 0 h.count payload)).noteMixed r.2
      else (s1.deliverResult c r.2 h.off h.count payload).noteMixed r.2

/-- The engine that a collective's message is for takes it. -/
def State.colTakes (s : State) (h : ColHdr) : Bool := (s.img.coll? h.coll).all fun c => s.engineTakes c h.stream h.seq h.gen

/-- A COLL message (R125, R126): a reserved KIND is discarded and counted; an identity of another GEN is ignored (R123, R141). -/
def State.colMsg (s : State) (src : Entry) (rowKind : Nat) (raw : List Byte) (stagingErr : Bool) : State :=
  s.live fun s => s.receiveReq src raw 0x28 fun m =>
    let h := ColHdr.decode m.body
    let payload := m.body.drop 32
    if !s.colTakes h then s else
    let s0 : State := s.respond m 0 []
    if h.kind = 0 ∨ 5 < h.kind then (s0.bump R.COL_ABORT_CNT).capture R.COL_ABORT_LAST (h.coll % 2 ^ 14 + 15 * 2 ^ 14 + h.rank % 4096 * 2 ^ 18)
    else if h.kind ≠ rowKind ∨ h.gen ≠ (s0.reg R.COL_MAP_GEN).toNat % 256 then s0
    else match s0.img.coll? h.coll with
      | none => s0
      | some c =>
        if h.kind = 5 then
          let x := s0.openInst h.coll h.stream h.seq h.gen
          s0.abortInst x (leAt payload 0 1) (leAt payload 1 1) h.rank (some m.srcNode)
        else if h.count = 0 ∨ c.elems < h.off + h.count ∨ payload.length ≠ payloadLen h.kind h.fmt h.count then s0
        else if h.kind = 1 ∨ h.kind = 3 then s0.takePartial c h m.srcNode payload stagingErr
        else s0.takeResult c h m.srcNode payload
/-- EXP_PARTIAL (R127). `stagingErr`: the read of collective staging meets an uncorrectable error (R139 cause 0x04). -/
def execExpPartial (src : Entry) (raw : List Byte) (stagingErr : Bool) (s : State) : Host.Outcome State Fault Refusal :=
  .next (s.colMsg src 1 raw stagingErr)

/-- EXP_RESULT (R127). -/
def execExpResult (src : Entry) (raw : List Byte) (s : State) : Host.Outcome State Fault Refusal := .next (s.colMsg src 2 raw false)

/-- PARTIAL (R128, R132, R133). -/
def execColPartial (src : Entry) (raw : List Byte) (stagingErr : Bool) (s : State) : Host.Outcome State Fault Refusal :=
  .next (s.colMsg src 3 raw stagingErr)

/-- RESULT (R129). -/
def execColResult (src : Entry) (raw : List Byte) (s : State) : Host.Outcome State Fault Refusal := .next (s.colMsg src 4 raw false)

/-- ABORT (R139). -/
def execColAbort (src : Entry) (raw : List Byte) (s : State) : Host.Outcome State Fault Refusal := .next (s.colMsg src 5 raw false)

/-- COLLECTIVE_STALL (R142): an open instance that has received nothing for COL_TIMEOUT.US raises source 23 and stays open. -/
def execCollectiveStall (inst : Nat) (s : State) : Host.Outcome State Fault Refusal :=
  match s.col.insts[inst]? with
  | some x =>
    if !x.closed ∧ !x.stalled ∧ x.lastMsg + 1000 * s.fld R.COL_TIMEOUT F.COL_TIMEOUT_US ≤ s.now ∧ !s.inStrike then
      .next ((s.putInst { x with stalled := true }).pulse 23 (le 4 x.coll ++ le 4 x.stream ++ le 8 x.seq))
    else .next s
  | none => .next s

/-- Instances ended that a condition names, each with the rank that reports the cause (R139): of a generation superseded (cause 0x05). -/
def State.abortWhere (s : State) (p : ColInst → Bool) (cause : Nat) (rank : ColInst → Nat) : State :=
  s.col.insts.foldl (fun t x => if p x ∧ !x.closed then t.abortInst x cause 0 (rank x) none else t) s

/-- The lowest rank that a die of this device holds in a collective. -/
def Coll.rankOn (c : Coll) (die : Nat) : Option Nat := ((c.locals.filter fun l => l.die == die).map (·.rank)).min?

/-- Instances that a retired die contributes to end with cause 0x02 (R139). -/
def State.abortDie (s : State) (die : Nat) : State :=
  s.abortWhere (fun x => (s.img.coll? x.coll).any fun c => (c.rankOn die).isSome) 2 fun x => ((s.img.coll? x.coll).bind (·.rankOn die)).getD 0

/-- COL_STAT.OPEN (R142). -/
def State.colOpen (s : State) : Nat := (s.col.insts.filter (fun x => !x.closed)).length

end Sys2Proof.Machine
end

