-- ==== Sys2Proof/Machine/Kv.lean ====
section
/-!
DEFINITION. Key/value pages, reservations and Vestibule slabs (R96 to R98, R108), the layout of a page and a slab row, the loss
of branches (R114, R115), and the commit and discard steps (R111, R112).
-/

namespace Sys2Proof.Machine

open Sys2Proof

/-- An open stream of this device. -/
def State.stream? (s : State) (id : Nat) : Option Stream := s.jrn.streams.find? (fun x => x.id == id)

/-- The state with a stream's record replaced, or added. -/
def State.putStream (s : State) (st : Stream) : State :=
  if s.jrn.streams.any (fun x => x.id == st.id) then
    { s with jrn := { s.jrn with streams := s.jrn.streams.map (fun x => if x.id = st.id then st else x) } }
  else { s with jrn := { s.jrn with streams := s.jrn.streams ++ [st] } }

/-- Areas of a Bell that stopped work had started to write become undefined (R79): free values. -/
def State.undefine (s : State) (b : Nat) (areas : List (Nat × Nat)) : State :=
  areas.foldl (fun t a => let r := t.freshBytes a.2; r.2.writeMem b a.1 r.1) s

/-- The state without a stream's record. -/
def State.dropStream (s : State) (id : Nat) : State :=
  { s with jrn := { s.jrn with streams := s.jrn.streams.filter (fun x => x.id != id) } }

/-- n_b of a stream. -/
def Stream.nb (st : Stream) (b : Nat) : Nat := SMap.get (fun _ => 0) st.n b

/-- The key/value pools of this device other than mirrors (R96, R153). -/
def State.kvPools (s : State) : List Pool := s.img.pools.filter (fun p => !p.isMirror)

/-- The pools of the Bells on which a pipeline has an entry point. -/
def State.runPools (s : State) (p : Pipe) : List Pool :=
  s.kvPools.filter (fun q => p.entry.getD q.bell 0xFFFF != 0xFFFF)

/-- Page indices of a pool that streams hold. -/
def State.pagesHeld (s : State) (b q : Nat) : List Nat :=
  s.jrn.streams.flatMap fun st => st.pages.filterMap fun r =>
    if r.bell = b ∧ r.pool = q then some r.idx else none

/-- Pages of a pool that streams have reserved and not yet allocated (R98): the idx of a reservation is its page count. -/
def State.pagesReserved (s : State) (b q : Nat) : Nat :=
  (s.jrn.streams.map fun st => (st.resv.map fun r => if r.bell = b ∧ r.pool = q then r.idx else 0).sum).sum

/-- Slabs of a pool that streams hold. -/
def State.slabsHeld (s : State) (b q : Nat) : List Nat :=
  s.jrn.streams.flatMap fun st => (st.slabs ++ st.copySlabs).filterMap fun r =>
    if r.2.bell = b ∧ r.2.pool = q then some r.2.idx else none

/-- Pages of a pool neither allocated nor reserved (BEL_KV_FREE). -/
def State.pagesFree (s : State) (p : Pool) : Nat :=
  p.pages - (s.pagesHeld p.bell p.pool).length - s.pagesReserved p.bell p.pool

/-- The n lowest indices below m that are not in a list (R98). -/
def lowestFree (held : List Nat) (m n : Nat) : List Nat :=
  ((List.range m).filter (fun i => !held.contains i)).take n

/-- The pages a stream holds in a pool, in page-list order. -/
def Stream.pagesIn (st : Stream) (b q : Nat) : List Nat :=
  st.pages.filterMap fun r => if r.bell = b ∧ r.pool = q then some r.idx else none

/-- Pages a stream has reserved in a pool. -/
def Stream.resvIn (st : Stream) (b q : Nat) : Nat :=
  (st.resv.map fun r => if r.bell = b ∧ r.pool = q then r.idx else 0).sum

/-- The slab a stream's branch holds in a pool. -/
def Stream.slabIn (st : Stream) (br b q : Nat) : Option Nat :=
  (st.slabs.find? (fun r => r.1 == br && r.2.bell == b && r.2.pool == q)).map (fun r => r.2.idx)

/-- Pages that a stream needs in a pool to hold `len` positions, beyond those it holds. -/
def Stream.pageNeed (st : Stream) (p : Pool) (len : Nat) : Nat := (len + 63) / 64 - (st.pagesIn p.bell p.pool).length

/-- A pool can supply n pages to a stream, counting its own reservation (R98). -/
def State.canSupply (s : State) (st : Stream) (p : Pool) (n : Nat) : Bool :=
  decide (n ≤ s.pagesFree p + st.resvIn p.bell p.pool)

/-- n pages of a pool allocated to a stream, first from its reservation and by lowest free index (R98). -/
def State.allocPages (s : State) (id : Nat) (p : Pool) (n : Nat) : State :=
  match s.stream? id with
  | none => s
  | some st =>
    let got := lowestFree (s.pagesHeld p.bell p.pool) p.pages n
    let rest := st.resvIn p.bell p.pool - n
    let resv := (st.resv.filter fun r => !(r.bell == p.bell && r.pool == p.pool)) ++
      (if rest = 0 then [] else [⟨p.bell, p.pool, rest⟩])
    s.putStream { st with pages := st.pages ++ got.map (fun i => ⟨p.bell, p.pool, i⟩), resv := resv }

/-- A slab of a pool taken for a branch of a stream that has none there (R108). -/
def State.allocSlab (s : State) (id br : Nat) (p : Pool) : State :=
  match s.stream? id with
  | none => s
  | some st =>
    if (st.slabIn br p.bell p.pool).isSome then s
    else match lowestFree (s.slabsHeld p.bell p.pool) p.slabs 1 with
      | i :: _ => s.putStream { st with slabs := st.slabs ++ [(br, ⟨p.bell, p.pool, i⟩)] }
      | [] => s

/-- A pool has a slab for a branch: one it holds, or a free one. -/
def State.slabOk (s : State) (st : Stream) (br : Nat) (p : Pool) : Bool :=
  (st.slabIn br p.bell p.pool).isSome || decide ((s.slabsHeld p.bell p.pool).length < p.slabs)

/-- Free Vestibule slabs of a Bell over all its pools (BEL_VEST_FREE). -/
def State.vestFree (s : State) (b : Nat) : Nat :=
  ((s.kvPools.filter (fun p => p.bell == b)).map fun p => p.slabs - (s.slabsHeld b p.pool).length).sum

/-- Branches named in a mask are emptied and their slabs returned (R112). -/
def Stream.discard (st : Stream) (mask : Nat) : Stream :=
  { st with n := st.n.filter (fun e => !bit mask e.1), slabs := st.slabs.filter (fun r => !bit mask r.1) }

/-- The offset in the BSE region of the Vestibule extent of a pool on a BSE (R108, R152). -/
def State.vestBase (s : State) (p : Pool) (bse : Nat) : Nat :=
  match s.img.vestExtent? p bse with
  | some e => e.off
  | none => 0

/-- The Bell offset of the key (v = false) or value row of a head in a section of `rows` rows that starts at `base` (R96). -/
def Pool.rowAt (p : Pool) (rows base head row : Nat) (v : Bool) : Nat :=
  base + (2 * head + b2n v) * p.headSect rows + row * p.headDim * p.elem

/-- The region offset of page i and of slab i of a pool (R96, R108). -/
def Pool.pageOff (p : Pool) (i : Nat) : Nat := p.base + i * p.slice 64
def State.slabOff (s : State) (p : Pool) (bse i : Nat) : Nat := s.vestBase p bse + p.slabBase + i * p.slice 32

/-- One position's keys and values copied from a slab row to a page row, on every BSE and head of a pool (R111). -/
def State.copyRow (s : State) (p : Pool) (slab srow page prow : Nat) : State :=
  p.bses.foldl (fun t bse =>
    (List.range p.heads).foldl (fun t h =>
      [false, true].foldl (fun t v =>
        let src := bseOff bse (p.rowAt 32 (t.slabOff p bse slab) h srow v)
        let dst := bseOff bse (p.rowAt 64 (p.pageOff page) h prow v)
        t.writeMem p.bell dst (t.memBytes p.bell src (p.headDim * p.elem))) t) t) s

/-- The k positions of a commit copied into the committed pages of every pool that holds the branch's slab (R111). -/
def State.commitCopy (s : State) (id : Nat) : State :=
  match s.stream? id with
  | none => s
  | some st =>
    match st.copyFrom with
    | none => s
    | some l0 =>
      st.copySlabs.foldl (fun t r =>
        match s.img.pools.find? (fun p => p.bell == r.2.bell && p.pool == r.2.pool && !p.isMirror) with
        | none => t
        | some p =>
          (List.range (st.l - l0)).foldl (fun t i =>
            let pos := l0 + i
            t.copyRow p r.2.idx i ((st.pagesIn p.bell p.pool).getD (pos / 64) 0) (pos % 64)) t) s

/-- A stream loses its branches (R114): every branch discarded; a commit launched and not delivered is rolled back and its pages
return to their pool (R115). -/
def Stream.loseBranches (st : Stream) : Stream :=
  match st.copyFrom with
  | none => { st with n := [], slabs := [], copySlabs := [] }
  | some l0 =>
    { st with l := l0, n := [], slabs := [], copySlabs := [], copyFrom := none, copyDone := true,
              pages := st.pages.filter (fun r => !st.copyPages.contains r), copyPages := [] }

end Sys2Proof.Machine
end

