-- ==== Sys2Proof/Machine/Orders.lean ====
section
/-!
DEFINITION. Work orders at the home pole and on the shard set: acceptance (R82 to R86, R181 to R183), launch (R87 to R89, R98,
R109, R111, R112), part reports and completions (R90 to R92, R116), the journal's states (R184), delivery (R185, R186), the
buddy's mirror (R181, R189, R190) and host bindings at the home (R187).
-/

namespace Sys2Proof.Machine

open Sys2Proof

/-- The journal entry of an order, the youngest where a reopened stream has used its SEQ again (R86). -/
def State.entry? (s : State) (stream seq : Nat) : Option (Nat × JEntry) :=
  (s.jrn.own.filter (fun e => e.2.wo.stream == stream && e.2.wo.seq == seq)).getLast?

/-- The journal with an entry replaced, added, or released. -/
def State.putEntry (s : State) (i : Nat) (e : JEntry) : State :=
  if s.jrn.own.any (fun x => x.1 == i) then
    { s with jrn := { s.jrn with own := s.jrn.own.map (fun x => if x.1 = i then (i, e) else x) } }
  else { s with jrn := { s.jrn with own := s.jrn.own ++ [(i, e)] } }
def State.dropEntry (s : State) (i : Nat) : State :=
  { s with jrn := { s.jrn with own := s.jrn.own.filter (fun x => x.1 != i) } }

/-- The journal holds 65,536 entries (R374). -/
def jrnMax : Nat := 65536

/-- The lowest free journal index. -/
def State.freeEntry (s : State) : Nat := ((List.range jrnMax).find? (fun i => !s.jrn.own.any (fun x => x.1 == i))).getD 0

/-- An FP32 bit pattern that is finite and at least 0 (R81, TEMP). -/
def fpFiniteNonneg (n : Nat) : Bool := bits n 30 23 != 255 && (!bit n 31 || n % 2 ^ 31 == 0)

/-- An FP32 bit pattern greater than 0 and at most 1.0 (R81, TOP_P). -/
def fpUnit (n : Nat) : Bool := decide (0 < n) && decide (n ≤ 0x3F800000)

/-- The fields that R82 requires to be 0 for the type, and the reserved values of R81 (FORMAT). -/
def formatOk (raw : List Byte) (w : WorkOrder) : Bool :=
  let noRun := w.topK == 0 && w.temp == 0 && w.topP == 0 && leNat w.seed == 0 && w.refB == 0 && w.refOut == 0 && w.refColl == 0
    && w.refMask == 0 && w.srcAddr == 0 && w.srcLen == 0 && w.tokens.all (· == 0) && w.ntok == 0 && !w.spec && !w.strict
  reservedZero raw && w.dclass != 3 && w.seq != 0xFFFFFFFFFFFFFFFF && (w.spec || w.type == 2 || w.branch == 0) &&
    (match w.type with
     | 1 => w.arg8 == 0 && !(w.srcLen == 0 && w.srcAddr != 0)
     | 2 => noRun && w.pos == 0 && w.pipe == 0
     | 3 => noRun && w.pos == 0 && w.pipe == 0
     | 4 => noRun && w.arg8 == 0
     | 5 => noRun && w.arg8 == 0 && w.pos == 0 && w.pipe == 0
     | _ => false)

/-- The limits of R81 and R95 on the fields that the type uses (PARAM). -/
def paramOk (w : WorkOrder) : Bool :=
  match w.type with
  | 1 => decide (1 ≤ w.ntok) && decide (w.ntok ≤ 256) && decide (w.topK ≤ 64) && fpFiniteNonneg w.temp && fpUnit w.topP &&
      (if w.srcLen = 0 then decide (w.ntok ≤ 8)
       else w.srcLen == 4 * w.ntok && w.srcAddr != 0 && w.srcAddr % 64 == 0)
  | 2 => decide (w.arg8 ≤ 32)
  | _ => true

/-- The home's record of a stream. -/
def State.homeOf (s : State) (stream : Nat) : Option HomeSt := (s.stream? stream).bind (·.home)

/-- The outcome of the checks of R83 and R84 on a work order. -/
inductive Admit where
  | accept
  | again (idx : Nat)
  | silent
  | refuse (reason : Nat)
  deriving DecidableEq, Repr

/-- The duplicates of R84. A stream that is no longer open, or whose OPEN failed, has no next SEQ: an order with the SEQ and CRC of an entry that is
still held is then a repeat too, and any other one is judged by the checks of R83 (DEDUCED, log entry 173). -/
def State.repeatOf (s : State) (w : WorkOrder) : Option Admit :=
  let next := (s.homeOf w.stream).elim 0 (·.nextSeq)
  match s.entry? w.stream w.seq with
  | some (i, e) =>
    if (w.seq < next ∨ (s.homeOf w.stream).isNone) ∧ e.wo.crc = w.crc then some (if e.st = .awaiting then .silent else .again i)
    else if w.seq < next then some (.refuse 0x0B) else none
  | none => if w.seq < next then some (.refuse 0x0C) else none

/-- R83 in order, with the duplicates of R84 recognised before check 4, so that a repeated OPEN is answered from the journal. -/
def State.admitOrder (s : State) (raw : List Byte) (w : WorkOrder) : Admit :=
  let next := (s.homeOf w.stream).elim 0 (·.nextSeq)
  if s.fld R.PIT_STAT F.PIT_STAT_READY ≠ 1 then .refuse 0x01
  else if w.crc ≠ crc32 (raw.take 124) then .refuse 0x02
  else if !formatOk raw w then .refuse 0x03
  else match s.repeatOf w with
  | some a => a
  | none =>
  if w.stream = 0 ∨ w.stream = 0xFFFFFFFF ∨ (w.type = 4 ∧ (s.stream? w.stream).isSome)
      ∨ (w.type ≠ 4 ∧ (s.stream? w.stream).isNone) then .refuse 0x04
  else if w.type ≠ 4 ∧ (s.homeOf w.stream).isNone then .refuse 0x05
  else if w.seq ≠ next then .refuse 0x06
  else
    let p := s.img.pipe? w.pipe
    if (w.type = 1 ∨ w.type = 4) ∧ p.elim true (fun q => decide (w.dclass < q.cls)) then .refuse 0x07
    else if w.type = 1 ∧ p.elim true (fun q => w.spec != (q.kvRole == 2)) then .refuse 0x08
    else if !paramOk w then .refuse 0x09
    else if s.fld R.WSQ_MIRROR_STAT F.WSQ_MIRROR_STAT_BUDDY_OK = 0 then .refuse 0x0D
    else if jrnMax ≤ s.jrn.own.length then .refuse 0x0A
    else .accept

/-- NOT_ACCEPTED: answered, counted and captured. -/
def State.notAccepted (s : State) (m : Msg) (w : WorkOrder) (reason : Nat) : State :=
  ((s.bump R.WSQ_NACC_CNT).capture R.WSQ_NACC_LAST (reason + w.hctx * 2 ^ 8)).respond m 0 (submitBody false reason w 0)

/-- A JRN_MIRROR sent to the buddy (R174, R181). R174 knows a repeat by (PRED, SEQ), and R184 gives SEQ no source: it is the restart number and the count
of this device's requests, which rise from one update to the next (DESIGN CHOICE, log entry 186). -/
def State.mirrorMsg (s : State) (body : List Byte) (why : Purpose) : State :=
  s.request { mtype := 0x24, dstNode := s.fld R.WSQ_BUDDY F.WSQ_BUDDY_NODE, srcNode := s.node,
              body := le 8 (2 ^ 32 * s.trn.restart + s.trn.tidCnt % 2 ^ 32) ++ body } why

/-- The JRN_MIRROR of an entry's transition (R181, R184); `target` 5 releases the entry, and 6 one that was never accepted. -/
def State.mirrorEntry (s : State) (i target : Nat) (e : JEntry) : State := s.mirrorMsg (mirrorBody i (min target 5) e) (.mirror i target)

/-- A JRN_MIRROR of an entry awaits its answer. -/
def State.mirrorOut (s : State) (i : Nat) : Bool :=
  s.trn.reqs.any fun r => match r.purpose with
    | Purpose.mirror j _ => j == i
    | _ => false

/-- An accepted order written to a free entry on both poles and mirrored (R181); its SEQ is the stream's next no more. An OPEN
makes the stream's record at its home (R85). -/
def State.journalOrder (s : State) (m : Msg) (w : WorkOrder) : State :=
  let i := s.freeEntry
  let e : JEntry := { node := m.dstNode, wo := w, sub := m, st := .awaiting, acceptAt := s.now }
  let s1 : State := s.putEntry i e
  let s2 : State :=
    if w.type = 4 then
      let sh := match s.img.pipe? w.pipe with
        | some p => p.shards
        | none => []
      s1.putStream { id := w.stream, owner := w.hctx, home := some ⟨m.dstNode, 1, w.pipe, sh, []⟩ }
    else match s1.stream? w.stream with
      | some st => match st.home with
        | some h => s1.putStream { st with home := some { h with nextSeq := w.seq + 1 } }
        | none => s1
      | none => s1
  s2.mirrorEntry i 1 e

/-- A WO_SUBMIT of the types `ty` (R82). -/
def State.submit (s : State) (src : Entry) (ty : Nat → Bool) (raw : List Byte) : State :=
  s.receiveReq src raw 0x10 fun m =>
    let w := WorkOrder.decode m.body
    if ty w.type then
      match s.admitOrder m.body w with
      | .accept => s.journalOrder m w
      | .again i => match s.jrn.own.find? (fun x => x.1 == i) with
        | some (_, e) => s.respond m 0 (submitBody true 0 w e.acceptTick)
        | none => s
      | .silent => s
      | .refuse r => s.notAccepted m w r
    else s

/-- Every part of an order has reported, so it has completed on every device of the shard set (R87). -/
def JEntry.complete (e : JEntry) : Bool := !e.comp.isEmpty

/-- The condition of R87 for launching an entry: a barrier waits for every earlier order of its stream, an order waits for every
earlier barrier, and orders launch in SEQ order. -/
def State.launchable (s : State) (e : JEntry) : Bool :=
  (s.jrn.own.filter (fun x => x.2.wo.stream == e.wo.stream && decide (x.2.wo.seq < e.wo.seq))).all fun x =>
    if e.wo.type = 1 ∧ x.2.wo.type = 1 then x.2.lead else x.2.complete

/-- The latest launch tick given to an earlier order of the stream. -/
def State.lastTick (s : State) (e : JEntry) : Nat :=
  s.jrn.own.foldl (fun t x => if x.2.wo.stream = e.wo.stream ∧ x.2.wo.seq < e.wo.seq ∧ x.2.lead then max t x.2.launchTick else t) 0

/-- The shard set of a stream at its home: the devices that hold parts of the OPEN's pipeline, as the image in force declares them (R85, R141). -/
def State.shardSet (s : State) (stream : Nat) : List Nat :=
  match s.homeOf stream with
  | some h => (s.img.pipe? h.pipe).elim h.shards (·.shards)
  | none => []

/-- R382: launches that involve the lost unit are held. -/
def State.lossHold (s : State) (stream : Nat) : Bool :=
  s.fld R.WSQ_LOST_UNIT F.WSQ_LOST_UNIT_VALID == 1 &&
    (s.shardSet stream).contains (s.fld R.WSQ_LOST_UNIT F.WSQ_LOST_UNIT_NODE)

/-- COL_MAP_GEN modulo 256, the GEN of a launch (R174). -/
def State.mapGen (s : State) : Nat := (s.reg R.COL_MAP_GEN).toNat % 256

/-- The state of a stream as it was before a part of this device launched (R91, R141): L, the n_b and its turn. An order that has not acted on it
changes nothing. -/
def Stream.before (st : Stream) (p : Part) : Stream :=
  if p.wo.seq < st.turn then { st with l := p.len0, n := p.n0, turn := p.wo.seq, undo := none, resv := if p.wo.type = 4 then [] else st.resv } else st

/-- This device's part of an order, armed for its launch tick (R88, R89). A part of the same order and GEN is a repeat. One of an older GEN is executed
again, and the stream is first restored to its value before that part (R141). An OPEN starts the identifier anew (R86). -/
def State.armPart (s : State) (home gen tick : Nat) (w : WorkOrder) : State :=
  if s.jrn.parts.any (fun p => p.wo.stream == w.stream && p.wo.seq == w.seq && p.gen == gen) then s
  else
    let s1 : State := match s.jrn.parts.find? (fun p => p.wo.stream == w.stream && p.wo.seq == w.seq), s.stream? w.stream with
      | some q, some st => s.putStream (st.before q)
      | _, _ => s
    let p : Part := { home := home, gen := gen, wo := w, tick := tick }
    { s1 with jrn := { s1.jrn with
        parts := (s1.jrn.parts.filter fun q => !(q.wo.stream == w.stream && (q.wo.seq == w.seq || w.type == 4))) ++ [p] } }

/-- The launch tick computed under R88 and sent ahead to every device of the shard set. -/
def State.schedule (s : State) (i : Nat) (e : JEntry) (held : Bool) : State :=
  let lead := s.img.launchLead
  let t := slotAt (max (max e.wo.launchTick (e.acceptTick + lead)) (max (s.lastTick e) (if held then s.ftc + lead else 0)))
  let e' := { e with launchTick := t, lead := true, gen := s.mapGen }
  (s.shardSet e.wo.stream).foldl (fun u n =>
    if n = u.node then u.armPart e.node u.mapGen t e.wo
    else u.request { mtype := 0x20, dstNode := n, srcNode := u.node, body := launchBody u.mapGen t e.wo }
      (.launch e.wo.stream e.wo.seq)) (s.putEntry i e')

/-- Entries of a stream in SEQ order. -/
def State.entriesOf (s : State) (stream : Nat) : List (Nat × JEntry) :=
  (s.jrn.own.filter (fun x => x.2.wo.stream == stream)).mergeSort (fun a b => decide (a.2.wo.seq ≤ b.2.wo.seq))

/-- Every accepted entry of a stream whose R87 condition has become true gets its launch tick (R88); one that is being adopted waits for step 2 of
R189. -/
def State.scheduleStream (s : State) (stream : Nat) (held : Bool) : State :=
  if s.lossHold stream ∨ (s.homeOf stream).any (fun h => s.jrn.adopting.contains h.node) then s
  else (s.entriesOf stream).foldl (fun t x =>
    if x.2.st = .accepted ∧ !x.2.lead ∧ t.launchable x.2 then t.schedule x.1 x.2 held else t) s

/-- The buddy holds the order: ACCEPTED (R181, R184). -/
def State.acceptEntry (s : State) (i : Nat) : State :=
  match s.jrn.own.find? (fun x => x.1 == i) with
  | some (_, e) =>
    if e.st = .awaiting then
      let e' := { e with st := .accepted, acceptTick := s.ftc, acceptAt := s.now }
      let s1 : State := (s.putEntry i e').bump R.WSQ_ACCEPT_CNT
      (s1.respond e.sub 0 (submitBody true 0 e.wo s.ftc)).scheduleStream e.wo.stream false
    else s
  | none => s

/-- A part of this device ended with a status (R91): no stream state changed but what the caller changed. -/
def Part.finish (p : Part) (status : Nat) : Part := { p with status := status, phase := .ended }

/-- This device's parts with one replaced. -/
def State.putPart (s : State) (p : Part) : State :=
  { s with jrn := { s.jrn with parts := s.jrn.parts.map fun q =>
      if q.wo.stream = p.wo.stream ∧ q.wo.seq = p.wo.seq then p else q } }

/-- The part of an order. -/
def State.part? (s : State) (stream seq : Nat) : Option Part :=
  s.jrn.parts.find? (fun p => p.wo.stream == stream && p.wo.seq == seq)

/-- A RUN at its launch (R97, R98, R108, R109): its status (0 when it starts) and the state with pages or slabs taken. -/
def State.admitRun (s : State) (st : Stream) (w : WorkOrder) (p : Pipe) : Nat × State :=
  if p.kvRole = 1 then
    if w.pos ≠ st.l then (3, s)
    else if 1048576 < st.l + w.ntok then (2, s)
    else if (s.runPools p).all (fun q => s.canSupply st q (st.pageNeed q (st.l + w.ntok))) then
      (0, (s.runPools p).foldl (fun t q => t.allocPages st.id q (st.pageNeed q (st.l + w.ntok))) s)
    else (2, s)
  else if p.kvRole = 2 then
    if w.pos ≠ st.l + st.nb w.branch then (3, s)
    else if 32 < st.nb w.branch + w.ntok then (5, s)
    else if (s.runPools p).all (fun q => s.slabOk st w.branch q) then
      (0, (s.runPools p).foldl (fun t q => t.allocSlab st.id w.branch q) s)
    else (4, s)
  else (0, s)

/-- A COMMIT at its launch (R111): the status and the state with L raised, every branch empty, and the pages of the copy. -/
def State.admitCommit (s : State) (st : Stream) (w : WorkOrder) : Nat × State :=
  let k := w.arg8
  let pools := s.kvPools.filter (fun q => (st.slabIn w.branch q.bell q.pool).isSome)
  if st.nb w.branch < k then (7, s)
  else if 1048576 < st.l + k then (2, s)
  else if pools.all (fun q => s.canSupply st q (st.pageNeed q (st.l + k))) then
    let s1 : State := if k = 0 then s else pools.foldl (fun t q => t.allocPages st.id q (st.pageNeed q (st.l + k))) s
    match s1.stream? st.id with
    | none => (0, s1)
    | some st1 =>
      (0, s1.putStream { st1 with
        l := st.l + k, n := [], slabs := [], copyFrom := some st.l, copyDone := k == 0,
        copySlabs := if k = 0 then [] else st.slabs.filter (fun r => r.1 == w.branch),
        copyPages := st1.pages.filter (fun r => !st.pages.contains r) })
  else (2, s)

/-- An OPEN at its launch (R85, R98): the status and the state with the reservations. -/
def State.admitOpen (s : State) (w : WorkOrder) : Nat × State :=
  let n := (w.pos + 63) / 64
  let st := (s.stream? w.stream).getD { id := w.stream, owner := w.hctx }
  if 65536 ≤ (s.jrn.streams.filter fun x => x.id != w.stream).length then (11, s)
  else if s.kvPools.all (fun q => decide (n ≤ s.pagesFree q)) then
    (0, s.putStream { st with resv := if n = 0 then [] else s.kvPools.map (fun q => ⟨q.bell, q.pool, n⟩), shards := (s.img.pipe? w.pipe).elim [] (·.shards) })
  else (2, s)

/-- The Bells on which a run of a pipeline starts (R93). -/
def State.runBells (s : State) (p : Pipe) : List Nat :=
  (List.range 8).filter (fun b => p.entry.getD b 0xFFFF != 0xFFFF && s.bellLive b)

/-- An earlier RUN that this device ended well has failed on another device: then it changed no stream state (R91), and a RUN at the position before it
finds L and n_b as they were. The home restores them when it forms the completion; a device that is not the home is told nothing, and takes it from
POS (DEDUCED, log entry 174). -/
def Stream.settle (st : Stream) (w : WorkOrder) (role : Nat) : Stream :=
  let here := if role = 2 then st.l + st.nb w.branch else st.l
  match st.undo with
  | some (l, n) =>
    let was := if role = 2 then l + SMap.get (fun _ => 0) n w.branch else l
    if st.home.isNone ∧ (role = 1 ∨ role = 2) ∧ w.pos ≠ here ∧ w.pos = was then { st with l := l, n := n, undo := none } else st
  | none => st

/-- A part ends at its launch with the status that its admission gave, or, where it could start and another device of the shard set could not, with
nothing started here (R98, R111, R119). -/
def State.endLaunch (s : State) (p : Part) (r : Nat × State) : State :=
  if r.1 = 0 ∧ p.peers ≠ 0 then s.putPart { (p.finish 0) with void := true } else r.2.putPart (p.finish r.1)

/-- This device's part of an order launches (R89, R98, R108, R111, R112). A stream whose OPEN failed gives later orders the status
of that OPEN. The commit of an earlier order can no longer be rolled back once a later order launches. -/
def State.launchPart (s : State) (p : Part) : State :=
  let w := p.wo
  let s : State := match s.stream? w.stream with
    | some st => if st.copyDone then s.putStream { st with copyFrom := none, copyPages := [], copySlabs := [] } else s
    | none => s
  match w.type, s.stream? w.stream with
  | 4, _ => s.endLaunch p (s.admitOpen w)
  | _, none => s.putPart (p.finish 2)
  | 5, some st => (s.putStream { st with n := [], pages := [], resv := [], slabs := [], copySlabs := [], copyPages := [] }).putPart (p.finish 0)
  | 1, some st0 =>
    if st0.lost then s.putPart (p.finish 8)
    else match s.img.pipe? w.pipe with
      | none => s.putPart (p.finish 0)
      | some q =>
        let st := st0.settle w q.kvRole
        let s : State := s.putStream st
        let r := s.admitRun st w q
        if r.1 ≠ 0 ∨ p.peers ≠ 0 then s.endLaunch p r
        else
          let s1 : State := r.2.putPart { p with phase := .running, bells := r.2.runBells q, len0 := st.l, n0 := st.n,
                                                 input := if w.srcLen = 0 then w.tokens.take w.ntok else [] }
          if w.srcLen = 0 ∨ r.2.runBells q = [] then s1
          else s1.request { mtype := 0x02, dstNode := w.srcAddr / 2 ^ 44, dstDie := bits w.srcAddr 43 39, srcNode := s1.node,
                            body := le 8 w.srcAddr ++ le 4 w.srcLen ++ le 4 0 } (.tokens w.stream w.seq)
  | 2, some st =>
    if st.lost then s.putPart (p.finish 8)
    else
      let r := s.admitCommit st w
      if r.1 ≠ 0 ∨ p.peers ≠ 0 then s.endLaunch p r
      else r.2.putPart { p with phase := if w.arg8 = 0 then .ended else .copying, len0 := st.l, n0 := st.n }
  | _, some st =>
    if st.lost then s.putPart (p.finish 8)
    else (s.putStream (st.discard w.arg8)).putPart { (p.finish 0) with len0 := st.l, n0 := st.n }

/-- Every earlier order of the stream has ended on this device, so this one may act on the stream's state (R87, R89). -/
def State.hasTurn (s : State) (w : WorkOrder) : Bool := (s.stream? w.stream).all fun st => decide (w.seq ≤ st.turn)

/-- A REMAP or FULL activation of this tick or an earlier one is still to take effect (R324). -/
def State.activationDue (s : State) : Bool :=
  (s.pit.remap.any fun r => decide (r.1 ≤ s.ftc)) ||
    (s.pit.shState == .armed && decide (s.getPair R.PIT_ACT_TICK_LO R.PIT_ACT_TICK_HI ≤ s.ftc))

/-- A live write of this slot boundary is still to take effect (R167, R324). -/
def State.liveDue (s : State) : Bool := s.ftc % 128 == 0 && !s.pit.live.isEmpty

/-- The order of the events of one tick (R324): COMMIT and DISCARD steps before launches, in ascending STREAM and SEQ. -/
def Part.order (p : Part) : Nat × Nat × Nat := (b2n (p.wo.type != 2 && p.wo.type != 3), p.wo.stream, p.wo.seq)
def Part.before (p q : Part) : Bool :=
  let a := p.order
  let b := q.order
  decide (a.1 < b.1) || (a.1 == b.1 && (decide (a.2.1 < b.2.1) || (a.2.1 == b.2.1 && decide (a.2.2 < b.2.2))))

/-- An event that takes effect before the launch of a part on this tick is still to come (R324): the launch waits for it. A part that a hold keeps
back is not waited for. -/
def State.mustWait (s : State) (p : Part) : Bool :=
  s.activationDue || s.liveDue || s.jrn.parts.any fun q =>
    q.phase == .armed && !q.due && q.tick == p.tick && q.before p && !s.lossHold q.wo.stream

/-- An armed part whose launch tick has come (R88, R89): LAUNCH_LATE is set if the launch is made later than its tick or than a non-zero LAUNCH_TICK, and
the part launches once it has its turn, so that no result depends on when a launch arrives. -/
def State.partDue (s : State) (p : Part) (peers : Nat) : State :=
  let late := decide (p.tick < s.ftc) || (p.wo.launchTick != 0 && decide (p.wo.launchTick < s.ftc))
  let q := { p with due := true, peers := peers, flags := if late && !p.due then p.flags ||| 64 else p.flags }
  if s.hasTurn p.wo then s.launchPart q else s.putPart q

/-- The part of the stream that has waited for its turn launches. -/
def State.launchNext (s : State) (stream : Nat) : State :=
  match s.jrn.parts.find? (fun q => q.wo.stream == stream && q.phase == Phase.armed && q.due && s.hasTurn q.wo) with
  | some q => if s.lossHold stream then s else s.launchPart q
  | none => s

/-- L and n_b as this device holds them for a report. -/
def State.lenOf (s : State) (w : WorkOrder) : Nat × Nat :=
  match s.stream? w.stream with
  | none => (0, 0)
  | some st => (st.l, if w.spec then st.nb w.branch else 0)

/-- L or n_b of a stream moved on by a RUN that ended well (R97, R109), with what they were. -/
def Stream.advance (st : Stream) (w : WorkOrder) (role : Nat) : Stream :=
  if role = 1 then { st with l := st.l + w.ntok, undo := some (st.l, st.n) }
  else if role = 2 then { st with n := SMap.set (fun _ => 0) st.n w.branch (st.nb w.branch + w.ntok), undo := some (st.l, st.n) }
  else { st with undo := none }

/-- The stream's state after this device's part of an order: a RUN that ended well moves L or n_b on, and the next order has its turn. -/
def State.partDone (s : State) (p : Part) : State :=
  match s.stream? p.wo.stream with
  | none => s
  | some st =>
    let st1 := match p.wo.type == 1 && p.status == 0 && !p.void, s.img.pipe? p.wo.pipe with
      | true, some q => st.advance p.wo q.kvRole
      | _, _ => { st with undo := none }
    s.putStream { st1 with turn := max st.turn (p.wo.seq + 1) }

/-- The records of a stream that this device's part of its CLOSE has ended (R86): the parts of its orders, and, where the home is another device, the
stream itself. -/
def State.partClosed (s : State) (p : Part) : State :=
  let s1 : State := { s with jrn := { s.jrn with parts := s.jrn.parts.filter fun q => q.wo.stream != p.wo.stream || q.wo.seq == p.wo.seq } }
  if (s1.homeOf p.wo.stream).isNone then s1.dropStream p.wo.stream else s1

/-- A part that has ended sends its PART_REPORT to the home (R92). A RUN that ended well moves L or n_b on (R97, R109); a RUN_ERROR
or UNCORRECTABLE, and a DET_REJECTED (R139), leave them and set OUT_UNDEF (R91). -/
def State.reportPart (s : State) (p : Part) : State :=
  let w := p.wo
  let run := w.type == 1
  let s1 : State := s.partDone p
  let undef := if run ∧ (p.status = 1 ∨ p.status = 9 ∨ p.status = 10) then p.flags ||| 32 else p.flags
  let s2 : State := if w.type = 5 then s1.partClosed p else s1
  let ln := s2.lenOf w
  let r : Report := { node := s2.node, gen := p.gen, status := p.status, flags := undef, nsamp := p.tokens.length,
                      errCode := if p.status = 1 then p.errCode else 0, errDie := p.errDie, len := ln.1, vlen := ln.2,
                      tokens := p.tokens }
  ((s2.putPart { p with phase := .reported }).request
    { mtype := 0x22, dstNode := p.home, srcNode := s2.node, body := r.encode w.stream w.seq } (.report w.stream w.seq)).launchNext w.stream

/-- The class of a stream's pipeline, for DCLASS (R92): the order's own for a RUN or OPEN, and the OPEN's otherwise. -/
def State.classOf (s : State) (w : WorkOrder) : Nat :=
  let n := if w.type = 1 ∨ w.type = 4 then w.pipe else match s.homeOf w.stream with
    | some h => h.pipe
    | none => 0
  match s.img.pipe? n with
  | some p => p.cls
  | none => 0

/-- The completion formed from the part reports (R90, R92): the lowest non-zero status, the lowest node and die that reported it,
and the OR of the flags. LEN and VLEN are the least that a device reports: after an order that failed on one of them, what they were before it (R91,
R115). -/
def State.formCompletion (s : State) (e : JEntry) : List Byte :=
  let bad := e.reports.filter (fun r => r.status != 0)
  let status := bad.foldl (fun m r => if m = 0 then r.status else min m r.status) 0
  let low (l : List Report) : Option Report := l.foldl
    (fun m r => match m with
      | none => some r
      | some q => if r.node < q.node ∨ (r.node = q.node ∧ r.errDie < q.errDie) then some r else some q) none
  let who := low (bad.filter (fun r => r.status == status))
  let coded := low (bad.filter (fun r => r.status == status && r.errCode != 0))
  let fl := e.reports.foldl (fun f r => f ||| r.flags) (b2n e.late * 64)
  let tok := e.reports.flatMap (·.tokens)
  let flags := (fl ||| b2n e.wo.spec) ||| (if 4 < tok.length then 128 else 0)
  let d := if bit fl 4 then 2 else s.classOf e.wo
  let least (f : Report → Nat) : Nat := (e.reports.map f).foldl min ((e.reports.map f).headD 0)
  completionBytes e.wo status flags d tok.length e.startTick (least (·.len)) (if e.wo.spec then least (·.vlen) else 0)
      (if status = 1 then coded.elim 0 (·.errCode) else 0) (who.elim 0 (·.node)) (who.elim 0 (·.errDie)) tok
    ++ tokenBlock tok

/-- The destination contexts of a completion (R116). -/
def State.destinations (s : State) (w : WorkOrder) : List Nat :=
  let owner := ((s.stream? w.stream).map (·.owner)).getD w.hctx
  if w.spec then [w.hctx] else if owner = w.hctx then [owner] else [owner, w.hctx]

/-- Each destination context's next DSEQ for a completion (R185), and the mirror of the completion (R184). -/
def State.assignDseq (s : State) (i : Nat) (e : JEntry) : State :=
  match s.stream? e.wo.stream with
  | none => s
  | some st =>
    match st.home with
    | none => s
    | some h =>
      let ds := (s.destinations e.wo).map (fun c => (c, SMap.get (fun _ => 0) h.dseq c + 1, false))
      let h' := { h with dseq := ds.foldl (fun m d => SMap.set (fun _ => 0) m d.1 d.2.1) h.dseq }
      let e' := { e with dseqs := ds }
      ((s.putStream { st with home := some h' }).putEntry i e').mirrorEntry i 3 e'

/-- Completions of a stream get their DSEQs in SEQ order, whatever order the orders finished in (R92, R185). -/
def State.assignStream (s : State) (stream : Nat) : State :=
  ((s.entriesOf stream).foldl (fun (a : State × Bool) x =>
    if a.2 then
      if x.2.dseqs.isEmpty then
        if x.2.complete then (a.1.assignDseq x.1 x.2, true) else (a.1, false)
      else a
    else a) (s, true)).1

/-- The buddy holds the completion: DONE, and the completion is queued for each destination context (R184, R185). A failed OPEN or a
completed CLOSE ends the stream (R86, R98). -/
def State.doneEntry (s : State) (i : Nat) : State :=
  match s.jrn.own.find? (fun x => x.1 == i) with
  | some (_, e) =>
    if e.st = .launched then
      let owner := ((s.stream? e.wo.stream).map (·.owner)).getD e.wo.hctx
      let cs := e.dseqs.map fun d =>
        ({ node := e.node, stream := e.wo.stream, hctx := d.1, dseq := d.2.1, body := e.comp, flow := e.wo.stream % 2 ^ 20,
           owner := d.1 == owner && !e.wo.spec } : Comp)
      let s1 : State := s.putEntry i { e with st := .done, mirrored := true }
      let s2 : State := { s1 with jrn := { s1.jrn with comps := s1.jrn.comps ++ cs } }
      let failed := e.wo.type = 4 ∧ leAt e.comp 1 1 ≠ 0
      if e.wo.type = 5 ∨ failed then s2.dropStream e.wo.stream else s2
    else s
  | none => s

/-- The home of a context's completions: the bridge node bound to it (R187). -/
def State.bridgeOf (s : State) (hctx : Nat) : Option Nat := SMap.get (fun _ => none) s.trn.homes hctx

/-- A completion put on the wire (R186). -/
def State.sendComp (s : State) (c : Comp) (resend : Bool) (bridge : Nat) : State :=
  s.request { mtype := 0x12, dstNode := bridge, dstDie := 31, srcNode := c.node,
              body := deliveryBody c.dseq c.hctx c.owner resend c.body } (.completion c.stream c.hctx)

/-- Completions of a stream and context that await acknowledgement. -/
def State.compsOf (s : State) (stream hctx : Nat) : List Comp :=
  s.jrn.comps.filter (fun c => c.stream == stream && c.hctx == hctx)

/-- One completion sent again with RESEND (R178, R185, R187), to the bridge now bound: the request that carries it, with its TID, or with a new one once a
timer has used its RETRY resends; an adopted one, which this device has not sent yet, for the first time. -/
def State.resendComp (s : State) (c : Comp) (bridge : Nat) (timed : Bool) : State :=
  match s.trn.reqs.find? (fun r => r.purpose == Purpose.completion c.stream c.hctx && leAt r.msg.body 0 8 == c.dseq) with
  | none => s.sendComp c true bridge
  | some r =>
    let q := { r with msg := { r.msg with dstNode := bridge, body := deliveryBody c.dseq c.hctx c.owner true c.body } }
    if timed ∧ s.retries ≤ r.resends then s.renew q else s.resend q timed timed

/-- Every completion of a stream and context that has been sent and not acknowledged is sent again from the oldest (R185, R187); `timed` where its timer
expired. -/
def State.resendComps (s : State) (stream hctx : Nat) (timed : Bool) : State :=
  match s.bridgeOf hctx with
  | none => s
  | some n => ((s.compsOf stream hctx).filter (·.sent)).foldl (fun t c => t.resendComp c n timed) s

/-- BUDDY_OK reads 1 again once every JRN_MIRROR, of entries and of records, has been answered (R182, R190). -/
def State.checkBuddy (s : State) : State :=
  if s.trn.reqs.any (fun r => match r.purpose with | Purpose.mirror _ _ => true | .bindMirror => true | _ => false) then s
  else { s.setFld R.WSQ_MIRROR_STAT F.WSQ_MIRROR_STAT_BUDDY_OK 1 with jrn := { s.jrn with remirroring := false } }

/-- The adopted entries of node x are held by this device's own buddy (R189): completions in DONE are sent again, those of entries that have ended get
their DSEQ, accepted orders launch under R88, and messages to the node are answered from now on. The first destination of a completion that is not
speculative is its owner (R116). -/
def State.finishAdopt (s : State) (x : Nat) : State :=
  let s1 : State := { s with jrn := { s.jrn with adopting := s.jrn.adopting.filter (· != x), adopted := s.jrn.adopted ++ [x] } }
  let mine := (s1.jrn.own.filter fun e => e.2.node == x).map (·.2)
  let done := mine.filter fun e => e.st == JState.done
  let s2 : State := { s1 with jrn := { s1.jrn with comps := s1.jrn.comps ++ done.flatMap fun e => e.dseqs.map fun d =>
    { node := x, stream := e.wo.stream, hctx := d.1, dseq := d.2.1, body := e.comp, flow := e.wo.stream % 2 ^ 20,
      owner := !e.wo.spec && (e.dseqs.head?).any (·.1 == d.1), sent := true } } }
  let s3 : State := ((done.flatMap fun e => e.dseqs.map fun d => (e.wo.stream, d.1)).eraseDups).foldl (fun t k => t.resendComps k.1 k.2 false) s2
  ((mine.map (·.wo.stream)).eraseDups).foldl (fun t st => (t.assignStream st).scheduleStream st true) s3

/-- Step 2 of R189 ends for every node none of whose adopted entries still waits for this device's buddy. -/
def State.checkAdopt (s : State) : State :=
  s.jrn.adopting.foldl (fun t x => if t.jrn.own.any fun e => e.2.node == x && t.mirrorOut e.1 then t else t.finishAdopt x) s

/-- The buddy has answered a JRN_MIRROR: the transition it carried takes effect (R184). -/
def State.mirrorAnswered (s : State) (i target : Nat) : State :=
  let s1 : State := match target with
    | 1 => s.acceptEntry i
    | 3 => s.doneEntry i
    | 4 => (match s.jrn.own.find? (fun x => x.1 == i) with
      | some (_, e) => if e.st = .done then s.putEntry i { e with st := .delivered } else s
      | none => s)
    | 5 => s.dropEntry i
    | _ => s
  s1.checkBuddy.checkAdopt

/-- RUN and, with a reserved TYPE, the FORMAT refusal (R82, R83). -/
def execWoRun (src : Entry) (raw : List Byte) (s : State) : Host.Outcome State Fault Refusal :=
  .next (s.submit src (fun t => !(t == 2 || t == 3 || t == 4 || t == 5)) raw)

/-- COMMIT (R82, R83, R111). -/
def execWoCommit (src : Entry) (raw : List Byte) (s : State) : Host.Outcome State Fault Refusal :=
  .next (s.submit src (· == 2) raw)

/-- DISCARD (R82, R83, R112). -/
def execWoDiscard (src : Entry) (raw : List Byte) (s : State) : Host.Outcome State Fault Refusal :=
  .next (s.submit src (· == 3) raw)

/-- OPEN (R82, R83, R85). -/
def execWoOpen (src : Entry) (raw : List Byte) (s : State) : Host.Outcome State Fault Refusal :=
  .next (s.submit src (· == 4) raw)

/-- CLOSE (R82, R83). -/
def execWoClose (src : Entry) (raw : List Byte) (s : State) : Host.Outcome State Fault Refusal :=
  .next (s.submit src (· == 5) raw)

/-- An order for a stream that this device does not know, and that is no OPEN: the device has taken the place of a lost one (R141). L is where the order
begins. Entries that a pool held and no mirror restored are lost with it (R100; DESIGN CHOICE, log entry 153). -/
def State.adoptShard (s : State) (w : WorkOrder) : State :=
  if (s.stream? w.stream).isSome ∨ w.type = 4 then s
  else s.putStream { id := w.stream, owner := w.hctx, l := if w.type = 1 then w.pos else 0, shards := (s.img.pipe? w.pipe).elim [] (·.shards),
                     lost := decide (0 < w.pos) && !s.kvPools.isEmpty }

/-- LAUNCH_TICK_REACHED (R88, R184): at the launch tick the home's entry is LAUNCHED and this device's part launches. On a shard
device that is not the home, its armed part launches. `peers` is the status that another device of the shard set ends the order with at its launch, 0
where every one of them can supply what it needs: R98, R111 and R119 start an order on every device or on none, and do not say how the devices learn it
of each other (DESIGN CHOICE, log entry 172). In Strike nothing launches (R371). -/
def execLaunchTickReached (stream : Nat) (o : DueOrder) (s : State) : Host.Outcome State Fault Refusal :=
  if s.inStrike then .next s
  else
    let s1 : State := match s.entry? stream o.seq with
      | some (i, e) =>
        if e.st = .accepted ∧ e.lead ∧ e.launchTick ≤ s.ftc ∧ !s.lossHold stream ∧ !s.activationDue then
          s.putEntry i { e with st := .launched, startTick := s.ftc,
                                late := decide (e.launchTick < s.ftc) || (e.wo.launchTick != 0 && decide (e.wo.launchTick < s.ftc)) }
        else s
      | none => s
    match s1.part? stream o.seq with
    | some p => if p.phase = .armed ∧ p.tick ≤ s1.ftc ∧ !s1.lossHold stream ∧ !s1.mustWait p then .next (s1.partDue p o.peers) else .next s1
    | none => .next s1

/-- LAUNCH (R88, R89): a shard device arms its part for the tick, or launches it at once when the tick has passed; a repeat is
dropped by its identity (R174). `peers` is as in LAUNCH_TICK_REACHED. -/
def execLaunch (src : Entry) (msg : LaunchMsg) (s : State) : Host.Outcome State Fault Refusal :=
  .next (s.receiveReq src msg.bytes 0x20 fun m =>
    let gen := leAt m.body 0 1
    let tick := leAt m.body 1 8
    let w := WorkOrder.decode ((m.body.drop 9).take 128)
    let s1 : State := ((s.adoptShard w).armPart m.srcNode gen tick w).respond m 0 []
    match s1.part? w.stream w.seq with
    | some p => if p.phase = .armed ∧ !p.due ∧ tick < s1.ftc then s1.partDue p msg.peers else s1
    | none => s1)

/-- The home learns that an order failed: a RUN that this device ended well has changed no stream state (R91), unless a later order has acted since; and
a BRANCH_LOST of another device is the loss of the stream's branches here too (R114, R115). -/
def State.orderFailed (s : State) (e : JEntry) : State :=
  match s.stream? e.wo.stream with
  | none => s
  | some st =>
    let st1 := match st.undo with
      | some (l, n) => if e.wo.type = 1 ∧ st.turn = e.wo.seq + 1 then { st with l := l, n := n, undo := none } else st
      | none => st
    s.putStream (if e.reports.any (fun r => r.status == 6) then st1.loseBranches else st1)

/-- RUN_COMPLETE (R92, R100): once no run of the order is active on this device and no mirror copy is outstanding, the part report
goes to the home. -/
def execRunComplete (stream seq : Nat) (s : State) : Host.Outcome State Fault Refusal :=
  match s.part? stream seq with
  | some p =>
    if (p.phase = .ended ∨ (p.phase = .running ∧ p.bells.isEmpty)) ∧ p.mirrors = 0 ∧ !s.inStrike then .next (s.reportPart p)
    else .next s
  | none => .next s

/-- The KV_MIRROR body: stream, Bell, pool, 1 where the row is restored onto a replacement, position and the position's row bytes. R174 names (stream,
pool, position) as its identity and gives no layout. -/
def kvMirrorBody (stream bell pool back pos : Nat) (row : List Byte) : List Byte :=
  le 4 stream ++ le 1 bell ++ le 1 pool ++ le 2 back ++ le 8 pos ++ row

/-- The bytes of one position in a pool's pages, over its BSEs and heads, keys before values. -/
def State.rowBytes (s : State) (p : Pool) (page row : Nat) : List Byte :=
  p.bses.flatMap fun bse => (List.range p.heads).flatMap fun h => [false, true].flatMap fun v =>
    s.memBytes p.bell (bseOff bse (p.rowAt 64 (p.pageOff page) h row v)) (p.headDim * p.elem)

/-- A committed position of a mirrored pool is sent to the buddy (R100); the part waits for the answer. -/
def State.mirrorRow (s : State) (stream seq : Nat) (p : Pool) (pos page : Nat) : State :=
  let s1 : State := match s.part? stream seq with
    | some q => s.putPart { q with mirrors := q.mirrors + 1 }
    | none => s
  s1.request { mtype := 0x26, dstNode := s1.fld R.WSQ_BUDDY F.WSQ_BUDDY_NODE, srcNode := s1.node,
               body := kvMirrorBody stream p.bell p.pool 0 pos (s1.rowBytes p page (pos % 64)) } (.kvMirror stream seq)

/-- The rows that a COMMIT has copied on this device are mirrored, those of the pools that are mirrored (R100). -/
def State.mirrorCopied (s : State) (st : Stream) (p : Part) : State :=
  let l0 := st.copyFrom.getD st.l
  (s.kvPools.filter (fun q => q.mirrored && st.copySlabs.any (fun r => r.2.bell == q.bell && r.2.pool == q.pool))).foldl
    (fun t q => (List.range (st.l - l0)).foldl
      (fun t i => t.mirrorRow p.wo.stream p.wo.seq q (l0 + i) ((st.pagesIn q.bell q.pool).getD ((l0 + i) / 64) 0)) t) s

/-- A COMMIT's copy of one stream is done: the stream reads as copied and the part has ended (R111). -/
def State.endCopy (s : State) (stream : Nat) (st : Stream) (p : Part) : State :=
  (((s.commitCopy stream).putStream { st with copyDone := true, copySlabs := [] }).putPart { p with phase := .ended }).mirrorCopied st p

/-- COMMIT_COPY_DONE (R111, R113): the copied positions stand in the committed pages; those of mirrored pools are sent to the
buddy, and the device reports the COMMIT when the mirror holds them. -/
def execCommitCopyDone (stream : Nat) (s : State) : Host.Outcome State Fault Refusal :=
  match s.jrn.parts.find? (fun p => p.wo.stream == stream && p.phase == Phase.copying), s.stream? stream with
  | some p, some st =>
    let s1 : State := s.endCopy stream st p
    match s1.part? stream p.wo.seq with
    | some q => if q.mirrors = 0 then .next (s1.reportPart q) else .next s1
    | none => .next s1
  | _, _ => .next s

/-- Every device of the shard set has reported on an entry of the journal (R92, R184): the completion is formed, and held orders get their ticks (R88). -/
def State.orderEnds (s : State) (i : Nat) (e : JEntry) : State :=
  let s0 : State := if e.reports.any (fun q => q.status != 0) then s.orderFailed e else s
  ((s0.putEntry i { e with comp := s0.formCompletion e }).assignStream e.wo.stream).scheduleStream e.wo.stream true

/-- PART_REPORT (R92, R184): taken once per node and for the entry's current GEN; when every device of the shard set has reported,
the completion is formed and mirrored, and held orders get their launch ticks (R88). -/
def execPartReport (src : Entry) (raw : List Byte) (s : State) : Host.Outcome State Fault Refusal :=
  .next (s.receiveReq src raw 0x22 fun m =>
    let (stream, seq, r) := Report.decode m.srcNode m.body
    let s : State := s.respond m 0 []
    match s.entry? stream seq with
    | some (i, e) =>
      if e.st = .launched ∧ r.gen = e.gen ∧ (s.shardSet stream).contains r.node ∧ !e.reports.any (fun q => q.node == r.node) then
        let e1 := { e with reports := e.reports ++ [r] }
        if e1.reports.length = (s.shardSet stream).length then s.orderEnds i e1 else s.putEntry i e1
      else s
    | none => s)

/-- The bytes of one position written into a pool's page, over its BSEs and heads, keys before values. -/
def State.putRowBytes (s : State) (p : Pool) (page row : Nat) (bytes : List Byte) : State :=
  let n := p.headDim * p.elem
  (List.range p.bses.length).foldl (fun t bi => (List.range p.heads).foldl (fun t h => [false, true].foldl (fun t v =>
    t.writeMem p.bell (bseOff (p.bses.getD bi 0) (p.rowAt 64 (p.pageOff page) h row v)) ((bytes.drop ((2 * (bi * p.heads + h) + b2n v) * n)).take n)) t) t) s

/-- A row of the predecessor's pool stored in its mirror pool (R100, R153), in the page that the mirror holds for the position's page-list entry, or in
its lowest free one; a repeat is dropped by its identity. -/
def State.storeMirror (s : State) (stream bell pool pos : Nat) (row : List Byte) : State :=
  let q := 64 * bell + pool
  let rest := s.jrn.kvMir.filter (fun e => !(e.1 == stream && e.2.1 == q && e.2.2.1 == pos))
  let s1 : State := { s with jrn := { s.jrn with kvMir := rest ++ [(stream, q, pos, row)] } }
  match s.img.pools.find? (fun p => p.isMirror && p.bell == bell && p.pool == pool) with
  | none => s1
  | some p =>
    let held := s.jrn.mirPages.filter (·.2.1 == q)
    match held.find? (fun e => e.1 == stream && e.2.2.1 == pos / 64) with
    | some e => s1.putRowBytes p e.2.2.2 (pos % 64) row
    | none => match lowestFree (held.map (·.2.2.2)) p.pages 1 with
      | i :: _ => ({ s1 with jrn := { s1.jrn with mirPages := s1.jrn.mirPages ++ [(stream, q, pos / 64, i)] } }).putRowBytes p i (pos % 64) row
      | [] => s1

/-- A row that the buddy of a lost device restores onto this device, its replacement (R100, R141): written into the stream's committed pages, with L past
it. A stream that also had entries in an unmirrored pool is lost. -/
def State.restoreRow (s : State) (stream bell pool pos : Nat) (row : List Byte) : State :=
  match s.kvPools.find? (fun p => p.bell == bell && p.pool == pool) with
  | none => s
  | some p =>
    let st := (s.stream? stream).getD { id := stream, lost := s.kvPools.any (!·.mirrored) }
    let st1 := { st with l := max st.l (pos + 1) }
    let s1 : State := (s.putStream st1).allocPages stream p (st1.pageNeed p (pos + 1))
    match (s1.stream? stream).bind (fun x => (x.pagesIn bell pool)[pos / 64]?) with
    | some page => s1.putRowBytes p page (pos % 64) row
    | none => s1

/-- KV_MIRROR (R100): the entries are stored in the mirror pool of the predecessor's pool, kept by (stream, pool, position), or restored onto the
replacement of a lost device; a repeat is dropped by that identity. -/
def execKvMirrorMsg (src : Entry) (raw : List Byte) (s : State) : Host.Outcome State Fault Refusal :=
  .next (s.receiveReq src raw 0x26 fun m =>
    let n := leAt m.body
    (if n 6 2 = 1 then s.restoreRow (n 0 4) (n 4 1) (n 5 1) (n 8 8) (m.body.drop 16)
     else s.storeMirror (n 0 4) (n 4 1) (n 5 1) (n 8 8) (m.body.drop 16)).respond m 0 [])

/-- The device that takes the lost one's place in a new map: the first member of a pipeline's shard set that the old map did not have there. -/
def replacement (old new : Store) : Option Nat :=
  (new.pipes.filterMap fun p => (old.pipe? p.pipe).bind fun q => p.shards.find? (fun n => !q.shards.contains n)).head?

/-- The rows that this device mirrors for a lost unit go to its replacement (R100, R141), and are no longer mirrored here. -/
def State.restoreShards (s : State) (old : Store) (node die : Nat) : State :=
  match replacement old s.img with
  | none => s
  | some r =>
    if s.fld R.WSQ_PRED F.WSQ_PRED_NODE ≠ node then s
    else
      let hit (q : Nat) : Bool := die == 0 || q / 64 + 1 == die
      let rows := s.jrn.kvMir.filter fun e => hit e.2.1
      let kept := s.jrn.kvMir.filter fun e => !hit e.2.1
      let pages := s.jrn.mirPages.filter fun e => !hit e.2.1
      let s1 : State := { s with jrn := { s.jrn with kvMir := kept, mirPages := pages } }
      rows.foldl (fun t e =>
        let row := kvMirrorBody e.1 (e.2.1 / 64) (e.2.1 % 64) 1 e.2.2.1 e.2.2.2
        t.request { mtype := 0x26, dstNode := r, srcNode := t.node, body := row } (.kvMirror 0 0)) s1

/-- The shard set of a pipeline in the image in force. -/
def State.pipeShards (s : State) (p : Nat) : List Nat := (s.img.pipe? p).elim [] (·.shards)

/-- The stream record of the predecessor with an entry's SEQ and DSEQ values (R84, R185). -/
def Stream.noted (st : Stream) (e : JEntry) : Stream :=
  { st with home := st.home.map fun h =>
      { h with nextSeq := max h.nextSeq (e.wo.seq + 1),
               dseq := e.dseqs.foldl (fun m d => SMap.set (fun _ => 0) m d.1 (max (SMap.get (fun _ => 0) m d.1) d.2.1)) h.dseq } }

/-- The mirrored stream records after an update of an entry (R184, R189): an order that is accepted makes or moves its stream's record, and a completed CLOSE
or a failed OPEN takes it away. -/
def State.noteStream (s : State) (e : JEntry) : State :=
  let w := e.wo
  let rest := s.jrn.mirStreams.filter (·.id != w.stream)
  let fresh : Option Stream :=
    if e.st = .accepted then some { id := w.stream, owner := w.hctx, home := some ⟨e.node, 0, w.pipe, s.pipeShards w.pipe, []⟩ } else none
  let ended := e.st = .done ∧ (w.type = 5 ∨ (w.type = 4 ∧ leAt e.comp 1 1 ≠ 0))
  match (s.jrn.mirStreams.find? (·.id == w.stream)).or fresh with
  | some st => { s with jrn := { s.jrn with mirStreams := if ended then rest else rest ++ [st.noted e] } }
  | none => s

/-- An update of the predecessor's records written to the mirror: state 5 releases an entry, 6 is a binding record (R187), 7 a stream record (R190). -/
def State.mirrorWrite (s : State) (body : List Byte) (m : Msg) : State :=
  let (i, st, e) := mirrorDecode s.now body m
  if st = 5 then { s with jrn := { s.jrn with mir := s.jrn.mir.filter (fun x => x.1 != i) } }
  else if st = 6 then
    { s with jrn := { s.jrn with mirHomes := s.jrn.mirHomes.filter (fun x => x.1 != leAt body 8 4) ++ [(leAt body 8 4, leAt body 12 4)] } }
  else if st = 7 then
    let r := streamDecode s.pipeShards body
    { s with jrn := { s.jrn with mirStreams := s.jrn.mirStreams.filter (·.id != r.id) ++ [r] } }
  else
    let s1 : State := { s with jrn := { s.jrn with mir := s.jrn.mir.filter (fun x => x.1 != i) ++ [(i, e)] } }
    s1.noteStream e

/-- The record that an update of a predecessor is of: an entry, a binding or a stream. -/
def mirrorKey (pred : Nat) (body : List Byte) : Nat :=
  let st := leAt body 4 1
  2 ^ 40 * pred + (if st = 6 then 2 ^ 33 + leAt body 8 4 else if st = 7 then 2 ^ 34 + leAt body 8 4 else leAt body 0 4)

/-- JRN_MIRROR (R181, R184): the buddy writes the update to its mirror, held by both of its poles, and responds. An update that has been taken, or that
an update of the same record with a later SEQ has overtaken, is dropped and answered again (R174). -/
def execJrnMirrorMsg (src : Entry) (raw : List Byte) (s : State) : Host.Outcome State Fault Refusal :=
  .next (s.receiveReq src raw 0x24 fun m =>
    let seq := leAt m.body 0 8
    let body := m.body.drop 8
    let key := mirrorKey m.srcNode body
    let s1 : State :=
      if seq < SMap.get (fun _ => 0) s.jrn.mirSeen key then s
      else { s with jrn := { s.jrn with mirSeen := SMap.set (fun _ => 0) s.jrn.mirSeen key (seq + 1) } }.mirrorWrite body m
    s1.respond m 0 [])

/-- An order that the buddy never took is undone: its entry and its request go, its stream is as before it, and the buddy counts as lost (R83, R85). -/
def State.undoOrder (s : State) (idx : Nat) (e : JEntry) : State :=
  let s1 : State := s.dropEntry idx
  let s2 : State := { s1 with trn := { s1.trn with reqs := s1.trn.reqs.filter (fun r => r.purpose != Purpose.mirror idx 1) } }
  let s3 : State := if e.wo.type = 4 then s2.dropStream e.wo.stream
    else match s2.stream? e.wo.stream with
      | some st => match st.home with
        | some h => s2.putStream { st with home := some { h with nextSeq := min h.nextSeq e.wo.seq } }
        | none => s2
      | none => s2
  s3.setFld R.WSQ_MIRROR_STAT F.WSQ_MIRROR_STAT_BUDDY_OK 0

/-- MIRROR_TIMEOUT (R182): the buddy has not answered within TRN_TIMEOUT.US × (RETRY + 1): the entry is released and the order
answered NOT_ACCEPTED with NO_MIRROR; BUDDY_OK reads 0 until the buddy answers again. The release is mirrored. -/
def execMirrorTimeout (idx : Nat) (s : State) : Host.Outcome State Fault Refusal :=
  match s.jrn.own.find? (fun x => x.1 == idx) with
  | some (_, e) =>
    if e.st = .awaiting ∧ e.acceptAt + s.timeoutNs * (s.retries + 1) ≤ s.now then
      .next (((s.undoOrder idx e).mirrorEntry idx 6 e).notAccepted e.sub e.wo 0x0D)
    else .next s
  | none => .next s

/-- JOURNAL_RELEASE (R184): 16 ms after ACCEPT_TICK the release of a DELIVERED entry is mirrored; when the buddy has answered, the entry is FREE in both
poles. -/
def execJournalRelease (idx : Nat) (s : State) : Host.Outcome State Fault Refusal :=
  match s.jrn.own.find? (fun x => x.1 == idx) with
  | some (_, e) =>
    if e.st = .delivered ∧ 16000000 + e.acceptTick ≤ s.ftc ∧ !s.mirrorOut idx then .next (s.mirrorEntry idx 5 e) else .next s
  | none => .next s

/-- COMPLETION (R185, R186): the oldest completion of the stream and context that has not been sent goes out, while fewer than 16
await acknowledgement and the context is bound. -/
def execCompletionSend (stream hctx : Nat) (s : State) : Host.Outcome State Fault Refusal :=
  if s.inStrike then .next s
  else
    let cs := s.compsOf stream hctx
    match cs.find? (fun c => !c.sent), s.bridgeOf hctx with
    | some c, some n =>
      if (cs.filter (·.sent)).length < 16 then
        let s1 : State := { s with jrn := { s.jrn with comps := s.jrn.comps.map fun d =>
          if d.stream = stream ∧ d.hctx = hctx ∧ d.dseq = c.dseq then { d with sent := true, deadline := s.now + s.timeoutNs } else d } }
        .next (s1.sendComp c false n)
      else .next s
    | _, _ => .next s

/-- A delivered COMMIT is never rolled back (R115). -/
def State.commitDelivered (s : State) (stream : Nat) : State :=
  match s.stream? stream with
  | some st => if st.copyDone then s.putStream { st with copyFrom := none, copyPages := [], copySlabs := [] } else s
  | none => s

/-- The completions of a stream and context acknowledged up to a DSEQ (R185, R186); an entry whose every context has acknowledged is
mirrored as DELIVERED (R184). -/
def State.ackComps (s : State) (stream hctx dseq : Nat) : State :=
  let s1 : State := { s with
    jrn := { s.jrn with
      comps := s.jrn.comps.filter (fun c => !(c.stream == stream && c.hctx == hctx && decide (c.dseq ≤ dseq))),
      own := s.jrn.own.map fun x =>
        if x.2.wo.stream = stream then
          (x.1, { x.2 with dseqs := x.2.dseqs.map fun d => if d.1 = hctx ∧ d.2.1 ≤ dseq ∧ x.2.st = .done then (d.1, d.2.1, true) else d })
        else x },
    trn := { s.trn with reqs := s.trn.reqs.filter fun r =>
      !(r.purpose == Purpose.completion stream hctx && decide (leAt r.msg.body 0 8 ≤ dseq)) } }
  s1.jrn.own.foldl (fun t x =>
    if x.2.wo.stream = stream ∧ x.2.st = .done ∧ !x.2.dseqs.isEmpty ∧ x.2.dseqs.all (·.2.2)
        ∧ !t.trn.reqs.any (fun r => r.purpose == Purpose.mirror x.1 4)
    then (if x.2.wo.type = 2 then t.commitDelivered stream else t).mirrorEntry x.1 4 x.2 else t) s1

/-- COMP_ACK (R186): cumulative. -/
def execCompAck (src : Entry) (raw : List Byte) (s : State) : Host.Outcome State Fault Refusal :=
  .next (s.receive src raw fun m =>
    if m.mtype = 0x13 ∧ m.resp ∧ m.status = 0 ∧ m.body.length = 16 then (s.ackComps (leAt m.body 0 4) (bits (leAt m.body 4 2) 11 0) (leAt m.body 8 8)).takeUp m else s)

/-- HOST_BIND at a home (R187): the bridge's node is recorded for the context and mirrored; unacknowledged completions of the
context are redirected and resent at once. -/
def State.bindHome (s : State) (hctx bridge : Nat) : State :=
  let s1 : State := { s with trn := { s.trn with homes := SMap.set (fun _ => none) s.trn.homes hctx (some bridge) } }
  let s2 : State := s1.mirrorMsg (bindingBody hctx bridge) .bindMirror
  let streams := ((s2.jrn.comps.filter (fun c => c.hctx == hctx)).map (·.stream)).eraseDups
  streams.foldl (fun t st => t.resendComps st hctx false) s2

/-- HOST_BIND (R187), class W. -/
def execHostBind (src : Entry) (raw : List Byte) (s : State) : Host.Outcome State Fault Refusal :=
  .next (s.receiveReq src raw 0x14 fun m =>
    s.window m fun t => (t.bindHome (bits (leAt m.body 0 2) 11 0) m.srcNode, 0, [], true))

/-- The runs of every Bell end without a report, for the orders that will be executed again (R141): what they had started to write is undefined. -/
def State.dropRuns (s : State) : State :=
  (List.range 8).foldl (fun t b =>
    let u : State := (t.bell b).runs.foldl (fun t r => t.undefine b r.areas) t
    u.onBell b fun x => { x with runs := [], queue := [], held := [] }) s

/-- Entries LAUNCHED and not complete return to ACCEPTED and launch again under R88, and so do ACCEPTED ones whose launch tick was given under the old
map (R141, R184). Parts of this device for them end without a report; the state that a reported one had changed is restored when it is armed
again. -/
def State.relaunch (s0 : State) : State :=
  let s : State := s0.dropRuns
  let s1 : State := s.jrn.own.foldl (fun t x =>
    if x.2.complete then t
    else if x.2.st = .launched then (t.putEntry x.1 { x.2 with st := .accepted, lead := false, reports := [], gen := t.mapGen }).bump R.WSQ_RELAUNCH_CNT
    else if x.2.st = .accepted then t.putEntry x.1 { x.2 with lead := false, gen := t.mapGen }
    else t) s
  let s2 : State := s1.jrn.parts.foldl (fun t p =>
    if p.phase = .reported then t
    else match t.stream? p.wo.stream with
      | some st => match st.copyFrom with
        | some l0 =>
          if p.wo.type = 2 then
            t.putStream { st with l := l0, n := p.n0, slabs := st.copySlabs, copyFrom := none, copySlabs := [], copyPages := [], copyDone := true }
          else t
        | none => t
      | none => t) s1
  let s3 : State := { s2 with jrn := { s2.jrn with parts := s2.jrn.parts.filter (fun p => p.phase == Phase.reported) } }
  ((s3.jrn.own.map (·.2.wo.stream)).eraseDups).foldl (fun t st => t.scheduleStream st true) s3

/-- R190: the journal, stream and binding records are mirrored to a new buddy; BUDDY_OK reads 0 until every answer is in. An update that waits for the old
buddy goes to the new one at once, and carries its entry. -/
def State.remirror (s : State) (buddy : Nat) : State :=
  let s1 : State := (s.setFld R.WSQ_BUDDY F.WSQ_BUDDY_NODE buddy).setFld R.WSQ_MIRROR_STAT F.WSQ_MIRROR_STAT_BUDDY_OK 0
  let s2 : State := { s1 with jrn := { s1.jrn with remirroring := true } }
  let s3 : State := s2.trn.reqs.foldl (fun t r => match r.purpose with
    | Purpose.mirror _ _ => t.resend { r with msg := { r.msg with dstNode := buddy } } false false
    | .bindMirror => t.resend { r with msg := { r.msg with dstNode := buddy } } false false
    | _ => t) s2
  let s4 : State := s3.jrn.own.foldl (fun t x => if s2.mirrorOut x.1 then t else t.mirrorEntry x.1 x.2.st.code x.2) s3
  let s5 : State := s4.jrn.streams.foldl (fun t st => st.home.elim t fun h => t.mirrorMsg (streamBody st h) .bindMirror) s4
  (s5.trn.homes.foldl (fun t h => h.2.elim t fun n => t.mirrorMsg (bindingBody h.1 n) .bindMirror) s5).checkBuddy

/-- A stream of node x whose home this device becomes, from its mirrored record (R189). -/
def State.adoptStream (s : State) (r : Stream) : State :=
  let st := (s.stream? r.id).getD { id := r.id, owner := r.owner }
  s.putStream { st with home := r.home, owner := r.owner }

/-- An entry of node x under a free index of this device's journal, mirrored to its own buddy (R189). LAUNCHED entries return to ACCEPTED, or, without a
re-map, complete with UNCORRECTABLE (R384). -/
def State.adoptEntry (s : State) (x : Nat) (e : JEntry) (remap : Bool) : State :=
  let i := s.freeEntry
  let back := e.st = .launched ∧ remap
  let r : Report := { node := x, gen := e.gen, status := 10, flags := 32, nsamp := 0, errCode := 0, errDie := 0,
                      len := ((s.stream? e.wo.stream).map (·.l)).getD 0, vlen := 0, tokens := [] }
  let e' : JEntry :=
    if back then { e with st := .accepted, lead := false, reports := [] }
    else if e.st = .launched then { e with reports := [r], comp := s.formCompletion { e with reports := [r] } }
    else e
  let s1 : State := if back then s.bump R.WSQ_RELAUNCH_CNT else s
  (s1.putEntry i e').mirrorEntry i e'.st.code e'

/-- R189: this device adopts a lost node X whose journal it mirrors: it becomes the home of X's streams, with X's bindings, and every entry that is not
FREE becomes one of its own. It answers for X once its own buddy holds them. -/
def State.adopt (s : State) (x : Nat) (remap : Bool) : State :=
  let s1 : State := s.setFld R.WSQ_MIRROR_STAT F.WSQ_MIRROR_STAT_ADOPTED 1
  let s2 : State := { s1 with jrn := { s1.jrn with adopting := s1.jrn.adopting ++ [x], mir := [], mirHomes := [], mirStreams := [] },
                              trn := { s1.trn with homes := s1.jrn.mirHomes.foldl (fun m h => SMap.set (fun _ => none) m h.1 (some h.2)) s1.trn.homes } }
  let s3 : State := (s.jrn.mirStreams.filter fun r => r.home.any (·.node == x)).foldl State.adoptStream s2
  ((s.jrn.mir.filter fun e => e.2.node == x).foldl (fun t e => t.adoptEntry x e.2 remap) s3).checkAdopt

end Sys2Proof.Machine
end

