-- ==== Sys2Proof/Machine/BellRun.lean ====
section
/-!
DEFINITION. The Bell sequencer (R57, R58, R79, R94, R95, R99): runs and their queue, descriptor fetch with the references of the work
order, the start and the completion of a descriptor, and a run's end by an error.
-/

namespace Sys2Proof.Machine

open Sys2Proof

/-- BEL_CTL.DRAIN of a Bell. -/
def State.draining (s : State) (b : Nat) : Bool := s.fld (R.BEL_CTL b) F.BEL_CTL_DRAIN == 1

/-- BEL_STAT.READY (R80): a live Bell holds its program of the image in force. -/
def State.bellReady (s : State) (b : Nat) : Bool := s.active && s.bellLive b && (s.img.program b).isSome

/-- A Bell that can run: it holds a checked program and is neither in reset nor retired, and the device is not in Strike. -/
def State.bellRuns (s : State) (b : Nat) : Bool :=
  let x := s.bell b
  s.bellReady b && !x.inReset && !x.retired && !s.inStrike

/-- The descriptor index at which an order's run starts on a Bell (R93, R154). -/
def State.entryOf (s : State) (b : Nat) (w : WorkOrder) : Nat :=
  match s.img.pipe? w.pipe, s.img.program b with
  | some p, some x => s.img.entryPoint x (p.entry.getD b 0xFFFF)
  | _, _ => 0xFFFF

/-- An active run begun (R57). -/
def State.startRun (s : State) (b stream seq : Nat) : State :=
  let e := match s.part? stream seq with
    | some p => s.entryOf b p.wo
    | none => 0xFFFF
  s.onBell b (fun x => { x with runs := x.runs ++ [{ stream := stream, seq := seq, next := e }] })

/-- The head of the run queue starts while fewer than 16 runs are active (R57, R80). -/
def State.pullRun (s : State) (b : Nat) : State :=
  let x := s.bell b
  if x.runs.length < 16 ∧ !s.draining b then
    match x.queue with
    | (st, q) :: t => (s.onBell b (fun y => { y with queue := t })).startRun b st q
    | [] => s
  else s

/-- Queued runs start until 16 are active. -/
def State.pullRuns (s : State) (b : Nat) : State := (List.range 16).foldl (fun t _ => t.pullRun b) s

/-- A run of an order with a lower SEQ of the same stream has not completed on the Bell (R87). -/
def State.earlierRun (s : State) (b stream seq : Nat) : Bool :=
  s.jrn.parts.any (fun p => p.wo.stream == stream && decide (p.wo.seq < seq) && p.bells.contains b)

/-- RUN_LAUNCH_AT_BELL (R57): the run starts, waits in the 64-entry queue, or waits on the Ridge. -/
def execRunLaunchAtBell (b : Fin 8) (stream seq : Nat) (s : State) : Host.Outcome State Fault Refusal :=
  let b := b.val
  let x := s.bell b
  let known := x.runs.any (fun r => r.stream == stream && r.seq == seq) || x.queue.contains (stream, seq) || x.held.contains (stream, seq)
  match s.part? stream seq with
  | some p =>
    if p.phase = .running ∧ p.bells.contains b ∧ s.bellRuns b ∧ !known ∧ !s.earlierRun b stream seq then
      if x.runs.length < 16 ∧ x.queue.isEmpty ∧ x.held.isEmpty ∧ !s.draining b then .next (s.startRun b stream seq)
      else if x.queue.length < 64 ∧ x.held.isEmpty then .next (s.onBell b (fun y => { y with queue := y.queue ++ [(stream, seq)] }))
      else .next (s.onBell b (fun y => { y with held := y.held ++ [(stream, seq)] }))
    else .next s
  | none => .next s

/-- RUN_QUEUE_ENTRY_FREE (R57): the oldest run that waits on the Ridge enters the queue, or starts at once. -/
def execRunQueueEntryFree (b : Fin 8) (s : State) : Host.Outcome State Fault Refusal :=
  let b := b.val
  let x := s.bell b
  match x.held with
  | (st, q) :: t =>
    if x.queue.length < 64 ∧ s.bellRuns b then
      .next ((s.onBell b (fun y => { y with held := t, queue := y.queue ++ [(st, q)] })).pullRun b)
    else .next s
  | [] => .next s

/-- The receive area of cluster c that an order's run reads its rows from (R103): the run is then that of an expert. R103 and R104 do not say by what a
run is known as an expert's, nor where its gate weights stand (DESIGN CHOICE, log entry 166). -/
def State.moeArea? (s : State) (b c : Nat) (chain : List (Nat × Desc)) : Option MoeArea :=
  (s.bell b).moe.find? fun x => x.cluster == c && chain.any (fun e => bit e.2.clusterMask c && e.2.rowsAt == x.rxOff)

/-- Row j of a receive area is present (R103). -/
def State.moeHas (s : State) (b : Nat) (x : MoeArea) (j : Nat) : Bool :=
  bit (s.memByte b (cbOff x.cluster (x.rxOff + 256 * x.rxStride + j / 8))).toNat (j % 8)

/-- The references of a work order applied to descriptor `idx` of Bell b (R94, R155): whether a field was replaced, and the
descriptor. -/
def applyRefs (p : Pipe) (w : WorkOrder) (b idx : Nat) (d : Desc) : Bool × Desc :=
  let m := ((p.marks.filter (fun k => bits k 11 0 == idx && bits k 14 12 == b)).map (fun k => bits k 17 15)).foldl (· ||| ·) 0
  let on (i : Nat) : Bool := bit m i && bit w.refMask i
  let d1 := if on 0 then { d with bOff := w.refB } else d
  let d2 := if on 1 then { d1 with outOff := w.refOut } else d1
  let d3 := if on 2 then { d2 with collId := w.refColl } else d2
  (on 0 || on 1 || on 2, d3)

/-- The descriptors of a NEXT chain from an index, as (index, descriptor). `n` bounds the chain. -/
def Store.chain (st : Store) (x : Sect) : Nat → Nat → List (Nat × Desc)
  | _, 0 => []
  | i, n + 1 =>
    if i = 0xFFFF ∨ st.ndesc x ≤ i then []
    else let d := Desc.decode (st.descBytes x i); (i, d) :: st.chain x d.next n

/-- The descriptors of an order's run on a Bell, with its references applied. -/
def State.runChain (s : State) (b : Nat) (w : WorkOrder) : List (Nat × Desc) :=
  match s.img.pipe? w.pipe, s.img.program b with
  | some p, some x => (s.img.chain x (s.entryOf b w) 4096).map fun e => (e.1, (applyRefs p w b e.1 e.2).2)
  | _, _ => []

/-- The pool of a descriptor on a Bell. -/
def State.poolFor (s : State) (b : Nat) (d : Desc) : Option Pool := s.img.poolOf b d.poolNum

/-- A range of a Bell touches one of its Vestibule extents (R94, R108). -/
def State.touchesVest (s : State) (b o n : Nat) : Bool :=
  s.img.extents.any fun e => e.kind == 3 && e.bell == b &&
    (List.range 64).any (fun i => bit e.mask i && overlap o n (bseOff (64 * e.die + i) e.off) e.len)

/-- R94's check of a descriptor whose fields were replaced: the limits of reason 0x05, the Vestibule ranges, and for OUT_SPACE 2 the
collective of R452. -/
def State.refOk (s : State) (b : Nat) (d : Desc) : Bool :=
  let pool := s.poolFor b d
  d.extentOk pool
    && ((d.areas pool).all fun a => (d.spans a).all fun r => !s.touchesVest b r.1 r.2)
    && (!d.sends || d.collOk s.img b)

/-- A replaced COLL_ID may be used so by the run (R123, R133, R136). R94 does not name these conditions among those that a reference must meet: one that
breaks them ends the run with BAD_REF like the others (DESIGN CHOICE, log entry 176). -/
def State.refUseOk (s : State) (b : Nat) (q : Pipe) (w : WorkOrder) (idx : Nat) (d : Desc) : Bool :=
  s.img.useOk q.cls (((s.runChain b w).takeWhile (·.1 != idx)).map (·.2)) d

/-- A part made to fail on a die (R91, R92): the lowest code stands, and of equal codes the lowest die. -/
def Part.fail (p : Part) (status code die : Nat) : Part :=
  let fl := if status = 1 ∨ status = 9 ∨ status = 10 then p.flags ||| flOutUndef else p.flags
  if p.status = 0 ∨ status < p.status ∨ (status = p.status ∧ die < p.errDie) then
    { p with status := status, errCode := code, errDie := die, flags := fl }
  else { p with flags := fl }

/-- Instances that an order's run on a Bell takes part in ended with a cause (R139). -/
def State.abortRun (s : State) (b : Nat) (w : WorkOrder) (cause err : Nat) : State :=
  let ids := (((s.runChain b w).filter (·.2.sends)).map (·.2.collId)).eraseDups
  ids.foldl (fun t c => match t.img.coll? c with
    | none => t
    | some k =>
      let rank := ((k.locals.filter (fun r => r.die == b + 1)).map (·.rank)).headD 0
      let x := t.openInst c w.stream w.seq t.mapGen
      if x.closed then t else t.abortInst x cause err rank none) s

/-- The engine groups of some clusters have executed a descriptor until now (R342). -/
def BellSt.used (x : BellSt) (clusters : List Nat) (now : Nat) : BellSt :=
  { x with engAt := clusters.foldl (fun m c => SMap.set (fun _ => 0) m (c / 4) now) x.engAt }

/-- The run of an order removed from a Bell, wherever it stands; the queue moves up. -/
def State.removeRun (s : State) (b : Nat) (stream seq : Nat) : State :=
  let cur := ((s.bell b).runs.filter (fun r => r.stream == stream && r.seq == seq)).flatMap (·.cur)
  (s.onBell b (fun x => { (x.used (cur.flatMap (·.d.clusters)) s.now) with
    runs := x.runs.filter (fun r => !(r.stream == stream && r.seq == seq)),
    queue := x.queue.filter (· != (stream, seq)), held := x.held.filter (· != (stream, seq)) })).pullRuns b


/-- A run of Bell b ended with a status other than OK (R79, R139); the flags that it has raised stand (R72). -/
def State.stopRun (s : State) (b : Nat) (r : RunSt) (status code cause : Nat) : State :=
  let s1 : State := s.undefine b r.areas
  match s1.part? r.stream r.seq with
  | none => s1.removeRun b r.stream r.seq
  | some p =>
    let q := p.fail status code (b + 1)
    let s2 : State := s1.putPart { q with flags := q.flags ||| r.flags, bells := p.bells.filter (· != b) }
    (if cause = 0 then s2 else s2.abortRun b p.wo cause code).removeRun b r.stream r.seq

/-- The first run-time error of a run (R79): captured in BEL_OP_ERR, counted, and the run stopped. -/
def State.runError (s : State) (b : Nat) (r : RunSt) (idx code c i : Nat) : State :=
  let s1 : State := s.capture (R.BEL_OP_ERR b) (idx % 4096 + c % 16 * 2 ^ 12 + i % 16 * 2 ^ 16 + code % 256 * 2 ^ 20)
  (s1.bump (R.BEL_OP_ERR_CNT b)).stopRun b r 1 code 1

/-- The row that a MOE_DISPATCH sends for token j and rank rk, from the expert's table entry (R102) and the gate row of the token (R101). -/
def moeRowOf (entry : List Byte) (j rk : Nat) (gate row : List Byte) : MoeRow :=
  { bell := Fin.ofNat 8 (bits (leAt entry 0 4) 24 20 + 7), clusters := leAt entry 4 2, rxOff := leAt entry 8 4, rxStride := leAt entry 12 4,
    j := Fin.ofNat 256 j, r := rk, gate := leAt gate (8 * rk + 4) 4, row := row }

/-- The rows of its own Bell's receive areas that a MOE_DISPATCH writes. -/
def State.moeSpans (s : State) (b : Nat) (d : Desc) : List (Nat × Nat) :=
  let topk := d.aux0 % 64
  d.clusters.flatMap fun c => (List.range d.m).flatMap fun j => (List.range topk).flatMap fun rk =>
    let gate := s.memBytes b (cbOff c (d.bOff + j * alignUp (8 * topk) 64)) (8 * topk)
    let entry := s.memBytes b (cbOff c (d.collId + 16 * leAt gate (8 * rk) 4)) 16
    let x := moeRowOf entry j rk gate []
    if leAt entry 0 4 % 2 ^ 20 = s.node ∧ x.bell.val = b then
      ((List.range 16).filter (fun k => bit x.clusters k)).map fun k => (cbOff k (x.rxOff + j * x.rxStride), rowLen d.fmtA d.k)
    else []

/-- Byte ranges that a descriptor writes on its Bell, for R79. A KV_APPEND writes the rows of its positions, the keys and values of every head, in the
stream's pages or in its branch's slab; a MOE_DISPATCH writes rows of receive areas. -/
def State.outSpans (s : State) (b : Nat) (w : WorkOrder) (d : Desc) : List (Nat × Nat) :=
  if d.opcode = 0x09 then s.moeSpans b d
  else if d.opcode = 0x0B then match s.poolFor b d, s.stream? w.stream with
    | some q, some st =>
      let n := q.headDim * q.elem
      (List.range d.m).flatMap fun m =>
        let pos := w.pos + m
        d.clusters.flatMap fun c => d.bses.flatMap fun i => (List.range q.heads).flatMap fun h => [false, true].filterMap fun v =>
          let bse := bseNum c i
          let dst : Option Nat :=
            if d.space = 3 then (st.slabIn w.branch b q.pool).map (fun sl => q.rowAt 32 (s.slabOff q bse sl) h (pos - st.l) v)
            else ((st.pagesIn b q.pool)[pos / 64]?).map (fun pg => q.rowAt 64 (q.pageOff pg) h (pos % 64) v)
          dst.map fun o => (bseOff bse o, n)
    | _, _ => []
  else ((d.areas (s.poolFor b d)).filter (·.out)).flatMap d.spans

/-- A run of a Bell replaced. -/
def State.putRun (s : State) (b : Nat) (r : RunSt) : State :=
  s.onBell b (fun x => { x with runs := x.runs.map (fun q => if q.stream = r.stream ∧ q.seq = r.seq then r else q) })

/-- The page table of R99 for an ATTN of a run. -/
def State.pageTable (s : State) (b : Nat) (w : WorkOrder) (d : Desc) : List Byte :=
  match s.stream? w.stream with
  | none => []
  | some st =>
    let nv := if w.spec then st.nb w.branch else 0
    let pages := (st.pagesIn b d.poolNum).take ((st.l + 63) / 64)
    le 4 st.l ++ le 1 nv ++ zeros 11 ++ pages.flatMap (fun p => le 4 (p % 2 ^ 24))
      ++ (if nv = 0 then [] else le 4 ((st.slabIn w.branch b d.poolNum).getD 0 % 2 ^ 24 + 2 ^ 31))

/-- What the sequencer writes before the first descriptor of a run: the tokens at TOKEN_OFF in every cluster that the run uses (R95),
and the page table of each ATTN (R99). -/
def State.runPrologue (s : State) (b : Nat) (p : Part) (tokenOff : Nat) : State :=
  let ch := s.runChain b p.wo
  let clusters := (List.range 16).filter (fun c => ch.any (fun e => bit e.2.clusterMask c))
  let s1 : State := clusters.foldl (fun t c => t.writeMem b (cbOff c tokenOff) (p.input.flatMap (le 4))) s
  (ch.filter (fun e => e.2.opcode == 2)).foldl (fun t e =>
    e.2.clusters.foldl (fun t c => t.writeMem b (cbOff c e.2.collId) (t.pageTable b p.wo e.2)) t) s1

/-- Engine groups that sleep return to RUN before a descriptor that selects their clusters starts (R342). -/
def State.wakeEngines (s : State) (b : Nat) (clusters : List Nat) : State :=
  clusters.foldl (fun t c => let d := 28 + 12 * b + 7 + c / 4; if t.dom d = 1 then t.setDom d 0 else t) s

/-- The clocks that a descriptor needs run (R334): the sequencer's, and those of the engine groups of its clusters, which wake first (R342). -/
def State.sequencerRuns (s : State) (b : Nat) (clusters : List Nat) : Bool :=
  s.clocked (domBell b 2) && clusters.all fun c => (s.wakeEngines b clusters).clocked (domBell b (7 + c / 4))

/-- The next descriptor of a run may be fetched (R57): everything fetched has completed, or it carries OVERLAP, its clusters are
disjoint from those of the last, and neither it nor one in execution is a STAGE. -/
def fetchable (r : RunSt) (d : Desc) : Bool :=
  r.cur.isEmpty ||
    (d.overlap && d.opcode != 0x0C && r.cur.all (fun a => a.d.opcode != 0x0C)
      && (match r.cur.getLast? with | some a => a.d.clusterMask &&& d.clusterMask == 0 | none => true))

/-- DESCRIPTOR_FETCH (R57, R79, R94, R95): the next descriptor of run `run` of Bell b. `storeErr` says that the fetch meets an error of
the program store, which its CRC shows. -/
def execDescriptorFetch (b : Fin 8) (run : Nat) (storeErr : Bool) (s : State) : Host.Outcome State Fault Refusal :=
  let b := b.val
  if !s.bellRuns b then .next s
  else match (s.bell b).runs[run]? with
    | none => .next s
    | some r => match s.part? r.stream r.seq with
      | none => .next s
      | some p => match s.img.pipe? p.wo.pipe, s.img.program b with
        | some q, some x =>
          let d0 := Desc.decode (s.img.descBytes x r.next)
          if r.next = 0xFFFF ∨ p.input.length < p.wo.ntok ∨ !fetchable r d0 ∨ !s.sequencerRuns b d0.clusters then .next s
          else
            let s1 : State := if r.begun then s else s.runPrologue b p q.tokenOff
            let r1 := { r with begun := true, next := d0.next, last := r.next }
            let failed (d : Desc) : RunSt := { r1 with areas := r1.areas ++ s1.outSpans b p.wo d }
            if storeErr ∨ !d0.crcOk then
              .next (((s1.putRun b r1).pulse (srcBell b 3) (le 2 r.next)).runError b (failed d0) r.next 3 0 0)
            else
              let a := applyRefs q p.wo b r.next d0
              if a.1 ∧ !(s1.refOk b a.2 && s1.refUseOk b q p.wo r.next a.2) then .next ((s1.putRun b r1).runError b (failed a.2) r.next 4 0 0)
              else .next ((s1.putRun b { r1 with cur := r.cur ++ [⟨r.next, a.2, false⟩] }).wakeEngines b a.2.clusters)
        | _, _ => .next s

/-- A STAGE's remote requests that have not been answered. -/
def State.stagePending (s : State) (b : Nat) (r : RunSt) : Bool :=
  s.trn.reqs.any fun q => match q.purpose with
    | .stageRead b' st sq _ => b' == b && st == r.stream && sq == r.seq
    | .stageWrite b' st sq _ => b' == b && st == r.stream && sq == r.seq
    | _ => false

/-- The last descriptor of a run has completed: its flags go to the part (R72), and its slot frees (R57). -/
def State.endRun (s : State) (b : Nat) (r : RunSt) : State :=
  let s1 : State := match s.part? r.stream r.seq with
    | some p => s.putPart { p with flags := p.flags ||| r.flags, bells := p.bells.filter (· != b) }
    | none => s
  s1.removeRun b r.stream r.seq

/-- DESCRIPTOR_COMPLETE (R57): the first descriptor of a run whose operation has been carried out completes; with the last of the
chain the run ends. The engine cycles that it took are an open value (BEL_CYC_BUSY). -/
def execDescriptorComplete (b : Fin 8) (run : Nat) (s : State) : Host.Outcome State Fault Refusal :=
  let b := b.val
  if !s.bellRuns b then .next s
  else match (s.bell b).runs[run]? with
    | none => .next s
    | some r => match r.cur.find? (·.done) with
      | none => .next s
      | some a =>
        if s.stagePending b r then .next s
        else
          let n := s.freshNat
          let s1 : State := (n.2.addFld (R.BEL_CYC_BUSY b) whole n.1).onBell b fun x => x.used a.d.clusters s.now
          let r1 := { r with cur := r.cur.filter (fun y => y.idx != a.idx) }
          if r1.cur.isEmpty ∧ r1.next = 0xFFFF then .next (s1.endRun b r1) else .next (s1.putRun b r1)

/-- A cluster executes one descriptor at a time, and of two that wait for it the one whose run launched first goes first (R58), and of one run the one
that NEXT gives first (R57): descriptor `a` of run number `run` has its clusters to itself. -/
def clustersFree (runs : List RunSt) (run : Nat) (a : Active) : Bool :=
  let apart (y : Active) : Bool := y.d.clusterMask &&& a.d.clusterMask == 0
  (List.range runs.length).all fun i => match runs[i]? with
    | none => true
    | some r =>
      if i = run then
        (r.cur.takeWhile (·.idx != a.idx)).all apart && ((r.cur.dropWhile (·.idx != a.idx)).drop 1).all fun y => apart y || !y.done
      else r.cur.all fun y => apart y || (!y.done && decide (run < i))

/-- The result of carrying out an operation so far: the state, flags, the first error (code, cluster, BSE), elements for a collective, and sampled
tokens. -/
structure Acc where
  s : State
  flags : Nat := 0
  err : Option (Nat × Nat × Nat) := none
  pieces : List Contrib := []
  toks : List Nat := []

/-- One more action, unless the operation has already erred. -/
def Acc.andThen (a : Acc) (f : Acc → Acc) : Acc := if a.err.isSome then a else f a

/-- Flags raised. -/
def Acc.raise (a : Acc) (f : Nat) : Acc := { a with flags := a.flags ||| f }

/-- The error code of a failed read (R79): 0x06 for a cluster buffer, and 0x01 or 0x02 for DRAM. -/
def rdCode (o : Nat) (e : RdErr) : Nat := if !inDram o then 6 else match e with
  | .ue => 1
  | .poisoned => 2

/-- n bytes of a Bell read by BSE i of cluster c (R457), none once the operation has erred; words of a region are counted in
BEL_WORDS_READ. -/
def Acc.get (a : Acc) (b c i o n : Nat) (ups : List Upset) : Acc × List Byte :=
  if a.err.isSome then (a, [])
  else
    let r := a.s.readRange b o n ups true
    let s1 : State := if inDram o then r.1.addFld (R.BEL_WORDS_READ b) whole (wordsOf o n).length else r.1
    match r.2.1 with
    | none => ({ a with s := s1 }, r.2.2)
    | some e => ({ a with s := s1, err := some (rdCode o e, c, i) }, [])

/-- Several byte strings of n bytes read at given offsets. -/
def Acc.gets (a : Acc) (b c i n : Nat) (ups : List Upset) (offs : List Nat) : Acc × List (List Byte) :=
  offs.foldl (fun (p : Acc × List (List Byte)) o => let r := p.1.get b c i o n ups; (r.1, p.2 ++ [r.2])) (a, [])

/-- Bytes written to a Bell by BSE i of cluster c. -/
def Acc.write (a : Acc) (b c i o : Nat) (bytes : List Byte) (ups : List Upset) : Acc :=
  a.andThen fun a =>
    let r := a.s.writeRange b o bytes ups
    match r.2 with
    | none => { a with s := r.1 }
    | some e => { a with s := r.1, err := some (rdCode o e, c, i) }

/-- The kind that a descriptor contributes to a collective: exponents from EXPMAX or for a maximum, and sums or elements otherwise. R122 does not say how
the contributions of a MAX_EXP travel (DESIGN CHOICE, log entry 162). -/
def contribKind (c : Coll) (d : Desc) : Nat := if d.opcode = 0x0D ∨ c.op = 1 then 1 else 3

/-- An operation has ended on a Bell: with an error the run stops (R79); otherwise its descriptor is done, its tokens join the part, and what it
contributed goes to its collective (R124). `r` is the run with the areas that the operation writes. -/
def State.opDone (s : State) (b opcode : Nat) (r : RunSt) (a : Active) (o : Acc) : State :=
  match o.err with
  | some e => o.s.runError b r a.idx e.1 e.2.1 e.2.2
  | none =>
    let r2 := { r with
      cur := r.cur.map (fun y => if y.idx = a.idx then { y with done := true } else y)
      flags := r.flags ||| o.flags
      appended := if opcode = 0x0B then r.appended ++ [a.d.poolNum] else r.appended
      sent := if a.d.sends then (match s.img.coll? a.d.collId with
          | some c => SMap.set (fun _ => 0) r.sent a.d.collId (contribKind c a.d)
          | none => r.sent) else r.sent }
    let s1 : State := o.s.putRun b r2
    let s2 : State := if o.toks.isEmpty then s1 else match s1.part? r.stream r.seq with
      | some q => s1.putPart { q with tokens := q.tokens ++ o.toks }
      | none => s1
    if a.d.sends then match s2.img.coll? a.d.collId with
      | some c => s2.contribute b a.d.collId r.stream r.seq s2.mapGen (contribKind c a.d) o.pieces
      | none => s2
    else s2

/-- The run with the areas that its operation writes added to it (R58). -/
def State.opStart (s : State) (b : Nat) (p : Part) (r : RunSt) (a : Active) : RunSt := { r with areas := r.areas ++ s.outSpans b p.wo a.d }

/-- The engine of the collective that an operation contributes to takes its elements (log entry 161). -/
def State.canSend (s : State) (p : Part) (d : Desc) : Bool :=
  !d.sends || (s.img.coll? d.collId).all fun c => s.engineTakes c p.wo.stream p.wo.seq s.mapGen

/-- An operation carried out for the first waiting descriptor of its opcode in a run (R57, R58): its output areas are those of a started
descriptor (R79), an error ends the run, and elements go to the collective when OUT_SPACE is 2. -/
def State.runOp (s : State) (b run opcode : Nat) (f : Part → Desc → RunSt → State → Acc) : State :=
  if !s.bellRuns b then s
  else match (s.bell b).runs[run]? with
    | none => s
    | some r => match r.cur.find? (fun a => !a.done && a.d.opcode == opcode), s.part? r.stream r.seq with
      | some a, some p =>
        if clustersFree (s.bell b).runs run a ∧ s.canSend p a.d then
          s.opDone b opcode (s.opStart b p r a) a (f p a.d (s.opStart b p r a) (s.putRun b (s.opStart b p r a)))
        else s
      | _, _ => s

/-- BEL_DRAIN (R80): BEL_CTL.DRAIN written; on its release queued runs start. -/
def State.setDrain (s : State) (b : Nat) (on : Bool) : State :=
  let s1 : State := s.setFld (R.BEL_CTL b) F.BEL_CTL_DRAIN (b2n on)
  if on then s1 else s1.pullRuns b
def execBelDrain (b : Fin 8) (on : Bool) (s : State) : Host.Outcome State Fault Refusal :=
  .next (s.setDrain b.val on)

/-- NOP (R75): completes at once. -/
def execOpNop (b : Fin 8) (run : Nat) (s : State) : Host.Outcome State Fault Refusal :=
  .next (s.runOp b.val run 0 fun _ _ _ t => { s := t })

/-- An instance has delivered what a SYNC waits for (R75, R127, R129): anchors where the run's last contribution was exponents to a
collective that then forms a sum, and the result otherwise. -/
def ColInst.delivered (x : ColInst) (c : Coll) (sent : Nat) : Bool :=
  if sent = 1 ∨ c.op = 1 then gotAll c x.anchGot else gotAll c x.resGot

/-- SYNC (R75, R139): done once collective COLL_ID has delivered; an aborted instance ends the run with the order's status. -/
def execOpSync (b : Fin 8) (run : Nat) (s : State) : Host.Outcome State Fault Refusal :=
  let b := b.val
  if !s.bellRuns b then .next s
  else match (s.bell b).runs[run]? with
    | none => .next s
    | some r => match r.cur.find? (fun a => !a.done && a.d.opcode == 0x0E) with
      | none => .next s
      | some a => match s.inst? a.d.collId r.stream r.seq s.mapGen, s.img.coll? a.d.collId with
        | some x, some c =>
          match x.aborted with
          | some (cause, err) =>
            if cause = 1 then .next (s.stopRun b r 1 err 0)
            else if cause = 3 then .next (s.stopRun b r 9 0 0)
            else if cause = 5 then .next s
            else .next (s.stopRun b r 10 0 0)
          | none =>
            if x.delivered c (SMap.get (fun _ => 0) r.sent a.d.collId) then
              .next (s.putRun b { r with cur := r.cur.map (fun y => if y.idx = a.idx then { y with done := true } else y),
                                         flags := r.flags ||| x.flags ||| (if x.mixed then flDetMixed else 0) })
            else .next s
        | _, _ => .next s

/-- BEL_STAT as it reads (R80). -/
def State.belStat (s : State) (b : Nat) : Word :=
  let x := s.bell b
  let w := s.reg (R.BEL_STAT b)
  let n := x.runs.length
  let w1 := fset (fset w F.BEL_STAT_READY (b2n (s.bellReady b))) F.BEL_STAT_BUSY (b2n (decide (0 < n)))
  fset (fset w1 F.BEL_STAT_DRAINED (b2n (s.draining b && n == 0))) F.BEL_STAT_RUNS n

end Sys2Proof.Machine
end

