-- ==== Sys2Proof/Machine/Retire.lean ====
section
/-!
DEFINITION. Dies that leave service: die resets of a Bell, Canopy or slot die (R299, R416), retirement (R33), and what both do to work, branches
and memory (R100, R114, R115, R139, R188, R216).
-/

namespace Sys2Proof.Machine

open Sys2Proof

/-- A delta of the image in force names Bell b of this device (R158, R188). -/
def State.hasDelta (s : State) (b : Nat) : Bool := s.active && s.img.deltas.any fun d => d.node == s.node && d.die == b + 1

/-- The stream holds a slab on Bell b (R114). -/
def Stream.slabOn (st : Stream) (b : Nat) : Bool := (st.slabs ++ st.copySlabs).any fun r => r.2.bell == b

/-- A part that fails with BRANCH_LOST (R114, R115): a speculative RUN not complete, or a COMMIT whose copy can still be rolled back. -/
def Part.branchLost (p : Part) (lost : Nat → Bool) (commit : Nat → Bool) : Part :=
  if p.phase = .reported then p
  else if p.wo.type = 1 ∧ p.wo.spec ∧ lost p.wo.stream then { p.fail 6 0 0 with phase := .ended, bells := [] }
  else if p.wo.type = 2 ∧ commit p.wo.stream then { p.fail 6 0 0 with phase := .ended }
  else p

/-- The streams that satisfy a condition lose their branches (R114, R115); the report of this device for a COMMIT that is undone changes with
it where this device is the home. -/
def State.loseBranches (s : State) (which : Stream → Bool) : State :=
  let hit := s.jrn.streams.filter which
  let lost (id : Nat) : Bool := hit.any fun st => st.id == id
  let undone (id : Nat) : Bool := hit.any fun st => st.id == id && st.copyFrom.isSome
  let own := s.jrn.own.map fun x =>
    if x.2.wo.type = 2 ∧ undone x.2.wo.stream ∧ x.2.comp.isEmpty then
      (x.1, { x.2 with reports := x.2.reports.map fun r => if r.node = s.node then { r with status := 6 } else r })
    else x
  { s with jrn := { s.jrn with own := own, parts := s.jrn.parts.map fun p => p.branchLost lost undone,
                               streams := s.jrn.streams.map fun st => if which st then st.loseBranches else st } }

/-- The accesses that a die has not finished complete with a status (R33, R300): reads of R113 that wait on it, and those handed to the partner of
its slot. -/
def State.endReads (s : State) (die status : Nat) : State :=
  let on (m : Msg) : Bool := bits (leAt m.body 0 8) 43 39 == die
  let hit := (s.trn.reads.map (·.msg)).filter on
  let given := (s.trn.handed.map (·.2)).filter on
  let s1 : State := { s with trn := { s.trn with reads := s.trn.reads.filter (fun r => !on r.msg), handed := s.trn.handed.filter fun h => !on h.2 } }
  let s2 : State := hit.foldl (fun t m => t.respond m status []) s1
  given.foldl (fun t m => let r := t.response m status []; (t.settle r).switchIn .ridge r) s2

/-- The status flags that an order's run on Bell b has raised (R72). -/
def State.runFlags (s : State) (b : Nat) (w : WorkOrder) : Nat :=
  orAll (((s.bell b).runs.filter fun r => r.stream == w.stream && r.seq == w.seq).map (·.flags))

/-- The work of a Bell that leaves service (R114, R188): started output areas become undefined, branches with a slab there are lost, and the orders
that used it complete with UNCORRECTABLE unless a re-map will run them again. -/
def State.bellWorkLost (s : State) (b : Nat) : State :=
  let s1 : State := (s.bell b).runs.foldl (fun t r => t.undefine b r.areas) s
  let s2 : State := s1.loseBranches fun st => st.slabOn b
  let parts := s2.jrn.parts.map fun p =>
    if p.phase = .running ∧ p.bells.contains b ∧ !s2.hasDelta b then
      let q := p.fail 10 0 (b + 1)
      { q with flags := q.flags ||| s.runFlags b p.wo, bells := p.bells.filter (· != b) }
    else p
  { s2 with jrn := { s2.jrn with parts := parts } }

/-- The epochs of a crossing increased (R299). -/
def crossEpoch (c : Nat) : Nat := if c < 8 then R.SEAM_EPOCH c else R.UCI_EPOCH (c - 8)
def State.epochUp (s : State) (c : Nat) (ridge die : Bool) : State :=
  let s1 : State := if ridge then s.setFld (crossEpoch c) ⟨7, 0⟩ ((s.fld (crossEpoch c) ⟨7, 0⟩ + 1) % 256) else s
  if die then s1.setFld (crossEpoch c) ⟨15, 8⟩ ((s1.fld (crossEpoch c) ⟨15, 8⟩ + 1) % 256) else s1

/-- The register window of Bell b held on the Bell (R37). -/
def bellWindow (b a : Nat) : Bool := inWindow (0x300000 + 0x10000 * b) 0xC000 a || inWindow (0x30E000 + 0x10000 * b) 0x2000 a

/-- A die reset of Bell b (R51, R416): its registers of domain DIE, its runs and queues; DRAM and poison marks are kept. The Bell stays in
reset until BELL_RESET_RELEASE, and its side of the crossing takes a new epoch (R299). -/
def State.bellReset (s : State) (b : Nat) : State :=
  let s1 : State := (s.bellWorkLost b).stuffLost b
  let s2 : State := s1.resetRegs .die (bellWindow b)
  let x := s2.bell b
  let s3 : State := s2.setBell b { x with inReset := true, runs := [], queue := [], held := [] }
  let s4 : State := if x.initPending then s3 else s3.setFld (R.BEL_STAT b) F.BEL_STAT_DRAM_INIT_DONE 1
  let s5 : State := (s4.setBellLive b false).epochUp b false true
  let cr := s5.crossing b
  ((s5.setCrossing b { cr with die := { peer := cr.die.peer }, armed := false }).endReads (b + 1) 7).resetRecord 3 0xFF (b + 1)

/-- The twelve domains of a Bell switched off (R42). -/
def State.bellOff (s : State) (b : Nat) : State := (List.range 12).foldl (fun t n => t.setDom (domBell b n) 3) s

/-- The Seam PHY pair of a Bell stays on while either Bell of the pair is live (R42). -/
def State.pairOff (s : State) (b : Nat) : State :=
  if s.bellLive (b / 2 * 2) ∨ s.bellLive (b / 2 * 2 + 1) then s else s.setDom (20 + b / 2) 3

/-- Bell b is retired (R33): not live, held in die reset, switched off, recorded; waiting reads of it are UNCORRECTABLE, streams with
committed entries in an unmirrored pool on it are lost (R100), and the collective instances of its clusters end with cause 0x02 (R139), unless a
re-map will supersede them (R188). -/
def State.retireBell (s : State) (b src : Nat) : State :=
  if (s.bell b).retired then s
  else
    let s0 : State := if s.hasDelta b then s else s.abortDie (b + 1)
    let s1 : State := (s0.endReads (b + 1) 0x14).bellReset b
    let s2 : State := s1.onBell b fun x => { x with retired := true, moeWait := [] }
    let bare := (s2.img.pools.filter fun p => p.bell == b && !p.isMirror && !p.mirrored).map (·.pool)
    let streams := s2.jrn.streams.map fun st =>
      { st with lost := st.lost || st.pages.any fun r => r.bell == b && bare.contains r.pool }
    let s3 : State := { s2 with jrn := { s2.jrn with streams := streams } }
    ((s3.bellOff b).pairOff b).dryEvent 8 (b + 1) (le 1 (b + 1) ++ le 2 src)

/-- The crosstalk rows of Canopy k that the Dry bag holds (R249). -/
def State.savedXt (s : State) (k : Nat) : SMap (Option (List (Nat × Int))) :=
  (s.dry.xt.filter fun e => e.1 == k).foldl (fun m e => SMap.set (fun _ => none) m e.2.1 (some e.2.2)) []

/-- The matrix and the gains as a reset of domain DIE leaves them (R17, R249, R284): the factory's, the matrix refined from the Dry bag. -/
def CanopySt.refit (c : CanopySt) (xt : SMap (Option (List (Nat × Int)))) : CanopySt := { c with xt := xt, gain := [], xtMoved := [] }

/-- A Canopy's rings lose their lock, and its windows, queue and light end (R245, R416). Retired rings stay so, and calibration records are
kept. -/
def CanopySt.drop (c : CanopySt) : CanopySt :=
  { c with rings := c.rings.map fun e => (e.1, if e.2.st = 5 then e.2 else { e.2 with st := 0, line := 0, held := false, tries := 0 }),
           queue := [], wins := [], dark := [], misses := [] }

/-- A die reset of the die in slot k (R185, R299, R416): its registers, its ports and its flaps' power go; discovery runs again (R305). -/
def State.slotReset (s : State) (k : Nat) : State :=
  let s1 : State := if (s.slot k).occ = .canopy then (List.range 4).foldl (fun t q => t.linkReset (4 * k + q)) s else s
  let s2 : State := (s1.resetRegs .die (inWindow (0x200000 + 0x10000 * k) 0x10000)).modCanopy k fun c => c.drop.refit (s1.savedXt k)
  let s3 : State := (s2.setSlot k { s2.slot k with inReset := true }).setSlotLive k false
  let cr := s3.crossing (8 + k)
  ((((s3.setFld (R.UCI_STAT k) F.UCI_STAT_STATE 0).setCrossing (8 + k) { cr with die := { peer := cr.die.peer }, armed := false }).epochUp
    (8 + k) false true).endReads (9 + k) 7).resetRecord 3 0xFF (9 + k)

/-- The die in slot k is retired (R33, R363): its ports go down (R239). -/
def State.retireSlot (s : State) (k src : Nat) : State :=
  if (s.slot k).retired then s
  else
    let s1 : State := (s.endReads (9 + k) 0x14).slotReset k
    (s1.setSlot k { s1.slot k with retired := true }).dryEvent 8 (9 + k) (le 1 (9 + k) ++ le 2 src)

end Sys2Proof.Machine
end

