-- ==== Sys2Proof/Machine/Seam.lean ====
section
/-!
DEFINITION. Seam links (R285 to R298): flits and retry, markers, lane failures and spares, calibration, training, and what the crossings' re-arm
needs of them. Direction 0 is Ridge to Bell, direction 1 Bell to Ridge.
-/

namespace Sys2Proof.Machine

open Sys2Proof

/-- One direction of a Seam link, and its part replaced. -/
def State.seamDir (s : State) (b d : Nat) : SeamDir := if d = 0 then (s.seam b).d0 else (s.seam b).d1
def State.setSeamDir (s : State) (b d : Nat) (v : SeamDir) : State :=
  s.setSeam b (if d = 0 then { s.seam b with d0 := v } else { s.seam b with d1 := v })
def State.modSeamDir (s : State) (b d : Nat) (f : SeamDir → SeamDir) : State := s.setSeamDir b d (f (s.seamDir b d))
def State.modSeam (s : State) (b : Nat) (f : SeamSt → SeamSt) : State := s.setSeam b (f (s.seam b))

/-- SEAM_STAT.STATE: 0 DOWN, 1 TEST, 2 ALIGN, 3 ACTIVE, 4 HELD. -/
def State.seamState (s : State) (b : Nat) : Nat := s.fld (R.SEAM_STAT b) F.SEAM_STAT_STATE
def State.setSeamState (s : State) (b v : Nat) : State :=
  (((s.setFld (R.SEAM_STAT b) F.SEAM_STAT_STATE v).setFld (R.SEAM_B_STAT b) F.SEAM_B_STAT_STATE v)).modSeam b fun x => { x with since := s.now }

/-- W in force (R286), shown on both sides. -/
def State.seamW (s : State) (b : Nat) : Nat := s.fld (R.SEAM_STAT b) F.SEAM_STAT_WIDTH
def State.setSeamW (s : State) (b w : Nat) : State :=
  (s.setFld (R.SEAM_STAT b) F.SEAM_STAT_WIDTH w).setFld (R.SEAM_B_STAT b) F.SEAM_B_STAT_WIDTH w

/-- SEAM_BAD of a direction: the bad lanes. -/
def SeamSt.bad (x : SeamSt) (d : Nat) : List Nat := if d = 0 then x.bad0 else x.bad1
def State.seamBad (s : State) (b d : Nat) (lanes : List Nat) : State :=
  s.modSeam b fun x => if d = 0 then { x with bad0 := (x.bad0 ++ lanes).eraseDups } else { x with bad1 := (x.bad1 ++ lanes).eraseDups }

/-- Good logical lanes of a direction in ascending order, and the free spares (R291). -/
def State.goodLanes (s : State) (b d : Nat) : List Nat := (List.range 68).filter fun l => !((s.seam b).bad d).contains l
def State.seamSpares (s : State) (b d : Nat) : List Nat :=
  let x := s.seamDir b d
  (s.goodLanes b d).filter fun l => !x.map.contains l && !(x.marks.map (·.2.2)).contains l

/-- SEAM_STAT.SPARE_RTX and SPARE_BTX. -/
def State.noteSpares (s : State) (b : Nat) : State :=
  (s.setFld (R.SEAM_STAT b) F.SEAM_STAT_SPARE_RTX (s.seamSpares b 0).length).setFld (R.SEAM_STAT b) F.SEAM_STAT_SPARE_BTX (s.seamSpares b 1).length

/-- A Seam source (R309): 0 lane failed, 1 half width, 2 held, 3 calibration overdue. -/
def State.seamFault (s : State) (b n : Nat) (detail : List Byte) : State := s.pulse (srcSeam b n) (le 1 b ++ detail)

/-- A control message of 16 bytes (R290), queued for the transmitter of a direction. -/
def seamMsg (ctype : Nat) (body : List Byte) : List Byte := le 1 ctype ++ le 1 16 ++ fit 14 body
def State.sendSeam (s : State) (b d : Nat) (m : List Byte) : State := s.modSeamDir b d fun x => { x with ctl := x.ctl ++ [m] }

/-- The epoch that the sender of a direction stands in, as the Ridge holds it (R299). -/
def State.epochOf (s : State) (c : Nat) (die : Bool) : Nat := s.fld (crossEpoch c) (if die then ⟨15, 8⟩ else ⟨7, 0⟩)
def State.sideEpoch (s : State) (b d : Nat) : Nat := s.epochOf b (d == 1)

/-- The replay ignore window and the delays of R289, in ns. -/
def seamRtt : Nat := 60

/-- A retrain (R297): replay buffers and sequence numbers kept, the cause recorded, and on to TEST. The far side is told by RETRAIN_REQ unless it
asked. -/
def State.seamRetrain (s : State) (b cause : Nat) (frm : Option Nat) : State :=
  if s.seamState b = 3 then
    let s1 : State := s.capture (R.SEAM_RETRAIN_LAST b) cause
    let s2 : State := if cause = 5 then s1 else s1.sendSeam b (frm.getD 0) (seamMsg 6 (le 1 cause))
    let keep (x : SeamDir) : SeamDir := { x with chunks := [], marks := [], badMark := [], okMark := [], calUse := none, calAsk := none, bad := 0 }
    let s3 : State := s2.modSeam b fun x => { x with d0 := keep x.d0, d1 := keep x.d1 }
    s3.setSeamState b 1
  else s

/-- The next data of the transmitter of a direction: a running replay, then CTRL, then DATA, then IDLE (R289). No DATA flit leaves while a re-arm
is in progress (R301), and the replay buffer holds 256 flits. -/
def State.pickSeam (s : State) (b d : Nat) (readErr : Bool) : State :=
  let x := s.seamDir b d
  let header (type seq : Nat) : Nat :=
    let r := (s.seamDir b (1 - d)).rx
    type + 4 * seq + 2 ^ 14 * ((r.exp + 4095) % 4096) + 2 ^ 26 * b2n r.nakDue + 2 ^ 32 * s.sideEpoch b d
  let put (t : State) (type seq : Nat) (payload : List Byte) : State :=
    let f := le 8 (header type seq) ++ fit 240 payload
    let t1 : State := t.modSeamDir b (1 - d) fun y => { y with rx := if y.rx.nakDue then { y.rx with nakDue := false, nakAt := some s.now } else y.rx }
    t1.modSeamDir b d fun y => { y with chunks := y.chunks ++ f ++ le 8 (crc64 f) }
  let send (type : Nat) (payload : List Byte) (t : State) : State :=
    let h : Held := { seq := x.tx.next, vc := type, payload := payload }
    put (t.modSeamDir b d fun y => { y with tx := y.tx.hold h 4096 s.now }) type h.seq payload
  match x.tx.replayNext with
  | some h =>
    if readErr then s.seamRetrain b 1 (some d)
    else
      let first := x.tx.held.head?.any fun k => k.seq == h.seq
      let s1 : State := s.setSeamDir b d { x with tx := x.tx.resent h.seq 4096 s.now, resends := if first then x.resends + 1 else x.resends }
      put (if d = 0 then s1.bump (R.SEAM_REPLAY_CNT b) else s1) h.vc h.seq h.payload
  | none =>
    if !x.ctl.isEmpty ∧ x.tx.held.length < 256 then
      send 2 ((x.ctl.take 15).flatMap (fit 16)) (s.setSeamDir b d { x with ctl := x.ctl.drop 15 })
    else if !x.noc.isEmpty ∧ x.tx.held.length < 256 ∧ (s.crossing b).armed then
      send 1 (x.noc.headD []) (s.setSeamDir b d { x with noc := x.noc.drop 1 })
    else put s 0 0 []

/-- The load of a lane's scrambler (R285). -/
def seamLoad (b lane : Nat) : Nat := 0x20000000 + 0x100 * b + lane

/-- A marker is due: the 4,096th interval since the last, the 64th in ALIGN, or a planned SWITCH (R288, R291, R297). -/
def State.seamMarkDue (s : State) (b d : Nat) : Bool :=
  let x := s.seamDir b d
  (s.seamState b == 3 && (decide (x.markAt + 4096 ≤ x.iv) || x.marks.any fun m => decide (m.1 ≤ x.iv))) ||
    (s.seamState b == 2 && decide (x.markAt + 64 ≤ x.iv))

/-- A flit interval of one direction (R285, R286, R289): the W flit lanes carry four bytes each and free spares scrambled zeros; in ALIGN the
interval passes between markers. -/
def State.seamInterval (s : State) (b d : Nat) (readErr : Bool) : State :=
  if s.seamMarkDue b d then s
  else if s.seamState b = 2 then s.modSeamDir b d fun x => { x with iv := x.iv + 1 }
  else if s.seamState b ≠ 3 then s
  else
    let w := s.seamW b
    let s1 : State := if (s.seamDir b d).chunks.length < 4 * w then s.pickSeam b d readErr else s
    if s1.seamState b ≠ 3 then s1
    else
      let x := s1.seamDir b d
      let load (l : Nat) : Nat := seamLoad b l
      let lanes := (List.range w).map (fun f => (x.map.getD f 0, (x.chunks.drop (4 * f)).take 4)) ++ (s1.seamSpares b d).map fun l => (l, zeros 4)
      let out := lanes.map fun y => (y.1, scrambleBytes 4 (SMap.get load x.scr y.1) y.2)
      let scr := out.foldl (fun m y => SMap.set load m y.1 y.2.2) x.scr
      (s1.setSeamDir b d { x with iv := x.iv + 1, scr := scr, chunks := x.chunks.drop (4 * w) }).emit (.seam b d (out.map fun y => (y.1, y.2.1)))

/-- FLIT_INTERVAL (R217, R286, R289): one flit interval of a ZLL link or of one direction of a Seam link. `readErr` says that the replay entry read
is uncorrectable (R216). -/
def execFlitInterval (link : LinkId) (readErr : Bool) (s : State) : Host.Outcome State Fault Refusal :=
  match link with
  | .port p => .next (s.live fun s => s.dataInterval p.val readErr)
  | .seam b fromBell => .next (s.live fun s => s.seamInterval b.val (b2n fromBell) readErr)

/-- The 64-bit marker word of a lane (R288). -/
def State.seamWord (s : State) (b d flane sw : Nat) : Nat :=
  let v := 0xB3C5 + 2 ^ 16 * flane + 2 ^ 23 * s.seamW b + 2 ^ 30 * sw + 2 ^ 32 * s.sideEpoch b d + 2 ^ 40 * (s.seamDir b d).mcount
  v + 2 ^ 48 * crc16 (le 6 v)

/-- The flit lane a logical lane carries; 0x7E for a free spare. -/
def flaneOf (m : List Nat) (lane : Nat) : Nat := (m.idxOf? lane).getD 0x7E

/-- Go-back-N restarts from the most recent NAK after a SWITCH (R228, R292). -/
def SeamDir.replayNak (x : SeamDir) : SeamDir :=
  { x with tx := x.lastNak.elim x.tx (x.tx.replayFrom · 4096) }

/-- R288, R291 to R294: the planned SWITCH markers that are due move their lanes of direction d; every good lane carries its marker word, and the
scramblers are loaded. -/
def State.seamMarkers (s : State) (b d : Nat) : State :=
  let x := s.seamDir b d
  let due := x.marks.filter fun m => decide (m.1 ≤ x.iv)
  let map := due.foldl (fun m k => setAt m k.2.1 k.2.2) x.map
  let x1 := { x with map := map, marks := x.marks.filter (fun m => !decide (m.1 ≤ x.iv)), iv := x.iv + 2, markAt := x.iv, scr := [],
                     mcount := (x.mcount + 1) % 256 }
  let s1 : State := s.setSeamDir b d (if due.isEmpty then x1 else x1.replayNak)
  let s2 : State := due.foldl (fun t k => (t.bump (R.SEAM_SWITCH_CNT b)).sparing (1 + b) (32 + b) d k.2.1 (x.map.getD k.2.1 0) k.2.2 (s.seamW b) 2) s1
  let sw := b2n (!due.isEmpty)
  (s2.emit (.seam b d ((s2.goodLanes b d).map fun l => (l, le 8 (s.seamWord b d (flaneOf map l) sw))))).noteSpares b

/-- SEAM_MARKER (R288, R291 to R294): the planned SWITCH markers that are due move their lanes; every good lane carries its marker word and the
scramblers are loaded. -/
def execSeamMarker (b : Fin 8) (fromBell : Bool) (s : State) : Host.Outcome State Fault Refusal :=
  .next (s.live fun s => if !s.seamMarkDue b.val (b2n fromBell) then s else s.seamMarkers b.val (b2n fromBell))

/-- A SWITCH of a flit lane planned at least 8 intervals from now (R292). -/
def State.planSeam (s : State) (b d f lane : Nat) : State :=
  s.modSeamDir b d fun x => { x with marks := x.marks ++ [(x.iv + 8, f, lane)] }

/-- The lowest-numbered free spare takes flit lane f, or the link retrains with cause LANE (R292). -/
def State.seamSpare (s : State) (b d f : Nat) : State :=
  match s.seamSpares b d with
  | sp :: _ => (s.planSeam b d f sp).noteSpares b
  | [] => s.seamRetrain b 3 (some d)

/-- The transmitter's action on the failure of a lane (R292, R295): a calibration window on the lane, or one that holds the last free spare, is
abandoned without being counted and queued again. -/
def State.loseSeamLane (s : State) (b d lane : Nat) : State :=
  let x := s.seamDir b d
  match x.map.idxOf? lane with
  | none => (s.setSeamDir b d { x with calUse := if x.calUse.any (fun c => c.2.1 == lane) then none else x.calUse }).noteSpares b
  | some f =>
    match s.seamSpares b d, x.calUse with
    | [], some c =>
      let home : Bool := !((s.seam b).bad d).contains c.2.1
      if home ∧ c.1 < 64 ∧ c.2.1 ≠ lane ∧ c.2.2 ≠ lane then
        let s1 : State := s.setSeamDir b d { x with calUse := none, calAsk := none, calQ := (x.calQ ++ [c.2.1]).eraseDups }
        ((s1.planSeam b d c.1 c.2.1).planSeam b d f c.2.2).noteSpares b
      else (s.setSeamDir b d { x with calUse := none, calAsk := none, calQ := (x.calQ ++ [c.2.1]).eraseDups }).seamSpare b d f
    | _, _ => s.seamSpare b d f

/-- A message of a Seam link taken up by its command, on an ACTIVE link (R290); a message of another layout is discarded. -/
def State.seamRow (s : State) (b d ctype : Nat) (m : List Byte) (k : State → State) : State :=
  s.live fun s =>
    if s.seamState b = 3 ∧ m.length = 16 ∧ leAt m 0 1 = ctype ∧ leAt m 1 1 = 16 then
      k (s.modSeamDir b d fun x => { x with cin := x.cin.erase m })
    else s

/-- The direction of a message by its receiver. -/
def dirOf (toBell : Bool) : Nat := if toBell then 0 else 1

/-- SEAM_LANE_FAIL (R292): the far receiver lost a lane of the opposite direction; the Ridge records it in SEAM_BAD. -/
def execSeamLaneFail (b : Fin 8) (toBell : Bool) (msg : List Byte) (s : State) : Host.Outcome State Fault Refusal :=
  let d := dirOf toBell
  .next (s.seamRow b.val d 1 msg fun s =>
    let lane := leAt msg 2 1
    if 67 < lane then s else (s.seamBad b.val (1 - d) [lane]).loseSeamLane b.val (1 - d) lane)

/-- A receive lane of direction d fails in service (R292): out of service, in SEAM_BAD, the source, and LANE_FAIL the other way. A failure in ALIGN
is a width disagreement's cause (R297). -/
def State.seamLaneFails (s : State) (b d lane cause : Nat) : State :=
  if s.seamState b ≠ 3 ∨ ((s.seam b).bad d).contains lane then s
  else
    let s1 : State := (s.seamBad b d [lane]).seamFault b 0 (le 1 d ++ le 1 lane ++ le 1 cause)
    let s2 : State := s1.modSeamDir b d fun x => { x with badMark := x.badMark.filter (· != lane) }
    (s2.noteSpares b).sendSeam b (1 - d) (seamMsg 1 (le 1 lane ++ le 1 cause))

/-- The Seam link enters HELD with a cause (R297); SEAM_HELD retires the Bell (R298). -/
def State.seamHold (s : State) (b cause : Nat) : State := (s.setSeamState b 4).setFld (R.SEAM_STAT b) F.SEAM_STAT_HELD_CAUSE cause

/-- A width disagreement or a lost lane in ALIGN (R297): the third in a row holds the link with cause WIDTH; otherwise TEST again, with SEAM_BAD
kept. -/
def State.widthFail (s : State) (b : Nat) : State :=
  let n := s.fld (R.SEAM_WIDTH_FAIL b) F.SEAM_WIDTH_FAIL_CONSEC
  let s1 : State := s.addFld (R.SEAM_WIDTH_FAIL b) F.SEAM_WIDTH_FAIL_TOTAL 1
  if n = 2 then s1.seamHold b 2
  else
    let s2 : State := s1.setFld (R.SEAM_WIDTH_FAIL b) F.SEAM_WIDTH_FAIL_CONSEC (n + 1)
    (s2.modSeam b fun x => { x with d0 := { x.d0 with map := [], rmap := [], okMark := [] }, d1 := { x.d1 with map := [], rmap := [], okMark := [] } }).setSeamState b 1

/-- SEAM_LANE_FAILURE_DETECT (R292, R297): clock-recovery loss (0), two markers (1) or error rate (2) on a receive lane of a direction. -/
def execSeamLaneFailureDetect (b : Fin 8) (toBell : Bool) (lane : Fin 68) (cause : Fin 3) (s : State) : Host.Outcome State Fault Refusal :=
  .next (s.live fun s =>
    if s.seamState b.val = 2 then (if (s.seamDir b.val (dirOf toBell)).map.contains lane.val then s.widthFail b.val else s)
    else s.seamLaneFails b.val (dirOf toBell) lane.val cause.val)

/-- The record key of a lane and direction, and the record. -/
def laneKey (d lane : Nat) : Nat := 68 * d + lane
def State.seamLane (s : State) (b d lane : Nat) : SeamLane := SMap.get (fun _ => {}) (s.seam b).lanes (laneKey d lane)
def State.setSeamLane (s : State) (b d lane : Nat) (v : SeamLane) : State :=
  s.modSeam b fun x => { x with lanes := SMap.set (fun _ => {}) x.lanes (laneKey d lane) v }

/-- The sensor of a lane (R295): on the Bell side the nearest of logical sensors 40 to 43, on the Ridge side that of the PHY pair (R348). -/
def seamSensor (b d lane : Nat) : Nat := if d = 0 then 64 + 48 * b + 40 + (Config.seamSensor lane).val else 32 + b / 2

/-- A lane's completed calibration recorded (R296). -/
def State.calSeam (s : State) (b d lane phase vref swing : Nat) : State :=
  let r := s.seamLane b d lane
  let s1 : State := s.setSeamLane b d lane
    { phase := phase % 128, vref := vref % 256, swing := swing % 16, cnt := min (r.cnt + 1) (2 ^ 32 - 1), ftc := s.ftc, wall := s.wall / 1000000000,
      temp := s.rawTemp (seamSensor b d lane) }
  let move := Nat.max (phase - r.phase) (r.phase - phase)
  s1.modSeam b fun x => { x with hourCals := x.hourCals + 1, hourMove := max x.hourMove move }

/-- The receiver of a direction asks for the lane at the front of its queue (R294), one window at a time. -/
def State.askCal (s : State) (b d : Nat) : State :=
  let x := s.seamDir b d
  match x.calAsk, x.calQ with
  | none, lane :: rest =>
    if s.seamState b = 3 then (s.setSeamDir b d { x with calQ := rest, calAsk := some lane }).sendSeam b (1 - d) (seamMsg 2 (le 1 lane)) else s
  | _, _ => s

/-- A lane queued for calibration (R295): once, first in, first out; a bad lane is not calibrated. -/
def State.queueSeam (s : State) (b d lane : Nat) : State :=
  let x := s.seamDir b d
  if x.calQ.contains lane ∨ x.calAsk = some lane ∨ ((s.seam b).bad d).contains lane then s
  else (s.setSeamDir b d { x with calQ := x.calQ ++ [lane] }).askCal b d

/-- The transmitter moves the asked lane to a free spare (R294, R295), or the calibration waits with CAL_DEFER. A lane that carries nothing needs no
SWITCH. -/
def State.moveForCal (s : State) (b d lane : Nat) : State :=
  let x := s.seamDir b d
  match x.map.idxOf? lane with
  | none => s.setSeamDir b d { x with calUse := some (127, lane, lane), waitAt := none }
  | some f =>
    match s.seamSpares b d with
    | sp :: _ =>
      ((s.setSeamDir b d { x with calUse := some (f, lane, sp), waitAt := none }).planSeam b d f sp).setFld (R.SEAM_STAT b) F.SEAM_STAT_CAL_DEFER 0
    | [] => (s.setSeamDir b d { x with waitAt := some (x.waitAt.getD (s.now, false)) }).setFld (R.SEAM_STAT b) F.SEAM_STAT_CAL_DEFER 1

/-- SEAM_CAL_REQ (R294). -/
def execSeamCalReq (b : Fin 8) (toBell : Bool) (msg : List Byte) (s : State) : Host.Outcome State Fault Refusal :=
  let d := dirOf toBell
  .next (s.seamRow b.val d 2 msg fun s =>
    let lane := leAt msg 2 1
    if 67 < lane ∨ (s.seamDir b.val (1 - d)).calUse.isSome then s
    else (s.modSeamDir b.val (1 - d) fun x => { x with calAsk := some lane }).moveForCal b.val (1 - d) lane)

/-- A free spare lets a waiting calibration begin (R295). -/
def State.retryCal (s : State) (b d : Nat) : State :=
  let x := s.seamDir b d
  match x.waitAt, x.calAsk with
  | some _, some lane => s.moveForCal b d lane
  | _, _ => s

/-- SEAM_CAL_DONE (R294, R296): the result is recorded, the lane moves back by SWITCH, and the next lane of the queue is asked for. -/
def execSeamCalDone (b : Fin 8) (toBell : Bool) (msg : List Byte) (s : State) : Host.Outcome State Fault Refusal :=
  let b := b.val
  let d := dirOf toBell
  let e := 1 - d
  .next (s.seamRow b d 3 msg fun s =>
    let lane := leAt msg 2 1
    match (s.seamDir b e).calUse with
    | some (f, home, _) =>
      if home = lane then
        let s1 : State := s.calSeam b e lane (leAt msg 4 2) (leAt msg 6 1) (s.seamLane b e lane).swing
        let s2 : State := s1.modSeamDir b e fun x => { x with calUse := none, calAsk := none }
        let s3 : State := if f < 64 ∧ !((s2.seam b).bad e).contains lane then s2.planSeam b e f lane else s2
        ((s3.noteSpares b).askCal b e).retryCal b e
      else s
    | none => s)

/-- R295: a calibration of direction d that has waited 1 s for a spare is reported once. -/
def State.calWaitLate (s : State) (b d : Nat) : State :=
  match (s.seamDir b d).waitAt with
  | some (at_, false) =>
    if 1000000000 + at_ ≤ s.now then (s.modSeamDir b d fun x => { x with waitAt := some (at_, true) }).seamFault b 3 (le 1 d) else s
  | _ => s

/-- SEAM_CAL_WAIT_TIMEOUT (R295): a calibration that has waited 1 s for a spare raises source 3, once for that wait. -/
def execSeamCalWaitTimeout (b : Fin 8) (s : State) : Host.Outcome State Fault Refusal :=
  .next (s.live fun s => (s.calWaitLate b.val 0).calWaitLate b.val 1)

/-- SEAM_RETRAIN_REQ (R297): cause FAR. -/
def execSeamRetrainReq (b : Fin 8) (toBell : Bool) (msg : List Byte) (s : State) : Host.Outcome State Fault Refusal :=
  .next (s.seamRow b.val (dirOf toBell) 6 msg fun s => s.seamRetrain b.val 5 none)

/-- SEAM_RETRAIN (R297): cause COMMAND. -/
def State.seamCommand (s : State) (b : Nat) : State := s.live fun s => s.seamRetrain b 4 none
def execSeamRetrain (b : Fin 8) (s : State) : Host.Outcome State Fault Refusal := .next (s.seamCommand b.val)

/-- SEAM_CAL_ALL (R295). -/
def State.seamCalAll (s : State) (b : Nat) : State :=
  s.live fun s => [0, 1].foldl (fun t d => (List.range 68).foldl (fun u l => u.queueSeam b d l) t) s
def execSeamCalAll (b : Fin 8) (s : State) : Host.Outcome State Fault Refusal := .next (s.seamCalAll b.val)

/-- Lanes whose sensor has moved by more than CAL_DELTA since their last calibration, queued (R295). -/
def State.seamTemp (s : State) (b sensor : Nat) : State :=
  if s.seamState b ≠ 3 then s
  else [0, 1].foldl (fun t d => (List.range 68).foldl (fun u l =>
    if seamSensor b d l = sensor ∧ ((u.calDelta : Nat) : Int) < ((u.rawTemp sensor - (u.seamLane b d l).temp).natAbs : Int) then u.queueSeam b d l else u) t) s

/-- SEAM_TRAIN_START (R297): DOWN to TEST, with both PHY domains on, the Bell out of die reset and its straps good. -/
def execSeamTrainStart (b : Fin 8) (s : State) : Host.Outcome State Fault Refusal :=
  let x := s.bell b.val
  .next (s.live fun s =>
    if s.seamState b.val = 0 ∧ s.dom (20 + b.val / 2) = 0 ∧ s.dom (domBell b.val 1) = 0 ∧ !x.inReset ∧ !x.retired ∧ !x.strapFail ∧ !s.fastClock then
      (s.setSeamState b.val 1).emit (.prbs b.val)
    else s)

/-- The width that R291 gives. -/
def State.seamChoose (s : State) (b : Nat) : Nat :=
  let n := min (s.goodLanes b 0).length (s.goodLanes b 1).length
  if 64 ≤ n then 64 else if 32 ≤ n then 32 else 0

/-- R294: the lane map of direction d is its first W good lanes, and every good lane is calibrated. -/
def State.seamMap (s : State) (b w d : Nat) : State :=
  let m := (s.goodLanes b d).take w
  let t1 : State := s.modSeamDir b d fun x => { x with map := m, rmap := m, marks := [], chunks := [], scr := [], okMark := [], rxMc := 256, markAt := x.iv }
  (t1.goodLanes b d).foldl (fun u l =>
    let (p, u1) := u.freshNat
    let (v, u2) := u1.freshNat
    let (g, u3) := u2.freshNat
    u3.calSeam b d l p v g) t1

/-- R291, R297: the results of the lane test, exchanged; then ALIGN with the width they allow, or HELD. -/
def State.seamTested (s : State) (b : Nat) (badRtx badBtx : List Nat) : State :=
  let low (l : List Nat) : List Nat := l.filter (fun n => decide (n < 68))
  let s1 : State := (s.seamBad b 0 (low badRtx)).seamBad b 1 (low badBtx)
  let s2 : State := (s1.emit (.result b 0 (s1.seam b).bad0 [] 0)).emit (.result b 1 (s1.seam b).bad1 (s1.seam b).bad0 (s1.epochOf b true))
  let w := s2.seamChoose b
  if w = 0 then s2.seamHold b 1
  else ((((s2.seamMap b w 0).seamMap b w 1).setSeamW b w).setSeamState b 2).noteSpares b

/-- SEAM_TEST_DONE (R291, R294, R297): 4 µs of pattern and 1 µs of results; lanes that failed are added to SEAM_BAD, W and the lane map are set,
every good lane is calibrated, and markers follow in ALIGN. With fewer than 32 good lanes in a direction the link is held. -/
def execSeamTestDone (b : Fin 8) (badRtx badBtx : List Nat) (s : State) : Host.Outcome State Fault Refusal :=
  .next (s.live fun s =>
    if s.seamState b.val ≠ 1 ∨ s.now < (s.seam b.val).since + 5000 then s
    else s.seamTested b.val badRtx badBtx)

/-- The Ridge's view of a re-arm that begins: REARM_REQ each way (R301). A side is drained once its replay and link state are gone or idle. -/
def State.startRearm (s : State) (c : Nat) : State :=
  let x := s.crossing c
  let side (y : CrossSide) : CrossSide := { y with drained := true, sentAck := false, gotAck := false }
  let s1 : State := s.setCrossing c { x with ridge := side x.ridge, die := side x.die, armAt := some s.now, armed := false }
  let req (frm : Bool) : List Byte := seamMsg 4 (le 1 (s1.epochOf c frm) ++ le 1 (if frm then x.die.peer else x.ridge.peer) ++ le 1 1)
  if c < 8 then
    (((s1.setFld (R.SEAM_STAT c) F.SEAM_STAT_ARMED 0).setFld (R.SEAM_B_STAT c) F.SEAM_B_STAT_ARMED 0).setFld (R.SEAM_STAT c) F.SEAM_STAT_DRAINED 1).sendSeam
      c 0 (req false) |>.sendSeam c 1 (req true)
  else ((s1.setFld (R.UCI_STAT (c - 8)) F.UCI_STAT_STATE 3).emit (.sideband (c - 8) true (req false))).emit (.sideband (c - 8) false (req true))

/-- R297, R301: a direction after a retrain: what the peer has taken is dropped, and replay starts at the oldest flit still held. -/
def SeamDir.resumed (y : SeamDir) (now : Nat) : SeamDir :=
  let z := (y.tx.ackTo ((y.rx.exp + 4095) % 4096) 4096 now).2
  { y with tx := { z with replay := z.held.head?.map (·.seq), advAt := now, stalls := 0 }, resends := 0, bad := 0, ctl := y.ctl.filter (fun m => leAt m 0 1 != 6) }

/-- R301: a direction after a die or link reset: its sequence starts at 0 and nothing waits. -/
def SeamDir.anew (y : SeamDir) : SeamDir := { y with tx := {}, rx := {}, resends := 0, lastNak := none, bad := 0, ctl := [], cin := [] }

/-- R297, R301: the Seam link of Bell b goes ACTIVE: both directions resume or start anew, a link at 32 lanes reports its width, the Bell is live if
its DRAM needs no initialisation, and the crossing re-arms where a reset or an unarmed side asks for it. -/
def State.seamUp (s : State) (b : Nat) : State :=
  let x := s.seam b
  let s1 : State := (s.setSeamState b 3).setFld (R.SEAM_WIDTH_FAIL b) F.SEAM_WIDTH_FAIL_CONSEC 0
  let s2 : State := s1.modSeam b fun y =>
    if x.fresh then { y with d0 := y.d0.anew, d1 := y.d1.anew, fresh := false }
    else { y with d0 := y.d0.resumed s.now, d1 := y.d1.resumed s.now }
  let s3 : State := if s.seamW b = 32 then (s2.seamFault b 1 []).sparing (1 + b) (32 + b) 0 0xFF 0xFF 0xFF 32 3 else s2
  let s4 : State := if (s3.bell b).initPending then s3 else s3.setBellLive b true
  if x.fresh ∨ (s.crossing b).armAt.isSome ∨ (s.crossing b).ridge.peerIn ∨ (s.crossing b).die.peerIn ∨ !(s.crossing b).armed then s4.startRearm b else s4

/-- Two consecutive valid markers have come on every lane of both maps (R297). -/
def State.seamAligned (s : State) (b : Nat) : Bool :=
  [0, 1].all fun d => let x := s.seamDir b d; x.rmap.all fun l => decide (2 ≤ SMap.get (fun _ => 0) x.okMark l)

/-- SEAM_ALIGN_DONE (R293, R297, R301): two valid markers on every lane of the map and one WIDTH make the link ACTIVE, and otherwise the width
disagrees. After a retrain replay resumes from the peer's ACK; after a die or link reset the sequence starts at 0 and the crossing re-arms. -/
def execSeamAlignDone (b : Fin 8) (agree : Bool) (s : State) : Host.Outcome State Fault Refusal :=
  .next (s.live fun s =>
    if s.seamState b.val ≠ 2 then s
    else if !agree then s.widthFail b.val
    else if s.seamAligned b.val then s.seamUp b.val
    else s)

/-- SEAM_ALIGN_TIMEOUT (R297): 20 µs in ALIGN. -/
def execSeamAlignTimeout (b : Fin 8) (s : State) : Host.Outcome State Fault Refusal :=
  .next (s.live fun s => if s.seamState b.val = 2 ∧ 20000 + (s.seam b.val).since ≤ s.now then s.setSeamState b.val 1 else s)

/-- SEAM_HELD (R298): on entering HELD the Ridge retires the Bell, raises the Seam-held source and records the cause. -/
def execSeamHeld (b : Fin 8) (s : State) : Host.Outcome State Fault Refusal :=
  let b := b.val
  .next (if s.seamState b = 4 ∧ !(s.bell b).retired then
    let c := s.fld (R.SEAM_STAT b) F.SEAM_STAT_HELD_CAUSE
    let s1 : State := (s.seamFault b 2 (le 1 c)).retireBell b (srcSeam b 2)
    s1.setFld (R.SEAM_B_STAT b) F.SEAM_B_STAT_STATE 4
  else s)

/-- The link state of Seam link b dropped (R300): back to DOWN unless it is HELD. -/
def State.seamDrop (s : State) (b : Nat) : State :=
  if s.seamState b = 4 then s
  else
    let s1 : State := s.resetRegs .link (inWindow (R.SEAM_STAT b) 0x2000)
    (s1.modSeam b fun x => { x with d0 := {}, d1 := {}, fresh := true }).setSeamState b 0

/-- A good flit's ACK and NAK used (R213, R289): the sender of the other direction frees entries and goes back N. -/
def State.seamAck (s : State) (b d ack : Nat) (nak : Bool) : State :=
  let x := s.seamDir b d
  let (gone, y) := x.tx.ackTo ack 4096 s.now
  let x1 := { x with tx := y, resends := if gone.isEmpty then x.resends else 0 }
  let seq := (ack + 1) % 4096
  let s1 : State := s.setSeamDir b d x1
  if nak then
    match y.nak seq 4096 seamRtt s.now with
    | .proto => s1.seamRetrain b 1 (some d)
    | .ignore => s1.setSeamDir b d { x1 with lastNak := some seq }
    | .back =>
      if 8 ≤ x1.resends ∧ y.held.head?.any (fun h => h.seq == seq) then s1.seamRetrain b 1 (some d)
      else
        let r := if y.held.any (fun h => h.seq == seq) then some seq else y.replay
        s1.setSeamDir b d { x1 with tx := { y with replay := r }, lastNak := some seq }
  else s1

/-- A bad flit (R289): counted by the side that received it; a NAK; more than 64 within 1 µs retrain with ERR_RATE. -/
def State.seamBadFlit (s : State) (b d : Nat) : State :=
  let s1 : State := s.bump (if d = 0 then R.SEAM_B_CRC_ERR_CNT b else R.SEAM_CRC_ERR_CNT b)
  let x := s1.seamDir b d
  let fresh := decide (x.badAt + 1000 ≤ s.now)
  let n := if fresh then 1 else x.bad + 1
  let s2 : State := s1.setSeamDir b d { x with bad := n, badAt := if fresh then s.now else x.badAt, rx := x.rx.want }
  if 64 < n then s2.seamRetrain b 2 (some (1 - d)) else s2

/-- R211, R213, R289: a good flit of the current epoch, whose header is h: its ACK is taken, and its payload if it is the one awaited; a flit beyond
it asks for a resend. -/
def State.seamTake (s : State) (b d h : Nat) (payload : List Byte) : State :=
  let s1 : State := s.seamAck b (1 - d) (bits h 25 14) (bit h 26)
  let type := bits h 1 0
  let seq := bits h 13 2
  if s1.seamState b ≠ 3 ∨ (type ≠ 1 ∧ type ≠ 2) then s1
  else
    let x := s1.seamDir b d
    let e := x.rx.exp
    if seq = e then
      let s2 : State := s1.setSeamDir b d { x with rx := { exp := (e + 1) % 4096 } }
      if type = 1 then s2.emit (.noc b d payload)
      else
        let ms := ((List.range 15).map fun i => (payload.drop (16 * i)).take 16).filter fun m =>
          decide (1 ≤ leAt m 0 1) && decide (leAt m 0 1 ≤ 6) && leAt m 1 1 == 16
        s2.modSeamDir b d fun y => { y with cin := y.cin ++ ms }
    else if dist 4096 seq e ≤ 2047 then s1
    else s1.setSeamDir b d { x with rx := x.rx.want }

/-- A Seam flit's bytes put together from the lanes (R285, R286): word i stands on flit lane i mod W, descrambled with its lane's scrambler; the words of the
first `split` intervals came before the last marker. -/
def SeamDir.collect (x : SeamDir) (w split : Nat) (raw : List Byte) : List Byte × SeamDir :=
  (List.range 64).foldl (fun (a : List Byte × SeamDir) i =>
    let y := a.2
    let old := decide (i / w < split)
    let c := (raw.drop (4 * i)).take 4
    match (if old then y.rxOld else y.rmap)[i % w]? with
    | none => (a.1 ++ c, y)
    | some l =>
      let r := scrambleBytes 4 (SMap.get (fun _ => 0) (if old then y.rxPrev else y.rxScr) l) c
      (a.1 ++ r.1, if old then { y with rxPrev := SMap.set (fun _ => 0) y.rxPrev l r.2 } else { y with rxScr := SMap.set (fun _ => 0) y.rxScr l r.2 })) ([], x)

/-- SEAM_FLIT (R211, R213, R287, R289, R300, R301): a flit's 256 bytes as the lanes bring them, still scrambled, at the receiver of a direction. Bad flits and gaps ask for a resend; a flit
of a stale epoch is discarded once the crossing is armed; NoC units are delivered once and in order, and control messages wait for their
commands. -/
def execSeamFlit (b : Fin 8) (toBell : Bool) (raw : LineFlit) (s : State) : Host.Outcome State Fault Refusal :=
  let b := b.val
  let d := dirOf toBell
  .next (s.live fun s0 =>
    let r := (s0.seamDir b d).collect (s0.seamW b) raw.split (fit 256 raw.bytes)
    let flit := r.1
    let s : State := s0.setSeamDir b d r.2
    if s0.seamState b ≠ 3 then s0
    else if leAt flit 248 8 ≠ crc64 (flit.take 248) then s.seamBadFlit b d
    else if (s.crossing b).armed ∧ bits (leAt flit 0 8) 39 32 ≠ s.sideEpoch b d then s
    else s.seamTake b d (leAt flit 0 8) ((flit.drop 8).take 240))

/-- SEAM_REPLAY_TIMEOUT (R213, R289): ACK has not advanced for 200 ns while flits are unacknowledged; the oldest is replayed. A flit resent 8
times without being accepted retrains the link with cause ERR. -/
def execSeamReplayTimeout (b : Fin 8) (fromBell : Bool) (s : State) : Host.Outcome State Fault Refusal :=
  let b := b.val
  let d := b2n fromBell
  .next (s.live fun s =>
    let x := s.seamDir b d
    if s.seamState b = 3 ∧ !x.tx.held.isEmpty ∧ x.tx.advAt + 200 ≤ s.now ∧ x.tx.replay ≠ some x.tx.oldest then
      if 8 ≤ x.resends then s.seamRetrain b 1 (some d)
      else s.setSeamDir b d { x with tx := { x.tx with replay := x.tx.held.head?.map (·.seq), advAt := s.now } }
    else s)

/-- R288: a marker word that carries the pattern and a matching CRC. -/
def markerWordOk (w : Nat) : Bool := bits w 15 0 == 0xB3C5 && bits w 63 48 == crc16 (le 6 (w % 2 ^ 48))

/-- R292, R297: a bad marker word on a lane; the second in a row on a lane in service fails it, and in ALIGN on a lane of the map disagrees. -/
def State.seamMarkerBad (s : State) (b d lane : Nat) : State :=
  let x := s.seamDir b d
  if s.seamState b = 3 ∧ x.badMark.contains lane then s.seamLaneFails b d lane 1
  else if s.seamState b = 2 ∧ x.badMark.contains lane ∧ x.rmap.contains lane then s.widthFail b
  else s.setSeamDir b d { x with badMark := (x.badMark ++ [lane]).eraseDups, okMark := SMap.set (fun _ => 0) x.okMark lane 0 }

/-- R285, R288, R293, R297: a good marker word w on a lane: the scrambler is loaded and the peer's epoch taken; in ALIGN its width and flit lane are compared;
a SWITCH moves the flit lane at the receiver and repeats an outstanding NAK, once for its interval. -/
def State.seamMarkerGood (s : State) (b d lane w : Nat) : State :=
  let x := s.seamDir b d
  let f := bits w 22 16
  let n := SMap.get (fun _ => 0) x.okMark lane
  let mc := bits w 47 40
  let x0 := if x.rxMc = mc then x else { x with rxMc := mc, rxPrev := x.rxScr, rxOld := x.rmap, rx := if x.rx.nakAt.isSome ∧ bit w 30 then { x.rx with nakDue := true } else x.rx }
  let x1 := { x0 with badMark := x.badMark.filter (· != lane), okMark := SMap.set (fun _ => 0) x.okMark lane (min 2 (n + 1)),
                      rxScr := SMap.set (fun _ => 0) x0.rxScr lane (seamLoad b lane) }
  let cr := s.crossing b
  let ep := bits w 39 32
  let s1 : State := (s.setSeamDir b d x1).setCrossing b
    (if d = 0 then { cr with die := { cr.die with peer := ep } } else { cr with ridge := { cr.ridge with peer := ep } })
  if s.seamState b = 2 then (if bits w 29 23 ≠ s.seamW b ∨ f ≠ flaneOf x.rmap lane then s1.widthFail b else s1)
  else if bit w 30 then s1.setSeamDir b d { x1 with rmap := if f < 64 then setAt x.rmap f lane else x.rmap }
  else s1

/-- SEAM_MARKER_RECEIVE (R288, R292, R297): a marker word on a lane. One that fails its CRC is ignored, and the second in a row on a lane fails the
lane in service. A SWITCH moves the flit lane at the receiver, which repeats an outstanding NAK; a WIDTH other than its own is a
disagreement in ALIGN; the peer's epoch is taken. -/
def execSeamMarkerReceive (b : Fin 8) (toBell : Bool) (lane : Fin 68) (word : BitVec 64) (s : State) : Host.Outcome State Fault Refusal :=
  let b := b.val
  let d := dirOf toBell
  .next (s.live fun s =>
    if s.seamState b ≠ 2 ∧ s.seamState b ≠ 3 then s
    else if markerWordOk word.toNat then s.seamMarkerGood b d lane.val word.toNat
    else s.seamMarkerBad b d lane.val)

/-- SEAM_LANE_STAT of a lane (R310): 0 free spare, 1 carrying, 2 bad, 3 in a calibration window. -/
def State.seamLaneStat (s : State) (b d lane : Nat) : Word :=
  let x := s.seamDir b d
  let r := s.seamLane b d lane
  let st := if ((s.seam b).bad d).contains lane then 2 else if x.calUse.any (fun c => c.2.1 == lane) then 3 else if x.map.contains lane then 1 else 0
  BitVec.ofNat 32 (st + 4 * ((x.map.idxOf? lane).getD 127) + 2 ^ 9 * r.phase + 2 ^ 16 * r.vref + 2 ^ 24 * r.swing)

/-- SEAM_BADm of a direction (R310). -/
def State.seamBadWord (s : State) (b d m : Nat) : Word :=
  BitVec.ofNat 32 ((((s.seam b).bad d).filter fun l => l / 32 == m).foldl (fun n l => n + 2 ^ (l % 32)) 0)

end Sys2Proof.Machine
end

