-- ==== Sys2Proof/Machine/Sensors.lean ====
section
/-!
DEFINITION. The 608 thermal sensors (R348), broken sensors (R349) and the cross-check against neighbours (R350).
-/

namespace Sys2Proof.Machine

open Sys2Proof

/-- Classes of sensors (R348), as THM_DATA.CLASS numbers them. -/
def sensorClass (i : Nat) : Nat :=
  if i < 448 then 0
  else
    let j := (i - 448) % 20
    if j < 16 then 1 else if j < 18 then 2 else 0

/-- The die of a sensor (R8, R348), and the sensors of a die. -/
def sensorDie (i : Nat) : Nat := if i < 64 then 0 else if i < 448 then 1 + (i - 64) / 48 else 9 + (i - 448) / 20
def dieSensors (die : Nat) : List Nat :=
  if die = 0 then List.range 64
  else if die < 9 then (List.range 48).map (· + (64 + 48 * (die - 1)))
  else (List.range 20).map (· + (448 + 20 * (die - 9)))

/-- The native die coordinates of a sensor in 0.1 mm (R27): of a Bell's by its logical index; sensor 41 is at (+6.0, −7.5) mm. -/
def sensorPos (i : Nat) : Int × Int :=
  if 64 ≤ i ∧ i < 448 then (if (i - 64) % 48 = 41 then (60, -75) else Config.bellSensor ((i - 64) % 48)) else Config.otherSensor i

/-- A die's sensors are read (R348): those of the Ridge while the always-on domain has power, others while their control domain is on; never
those of a fused-off Bell. -/
def State.dieRead (s : State) (die : Nat) : Bool :=
  if die = 0 then s.pwr.aon
  else if die < 9 then s.fitted (die - 1) && s.dom (domBell (die - 1) 0) != 3
  else s.dom (domCan (die - 9) 0) != 3

/-- POLICY thresholds in 0.25 °C (R157, R351). -/
def State.jctWarn (s : State) : Int := 4 * (s.img.policy 0 1 105 : Nat)
def State.jctThrottle (s : State) : Int := 4 * (s.img.policy 1 1 115 : Nat)
def State.ringWarn (s : State) : Int := 4 * (s.img.policy 2 1 95 : Nat)
def State.ringThrottle (s : State) : Int := 4 * (s.img.policy 3 1 100 : Nat)

/-- The throttle threshold of a class (R349, R351). -/
def State.classThrottle (s : State) (c : Nat) : Int := if c = 1 then s.ringThrottle else s.jctThrottle
def State.classWarn (s : State) (c : Nat) : Int := if c = 1 then s.ringWarn else s.jctWarn

/-- What a bad sensor reads as: its class's throttle threshold plus 1 °C (R349). -/
def State.badTemp (s : State) (i : Nat) : Int := s.classThrottle (sensorClass i) + 4

/-- The reading of a sensor (R348, R349). -/
def State.temp (s : State) (i : Nat) : Int := if (s.sensor i).bad then s.badTemp i else s.rawTemp i

/-- The value that warning and throttle decisions use: the mean of the last four samples (R348). -/
def State.meanTemp (s : State) (i : Nat) : Int :=
  let x := s.sensor i
  if x.bad then s.badTemp i else if x.samples.isEmpty then -80 else x.samples.foldl (· + ·) 0 / (x.samples.length : Int)

/-- A sensor's record replaced. -/
def State.setSensor (s : State) (i : Nat) (v : Sensor) : State :=
  { s with pwr := { s.pwr with sens := SMap.set (fun _ => {}) s.pwr.sens i v } }

/-- A sensor marked bad with its cause (THM_DATA.CAUSE); the sensor-bad source is raised (R349). -/
def State.markBad (s : State) (i cause : Nat) : State :=
  let x := s.sensor i
  if x.bad then s else (s.setSensor i { x with bad := true, cause := cause, hot := 0 }).pulse 13 (le 2 i ++ le 1 cause)

/-- Insertion into a rising list, and the median of a list of readings (the mean of the middle two of an even number). -/
def insertInt (a : Int) : List Int → List Int
  | [] => [a]
  | b :: t => if a ≤ b then a :: b :: t else b :: insertInt a t
def median (l : List Int) : Option Int :=
  let r := l.foldr insertInt []
  let n := r.length
  if n = 0 then none
  else if n % 2 = 1 then some (r.getD (n / 2) 0)
  else some ((r.getD (n / 2 - 1) 0 + r.getD (n / 2) 0) / 2)

/-- Two sensors of one die within 6 mm of each other (R350). A rotation or reflection of the die keeps distances (R27). -/
def near (i j : Nat) : Bool :=
  let a := sensorPos i
  let b := sensorPos j
  decide ((a.1 - b.1) * (a.1 - b.1) + (a.2 - b.2) * (a.2 - b.2) ≤ 3600)

/-- The neighbours of a sensor (R350): the other sensors of its die within 6 mm, and with fewer than two every other sensor of the die. -/
def neighbours (i : Nat) : List Nat :=
  let all := (dieSensors (sensorDie i)).filter (· != i)
  let ns := all.filter (near i)
  if ns.length < 2 then all else ns

/-- A sensor passes its cross-check: within 6 °C of the median of its neighbours. A sensor that has given no sample takes no part. -/
def State.sensorAgrees (s : State) (i : Nat) : Bool :=
  let has (j : Nat) : Bool := !(s.sensor j).samples.isEmpty
  match median (((neighbours i).filter has).map s.rawTemp) with
  | some m => !has i || decide ((s.rawTemp i - m).natAbs ≤ 24)
  | none => true

/-- The sensors of a die that are marked bad. -/
def State.badOf (s : State) (die : Nat) : List Nat := (dieSensors die).filter fun i => (s.sensor i).bad

/-- The cross-check of a die (R350): a sensor that passes loses its mark and one that fails gains it. -/
def State.xcheck (s : State) (die : Nat) : State :=
  (dieSensors die).foldl (fun t i =>
    if s.sensorAgrees i then
      (if (t.sensor i).bad ∧ !(s.sensor i).samples.isEmpty then t.setSensor i { t.sensor i with bad := false, cause := 0 } else t)
    else t.markBad i 3) s

/-- More than a quarter of a die's sensors are bad (R350). -/
def State.sensorsLost (s : State) (die : Nat) : Bool := decide ((dieSensors die).length < 4 * (s.badOf die).length)

end Sys2Proof.Machine
end

