-- ==== Sys2Proof/Machine/Slots.lean ====
section
/-!
DEFINITION. Domain crossings: reset indications, epochs and re-arm (R299 to R302); Canopy slots (R303 to R306); the test access port (R307, R308).
-/

namespace Sys2Proof.Machine

open Sys2Proof

/-- One side of a crossing replaced. -/
def State.modSide (s : State) (c : Nat) (die : Bool) (f : CrossSide → CrossSide) : State :=
  let x := s.crossing c
  s.setCrossing c (if die then { x with die := f x.die } else { x with ridge := f x.ridge })

/-- The ports of a Canopy that its slot does not run go down (R304). -/
def State.slotPorts (s : State) (k : Nat) : State :=
  let n := s.fld (R.UCI_STAT k) F.UCI_STAT_PORTS
  (List.range 4).foldl (fun t q => if n ≤ q ∧ t.lnk (4 * k + q) ≠ 0 then t.linkReset (4 * k + q) else t) s

/-- The link state of slot k dropped: the LINK registers of its window, its ports, and its place among the live dies. -/
def State.slotDrop (s : State) (k : Nat) : State :=
  ((s.resetRegs .link (inWindow (R.UCI_STAT k) 0x10000)).setSlotLive k false).slotPorts k

/-- The other side of a crossing is seen in reset (R300): accesses to it are refused from now on, replay and link state are dropped, and this side
is drained. -/
def State.peerInReset (s : State) (c : Nat) (dieSide : Bool) : State :=
  let x := s.crossing c
  let s0 : State := s.setCrossing c { x with armed := false, armAt := none }
  let s1 : State := s0.modSide c (!dieSide) fun y => { y with peerIn := true, drained := true, sentAck := false, gotAck := false }
  if c < 8 then
    let s2 : State := s1.seamDrop c
    if dieSide then
      (((s2.setFld (R.SEAM_STAT c) F.SEAM_STAT_PEER_IN_RESET 1).setFld (R.SEAM_STAT c) F.SEAM_STAT_DRAINED 1).endReads (c + 1) 7).loseBranches
        fun st => st.slabOn c
    else s2
  else
    let k := c - 8
    let s2 : State := if dieSide ∧ !(s.slot k).inReset then (s1.setSlot k { s1.slot k with inReset := true }).epochUp c false true else s1
    let s3 : State := s2.slotDrop k
    if dieSide then (s3.setFld (R.UCI_STAT k) F.UCI_STAT_PEER_IN_RESET 1).endReads (9 + k) 7 else s3

/-- PEER_RESET_INDICATION (R299, R300): the dual-rail indication of one side as sampled by the other; `equal` levels are a wire fault. -/
def execPeerResetIndication (c : Fin 16) (dieSide equal : Bool) (s : State) : Host.Outcome State Fault Refusal :=
  .next (if equal then s.pulse (srcCross c.val 1) (le 1 c.val) else s.peerInReset c.val dieSide)

/-- The crossing is in the part of its states in which re-arm runs (R301). -/
def State.rearming (s : State) (c : Nat) : Bool :=
  (s.crossing c).armAt.isSome && (if c < 8 then s.seamState c == 3 else s.fld (R.UCI_STAT (c - 8)) F.UCI_STAT_STATE == 3)

/-- A side that has both sent and received REARM_ACK is armed (R301): NoC credits are at their configured values and traffic flows. -/
def State.armSide (s : State) (c : Nat) (die : Bool) : State :=
  let x := s.crossing c
  let y := if die then x.die else x.ridge
  if y.sentAck ∧ y.gotAck then
    let s1 : State := s.modSide c die fun z => { z with peerIn := false, drained := false }
    let s2 : State :=
      if c < 8 then
        (if die then s1.setFld (R.SEAM_B_STAT c) F.SEAM_B_STAT_ARMED 1
         else ((s1.setFld (R.SEAM_STAT c) F.SEAM_STAT_ARMED 1).setFld (R.SEAM_STAT c) F.SEAM_STAT_PEER_IN_RESET 0).setFld (R.SEAM_STAT c) F.SEAM_STAT_DRAINED 0)
      else if die then s1
      else
        let k := c - 8
        ((s1.setFld (R.UCI_STAT k) F.UCI_STAT_STATE 4).setFld (R.UCI_STAT k) F.UCI_STAT_PEER_IN_RESET 0).setSlotLive k true
    let z := s2.crossing c
    let s3 : State :=
      if z.ridge.sentAck ∧ z.ridge.gotAck ∧ z.die.sentAck ∧ z.die.gotAck then s2.setCrossing c { z with armed := true, armAt := none, timeouts := 0 } else s2
    if c < 8 then s3.placeWaiting c else s3
  else s

/-- A re-arm message sent by one side of a crossing: on its Seam link, or over the sideband of its slot (R303). -/
def State.sendRearm (s : State) (c : Nat) (frmDie : Bool) (m : List Byte) : State :=
  if c < 8 then s.sendSeam c (b2n frmDie) m else s.emit (.sideband (c - 8) (!frmDie) m)

/-- A re-arm message at the side that receives it (R301, R302): one that carries an old epoch is ignored. -/
def State.rearmMsg (s : State) (c : Nat) (toDie : Bool) (ctype : Nat) (m : List Byte) (k : State → State) : State :=
  s.live fun s =>
    if s.rearming c ∧ m.length = 16 ∧ leAt m 0 1 = ctype ∧ leAt m 1 1 = 16 ∧ leAt m 2 1 = s.epochOf c (!toDie) then
      let s0 : State := if c < 8 then s.modSeamDir c (dirOf toDie) fun x => { x with cin := x.cin.erase m } else s
      k (s0.modSide c toDie fun y => { y with peer := leAt m 2 1 })
    else s

/-- REARM_REQ (R301): answered by REARM_ACK when it shows DRAINED and this side is drained. -/
def execRearmReq (c : Fin 16) (toDie : Bool) (msg : List Byte) (s : State) : Host.Outcome State Fault Refusal :=
  .next (s.rearmMsg c.val toDie 4 msg fun s =>
    let x := s.crossing c.val
    let y := if toDie then x.die else x.ridge
    if bit (leAt msg 4 1) 0 ∧ y.drained then
      let s1 : State := s.modSide c.val toDie fun z => { z with sentAck := true }
      (s1.sendRearm c.val toDie (seamMsg 5 (le 1 (s1.epochOf c.val toDie) ++ le 1 y.peer ++ le 1 1))).armSide c.val toDie
    else s)

/-- REARM_ACK (R301). -/
def execRearmAck (c : Fin 16) (toDie : Bool) (msg : List Byte) (s : State) : Host.Outcome State Fault Refusal :=
  .next (s.rearmMsg c.val toDie 5 msg fun s => (s.modSide c.val toDie fun z => { z with gotAck := true }).armSide c.val toDie)

/-- The sides of a crossing after a link reset: both reset, both epochs increased once (R299). -/
def State.crossReset (s : State) (c : Nat) : State :=
  let x := s.crossing c
  (s.setCrossing c { x with ridge := { peer := x.ridge.peer }, die := { peer := x.die.peer }, armAt := none, armed := false }).epochUp c true true

/-- A link reset of Seam link b (R299, R310): not in HELD, which only a pin or power-on reset leaves. -/
def State.seamLinkReset (s : State) (b : Nat) : State :=
  if s.seamState b = 4 then s
  else
    let s1 : State := (s.crossReset b).seamDrop b
    (s1.setFld (R.SEAM_B_STAT b) F.SEAM_B_STAT_ARMED 0).resetRecord 4 0xFF (b + 1)
def execSeamLinkReset (b : Fin 8) (s : State) : Host.Outcome State Fault Refusal := .next (s.seamLinkReset b.val)

/-- SLOT_LINK_RESET (R305, R311): discovery runs again. -/
def State.slotLinkReset (s : State) (k : Nat) : State := ((s.crossReset (8 + k)).slotDrop k).resetRecord 4 0xFF (9 + k)
def execSlotLinkReset (k : Fin 8) (s : State) : Host.Outcome State Fault Refusal := .next (s.slotLinkReset k.val)

/-- R301, R298: a re-arm that has not finished in time: the source and a link reset, and at the third in a row the link held or the slot's die retired. -/
def State.rearmLate (s : State) (c : Nat) : State :=
  let x := s.crossing c
  let s1 : State := (s.setCrossing c { x with timeouts := x.timeouts + 1 }).pulse (srcCross c 0) (le 1 c)
  if x.timeouts + 1 < 3 then (if c < 8 then s1.seamLinkReset c else s1.slotLinkReset (c - 8))
  else if c < 8 then s1.seamHold c 3
  else s1.retireSlot (c - 8) (srcCross c 0)

/-- REARM_TIMEOUT (R301): 1 ms after ACTIVE. The source and a link reset; the third in a row holds a Seam link (R298), and a slot's die is retired
with it, since a slot has no HELD state of its own. -/
def execRearmTimeout (c : Fin 16) (s : State) : Host.Outcome State Fault Refusal :=
  let c := c.val
  .next (s.live fun s =>
    match (s.crossing c).armAt with
    | some t => if s.rearming c ∧ 1000000 + t ≤ s.now then s.rearmLate c else s
    | none => s)

/-- GT/s of the rate codes of UCI_STAT.RATE. -/
def slotRate (r : Nat) : Nat := [4, 8, 12, 16, 24, 32].getD r 0

/-- The modules a slot uses of the good ones (R304): 4, 2 or 1, the lowest-numbered. -/
def useModules (good : List Nat) : List Nat := good.take (if good.length = 4 then 4 else if 2 ≤ good.length then 2 else good.length)

/-- The ports that a Canopy runs (R304). -/
def slotPortCount (n rate : Nat) : Nat := min 4 (n * 64 * slotRate rate / 8 / 256)

/-- The modules of a slot set: those beyond repair are disabled, each raises the slot-module source once and is recorded (R304). -/
def State.setModules (s : State) (k : Nat) (good : List Nat) (canopy : Bool) : State :=
  let old := s.fld (R.UCI_REPAIR k) F.UCI_REPAIR_DISABLED
  let used := useModules good
  let s1 : State := (List.range 4).foldl (fun t m =>
    if good.contains m ∨ bit old m then t
    else (t.pulse (srcSlot k 0) (le 1 k ++ le 1 m)).sparing (9 + k) k 0 m 0xFF 0xFF 0 6) s
  let mask (l : List Nat) : Nat := l.foldl (fun n m => n + 2 ^ m) 0
  let s2 : State := (s1.setFld (R.UCI_REPAIR k) F.UCI_REPAIR_DISABLED (15 - mask good)).setFld (R.UCI_STAT k) F.UCI_STAT_MODULES (mask used)
  let n := if canopy then slotPortCount used.length (s2.fld (R.UCI_STAT k) F.UCI_STAT_RATE) else 0
  (s2.setFld (R.UCI_STAT k) F.UCI_STAT_PORTS n).slotPorts k

/-- The fields of a slot descriptor (R305). -/
def descClass (d : List Byte) : Nat := leAt d 6 1
def descWin (d : List Byte) : Nat := leAt d 8 1

/-- A Tvedale Canopy by its descriptor. -/
def descCanopy (d : List Byte) : Bool := leAt d 4 2 == 0x1C6B && descClass d == 0

/-- The checks of R305 in order; 0 admits. -/
def slotCause (good : List Nat) (allow : Bool) (desc : Option (List Byte)) : Nat :=
  if good.isEmpty then 6
  else match desc with
    | none => 1
    | some d =>
      if leAt d 0 4 ≠ 0x4C535447 ∨ leAt d 60 4 ≠ crc32 (d.take 60) ∨ !((d.drop 12).take 48).all (· == 0) ∨ 2 ≤ leAt d 9 1 ∨ 2 < descClass d
          ∨ (descClass d = 0 ∧ leAt d 4 2 ≠ 0x1C6B) then 2
      else if !descCanopy d ∧ !allow then 3
      else if leAt d 11 1 = 0 ∨ 30 < leAt d 11 1 then 4
      else if (descClass d = 0 ∧ descWin d ≠ 0) ∨ (descClass d ≠ 0 ∧ (descWin d < 12 ∨ 39 < descWin d)) then 5
      else 0

/-- A slot refused (R305): the cause and the source. Check 3 of R32 names an empty slot and does not say which cause a fitted die that discovery has
refused gives: the slot is made empty here, so accesses to it are refused ABSENT_DIE (DESIGN CHOICE, log entry 159). -/
def State.refuseSlot (s : State) (k cause : Nat) : State :=
  let s1 : State := (s.setFld (R.UCI_STAT k) F.UCI_STAT_STATE 5).setFld (R.UCI_STAT k) F.UCI_STAT_CAUSE cause
  let s2 : State := ((s1.setFld (R.UCI_STAT k) F.UCI_STAT_ADMITTED 0).setFld (R.UCI_STAT k) F.UCI_STAT_PORTS 0).setFld (R.UCI_STAT k) F.UCI_STAT_MODULES 0
  (((s2.setSlot k { s2.slot k with occ := .empty }).setSlotLive k false).slotPorts k).pulse (srcSlot k 1) (le 1 k ++ le 1 cause)

/-- R304: the registers of slot k show what its training and the read of its descriptor found. -/
def State.slotSeen (s : State) (k : Nat) (good : List Nat) (rate cause : Nat) (desc : List Byte) : State :=
  let s1 : State := s.setFld (R.UCI_STAT k) F.UCI_STAT_RATE (min 5 rate)
  let s2 : State := s1.setModules k good (descCanopy desc && cause == 0)
  if cause = 6 ∨ cause = 1 then s2 else
    (s2.setReg (R.UCI_DESC0 k) (BitVec.ofNat 32 (leAt desc 4 4))).setReg (R.UCI_DESC1 k) (BitVec.ofNat 32 (leAt desc 8 4))

/-- R305, R173, R350: the die of slot k is admitted: its sensors are cross-checked, its restart number is written, and its crossing re-arms. -/
def State.slotAdmit (s : State) (k : Nat) (desc : List Byte) : State :=
  let occ : Occupant := if descClass desc = 0 then .canopy else .thirdParty 0 (2 ^ descWin desc)
  let s4 : State := s.setSlot k { s.slot k with occ := occ, inReset := false }
  let s5 : State := (s4.setFld (R.UCI_STAT k) F.UCI_STAT_ADMITTED 1).setFld (R.UCI_STAT k) F.UCI_STAT_CAUSE 0
  let s6 : State := if descClass desc = 0 ∧ s5.dieRead (9 + k) then s5.xcheck (9 + k) else s5
  if s6.sensorsLost (9 + k) then (s6.slotReset k).setSlot k { (s6.slotReset k).slot k with dead := true }
  else (s6.emit (.partnerWrite k 64 (s6.trn.restart % 128))).startRearm (8 + k)

/-- R304: a slot that may be discovered: not beyond REFUSED, not retired nor dead, its domain on, and the main oscillator in use. -/
def State.slotOpen (s : State) (k : Nat) : Bool :=
  decide (s.fld (R.UCI_STAT k) F.UCI_STAT_STATE ≤ 2) && !(s.slot k).retired && !(s.slot k).dead && s.dom (24 + k / 2) == 0 && !s.fastClock

/-- SLOT_DISCOVERY (R304, R305): UCIe training with the modules that trained and the rate reached, the descriptor as read (none: the read failed),
the checks, and for an admitted die its registers, its restart number (R173), and re-arm. The sensors of a Canopy are cross-checked (R350). -/
def execSlotDiscovery (k : Fin 8) (modules rate : Nat) (desc : Option (List Byte)) (s : State) : Host.Outcome State Fault Refusal :=
  let k := k.val
  .next (s.live fun s =>
    if s.slotOpen k = false then s
    else
      let good := (List.range 4).filter fun m => bit modules m
      let cause := slotCause good (s.fld (R.UCI_ADMIT k) F.UCI_ADMIT_ALLOW == 1) desc
      let d := fit 64 (desc.getD [])
      let s3 : State := s.slotSeen k good rate cause d
      if cause ≠ 0 then s3.refuseSlot k cause else s3.slotAdmit k d)

/-- SLOT_MODULE_LOSS (R304): a module beyond repair in service. With none left the slot has no link. -/
def execSlotModuleLoss (k : Fin 8) (m : Fin 4) (s : State) : Host.Outcome State Fault Refusal :=
  let k := k.val
  .next (s.live fun s =>
    let off := s.fld (R.UCI_REPAIR k) F.UCI_REPAIR_DISABLED
    let st := s.fld (R.UCI_STAT k) F.UCI_STAT_STATE
    if (st ≠ 3 ∧ st ≠ 4) ∨ bit off m.val then s
    else
      let good := (List.range 4).filter fun j => !bit off j && j != m.val
      let s1 : State := s.setModules k good ((s.slot k).occ == .canopy)
      if good.isEmpty then s1.refuseSlot k 6 else s1)

/-- SLOT_RETRAIN (R311): at the rate and module set in force. A retrain in re-arm restarts it (R302). -/
def State.slotRetrain (s : State) (k : Nat) : State :=
  s.live fun s => if s.fld (R.UCI_STAT k) F.UCI_STAT_STATE = 3 then s.startRearm (8 + k) else s
def execSlotRetrain (k : Fin 8) (s : State) : Host.Outcome State Fault Refusal := .next (s.slotRetrain k.val)

/-- ADMIT_ALLOW (R305, R311): ALLOW is set over the Guy line; a die refused with NOT_ALLOWED goes through discovery again. -/
def State.admitAllow (s : State) (k : Nat) : State :=
  let s1 : State := s.setFld (R.UCI_ADMIT k) F.UCI_ADMIT_ALLOW 1
  if s1.fld (R.UCI_STAT k) F.UCI_STAT_STATE = 5 ∧ s1.fld (R.UCI_STAT k) F.UCI_STAT_CAUSE = 3 then
    (s1.setFld (R.UCI_STAT k) F.UCI_STAT_STATE 1).setFld (R.UCI_STAT k) F.UCI_STAT_CAUSE 0
  else s1
def execAdmitAllow (k : Fin 8) (s : State) : Host.Outcome State Fault Refusal := .next (s.admitAllow k.val)

/-- SLOT_PARTNER_FAULT (R306): a fault message of the partner over the sideband. -/
def execSlotPartnerFault (k : Fin 8) (detail : List Byte) (s : State) : Host.Outcome State Fault Refusal :=
  .next (s.pulse (srcSlot k.val 2) detail)

/-- EXTEST, CLAMP, HIGHZ and the private instructions act only with TEST_MODE high and the signed unlock in force (R308). -/
def State.testUnlocked (s : State) : Bool := s.pins.testMode && s.fld R.SEC_STAT F.SEC_STAT_UNLOCK == 1

/-- An instruction that leaves the pins to the mission. -/
def State.tapMission (s : State) (i : TapInstr) : State := { s with tap := { s.tap with ir := i, drive := none, hiz := false } }

/-- BYPASS (R308). -/
def execTapBypass (s : State) : Host.Outcome State Fault Refusal := .next (s.tapMission .bypass)

/-- The Ridge's IDCODE (R307). -/
def State.idcode (s : State) : Nat := s.fuses.step % 16 * 2 ^ 28 + 0x6480 * 2 ^ 12 + 0x535 * 2 + 1

/-- IDCODE (R307). -/
def execTapIdcode (s : State) : Host.Outcome State Fault Refusal :=
  let s1 : State := s.tapMission .idcode
  .next ({ s1 with tap := { s1.tap with idcode := s1.idcode } }.emit (.tdo s1.idcode))

/-- SAMPLE/PRELOAD (R308): the levels sampled are free, and the boundary latches take the preloaded levels. -/
def execTapSamplePreload (preload : Nat) (s : State) : Host.Outcome State Fault Refusal :=
  let s1 : State := s.tapMission .samplePreload
  let (v, s2) := s1.freshNat
  .next ({ s2 with tap := { s2.tap with boundary := preload } }.emit (.tdo v))

/-- R307: a unit whose segment can be put in the chain: a live fitted Bell, or a live slot die whose descriptor says it has a test port. -/
def State.segOk (s : State) (u : Nat) : Bool :=
  if u < 8 then s.fitted u && !(s.bell u).retired && s.bellLive u
  else !(s.slot (u - 8)).retired && s.slotLive (u - 8) && bit (s.reg (R.UCI_DESC1 (u - 8))).toNat 8

/-- SEGMENT_INSERT (R307): a die's segment joins the chain in the order Bell 0 to 7, slot 0 to 7; refused for a die that is fused off, retired, not
live, or a slot whose descriptor lacks TAP. -/
def execTapSegmentInsert (unit : Fin 16) (s : State) : Host.Outcome State Fault Refusal :=
  let u := unit.val
  let s1 : State := s.tapMission .segmentInsert
  .next (if s.segOk u then { s1 with tap := { s1.tap with segs := (List.range 16).filter fun i => s1.tap.segs.contains i || i == u } } else s1)

/-- EXTEST (R308): the pins take the shifted levels. -/
def execTapExtest (levels : Nat) (s : State) : Host.Outcome State Fault Refusal :=
  .next (if s.testUnlocked then { s with tap := { s.tap with ir := .extest, boundary := levels, drive := some levels, hiz := false } } else s.tapMission .bypass)

/-- CLAMP (R308): the pins hold the levels of the boundary latches and the bypass register is selected. -/
def execTapClamp (levels : Nat) (s : State) : Host.Outcome State Fault Refusal :=
  .next (if s.testUnlocked then { s with tap := { s.tap with ir := .clamp, boundary := levels, drive := some levels, hiz := false } } else s.tapMission .bypass)

/-- HIGHZ (R308). -/
def execTapHighz (s : State) : Host.Outcome State Fault Refusal :=
  .next (if s.testUnlocked then { s with tap := { s.tap with ir := .highz, drive := none, hiz := true } } else s.tapMission .bypass)

/-- TAP_RESET (R307): IDCODE is selected and every segment is excluded. -/
def execTapReset (s : State) : Host.Outcome State Fault Refusal :=
  let s1 : State := s.tapMission .idcode
  .next { s1 with tap := { s1.tap with segs := [] } }

end Sys2Proof.Machine
end

