-- ==== Sys2Proof/Machine/Time.lean ====
section
/-!
DEFINITION. The Fabric Time Counter (R312 to R324): time transfer, the servo, the alignment state machine, wall time and the tick.
-/

namespace Sys2Proof.Machine

open Sys2Proof

/-- A change of the FTC state (R321): IMG_MISMATCH follows it on every port (R238). The loss of a ring unit is watched for once the FTC has
been aligned (R382). -/
def State.setFtcState (s : State) (v : Nat) : State :=
  let s1 : State := s.setFld R.FTC_STAT F.FTC_STAT_STATE v
  let s2 : State := if (v = 2 ∨ v = 5) ∧ !s.loss.armed then { s1 with loss := { s1.loss with armed := true, countFrom := s.now } } else s1
  s2.refreshAll

/-- Time transfer runs on a port (R315). -/
def State.timePort (s : State) (p : Nat) : Bool :=
  decide (p < 32) && (s.lnk p == 5 || s.lnk p == 6) &&
    ((s.isRing p && ringPorts.contains p) || (s.portUse p == 2 && bit (s.fld R.FTC_UPLINK F.FTC_UPLINK_PORTS) p))

/-- A port is eligible as upstream (R316): its last SYNC shows TRACEABLE, the TAG of the tree and a DIST below 16. -/
def State.eligible (s : State) (p : Nat) : Bool :=
  let x := s.tport p
  s.timePort p && x.rxSeq.isSome && bit x.flags 0 && decide (x.dist < 16) && s.time.tag.elim true (fun t => t == x.tag)
    && decide (s.ftc < 65536 + x.rxTick)

/-- UP_PORT; 63 none. -/
def State.upPort (s : State) : Nat := s.fld R.FTC_STAT F.FTC_STAT_UP_PORT

/-- The average restarts. -/
def State.restartAvg (s : State) : State := { s with time := { s.time with acc := [], avg := none, good := 0, bad := 0 } }

/-- A new upstream chosen (R316): the lowest DIST, then the lowest port; none leaves UP_PORT at 63. -/
def State.chooseUp (s : State) : State :=
  let cands := (List.range 32).filter s.eligible
  match cands with
  | [] => ((s.setFld R.FTC_STAT F.FTC_STAT_UP_PORT 63).setFld R.FTC_STAT F.FTC_STAT_DIST 31).restartAvg |> fun t =>
      { t with time := { t.time with noUpAt := if s.upPort = 63 then s.time.noUpAt else s.now } }
  | c :: rest =>
    let p := rest.foldl (fun m q => if (s.tport q).dist < (s.tport m).dist then q else m) c
    let s1 : State := (s.setFld R.FTC_STAT F.FTC_STAT_UP_PORT p).setFld R.FTC_STAT F.FTC_STAT_DIST ((s.tport p).dist + 1)
    let s2 : State := if s.time.tag.isSome then s1.addFld R.FTC_OFFSET F.FTC_OFFSET_UPSWITCH 1 else s1
    { s2.restartAvg with time := { s2.restartAvg.time with tag := some (s.tport p).tag } }


/-- The TIME message of a subtype (R317). -/
def timeMsg (body : List Byte) : List Byte := le 1 0x10 ++ le 1 32 ++ zeros 2 ++ fit 28 body

/-- A SYNC put into the queue of port p (R317); T_TX is filled in when the flit leaves. -/
def State.sendSync (s : State) (p : Nat) : State :=
  let x := s.tport p
  let root := s.ftcState == 5
  let fl := b2n (s.ftcState == 2 || root) + 2 * b2n root + 4 * b2n (s.ftcState == 3)
  let tag := if root then s.fld R.FTC_CFG F.FTC_CFG_TAG else s.time.tag.getD 0
  let m := timeMsg (le 1 0 ++ le 1 x.txSeq ++ le 1 (x.rxSeq.getD 0) ++ le 1 fl ++ zeros 8 ++ le 8 (if x.rxSeq.isSome then x.rxAt else 0)
    ++ le 4 (tag + s.fld R.FTC_STAT F.FTC_STAT_DIST % 32 * 2 ^ 20) ++ le 4 x.dIn)
  (s.setTport p { x with txSeq := (x.txSeq + 1) % 256 }).sendCbc p m

/-- TIME_SYNC_SEND (R315, R317): every 4,096 ticks. -/
def execTimeSyncSend (p : Fin 32) (s : State) : Host.Outcome State Fault Refusal :=
  .next (s.live fun s => if s.time.counting ∧ s.timePort p.val ∧ s.fires 4096 then s.sendSync p.val else s)

/-- The PAIR code of R151 whose output is a ring port, and its partner port. -/
def pairOut (p : Nat) : Nat := if p = 1 then 0 else if p = 0 then 1 else if p = 17 then 2 else 3
def partner (p : Nat) : Nat := if p % 2 = 0 then p + 1 else p - 1

/-- DELAYS, on a ring port only, and WALL, once the device holds a valid copy, put into the queue of port p (R317). -/
def State.sendDelaysWall (s : State) (p : Nat) : State :=
  let x := s.tport (partner p)
  let s1 : State := if s.isRing p then
      s.sendCbc p (timeMsg (le 1 1 ++ le 1 (pairOut p) ++ zeros 2 ++ le 2 x.dIn ++ le 2 x.d0)) else s
  if s.fld R.FTC_STAT F.FTC_STAT_WALL_OK = 1 then
    s1.sendCbc p (timeMsg (le 1 2 ++ zeros 3 ++ le 8 (s.getPair R.FTC_WALL_LO R.FTC_WALL_HI)))
  else s1

/-- TIME_DELAYS_WALL_SEND (R315, R317): every 1,048,576 ticks. -/
def execTimeDelaysWallSend (p : Fin 32) (s : State) : Host.Outcome State Fault Refusal :=
  .next (s.live fun s => if s.time.counting ∧ s.timePort p.val ∧ s.fires 1048576 then s.sendDelaysWall p.val else s)

/-- The periodic events whose tick a step from `old` to the present tick has passed, fired at once (R322, R323): each kind once, whatever the number
of its ticks passed (DESIGN CHOICE, log entry 201). An audit follows in the next data interval (R224). -/
def State.firePassed (s : State) (old : Nat) : State :=
  let passed (n : Nat) : Bool := decide (old / n < (s.ftc - 1) / n)
  (List.range 32).foldl (fun t p =>
    let t1 : State := if passed 16384 ∧ t.isActive p then t.modPort p fun q => { q with resume := max q.resume 1 } else t
    let t2 : State := if passed 4096 ∧ t1.timePort p then t1.sendSync p else t1
    if passed 1048576 ∧ t2.timePort p then t2.sendDelaysWall p else t2) s

/-- A step by whole ticks (R321, R322): counted, and local time stays. A step forward fires what it passes, and a step back fires nothing again. -/
def State.ftcStep (s : State) (d : Int) : State :=
  if d = 0 then s
  else
    let s1 : State := ({ s with ftc := ((s.ftc : Int) + d).toNat }).addFld R.FTC_OFFSET F.FTC_OFFSET_STEPS 1
    if 0 < d then s1.firePassed s.ftc else { s1 with time := { s1.time with firedTo := max s1.time.firedTo (s.ftc + 1) } }

/-- The signed reading of ASYM. -/
def TimePort.asymI (x : TimePort) : Int := signed 16 x.asym

/-- θ and d_in of one exchange (R318), in 1/16 tick; halves are rounded down. -/
def exchange (t1 t2 t3 t4 : Nat) (asym : Int) : Int × Int :=
  let a := (t2 : Int) - t1
  let b := (t4 : Int) - t3
  ((a - b + asym) / 2, (a + b) / 2 - asym / 2)

/-- The transitions that an average of 16 exchanges decides at once (R321). -/
def State.averaged (s : State) (th : Int) : State :=
  let s1 : State := (s.setFld R.FTC_OFFSET F.FTC_OFFSET_THETA (unsigned 16 th))
  let whole : Int := -(th.tdiv 16)
  let stepNow (t : State) : State :=
    let t1 : State := t.ftcStep whole
    { t1 with time := { t1.time with stepped := true, avg := none, acc := [] } }
  let kept : State := { s1 with time := { s1.time with avg := some th, acc := [] } }
  if s.ftcState = 1 ∧ !s.time.stepped then stepNow s1
  else if s.ftcState = 4 ∧ 1024 < th.natAbs then stepNow s1
  else if s.ftcState = 3 then
    if th.natAbs ≤ 16 then kept.setFtcState 2 else (kept.setFtcState 4).raise 18 (le 2 (unsigned 16 th))
  else kept

/-- An upstream that is gone (R321): another is chosen; ALIGNED goes to HOLDOVER. -/
def State.upLost (s : State) : State :=
  if s.ftcState = 2 then
    ({ s with time := { s.time with holdAt := s.now } }.setFtcState 3).chooseUp
  else s.chooseUp

/-- What a port keeps of a SYNC received at `rx` (R317, R318): the sequence number, flags, tag and distance, and the delay where the exchange is whole. -/
def TimePort.heard (x : TimePort) (msg : List Byte) (rx tick : Nat) (din : Int) (valid : Bool) : TimePort :=
  let td := leAt msg 24 4
  { x with
    rxSeq := some (leAt msg 5 1), rxAt := rx, rxTick := tick, flags := leAt msg 7 1, tag := bits td 19 0, dist := bits td 24 20,
    dIn := if valid ∧ 0 ≤ din ∧ din < 65535 then din.toNat else x.dIn }

/-- Two time roots are seen (R316). -/
def State.timeConflict (s : State) (k tag : Nat) : State := (s.setFld R.FTC_STAT F.FTC_STAT_CONFLICT 1).pulse 19 (le 1 k ++ le 4 tag)

/-- The port of the upstream after a SYNC on port k: chosen where there is none, dropped where it is no longer eligible (R316, R321). -/
def State.pickUpstream (s : State) (k : Nat) : State :=
  if s.upPort = 63 then
    (if s.eligible k then (if s.ftcState = 0 then { s with time := { s.time with stepped := false } }.chooseUp.setFtcState 1 else s.chooseUp) else s)
  else if k = s.upPort ∧ !s.eligible k then s.upLost else s

/-- A whole exchange on the upstream port joins the average, which is used after 16 (R319). -/
def State.addExchange (s : State) (th : Int) : State :=
  let acc := s.time.acc ++ [th]
  let t : State := { s with time := { s.time with acc := acc } }
  if 16 ≤ acc.length then t.averaged (acc.foldl (· + ·) 0 / 16) else t

/-- A device that is no root takes a SYNC of port k, whose record it already holds. -/
def State.followSync (s : State) (k : Nat) (th : Int) (valid : Bool) : State :=
  let x := s.tport k
  let foreign := s.time.tag.elim false (fun t => t != x.tag)
  if foreign ∧ k ≠ s.upPort then s.timeConflict k x.tag
  else
    let t : State := (if foreign then s.timeConflict k x.tag else s).pickUpstream k
    if k = t.upPort then
      let u : State := t.setFld R.FTC_STAT F.FTC_STAT_DIST ((t.tport k).dist + 1)
      if valid then u.addExchange th else u
    else t

/-- TIME_SYNC (R315 to R318, R321, R322): a SYNC arrives on a port at local time `rx` (1/16 tick, receive path delay removed). -/
def execTimeSync (p : Fin 32) (msg : List Byte) (rx : Nat) (s : State) : Host.Outcome State Fault Refusal :=
  .next (s.cbcRow p.val 0x10 msg fun s =>
    let k := p.val
    if !s.timePort k ∨ leAt msg 4 1 ≠ 0 then s
    else
      let x := s.tport k
      let t4 := leAt msg 16 8
      let t3 := SMap.get (fun _ => 0) x.txAt (leAt msg 6 1)
      let valid := t4 != 0 && t3 != 0
      let e := exchange (leAt msg 8 8) rx t3 t4 x.asymI
      let t : State := s.setTport k (x.heard msg rx s.ftc e.2 valid)
      if s.ftcState = 5 then t else t.followSync k e.1 valid)

/-- DELAYS (R317). -/
def execDelaysMsg (p : Fin 32) (msg : List Byte) (s : State) : Host.Outcome State Fault Refusal :=
  .next (s.cbcRow p.val 0x10 msg fun s =>
    if s.timePort p.val ∧ s.isRing p.val ∧ leAt msg 4 1 = 1 then
      s.setTport p.val { s.tport p.val with d0 := leAt msg 8 2, d1 := leAt msg 10 2 }
    else s)

/-- WALL (R314): taken from the upstream, not on the root. -/
def execWallMsg (p : Fin 32) (msg : List Byte) (s : State) : Host.Outcome State Fault Refusal :=
  .next (s.cbcRow p.val 0x10 msg fun s =>
    if s.timePort p.val ∧ leAt msg 4 1 = 2 ∧ s.ftcState ≠ 5 ∧ p.val = s.upPort then
      (s.setPair R.FTC_WALL_LO R.FTC_WALL_HI (leAt msg 8 8)).setFld R.FTC_STAT F.FTC_STAT_WALL_OK 1
    else s)

/-- The phase moved by −θ, at most 1/16 tick (R319). A whole tick of phase is a tick gained or lost against local time, at
the next tick, so none is skipped and none repeated. -/
def State.slew (s : State) (th : Int) : State :=
  let ph := s.time.phase + max (-1) (min 1 (-th))
  if 16 ≤ ph then { s with time := { s.time with phase := ph - 16, skew := s.time.skew + 1 } }
  else if ph < 0 then { s with time := { s.time with phase := ph + 16, skew := s.time.skew - 1 } }
  else { s with time := { s.time with phase := ph } }

/-- An update of the servo by θ (R319, R321): the clock slews; 16 near updates in a row align it, and 4 far ones in a row unalign it. -/
def State.servo (s : State) (th : Int) : State :=
  let near := decide (th.natAbs ≤ 4)
  let far := decide (16 < th.natAbs)
  let s1 : State := { s with time := { s.time with good := if near then s.time.good + 1 else 0, bad := if far then s.time.bad + 1 else 0, avg := none } }
  let s2 : State := s1.slew th
  if (s.ftcState = 1 ∨ s.ftcState = 4) ∧ 16 ≤ s2.time.good then
    let s3 : State := (s2.setFtcState 2).lower 18
    { s3 with time := { s3.time with good := 0, bad := 0 } }
  else if s.ftcState = 2 ∧ 4 ≤ s2.time.bad then
    let s3 : State := (s2.setFtcState 4).raise 18 (le 2 (unsigned 16 th))
    { s3 with time := { s3.time with good := 0, bad := 0 } }
  else s2

/-- SERVO_UPDATE (R319, R321): every 65,536 ticks, with an average. -/
def execServoUpdate (s : State) : Host.Outcome State Fault Refusal :=
  .next (s.live fun s =>
    match s.time.avg with
    | none => s
    | some th => if !s.time.counting ∨ s.ftc % 65536 ≠ 0 ∨ s.upPort = 63 ∨ s.ftcState = 0 ∨ s.ftcState = 5 then s else s.servo th)

/-- UPSTREAM_LOSS (R321): no SYNC for 65,536 ticks, the port down, or the upstream no longer eligible. -/
def execUpstreamLoss (s : State) : Host.Outcome State Fault Refusal :=
  .next (s.live fun s => if s.upPort < 32 ∧ s.ftcState ≠ 5 ∧ !s.eligible s.upPort then s.upLost else s)

/-- HOLDOVER_TIMEOUT (R321): 10 s in HOLDOVER. -/
def execHoldoverTimeout (s : State) : Host.Outcome State Fault Refusal :=
  .next (s.live fun s => if s.ftcState = 3 ∧ 10000000000 + s.time.holdAt ≤ s.now then (s.setFtcState 4).raise 18 [] else s)

/-- NO_UPSTREAM_TIMEOUT (R321): ACQUIRE or UNALIGNED with no eligible upstream for 1 s. -/
def execNoUpstreamTimeout (s : State) : Host.Outcome State Fault Refusal :=
  .next (s.live fun s =>
    if (s.ftcState = 1 ∨ s.ftcState = 4) ∧ s.upPort = 63 ∧ 1000000000 + s.time.noUpAt ≤ s.now then
      { s with time := { s.time with tag := none, stepped := false } }.setFtcState 0
    else s)

/-- The FTC_LOAD value, a multiple of 128 (R335). -/
def State.loadValue (s : State) : Nat := s.getPair R.FTC_LOAD_LO R.FTC_LOAD_HI / 128 * 128

/-- The device becomes the time root when FTC_CFG.ROOT is set and the reference PLL is locked (R321). -/
def State.becomeRoot (s : State) : State :=
  if s.fld R.FTC_CFG F.FTC_CFG_ROOT = 1 ∧ s.fld R.CLK_STAT F.CLK_STAT_RPLL_LOCK = 1 ∧ s.ftcState ≠ 5 then
    ((s.setFld R.FTC_STAT F.FTC_STAT_DIST 0).setFld R.FTC_STAT F.FTC_STAT_UP_PORT 63).setFtcState 5
  else s

/-- The reference in force (R327): 0 FREF, 1 XA, 2 XB, 3 FAST. -/
def ClkSt.src (c : ClkSt) : Nat := if bit c.cfg 0 then 1 + bits c.cfg 2 1 % 3 else 0

/-- FTC_LOAD (R335): on the root, until it first sends a SYNC toward another device; at the next slot boundary, or when the FTC starts. -/
def State.ftcLoad (s : State) : State :=
  if s.fld R.FTC_CFG F.FTC_CFG_ROOT = 1 ∧ !s.time.sentSync then { s with time := { s.time with loadDue := true } } else s
def execFtcLoad (s : State) : Host.Outcome State Fault Refusal := .next s.ftcLoad

/-- FTC_NOW_READ (R335): a read of FTC_NOW_LO latches FTC_NOW_HI. -/
def State.latchNow (s : State) : State := { s with time := { s.time with nowHi := s.ftc / 2 ^ 32 % 2 ^ 32 } }
def execFtcNowRead (s : State) : Host.Outcome State Fault Refusal := .next s.latchNow

/-- One tick (R312, R419): local time and the FTC advance by one, and a load that waits takes effect at a slot boundary. A tick gained or lost
by slewing moves the FTC or local time alone (R319). PARAM is repeated every 1 µs in PARAM (R234). -/
def State.tick (s : State) : State :=
  let s1 : State :=
    if !s.time.counting then { s with now := s.now + 1 }
    else if 0 < s.time.skew then { s with ftc := s.ftc + 1, time := { s.time with skew := s.time.skew - 1 } }
    else if s.time.skew < 0 then { s with now := s.now + 1, time := { s.time with skew := s.time.skew + 1 } }
    else { s with now := s.now + 1, ftc := s.ftc + 1 }
  let s2 : State :=
    if s1.time.counting ∧ s1.time.loadDue ∧ s1.ftc % 128 = 0 then { s1 with ftc := s1.loadValue, time := { s1.time with loadDue := false } } else s1
  if s2.inStrike then s2
  else allLinks.foldl (fun t p => if t.lnk p = 4 ∧ (t.linkNow p - (t.port p).since) % 1000 = 0 ∧ 0 < t.linkNow p - (t.port p).since then t.sendParam p else t) s2

end Sys2Proof.Machine
end

