-- ==== Sys2Proof/Machine/Clock.lean ====
section
/-!
DEFINITION. Clock trips, the clock multiplexers and clock-less hold (R327, R330 to R333), and the clock enables (R334).
-/

namespace Sys2Proof.Machine

open Sys2Proof

/-- A CLOCK record (R390): clock code, kind, forced muxes, clock-less hold. -/
def State.clockRecord (s : State) (code kind muxes : Nat) (hold : Bool) : State :=
  s.dryEvent 0x0E 0xFF (le 1 code ++ le 1 kind ++ le 2 muxes ++ le 1 (b2n hold))

/-- CLK_TRIP captures the first trip (R336); FORCED goes on counting. -/
def State.clockTrip (s : State) (code kind : Nat) : State :=
  if s.fld R.CLK_TRIP F.CLK_TRIP_VALID = 1 then s
  else ((s.setFld R.CLK_TRIP F.CLK_TRIP_CLOCK code).setFld R.CLK_TRIP F.CLK_TRIP_KIND kind).setFld R.CLK_TRIP F.CLK_TRIP_VALID 1

/-- Clock-less hold (R333). -/
def State.clockless (s : State) (code kind : Nat) : State :=
  let s1 : State := (s.setFld R.CLK_STAT F.CLK_STAT_CLKLESS 1).clockRecord code kind 0 true
  { s1 with clk := { s1.clk with pend := [], waitFast := none }, time := { s1.time with counting := false } }

/-- A mux switch requested by the clock sequencer (R331, R332). -/
def State.requestMux (s : State) (m : Nat) : State :=
  if s.clk.pend.any (fun e => e.1 == m) then s else { s with clk := { s.clk with pend := s.clk.pend ++ [(m, s.now)] } }

/-- A reference trip (R330): Strike with source 14, CLK_TRIP, a record, no reference in force, and the control mux on its way to the fast
oscillator, or a wait for it (R333). -/
def State.referenceTrip (s : State) (code kind : Nat) : State :=
  let s1 : State := ((s.clockTrip code kind).pulse 14 (le 1 code ++ le 1 kind)).enterStrike 14 0xFFFF
  let s2 : State := (s1.clockRecord code kind 0 false).setFld R.CLK_STAT F.CLK_STAT_RPLL_LOCK 0
  let s3 : State := s2.setFld R.CLK_STAT F.CLK_STAT_SRC 4
  if s.fld R.CLK_STAT F.CLK_STAT_FAST_READY = 1 then s3.requestMux 0
  else { s3 with clk := { s3.clk with waitFast := some s.now } }

/-- REFOUT carries the reference (R327, R429, R430): leader clocking with REFOUT_EN as sampled, while the reference PLL is locked. -/
def State.refoutOn (s : State) : Bool :=
  s.pwr.aon && s.pins.resetN && s.fld R.CLK_STAT F.CLK_STAT_CLKLESS == 0 && bit s.clk.cfg 0 && bit s.clk.cfg 3
    && s.fld R.CLK_STAT F.CLK_STAT_RPLL_LOCK == 1

/-- REFERENCE_TRIP (R328, R330): a monitor has tripped, past what it allows (R329): codes 0 FREF, 1 XA and 2 XB while they are the reference in force, 5 the reference PLL, 6 the Ridge control clock. -/
def execReferenceTrip (code : Fin 8) (kind : Fin 4) (s : State) : Host.Outcome State Fault Refusal :=
  let src := s.fld R.CLK_STAT F.CLK_STAT_SRC
  .next (if s.fld R.CLK_STAT F.CLK_STAT_CLKLESS = 1 ∨ s.clk.onFast ∨ s.clk.waitFast.isSome ∨ s.clk.pend.any (fun e => e.1 == 0) then s
  else if (code.val < 3 ∧ src = code.val) ∨ code.val = 5 ∨ code.val = 6 then s.referenceTrip code.val kind.val
  else s)

/-- REFERENCE_PLL_LOCK (R312, R326, R419): the FTC counts from 0, or from FTC_LOAD, in state FREE or ROOT. Only the first lock after the release
of RESET_N starts it, and a device in Strike does not return to the reference (R330). With CLK_CFG.SPREAD as sampled 0, spread on the reference trips
code 5 (R329), as a ratio error (R328). -/
def execReferencePllLock (spread : Bool) (s : State) : Host.Outcome State Fault Refusal :=
  .next (if s.inStrike ∨ s.time.counting ∨ !s.pins.resetN then s
  else
    let s1 : State := (s.setFld R.CLK_STAT F.CLK_STAT_RPLL_LOCK 1).setFld R.CLK_STAT F.CLK_STAT_SRC s.clk.src
    let s2 : State := s1.setFld R.CLK_STAT F.CLK_STAT_SPREAD_SEEN (b2n spread)
    let load := s.time.loadDue && s.fld R.FTC_CFG F.FTC_CFG_ROOT == 1
    let s3 : State := { s2 with ftc := if load then s.loadValue else 0, time := { s2.time with counting := true, loadDue := false, noUpAt := s.now } }
    let s4 : State := s3.becomeRoot
    if spread ∧ !bit s.clk.cfg 4 then s4.referenceTrip 5 2 else s4)

/-- FAST_OSC_TRIP (R330, R333): the fallback is not ready; if the control logic runs from it, clock-less hold. -/
def execFastOscTrip (s : State) : Host.Outcome State Fault Refusal :=
  let s1 : State := ((s.setFld R.CLK_STAT F.CLK_STAT_FAST_READY 0).clockTrip 3 2).pulse 15 []
  .next (if s.clk.onFast then s1.clockless 3 2 else s1)

/-- SLOW_OSC_TRIP (R330). -/
def execSlowOscTrip (s : State) : Host.Outcome State Fault Refusal :=
  .next (((s.setFld R.CLK_STAT F.CLK_STAT_SLOW_OK 0).clockTrip 4 2).pulse 16 [])

/-- BELL_PLL_TRIP (R330): a die reset of the Bell; the second trip within 1 s retires it (R33). -/
def execBellPllTrip (b : Fin 8) (kind : Fin 4) (s : State) : Host.Outcome State Fault Refusal :=
  let b := b.val
  .next (if (s.bell b).inReset then s
  else
    let s1 : State := (s.clockTrip (8 + b) kind.val).pulse (srcBell b 6) (le 1 kind.val)
    let again : Bool := (SMap.get (fun _ => none) s.clk.bellTrip b).any fun t => decide (s.now < 1000000000 + t)
    let s2 : State := { s1 with clk := { s1.clk with bellTrip := SMap.set (fun _ => none) s1.clk.bellTrip b (some s.now) } }
    if again then s2.retireBell b (srcBell b 6) else s2.bellReset b)

/-- FAST_READY (R333): the fast oscillator runs; within 5 ms of a reference trip the control mux switches. -/
def execFastReady (s : State) : Host.Outcome State Fault Refusal :=
  let s1 : State := s.setFld R.CLK_STAT F.CLK_STAT_FAST_READY 1
  .next (match s.clk.waitFast with
    | some t =>
      if s.now ≤ 5000000 + t then { s1 with clk := { s1.clk with waitFast := none } }.requestMux 0 else s1
    | none => s1)

/-- FALLBACK_TIMEOUT (R333): no FAST_READY within 5 ms of the trip. -/
def execFallbackTimeout (s : State) : Host.Outcome State Fault Refusal :=
  .next (match s.clk.waitFast with
    | some t =>
      if 5000000 + t < s.now then s.clockless (s.fld R.CLK_TRIP F.CLK_TRIP_CLOCK) (s.fld R.CLK_TRIP F.CLK_TRIP_KIND) else s
    | none => s)

/-- Windows of the blocks in the Ridge domains that mux 0 resets: WSQ_, FTC_, LNK_, COL_, TRN_. -/
def ridgeReset (a : Nat) : Bool :=
  inWindow 0x20000 0x10000 a || inWindow 0x40000 0x10000 a || inWindow 0x100000 0x20000 a || inWindow 0x500000 0x10000 a || inWindow 0x600000 0x10000 a

/-- Every Ridge domain but PD_RIDGE_00 and the Dry bag array is reset (R331): poles, journals, transport, engines and the FTC; the device
stays in Strike. -/
def State.resetRidge (s : State) : State :=
  let s1 : State := s.resetRegs .warm ridgeReset
  { s1 with jrn := {}, col := {}, pole := {}, ftc := 0, time := { s1.time with counting := false },
            trn := { restart := s1.trn.restart, tidCnt := s1.trn.tidCnt } }

/-- Switch quadrants and trackers are reset with their links (R331): messages in flight there are lost (R188). -/
def State.resetSwitch (s : State) : State :=
  let s1 : State := allLinks.foldl (fun t p => (t.linkReset p).modPort p fun q => { q with vcs := [{}, {}, {}], cbcq := [] }) s
  { s1 with trn := { s1.trn with inbox := [] } }

/-- A forced switch of a mux whose switch is pending (R332): counted, recorded, and the domain reset. -/
def State.forceMux (s : State) (m : Nat) : State :=
  if s.clk.pend.any (fun e => e.1 == m) then
    let s1 : State := { s with clk := { s.clk with pend := s.clk.pend.filter fun e => e.1 != m } }
    let s2 : State := (s1.addFld R.CLK_TRIP F.CLK_TRIP_FORCED 1).clockRecord (s1.fld R.CLK_TRIP F.CLK_TRIP_CLOCK) (s1.fld R.CLK_TRIP F.CLK_TRIP_KIND) (2 ^ m) false
    if m = 0 then { s2 with clk := { s2.clk with onFast := true } }.resetRidge
    else if m = 1 then s2.resetSwitch
    else s2.bellReset (m - 2)
  else s

/-- MUX_SWITCH_TIMEOUT (R332): 64 cycles of the new clock, 160 ns of the fast oscillator, without completion. -/
def execMuxSwitchTimeout (m : Fin 10) (s : State) : Host.Outcome State Fault Refusal :=
  .next (if s.clk.pend.any (fun e => e.1 == m.val && decide (e.2 + 160 ≤ s.now)) then s.forceMux m.val else s)

/-- CLK_MUX_FORCE (R332, R336): muxes with no switch pending are ignored. -/
def State.forceMuxes (s : State) (w : Nat) : State := (List.range 10).foldl (fun t m => if bit w m then t.forceMux m else t) s
def execClkMuxForce (muxes : BitVec 10) (s : State) : Host.Outcome State Fault Refusal := .next (s.forceMuxes muxes.toNat)

/-- Clock-role check (R327): ROLE.CLOCK_LEADER of the image in force against MODE as sampled. -/
def State.checkRole (s : State) : State :=
  if s.active ∧ s.img.clockLeader ≠ bit s.clk.cfg 0 then (s.setFld R.CLK_STAT F.CLK_STAT_ROLE_MISMATCH 1).pulse 17 []
  else s.setFld R.CLK_STAT F.CLK_STAT_ROLE_MISMATCH 0


/-- A write of a domain's enables (R334): ignored where it sets SLEEP_EN without RUN_EN, DSLEEP_EN without SLEEP_EN, or clears an enable of
PD_RIDGE_00, 06 or 07. -/
def State.writeGate (s : State) (d v : Nat) : State :=
  let v := v % 8
  if (bit v 1 ∧ !bit v 0) ∨ (bit v 2 ∧ !bit v 1) ∨ ([0, 6, 7].contains d ∧ v ≠ 7) then s
  else { s with clk := { s.clk with gate := SMap.set (fun _ => none) s.clk.gate d (if v = gateReset d then none else some v) } }

end Sys2Proof.Machine
end

