-- ==== Sys2Proof/Machine/Power.lean ====
section
/-!
DEFINITION. Power: the input and its faults (R337 to R340), power domains and their states (R341 to R343), Bell operating points (R344,
R345), the power limit (R346), and power telemetry with feed-forward (R347).
-/

namespace Sys2Proof.Machine

open Sys2Proof

/-- The order in which the sequencer switches domains on (R343): steps 2 and 3 of the Ridge, a Bell, a Canopy. -/
def seqStep2 : List Nat := [6, 7, 5, 3, 4, 1, 2]
def seqStep3 : List Nat := [8, 9, 10, 11, 14, 15, 16, 17, 18, 19, 12, 13, 20, 21, 22, 23, 24, 25, 26, 27]
def seqBell (b : Nat) : List Nat := [0, 1, 11, 3, 4, 5, 6, 2, 7, 8, 9, 10].map (domBell b)
def seqCan (k : Nat) : List Nat := [0, 1, 2].map (domCan k)

/-- Domains switched on in an order. -/
def State.domsOn (s : State) (l : List Nat) : State := l.foldl (fun t d => t.setDom d 0) s

/-- The operating point of a Bell in force (R345): PWR_BELL_OPP and BEL_STAT.OPP. -/
def State.opp (s : State) (b : Nat) : Nat := s.fld R.PWR_BELL_OPP (F.PWR_BELL_OPP_OPP b)
def State.setOpp (s : State) (b v : Nat) : State :=
  (s.setFld R.PWR_BELL_OPP (F.PWR_BELL_OPP_OPP b) v).setFld (R.BEL_STAT b) F.BEL_STAT_OPP v

/-- Everything but the domains kept is switched off (R340, R352): Bells and slot dies are in reset and not live, DRAM contents are lost, the rings
lose their lock, the poles are off, and the FTC stops. -/
def State.domainsOff (s : State) (keep : List Nat) : State :=
  let s1 : State := (List.range 148).foldl (fun t d => if keep.contains d then t else t.setDom d 3) s
  let s2 : State := (List.range 8).foldl (fun t b =>
    ((t.onBell b fun x => { x with inReset := true, runs := [], queue := [], held := [], initPending := true }).setBellLive b false).setOpp b 0) s1
  let s3 : State := (List.range 8).foldl (fun t k =>
    ((t.setSlot k { t.slot k with inReset := true }).setSlotLive k false).modCanopy k CanopySt.drop) s2
  let s4 : State := if keep.contains 5 then s3 else s3.setFld R.DRY_STAT F.DRY_STAT_READY 0
  { s4 with pole := {}, time := { s4.time with counting := false }, pwr := { s4.pwr with step := [] } }

/-- A power fail (R340): the Strike state, its record and a POWER_FAIL record from hold-up energy after the records queued before them (R371, R391; of
more than 16 the newest, DESIGN CHOICE, log entry 202), and every domain but PD_RIDGE_00 off. Causes: 1 undervoltage, 2 overvoltage, 3 overcurrent, 4 intermediate output lost. -/
def State.powerFail (s : State) (cause cv ca : Nat) : State :=
  if s.pwr.failed then s
  else
    let s1 : State := s.setReg R.PWR_IN (BitVec.ofNat 32 (min cv 65535 + min ca 65535 * 65536))
    let s2 : State := ((s1.setFld R.PWR_STAT F.PWR_STAT_FAIL cause).pulse 6 (le 1 cause)).enterStrike 6 0xFFFF
    let s3 : State := (s2.setFld R.DRY_STAT F.DRY_STAT_READY 0).strikeRecord.dryEvent 5 0xFF (le 1 cause ++ le 4 (s2.reg R.PWR_IN).toNat)
    let q := s3.dry.queued.drop (s3.dry.queued.length - 16)
    let s4 : State := (({ s3 with dry := { s3.dry with queued := q } }.setFld R.DRY_STAT F.DRY_STAT_READY 1).dryFlush 8).domainsOff [0]
    { s4 with pwr := { s4.pwr with failed := true } }

/-- Loss of always-on power: the registers of domain AON return to their reset values (R17), but those that show the Dry bag's contents, which are
non-volatile. -/
def State.aonLost (s : State) : State :=
  let s1 : State := s.powerFail 1 0 0
  let keep (a : Nat) : Bool := a == R.DRY_SEQ || a == R.DRY_HEAD || a == R.DRY_STAT
  let s2 : State := s1.resetRegs .aon fun a => !keep a
  let s3 : State := ((s2.setFld R.DRY_STAT F.DRY_STAT_READY 0).setFld R.DRY_STAT F.DRY_STAT_HOLDUP_OK 0).setFld R.DRY_STAT F.DRY_STAT_WRITE_ERR 0
  { s3 with pwr := { s3.pwr with aon := false, sens := [], region := [] }, trn := { s3.trn with restart := 0 },
            dry := { s3.dry with queued := [] }, flt := { s3.flt with events := [], dropped := 0 }, tap := {} }

/-- INPUT_UNDERVOLTAGE (R337, R340): the input, in 10 mV, below 38.0 V. With the input gone and no AUX_3V3 the device is unpowered. -/
def execInputUndervoltage (cv : Nat) (s : State) : Host.Outcome State Fault Refusal :=
  .next (if cv < 3800 ∧ s.pwr.aon then
    let s1 : State := (s.powerFail 1 cv 0).setFld R.PWR_IN F.PWR_IN_VIN cv
    if cv = 0 ∧ s.fld R.PWR_STAT F.PWR_STAT_AUX = 0 then s1.aonLost else s1
  else s)

/-- INPUT_OVERVOLTAGE (R337): above 63.0 V. Above 72 V no behaviour is specified. -/
def execInputOvervoltage (cv : Nat) (s : State) : Host.Outcome State Fault Refusal :=
  if 7200 < cv then .fault .absoluteMaximum
  else .next (if 6300 < cv ∧ s.pwr.aon then (s.powerFail 2 cv 0).setFld R.PWR_IN F.PWR_IN_VIN cv else s)

/-- INPUT_OUT_OF_RANGE (R337): the input between 38.0 V and 40.0 V, or 60.0 V and 63.0 V; a value within 40 V to 60 V ends the condition. -/
def execInputOutOfRange (cv : Nat) (s : State) : Host.Outcome State Fault Refusal :=
  let set (lo hi : Nat) : State :=
    ((s.setFld R.PWR_IN F.PWR_IN_VIN cv).setFld R.PWR_STAT F.PWR_STAT_VIN_LOW lo).setFld R.PWR_STAT F.PWR_STAT_VIN_HIGH hi
  .next (if !s.pwr.aon then s
  else if s.pwr.failed then s.setFld R.PWR_IN F.PWR_IN_VIN cv
  else if 3800 ≤ cv ∧ cv < 4000 then (set 1 0).raise 7 (le 2 cv)
  else if 6000 < cv ∧ cv ≤ 6300 then (set 0 1).raise 7 (le 2 cv)
  else if 4000 ≤ cv ∧ cv ≤ 6000 then (set 0 0).lower 7
  else s)

/-- INPUT_OVERCURRENT (R338): the input current, in 10 mA, above 55 A. -/
def execInputOvercurrent (cv ca : Nat) (s : State) : Host.Outcome State Fault Refusal :=
  .next (if 5500 < ca ∧ s.pwr.aon then s.powerFail 3 cv ca else s)

/-- POWER_FAIL (R340), by the cause codes of PWR_STAT.FAIL. -/
def execPowerFail (cause : Fin 8) (cv ca : Nat) (s : State) : Host.Outcome State Fault Refusal :=
  .next (if 1 ≤ cause.val ∧ cause.val ≤ 4 ∧ s.pwr.aon then s.powerFail cause.val cv ca else s)

/-- AUX_POWER_CHANGE (R435): the always-on converter changes its feed. Without AUX_3V3 while the main conversion has failed on an input that is
gone, the always-on domain loses power. -/
def execAuxPowerChange (on : Bool) (s : State) : Host.Outcome State Fault Refusal :=
  .next (if !s.pwr.aon then s
  else
    let s1 : State := s.setFld R.PWR_STAT F.PWR_STAT_AUX (b2n on)
    if !on ∧ s.pwr.failed ∧ s.fld R.PWR_IN F.PWR_IN_VIN = 0 then s1.aonLost else s1)

/-- The Bell or the Canopy of a domain (R336). -/
def bellOfDom (d : Nat) : Nat := (d - 28) / 12
def canOfDom (d : Nat) : Nat := (d - 124) / 3

/-- What a domain held is lost as it goes OFF (R341). For PD_RIDGE_16 to 19 the manual does not say which bank holds what. -/
def State.domLost (s : State) (d : Nat) : State :=
  if d < 8 then s
  else if d < 12 then s.resetSwitch
  else if d < 14 then
    { s with col := { s.col with insts := s.col.insts.filter fun x => !((s.img.coll? x.coll).any fun c => c.engine / 2 == d - 12) } }
  else if d = 14 then { s with trn := { s.trn with reqs := [], dedup := [], reads := [] } }
  else if d = 15 then s
  else if d < 20 then
    let s1 : State := s.resetSwitch
    { s1 with jrn := {}, pit := {}, col := {}, trn := { s1.trn with dedup := [] } }.setReg R.PIT_STAT 0
  else if d < 24 then (s.seamDrop (2 * (d - 20))).seamDrop (2 * (d - 20) + 1)
  else if d < 28 then (s.slotDrop (2 * (d - 24))).slotDrop (2 * (d - 24) + 1)
  else if d < 124 then
    let b := bellOfDom d
    let n := (d - 28) % 12
    let s1 : State := if 3 ≤ n ∧ n ≤ 6 then s.onBell b fun x => { x with initPending := true } else s
    if (s1.bell b).inReset then s1 else s1.bellReset b
  else
    let k := canOfDom d
    let n := (d - 124) % 3
    if n = 0 then (if (s.slot k).inReset then s else s.slotReset k)
    else if n = 1 then s.modCanopy k CanopySt.drop
    else (List.range 4).foldl (fun t q => t.linkReset (4 * k + q)) s

/-- The Lanterns of Canopy k start (R350). -/
def State.lanternsStart (s : State) (k : Nat) : State := s.modCanopy k fun c => { c with lantAt := s.now }

/-- A domain returns to RUN from OFF: a Bell's core domains start at OPP 0 (R345), and a Canopy's Lanterns light. -/
def State.domStarted (s : State) (d : Nat) : State :=
  let n := (d - 28) % 12
  if 28 ≤ d ∧ d < 124 ∧ (n = 2 ∨ 7 ≤ n ∧ n ≤ 10) then s.setOpp (bellOfDom d) 0
  else if 124 ≤ d ∧ (d - 124) % 3 = 1 then s.lanternsStart (canOfDom d)
  else s

/-- The domain of a FAILED pole, which stays off until a pin reset (R377). -/
def State.poleDown (s : State) (d : Nat) : Bool := (d == 1 && s.pole.stA == .failed) || (d == 2 && s.pole.stB == .failed)

/-- The requests that R342 refuses. The domains of a fused-off Bell take no state but OFF (R5, R42), and the Seam PHY pair of a live Bell none
but an on one (R42); that such a request shows as REFUSED is DEDUCED (log entry 156). -/
def State.domRefused (s : State) (d req : Nat) : Bool :=
  (decide (d ≤ 7) && req != 0) || s.poleDown d
  || (decide (20 ≤ d) && decide (d < 24) && req == 3 && (s.bellLive (2 * (d - 20)) || s.bellLive (2 * (d - 20) + 1)))
  || (decide (28 ≤ d) && decide (d < 124) &&
      ((req == 3 && s.bellLive (bellOfDom d)) || ((req == 1 || req == 2) && !(s.bell (bellOfDom d)).runs.isEmpty)
        || (req != 3 && !s.fitted (bellOfDom d))))
  || (decide (124 ≤ d) && req == 3 && (List.range 4).any fun q => s.portUse (4 * canOfDom d + q) != 0)

/-- DOMAIN_STATE_REQUEST (R341, R342): a PWR_DOM_CTL write for a domain: 0 RUN, 1 SLEEP, 2 DEEP_SLEEP, 3 OFF. -/
def State.domRequest (s : State) (d req : Nat) : State :=
  let s1 : State := { s with pwr := { s.pwr with req := SMap.set (fun _ => none) s.pwr.req d (some req) } }
  if s.domRefused d req then
    { s1 with pwr := { s1.pwr with refused := if s1.pwr.refused.contains d then s1.pwr.refused else s1.pwr.refused ++ [d] } }
  else
    let old := s.dom d
    let s2 : State := s1.setDom d req
    if old ≠ 3 ∧ req = 3 then s2.domLost d
    else if old = 3 ∧ req ≠ 3 then s2.domStarted d
    else s2
def execDomainStateRequest (dom : Fin 148) (req : Fin 4) (s : State) : Host.Outcome State Fault Refusal :=
  .next (if s.pwr.failed ∨ s.dom 7 = 3 then s else s.domRequest dom.val req.val)

/-- ENGINE_GROUP_IDLE (R342): an engine group whose clusters have executed no descriptor for IDLE_US sleeps while ENG_EN is 1. -/
def execEngineGroupIdle (b : Fin 8) (g : Fin 4) (s : State) : Host.Outcome State Fault Refusal :=
  let d := domBell b.val (7 + g.val)
  let busy : Bool := (s.bell b.val).runs.any fun r => r.cur.any fun a => bits a.d.clusterMask (4 * g.val + 3) (4 * g.val) != 0
  .next (if s.fld R.PWR_AUTO F.PWR_AUTO_ENG_EN = 1 ∧ s.dom d = 0 ∧ !busy ∧ !s.inStrike
      ∧ SMap.get (fun _ => 0) (s.bell b.val).engAt g.val + 1000 * s.fld R.PWR_AUTO F.PWR_AUTO_IDLE_US ≤ s.now then s.setDom d 1 else s)

/-- The die of a failed domain is held in die reset (R343, R350). -/
def State.holdBell (s : State) (b : Nat) : State :=
  (if (s.bell b).inReset then s else s.bellReset b).onBell b fun x => { x with dead := true, inReset := true }
def State.holdSlot (s : State) (k : Nat) : State :=
  let s1 : State := if (s.slot k).inReset then s else s.slotReset k
  s1.setSlot k { s1.slot k with dead := true, inReset := true }

/-- R343: the power-good of domain d is lost: a domain of the Ridge enters Strike, one of a Bell or slot holds its die. -/
def State.poleFails (s : State) (d : Nat) : State :=
  let s1 : State := { s with
    pwr := { s.pwr with pgFail := if s.pwr.pgFail.contains d then s.pwr.pgFail else s.pwr.pgFail ++ [d] } }
  let s2 : State := s1.pulse 9 (le 2 d)
  if d < 28 then (if d = 0 then s2 else s2.setDom d 3).enterStrike 9 0xFFFF
  else if d < 124 then (s2.holdBell (bellOfDom d)).setDom d 3
  else (s2.holdSlot (canOfDom d)).setDom d 3

/-- POWER_GOOD_FAIL (R343): power-good missed within 200 µs or lost: the domain goes off, source 9 is raised; a Bell or Canopy domain takes its die
out of service and a Ridge domain forces the Strike state. -/
def execPowerGoodFail (dom : Fin 148) (s : State) : Host.Outcome State Fault Refusal :=
  let d := dom.val
  .next (if s.pwr.failed ∨ (28 ≤ d ∧ d < 124 ∧ !s.fitted (bellOfDom d)) then s else s.poleFails d)

/-- The thermal limit of a region and of a Bell (R351): a Bell falls with its own region and with Canopies b and (b + 1) mod 8. -/
def State.regionLim (s : State) (r : Nat) : Nat := SMap.get (fun _ => 5) s.pwr.thLim r
def State.setRegionLim (s : State) (r v : Nat) : State := { s with pwr := { s.pwr with thLim := SMap.set (fun _ => 5) s.pwr.thLim r v } }
def State.thermalLimit (s : State) (b : Nat) : Nat := min (s.regionLim (1 + b)) (min (s.regionLim (9 + b)) (s.regionLim (9 + (b + 1) % 8)))

/-- The power limit of a Bell (R346). -/
def State.powerLimit (s : State) (b : Nat) : Nat := SMap.get (fun _ => 5) s.pwr.pwLim b
def State.setPowerLimit (s : State) (b v : Nat) : State := { s with pwr := { s.pwr with pwLim := SMap.set (fun _ => 5) s.pwr.pwLim b v } }

/-- The target operating point of Bell b but for the power limit, and with it (R345). -/
def State.otherTarget (s : State) (b : Nat) : Nat :=
  min s.img.oppMax (min (s.fld R.PWR_OPP_CAP (F.PWR_OPP_CAP_CAP b)) (s.thermalLimit b))
def State.oppTarget (s : State) (b : Nat) : Nat := min (s.otherTarget b) (s.powerLimit b)

/-- LIMITING: the power limit holds some Bell below its other limits (R346). -/
def State.noteLimiting (s : State) : State :=
  s.setFld R.PWR_STAT F.PWR_STAT_LIMITING (b2n ((List.range 8).any fun b => s.bellLive b && decide (s.powerLimit b < s.otherTarget b)))

/-- A Bell's operating point moves: it is out of die reset and its core domain is on. -/
def State.oppRuns (s : State) (b : Nat) : Bool := !(s.bell b).inReset && s.dom (domBell b 2) == 0

/-- DVFS_STEP (R345): one point toward the target; a step in progress ends first. -/
def execDvfsStep (b : Fin 8) (s : State) : Host.Outcome State Fault Refusal :=
  let b := b.val
  .next (s.live fun s =>
    if !s.oppRuns b ∨ (SMap.get (fun _ => none) s.pwr.step b).isSome ∨ s.opp b = s.oppTarget b then s
    else
      let v := if s.opp b < s.oppTarget b then s.opp b + 1 else s.opp b - 1
      { s with pwr := { s.pwr with step := SMap.set (fun _ => none) s.pwr.step b (some v) } })

/-- DVFS_STEP_END (R345): the step ends; one that has not ended within 20 µs leaves the lower of the two points and raises the DVFS-step source. -/
def execDvfsStepEnd (b : Fin 8) (late : Bool) (s : State) : Host.Outcome State Fault Refusal :=
  let b := b.val
  .next (s.live fun s =>
    match SMap.get (fun _ => none) s.pwr.step b with
    | none => s
    | some v =>
      let s1 : State := { s with pwr := { s.pwr with step := SMap.set (fun _ => none) s.pwr.step b none } }
      if late then (s1.setOpp b (min v (s.opp b))).pulse (srcBell b 7) (le 1 (s.opp b) ++ le 1 v) else s1.setOpp b v)

/-- The Bell now drawing the most power, the lowest number of equals. -/
def State.hungriest (s : State) : Option Nat :=
  ((List.range 8).filter s.bellLive).foldl (fun m b => match m with
    | none => some b
    | some c => if s.fld (R.PWR_BELL_P c) F.PWR_BELL_P_P < s.fld (R.PWR_BELL_P b) F.PWR_BELL_P_P then some b else some c) none

/-- R346: no rise of a limit is being waited for. -/
def State.noRise (s : State) : State := { s with pwr := { s.pwr with riseAt := none } }

/-- R346: below the limit by 50 W or more for 10 ms, the lowest limit rises one point. -/
def State.riseLimit (s : State) : State :=
  match s.pwr.riseAt with
  | none => { s with pwr := { s.pwr with riseAt := some s.now } }
  | some t =>
    if 10000000 + t ≤ s.now then
      let b := (List.range 8).foldl (fun m c => if s.powerLimit c < s.powerLimit m then c else m) 0
      let s1 : State := s.setPowerLimit b (min 5 (s.powerLimit b + 1))
      { s1 with pwr := { s1.pwr with riseAt := some s1.now } }
    else s

/-- R346: what a check of the input power does, peak and avg in tenths of a watt. -/
def State.limitPower (s : State) (peak avg : Nat) : State :=
  let a := R.PWR_INPUT_P
  let s1 : State := (s.setFld a F.PWR_INPUT_P_AVG (min avg 65535)).setFld a F.PWR_INPUT_P_PEAK (max (s.fld a F.PWR_INPUT_P_PEAK) (min peak 65535))
  let lim := 10 * s.img.policy 6 2 1650
  let s2 : State :=
    if 20000 < peak then
      ((((List.range 8).foldl (fun t b => t.setPowerLimit b 0) s1).setFld R.PWR_STAT F.PWR_STAT_PEAK 1).pulse 8 (le 4 peak)).noRise
    else if lim < avg then
      (match s1.hungriest with
        | some b => (s1.setPowerLimit b (s1.powerLimit b - 1)).bump R.PWR_LIMIT_CNT
        | none => s1).noRise
    else if avg + 500 ≤ lim then s1.riseLimit
    else s1.noRise
  s2.noteLimiting

/-- POWER_LIMIT_CHECK (R346): the 100 µs and the 1 ms average, in 0.1 W. -/
def execPowerLimitCheck (peak avg : Nat) (s : State) : Host.Outcome State Fault Refusal :=
  .next (s.live fun s => s.limitPower peak avg)

/-- The gain of a Canopy for a Bell's power in 1/256 code per watt (R250), signed. -/
def State.ffGain (s : State) (k b : Nat) : Int :=
  signed 16 ((SMap.get (fun _ => none) (s.canopy k).gain b).getD (Config.factoryGain k b).toNat)

/-- R250, R347: a power sample of Bell b whose domain is not off: its register, the feed-forward of every Canopy, and the calibration a step of the
filtered power starts. -/
def State.powerSample (s : State) (b power filtered : Nat) : State :=
  let pf := min filtered 65535
  let last := SMap.get (fun _ => 0) s.pwr.ffLast b
  let ref := SMap.get (fun _ => 0) s.pwr.ffRef b
  let s1 : State := s.setReg (R.PWR_BELL_P b) (BitVec.ofNat 32 (min power 65535 + pf * 65536))
  let s2 : State := (List.range 8).foldl (fun t k => t.modCanopy k fun c => { c with ff := c.ff + t.ffGain k b * ((pf : Int) - last) }) s1
  let s3 : State := { s2 with pwr := { s2.pwr with ffLast := SMap.set (fun _ => 0) s2.pwr.ffLast b pf } }
  if 10 * s3.fld R.PWR_FF_CFG F.PWR_FF_CFG_THRESH ≤ ((pf : Int) - ref).natAbs then
    let s4 : State := { s3 with pwr := { s3.pwr with ffRef := SMap.set (fun _ => 0) s3.pwr.ffRef b pf } }
    (s4.calAll b).calAll ((b + 1) % 8)
  else s3

/-- PWR_FF_CFG.TAU in force: the factory's until one is written (R356). -/
def State.tau (s : State) : Nat := if s.fld R.PWR_FF_CFG F.PWR_FF_CFG_TAU = 0 then Config.factoryTau.toNat else s.fld R.PWR_FF_CFG F.PWR_FF_CFG_TAU

/-- The first-order filter of a Bell's power (R347): its output lies between the one before it and the sample; where between is a free value, since the
number format is not stated; `fine` is what the filter held below 0.1 W. -/
def State.filtered (s : State) (b power fine : Nat) : Nat :=
  let last := SMap.get (fun _ => 0) s.pwr.ffLast b
  max (min last power) (min (max last power) (Config.powerFilter s.tau last power fine))

/-- BELL_POWER_SAMPLE (R250, R347): a Bell's power in 0.1 W, passed through the filter. Every Canopy takes the change of the filtered value; a change of
THRESH or more from the reference is a feed-forward event, which queues every ring of Canopies b and (b + 1) mod 8. -/
def execBellPowerSample (b : Fin 8) (power fine : Nat) (s : State) : Host.Outcome State Fault Refusal :=
  .next (s.live fun s => if s.dom (domBell b.val 0) = 3 then s else s.powerSample b.val power (s.filtered b.val power fine))

end Sys2Proof.Machine
end

