-- ==== Sys2Proof/Machine/Thermal.lean ====
section
/-!
DEFINITION. Temperature: sensor samples and what follows from them (R348, R349, R351, R352), throttling, the thermal trip and the cross-check
command (R350, R357).
-/

namespace Sys2Proof.Machine

open Sys2Proof

/-- A thermal region (R351): the Ridge 0, Bell b as 1 + b, Canopy k as 9 + k, which is the number of its die. -/
def State.region (s : State) (r : Nat) : Region := SMap.get (fun _ => {}) s.pwr.region r
def State.setRegion (s : State) (r : Nat) (v : Region) : State :=
  { s with pwr := { s.pwr with region := SMap.set (fun _ => {}) s.pwr.region r v } }

/-- The sensors of a region that take part in its thresholds: a LANTERN sensor only while it is bad (R349, R351). -/
def State.regionSensors (s : State) (r : Nat) : List Nat :=
  if s.dieRead r then (dieSensors r).filter fun i => sensorClass i != 2 || (s.sensor i).bad else []

/-- Some sensor at its throttle or warning threshold, and all of them below it by 5 °C. -/
def State.throttleHot (s : State) (r : Nat) : Bool := (s.regionSensors r).any fun i => decide (s.classThrottle (sensorClass i) ≤ s.meanTemp i)
def State.throttleCool (s : State) (r : Nat) : Bool := (s.regionSensors r).all fun i => decide (s.meanTemp i < s.classThrottle (sensorClass i) - 20)
def State.warnHot (s : State) (r : Nat) : Bool := (s.regionSensors r).any fun i => sensorClass i != 2 && decide (s.classWarn (sensorClass i) ≤ s.meanTemp i)
def State.warnCool (s : State) (r : Nat) : Bool := (s.regionSensors r).all fun i => sensorClass i == 2 || decide (s.meanTemp i < s.classWarn (sensorClass i) - 20)

/-- The ports to which a region's throttle is sent (R351): all for the Ridge, its own for a Canopy, none for a Bell. -/
def regionPorts (r : Nat) : List Nat := if r = 0 then List.range 32 else if r < 9 then [] else (List.range 4).map (· + 4 * (r - 9))

/-- A region throttled or not is shown in THM_THROTTLE and THM_STAT, and drives source 12 (R351, R357). -/
def State.showThrottle (s : State) (r : Nat) (on : Bool) : State :=
  let w := withBit (s.reg R.THM_THROTTLE).toNat r on
  let s1 : State := (s.setReg R.THM_THROTTLE (BitVec.ofNat 32 w)).setFld R.THM_STAT F.THM_STAT_THROTTLE (b2n (decide (0 < w)))
  if on then s1.raise 12 (le 1 r) else if w = 0 then s1.lower 12 else s1

/-- A region enters or leaves throttling (R351). -/
def State.enterThrottle (s : State) (r : Nat) : State :=
  let s1 : State := s.setRegion r { s.region r with on := true, stepAt := s.now, coolAt := none, zeroAt := none }
  let s2 : State := (s1.showThrottle r true).addFld R.THM_EVT_CNT F.THM_EVT_CNT_THROTTLE 1
  (regionPorts r).foldl (fun t p => t.sendThrottle p) s2
def State.leaveThrottle (s : State) (r : Nat) : State :=
  let s1 : State := (s.setRegion r { s.region r with on := false, stepAt := s.now, coolAt := none, zeroAt := none }).showThrottle r false
  (regionPorts r).foldl (fun t p => t.liftThrottle p) s1

/-- A region after a sample of one of its sensors: the warning and the throttle decisions (R351). -/
def State.regionUpdate (s : State) (r : Nat) : State :=
  let x := s.region r
  let s1 : State :=
    if !x.warn ∧ s.warnHot r then
      ((s.setRegion r { x with warn := true }).addFld R.THM_EVT_CNT F.THM_EVT_CNT_WARN 1).raise 11 (le 1 r)
    else if x.warn ∧ s.warnCool r then s.setRegion r { x with warn := false }
    else s
  let any := (List.range 17).any fun q => (s1.region q).warn
  let s2 : State := s1.setFld R.THM_STAT F.THM_STAT_WARN (b2n any)
  let s3 : State := if !any ∧ x.warn then s2.lower 11 else s2
  let y := s3.region r
  if !y.on then (if s3.throttleHot r then s3.enterThrottle r else s3)
  else if s3.throttleCool r then s3.setRegion r { y with coolAt := some (y.coolAt.getD s3.now) }
  else s3.setRegion r { y with coolAt := none }

/-- A thermal trip (R352): the Strike state, the record and the latch, and the domains off but those that keep the sensors, the Dry bag and the
Guy line alive. -/
def State.thermalTrip (s : State) (i : Nat) (reading : Int) : State :=
  let s1 : State := (s.pulse 10 (le 2 i ++ le 2 (unsigned 16 reading))).enterStrike 10 0xFFFF
  let kept : State := (s1.setFld R.DRY_STAT F.DRY_STAT_READY 1).dryEvent 4 (sensorDie i) (le 2 i ++ le 1 (sensorClass i) ++ le 2 (unsigned 16 reading))
  let s2 : State := kept.setFld R.DRY_STAT F.DRY_STAT_READY (s1.fld R.DRY_STAT F.DRY_STAT_READY)
  let s3 : State := s2.setReg R.THM_LATCH (BitVec.ofNat 32 (i + unsigned 12 reading * 2 ^ 10 + 2 ^ 31))
  s3.domainsOff ([0, 5, 6] ++ (List.range 8).map (fun b => domBell b 0) ++ (List.range 8).map (fun k => domCan k 0))

/-- The refresh rate of a DRAM die from its hottest sensor (R49): up at once, and down 2 °C below a step's threshold. A bad sensor puts the die
at 4×. -/
def refreshRate (cur : Nat) (hot : Int) : Nat :=
  let up := if hot ≤ 340 then 0 else if hot ≤ 380 then 1 else 2
  let down := if hot ≤ 332 then 0 else if hot ≤ 372 then 1 else 2
  max up (min cur down)
def State.noteRefresh (s : State) (b d : Nat) : State :=
  let i := 64 + 48 * b + 32 + 2 * d
  let bad := (s.sensor i).bad || (s.sensor (i + 1)).bad
  let cur := s.fld (R.BEL_REFRESH b) (F.BEL_REFRESH_RATE d)
  s.setFld (R.BEL_REFRESH b) (F.BEL_REFRESH_RATE d) (if bad then 2 else refreshRate cur (max (s.rawTemp i) (s.rawTemp (i + 1))))

/-- The rings of a Canopy whose sensor has moved by more than CAL_DELTA since their last calibration, queued (R256). -/
def State.ringTemp (s : State) (i : Nat) : State :=
  let k := (i - 448) / 20
  allHeaters.foldl (fun t h =>
    if ringSensorOf k h = i ∧ ((t.calDelta : Nat) : Int) < ((t.rawTemp i - (t.ring k h).calTemp).natAbs : Int) then t.queueCal k h else t) s

/-- What a good sample sets off beside the thresholds: refresh (R49), calibrations (R256, R295). -/
def State.sampleEffects (s : State) (i : Nat) : State :=
  if i < 64 then
    (if 32 ≤ i ∧ i < 36 then (s.seamTemp (2 * (i - 32)) i).seamTemp (2 * (i - 32) + 1) i else s)
  else if i < 448 then
    let b := (i - 64) / 48
    let n := (i - 64) % 48
    if 32 ≤ n ∧ n < 40 then s.noteRefresh b ((n - 32) / 2)
    else if 40 ≤ n ∧ n < 44 then s.seamTemp b i
    else s
  else s.ringTemp i

/-- The samples in a row at the limit of a class (R352, R265): 125 °C, and 105 °C for a RING sensor. -/
def tripLimit (c : Nat) : Int := if c = 1 then 420 else 500

/-- R349: a reading outside −20 °C to 140 °C, or a sensor's own fault (2: no reading at all), marks sensor k bad. -/
def State.badSample (s : State) (k fail : Nat) : State :=
  let s1 : State := s.markBad k (if fail = 2 then 2 else 1)
  let s2 : State := if 64 ≤ k ∧ k < 448 then s1.sampleEffects k else s1
  s2.regionUpdate (sensorDie k)

/-- R265, R267, R352: a Lantern whose sensor k has been too hot three times in a row: switched to its standby, or the Canopy goes dark. -/
def State.lanternHot (s : State) (k : Nat) : State :=
  let c := (k - 448) / 20
  let l := (k - 448) % 20 - 16
  s.live fun t =>
    if t.fld (R.OPT_STAT c) F.OPT_STAT_DARK = 1 ∨ t.fld (R.OPT_STAT c) F.OPT_STAT_LANT_ACT ≠ l then t
    else if t.fld (R.OPT_STAT c) F.OPT_STAT_STBY_OK = 1 then t.lantSwitch c 4 else t.canopyDark c

/-- R348, R351, R352: a reading of sensor k in range: kept with the last four, with its effects; the third in a row at the trip limit trips. -/
def State.goodSample (s : State) (k : Nat) (reading : Int) : State :=
  let x := s.sensor k
  let hot := if !x.bad ∧ tripLimit (sensorClass k) ≤ reading then x.hot + 1 else 0
  let s1 : State := s.setSensor k { x with samples := (reading :: x.samples).take 4, hot := hot }
  let s2 : State := s1.sampleEffects k
  if 3 ≤ hot ∧ sensorClass k = 2 then s2.lanternHot k
  else if 3 ≤ hot ∧ s2.fld R.THM_LATCH F.THM_LATCH_VALID = 0 then s2.thermalTrip k reading
  else s2.regionUpdate (sensorDie k)

/-- SENSOR_SAMPLE (R348 to R352): a reading in 0.25 °C. `fail` 1: the self-test finds an open or a short; 2: no answer for three samples. -/
def execSensorSample (i : Fin 608) (reading : Int) (fail : Fin 3) (s : State) : Host.Outcome State Fault Refusal :=
  .next (if !s.dieRead (sensorDie i.val) then s
  else if fail.val ≠ 0 ∨ reading < -80 ∨ 560 < reading then s.badSample i.val fail.val
  else s.goodSample i.val reading)

/-- THROTTLE_STEP (R351): the limit of a throttled region falls one point every 1 ms; it leaves throttling when all its sensors have been cool for
10 ms, and its limit then rises one point every 10 ms. -/
def execThrottleStep (region : Fin 17) (s : State) : Host.Outcome State Fault Refusal :=
  let r := region.val
  let x := s.region r
  .next (s.live fun s =>
    if x.on then
      if x.coolAt.any fun t => decide (10000000 + t ≤ s.now) then s.leaveThrottle r
      else if r = 0 ∨ s.now < 1000000 + x.stepAt then s
      else
        let v := s.regionLim r - 1
        (s.setRegionLim r v).setRegion r { x with stepAt := s.now, zeroAt := if v = 0 then some (x.zeroAt.getD s.now) else none }
    else if s.regionLim r < 5 ∧ 10000000 + x.stepAt ≤ s.now then
      (s.setRegionLim r (s.regionLim r + 1)).setRegion r { x with stepAt := s.now }
    else s)

/-- A cluster of a Bell is kept busy for at most half of its cycles (R351): OPP 0 for 10 ms while throttled. -/
def State.halfBusy (s : State) (b : Nat) : Bool :=
  [1 + b, 9 + b, 9 + (b + 1) % 8].any fun r => (s.region r).on && (s.region r).zeroAt.any fun t => decide (10000000 + t ≤ s.now)

/-- A die that runs no descriptor, whose Lanterns have been steady for 10 ms and whose sensors are read (R350). -/
def State.dieIdle (s : State) (die : Nat) : Bool :=
  s.dieRead die && (if die = 0 then true
    else if die < 9 then (s.bell (die - 1)).runs.isEmpty
    else decide (10000000 + (s.canopy (die - 9)).lantAt ≤ s.now))

/-- A cross-check with its consequence (R350): a Bell or slot die with more than a quarter of its sensors bad is held in die reset, and the device
stays in the Strike state when it is the Ridge. -/
def State.crossCheck (s : State) (die : Nat) : State :=
  let s1 : State := s.xcheck die
  if s1.sensorsLost die then
    (if die = 0 then s1.enterStrike 13 0xFFFF else if die < 9 then s1.holdBell (die - 1) else s1.holdSlot (die - 9))
  else s1

/-- THM_XCHECK (R350, R357): RESULT 1 passed, 2 sensors marked bad, 3 refused. -/
def State.thmXcheck (s : State) (die : Nat) : State :=
  let a := R.THM_XCHECK
  if !s.dieIdle die then s.setFld a F.THM_XCHECK_RESULT 3
  else
    let ok := (dieSensors die).all s.sensorAgrees
    (s.crossCheck die).setFld a F.THM_XCHECK_RESULT (if ok then 1 else 2)
def execThmXcheck (die : Fin 17) (s : State) : Host.Outcome State Fault Refusal :=
  .next (if s.pwr.aon then (s.setFld R.THM_XCHECK F.THM_XCHECK_DIE die.val).thmXcheck die.val else s)

end Sys2Proof.Machine
end

