-- ==== Sys2Proof/Machine/Firmware.lean ====
section
/-!
DEFINITION. The Dry bag as it is read and erased (R388 to R393, R396, R456), firmware slots and their boot (R406 to R409), fused levels (R410),
binding and test unlock (R414, R415).
-/

namespace Sys2Proof.Machine

open Sys2Proof

/-- A record as its 128 bytes (R389). -/
def DryRec.bytes (r : DryRec) : List Byte :=
  let b := le 2 r.type ++ le 1 r.flags ++ le 1 r.sev ++ le 4 r.seq ++ le 8 r.ftc ++ le 8 r.wall ++ le 2 r.source ++ le 1 r.die ++ le 1 0
    ++ le 4 (r.node % 2 ^ 20 + r.restart % 128 * 2 ^ 20) ++ le 4 r.count ++ le 4 0 ++ fit 80 r.detail ++ le 4 0
  b ++ le 4 (crc32 b)

/-- A byte of the firmware and identity areas (R408). -/
def State.rawByte (s : State) (o : Nat) : Byte := SMap.get Config.dryByte s.dry.raw o

/-- The header word at an offset (R456). -/
def State.dryHeader (s : State) (o : Nat) : Nat :=
  if o = 0 then 1
  else if o = 4 then (s.reg R.DRY_SEQ).toNat
  else if o = 8 then s.fld R.DRY_HEAD F.DRY_HEAD_NEXT
  else if o = 12 then s.dry.pinned.length
  else 0

/-- The word at an offset of the Dry bag (R388). The layouts of the remap lists and of the saved crosstalk matrices are not stated: free values. -/
def State.dryWord (s : State) (o : Nat) : Nat × State :=
  let raw : Nat := leNat ((List.range 4).map fun i => Config.dryByte (o + i))
  let ofRec (r : Option DryRec) (i : Nat) : Nat := match r with
    | some x => leAt x.bytes i 4
    | none => raw
  if o < 0x1000 then (s.dryHeader o, s)
  else if o < 0x9000 then (ofRec (s.dry.pinned[o / 128 - 32]?) (o % 128), s)
  else if 0x10000 ≤ o ∧ o < 0x810000 then
    (ofRec (SMap.get (fun _ => none) s.dry.ring (o / 128 - 512)) (o % 128), s)
  else if 0x1000000 ≤ o ∧ o < 0x1090000 then let r := s.freshBytes 4; (leNat r.1, r.2)
  else if 0x2000000 ≤ o then (leNat ((List.range 4).map fun i => s.rawByte (o + i)), s)
  else (raw, s)

/-- A read of DRY_DATA (R396): the word at OFFSET, which then rises by 4. -/
def State.readDry (s : State) : Nat × State :=
  let o := s.fld R.DRY_SEL F.DRY_SEL_OFFSET
  let r := s.dryWord o
  (r.1, r.2.setFld R.DRY_SEL F.DRY_SEL_OFFSET (o + 4))

/-- DRY_DATA_READ (R396). The word is the answer of the read. -/
def execDryDataRead (s : State) : Host.Outcome State Fault Refusal :=
  .next (if s.pwr.aon then (let r := s.readDry; r.2.emit (.word r.1)) else s)

/-- ERASE_PINNED and ERASE_RING (R392, R396). -/
def State.erasePinned (s : State) : State :=
  ({ s with dry := { s.dry with pinned := [] } }.setFld R.DRY_STAT F.DRY_STAT_PIN_USED 0).setFld R.DRY_STAT F.DRY_STAT_PIN_FULL 0
def State.eraseRing (s : State) : State := { s with dry := { s.dry with ring := [] } }.setFld R.DRY_STAT F.DRY_STAT_WRAPPED 0
def execErasePinned (s : State) : Host.Outcome State Fault Refusal := .next (if s.pwr.aon then s.erasePinned else s)
def execEraseRing (s : State) : Host.Outcome State Fault Refusal := .next (if s.pwr.aon then s.eraseRing else s)

/-- Firmware slots (R408): false A, true B. -/
def fwBase (b : Bool) : Nat := if b then 0x3000000 else 0x2000000
def State.fwSlot (s : State) (b : Bool) : SlotState := if b then s.sec.slotB else s.sec.slotA
def State.setFwSlot (s : State) (b : Bool) (v : SlotState) : State :=
  { s with sec := if b then { s.sec with slotB := v } else { s.sec with slotA := v } }

/-- Bytes and fields of the image in a slot (R407). -/
def State.fwBytes (s : State) (b : Bool) (o n : Nat) : List Byte := (List.range n).map fun i => s.rawByte (fwBase b + o + i)
def State.fwNum (s : State) (b : Bool) (o n : Nat) : Nat := leNat (s.fwBytes b o n)
def State.fwLength (s : State) (b : Bool) : Nat := s.fwNum b 4 4
def State.fwVersion (s : State) (b : Bool) : Nat := s.fwNum b 8 4
def State.fwSvn (s : State) (b : Bool) : Nat := s.fwNum b 12 1

/-- The first check of R408 that a slot fails: 1 MAGIC and LENGTH, 2 the key, 3 the signature, 4 BODY_DIGEST, 5 FW_SVN (not for an update, R406). -/
def State.fwCheck (s : State) (b svn : Bool) : Option Nat :=
  let n := s.fwLength b
  let key := s.fwNum b 19 1
  if s.fwNum b 0 4 ≠ 0x57465447 ∨ 0xF00000 < n ∨ n < 224 then some 1
  else if 3 < key ∨ bit s.fuses.keyRev key then some 2
  else if !sigOk (Config.firmwareKey key) (s.fwBytes b 0 128) (s.fwBytes b (n - 96) 96) then some 3
  else if sha384 (s.fwBytes b 128 (n - 96 - 128)) ≠ s.fwBytes b 20 48 then some 4
  else if svn ∧ s.fwSvn b < s.fuses.fwLvl then some 5
  else none

/-- A FW_BOOT record (R421): slot (0xFF none), FW_VERSION, FW_SVN, the row of R408, the failing check. -/
def State.bootRecord (s : State) (slot : Option Bool) (row check : Nat) : State :=
  let v := slot.elim 0 s.fwVersion
  let n := slot.elim 0 s.fwSvn
  s.dryEvent 0x0100 0 (le 1 (slot.elim 0xFF b2n) ++ le 4 v ++ le 1 n ++ le 1 row ++ le 1 check)

/-- A FW_UPDATE record (R421): result 0 PENDING, 1 INVALID, 2 CONFIRMED, 3 ABANDONED. -/
def State.updateRecord (s : State) (slot : Bool) (result : Nat) : State :=
  s.dryEvent 0x0101 0 (le 1 (b2n slot) ++ le 4 (s.fwVersion slot) ++ le 1 result)

/-- A slot that fails verification or whose transfer fails (R408, R421). -/
def State.slotFails (s : State) (b : Bool) : State := (s.setFwSlot b .invalid).pulse 31 (le 1 (b2n b))

/-- The running firmware's values where they are read (R137, R407, R422). -/
def State.runFw (s : State) (slot : Option Bool) : State :=
  let s1 : State := { s with sec := { s.sec with running := slot, lastRun := if slot.isSome then slot else s.sec.lastRun } }
  match slot with
  | none => s1
  | some b =>
    let s2 : State := (s1.setReg R.SEC_FW_VER (BitVec.ofNat 32 (s.fwVersion b))).setFld R.SEC_FW_INFO F.SEC_FW_INFO_SVN (s.fwSvn b)
    let s3 : State := (s2.setFld R.SEC_FW_INFO F.SEC_FW_INFO_FWNUM (s.fwNum b 13 1)).setFld R.COL_DET_DESC F.COL_DET_DESC_FWNUM (s.fwNum b 13 1)
    (s3.setFld R.PIT_EPOCH_RANGE F.PIT_EPOCH_RANGE_MIN (s.fwNum b 14 2)).setFld R.PIT_EPOCH_RANGE F.PIT_EPOCH_RANGE_MAX (s.fwNum b 16 2)

/-- Boot of the other slot, the last that R408 tries: `first` is the check that the confirmed slot failed. -/
def State.bootOther (s : State) (o : Bool) (first : Nat) : State :=
  match s.fwCheck o true with
  | none => ((s.setFwSlot o .confirmed).runFw (some o)).bootRecord (some o) 4 first
  | some c => (s.runFw none).bootRecord none 5 c

/-- Boot of a confirmed slot, or what follows when it fails a check (R408). -/
def State.bootConfirmed (s : State) (cur trial : Bool) : State :=
  let conf : Option Bool := if s.fwSlot cur = .confirmed then some cur else if s.fwSlot (!cur) = .confirmed then some (!cur) else none
  let confCheck : Option Nat := conf.elim (some 0) fun b => s.fwCheck b true
  if conf.isSome ∧ confCheck.isNone then (s.runFw conf).bootRecord conf (if trial then 2 else 3) 0
  else
    let s1 : State := conf.elim s fun b => s.slotFails b
    if trial then (s1.runFw none).bootRecord none 2 (confCheck.getD 0)
    else s1.bootOther (conf.elim (!cur) fun b => !b) (confCheck.getD 0)

/-- Boot where no pending slot runs: a slot still on trial becomes invalid first (R408). -/
def State.bootSettled (s : State) (cur : Bool) : State :=
  let trial := s.fwSlot cur == .trial
  (if trial then s.setFwSlot cur .invalid else s).bootConfirmed cur trial

/-- The slot that the ROM boots at a pin or power-on reset: the first true row of R408. -/
def State.bootPick (s : State) : State :=
  let cur := s.sec.lastRun.getD (s.sec.slotA != .confirmed && s.sec.slotB == .confirmed)
  let oth := !cur
  if s.fwSlot oth = .pending then
    if (s.fwCheck oth true).isNone then ((s.setFwSlot oth .trial).runFw (some oth)).bootRecord (some oth) 1 0
    else (s.slotFails oth).bootSettled cur
  else s.bootSettled cur

/-- The slot that an update writes: the one that is not running; in ROM recovery the one that is not CONFIRMED, or slot B (R406). -/
def State.updateSlot (s : State) : Bool := s.sec.running.elim (s.sec.slotA == .confirmed) fun b => !b

/-- The update in progress ends without a verified image (R404, R408). -/
def State.updateFails (s : State) : State :=
  match s.sec.upd with
  | none => s
  | some u => ({ s with sec := { s.sec with upd := none } }.slotFails u.slotB).updateRecord u.slotB 1

/-- Bytes cut into packets of at most n. -/
def packets (n : Nat) : Nat → List Byte → List (List Byte)
  | 0, _ => []
  | fuel + 1, l => if l.length ≤ n then [l] else l.take n :: packets n fuel (l.drop n)

/-- An MCTP message sent on the Guy line, its type byte first, in packets no larger than the largest received from the bus owner (R397). -/
def State.guySend (s : State) (message : List Byte) : State := s.emit (.reply (packets s.sec.maxPkt (message.length + 1) message))

/-- A PLDM message of Type 5 (R405, R406), and the request for the next bytes of the image: RequestFirmwareData with the offset and at most the
1,024 bytes that the model asks for at once. The command codes are those of DSP0267 (PRESUMED, log entry 210). -/
def State.fwSend (s : State) (cmd : Nat) (data : List Byte) : State := s.guySend (le 1 1 ++ le 1 5 ++ le 1 cmd ++ data)
def State.fwRequest (s : State) : State :=
  match s.sec.upd with
  | some u => if u.got < u.len then s.fwSend 0x15 (le 4 u.got ++ le 4 (min 1024 (u.len - u.got))) else s.fwSend 0x16 (le 1 0)
  | none => s

/-- Bytes written to the firmware areas of the Dry bag. -/
def State.writeRaw (s : State) : Nat → List Byte → State
  | _, [] => s
  | o, v :: t => { s with dry := { s.dry with raw := SMap.set Config.dryByte s.dry.raw o v } }.writeRaw (o + 1) t

/-- An update starts in the slot that is not running. -/
def State.fwStart (s : State) (len : Nat) : State :=
  let b := s.updateSlot
  let s1 : State := s.setFwSlot b .invalid
  { s1 with sec := { s1.sec with upd := some { slotB := b, len := len, got := 0 } } }.fwRequest

/-- Bytes of the image written in order; the next are asked for. -/
def State.fwData (s : State) (u : FwUpd) (off : Nat) (bytes : List Byte) : State :=
  if off = u.got ∧ off + bytes.length ≤ u.len then
    let s1 : State := s.writeRaw (fwBase u.slotB + off) bytes
    { s1 with sec := { s1.sec with upd := some { u with got := off + bytes.length } } }.fwRequest
  else s

/-- The image is verified but for FW_SVN, and the result reported in VerifyComplete (R406, R408). -/
def State.fwComplete (s : State) (u : FwUpd) : State :=
  if u.got = u.len ∧ (s.fwCheck u.slotB false).isNone then
    (({ s with sec := { s.sec with upd := none } }.setFwSlot u.slotB .pending).updateRecord u.slotB 0).fwSend 0x17 (le 1 0)
  else s.updateFails.fwSend 0x17 (le 1 1)

/-- FIRMWARE_UPDATE (R406, R408): the image pulled in order into the idle slot, then verified but for FW_SVN. -/
def execFirmwareUpdate (req : FwReq) (s : State) : Host.Outcome State Fault Refusal :=
  .next (if !s.pwr.aon then s
  else match req with
  | .start len => if s.sec.upd.isSome ∨ 0xF00000 < len then s else s.fwStart len
  | .data off bytes => s.sec.upd.elim s fun u => s.fwData u off bytes
  | .complete => s.sec.upd.elim s s.fwComplete
  | .cancel => s.updateFails)

/-- CONFIRM (R408): the running TRIAL slot becomes CONFIRMED. -/
def State.confirmFw (s : State) : State :=
  match s.sec.running with
  | some b => if s.fwSlot b = .trial then (s.setFwSlot b .confirmed).updateRecord b 2 else s
  | none => s
def execConfirm (s : State) : Host.Outcome State Fault Refusal := .next (if s.pwr.aon then s.confirmFw else s)

/-- ABANDON (R408): a PENDING slot becomes INVALID. -/
def State.abandonFw (s : State) : State :=
  let one (t : State) (b : Bool) : State := if t.fwSlot b = .pending then (t.setFwSlot b .invalid).updateRecord b 3 else t
  one (one s false) true
def execAbandon (s : State) : Host.Outcome State Fault Refusal := .next (if s.pwr.aon then s.abandonFw else s)

/-- The signature block of an image (R147): its certificates. -/
def Store.sigOff (st : Store) : Nat := st.num 20 4
def Store.ncert (st : Store) : Nat := st.num (st.sigOff + 4) 1
def Store.cert (st : Store) (i : Nat) : List Byte := st.slice (st.sigOff + 8 + 224 * i) 224
def certSvn (c : List Byte) : Nat := leAt c 24 4
def certKey (c : List Byte) : Nat := leAt c 8 8

/-- The counters of R410, with the level a commit would set and the condition under which it may. -/
inductive Level where
  | fw | pit | cert
  deriving DecidableEq, Repr
def Level.code : Level → Nat
  | .fw => 0 | .pit => 1 | .cert => 2
def State.level (s : State) : Level → Nat
  | .fw => s.fuses.fwLvl
  | .pit => s.fuses.pitLvl
  | .cert => s.fuses.certLvl
def State.setLevel (s : State) (k : Level) (v : Nat) : State :=
  { s with fuses := match k with
    | .fw => { s.fuses with fwLvl := v }
    | .pit => { s.fuses with pitLvl := v }
    | .cert => { s.fuses with certLvl := v } }
def State.nextLevel (s : State) : Level → Nat
  | .fw => s.fld R.SEC_FW_INFO F.SEC_FW_INFO_SVN
  | .pit => s.img.svn
  | .cert =>
    match (List.range s.img.ncert).map (fun i => certSvn (s.img.cert i)) with
    | [] => 0
    | a :: t => t.foldl min a
def State.levelBar (s : State) (k : Level) : Nat :=
  match k with
  | .fw => if s.sec.running.any fun b => s.fwSlot b == .confirmed then 0 else 4
  | _ => if s.active then 0 else 5

/-- How a commit ends, as SEC_STAT.COMMIT_RES shows it (R410). -/
def State.commitRes (s : State) (k : Level) (readBackFails : Bool) : Nat :=
  if s.levelBar k ≠ 0 then s.levelBar k
  else if s.nextLevel k ≤ s.level k then 2
  else if 64 < s.nextLevel k then 3
  else if readBackFails then 6 else 1

/-- A commit (R410): COMMIT_RES 1 done, 2 NOT_HIGHER, 3 RANGE, 4 NOT_CONFIRMED, 5 NO_IMAGE, 6 FUSE_FAIL. Of a commit whose read-back fails the steps
programmed before it stay: how many is a free value. -/
def State.commit (s : State) (k : Level) (readBackFails : Bool) : State :=
  let old := s.level k
  let new := s.nextLevel k
  let res := s.commitRes k readBackFails
  let r := s.freshNat
  let s1 : State := if res = 1 then s.setLevel k new else if res = 6 then (r.2.setLevel k (old + r.1 % (new - old))).pulse 31 (le 1 k.code) else s
  (s1.setFld R.SEC_STAT F.SEC_STAT_COMMIT_RES res).dryEvent 0x0102 0 (le 1 k.code ++ le 1 old ++ le 1 new ++ le 1 res)
def execFwLvlCommit (readBackFails : Bool) (s : State) : Host.Outcome State Fault Refusal := .next (if s.pwr.aon then s.commit .fw readBackFails else s)
def execPitLvlCommit (readBackFails : Bool) (s : State) : Host.Outcome State Fault Refusal := .next (if s.pwr.aon then s.commit .pit readBackFails else s)
def execCertLvlCommit (readBackFails : Bool) (s : State) : Host.Outcome State Fault Refusal := .next (if s.pwr.aon then s.commit .cert readBackFails else s)

/-- A certificate verifies with a key (R147). -/
def certOk (key : Nat × Nat) (c : List Byte) : Bool := sigOk key (c.take 128) ((c.drop 128).take 96)

/-- ROM recovery (R409): step 2 of R343 has run and no firmware was picked. -/
def State.recovery (s : State) : Bool := s.sec.running.isNone && s.dom 6 != 3


/-- The answer to a vendor-defined request (R398, R399): type 0x7E, the PCI vendor ID, the command, the status and the rest. -/
def State.answer (s : State) (cmd status : Nat) (body : List Byte) : State :=
  s.guySend (le 1 0x7E ++ be 2 0x1C6B ++ le 1 cmd ++ le 1 status ++ body)

/-- BIND (R414): the KEY_ID of a customer root goes into the binding fuses. The status of a refusal is not stated: a free value. -/
def execGuyBind (cert : List Byte) (s : State) : Host.Outcome State Fault Refusal :=
  .next (if !s.pwr.aon || s.recovery then s
  else if cert.length ≠ 224 then s.answer 5 9 []
  else if !s.fuses.bound ∧ bit (leAt cert 4 1) 0 ∧ leAt cert 16 8 = Config.rootKeyId ∧ certOk Config.rootKey cert then
    let s1 : State := { s with fuses := { s.fuses with bound := true, bindId := certKey cert } }
    (s1.dryEvent 0x0103 0 (le 8 (certKey cert) ++ le 1 1)).answer 5 0 []
  else
    let s1 : State := (s.pulse 31 (le 1 5)).dryEvent 0x0103 0 (le 8 (certKey cert) ++ le 1 0)
    let r := s1.freshBytes 1
    r.2.answer 5 (leNat r.1) [])

/-- UNLOCK_NONCE (R415): a fresh nonce, a free value, which replaces the one before. -/
def execGuyUnlockNonce (s : State) : Host.Outcome State Fault Refusal :=
  .next (if !s.pwr.aon || s.recovery then s
  else
    let r := s.freshBytes 32
    { r.2 with sec := { r.2.sec with nonce := some r.1 } }.answer 6 0 r.1)

/-- ID_SERIAL (R40). -/
def State.serialNo (s : State) : Nat := s.fuses.serial

/-- A token that R415 accepts. -/
def State.tokenOk (s : State) (token : List Byte) : Bool :=
  s.pins.testMode && !s.active && leAt token 0 4 == 0x4B4C4E55 && leAt token 4 8 == s.serialNo
    && s.sec.nonce == some ((token.drop 12).take 32) && leAt token 44 60 == 0 && sigOk Config.rootKey (token.take 104) ((token.drop 104).take 96)

/-- UNLOCK (R415): one attempt uses the nonce up. `testMode` is the level on the pin. -/
def execGuyUnlock (token : List Byte) (testMode : Bool) (s0 : State) : Host.Outcome State Fault Refusal :=
  let s : State := { s0 with pins := { s0.pins with testMode := testMode } }
  .next (if !s.pwr.aon || s.recovery then s
  else if token.length ≠ 200 then s.answer 7 9 []
  else
    let ok := s.tokenOk token
    let s1 : State := ({ s with sec := { s.sec with nonce := none } }).dryEvent 0x0104 0 (le 1 (b2n ok) ++ le 1 (b2n s.pins.testMode))
    if ok then ((s1.setFld R.SEC_STAT F.SEC_STAT_UNLOCK 1).setFld R.FLT_STAT F.FLT_STAT_TEST 1).answer 7 0 []
    else
      let r := (s1.pulse 31 (le 1 7)).freshBytes 1
      r.2.answer 7 (leNat r.1) [])

end Sys2Proof.Machine
end

