-- ==== Sys2Proof/Machine/Poles.lean ====
section
/-!
DEFINITION. The Twin poles (R374 to R379): giving up, take-over, self-test, resynchronisation, divergence and planned switch-over.
Both poles hold the same journal and streams (R374), so the state holds them once.
-/

namespace Sys2Proof.Machine

open Sys2Proof

/-- The state of a pole: false A, true B. -/
def State.poleOf (s : State) (b : Bool) : PoleState := if b then s.pole.stB else s.pole.stA
def State.setPole (s : State) (b : Bool) (v : PoleState) : State :=
  { s with pole := if b then { s.pole with stB := v } else { s.pole with stA := v } }

/-- The code of a pole's state in WSQ_POLE_STAT (R395). -/
def PoleState.code : PoleState → Nat
  | .off => 0 | .test => 1 | .resync => 2 | .standby => 3 | .active => 4 | .failed => 5

/-- STBY_OK: the pole that is not active is STANDBY. -/
def State.stbyOk (s : State) : Bool := s.poleOf (!s.pole.b) == .standby && s.poleOf s.pole.b == .active

/-- The control passes to the standby (R376): counted, captured and recorded. The pole that left goes to its self-test (R377). -/
def State.switchPole (s : State) (cause cycle : Nat) : State :=
  let fr := s.pole.b
  let s1 : State := (s.setPole (!fr) .active).setPole fr .test
  let s2 : State := { s1 with pole := { s1.pole with b := !fr } }
  let s3 : State := s2.addFld R.WSQ_SWITCH_CNT F.WSQ_SWITCH_CNT_SWITCHES 1
  let s4 : State := s3.capture R.WSQ_SWITCH_LAST (b2n fr + cause * 2)
  s4.dryEvent 6 0 (le 1 (b2n fr) ++ le 1 cause ++ le 2 0 ++ le 8 cycle)

/-- A pole goes FAILED: its domain stays off, and source 5 is raised (R377). -/
def State.poleFailed (s : State) (b : Bool) : State := ((s.setPole b .failed).setDom (1 + b2n b) 3).pulse 5 (le 1 (b2n b))
def State.failPole (s : State) (b : Bool) : State :=
  if s.poleOf b = .active then
    if s.stbyOk then (s.switchPole 4 0).poleFailed b else s.enterStrike (if b then 3 else 2) 0xFFFF
  else s.poleFailed b

/-- The times within the last hour that a pole gave up, with the present one (R377). -/
def State.noteGiveUp (s : State) (b : Bool) : State × Nat :=
  let recent := ((if b then s.pole.gaveB else s.pole.gaveA).filter (fun t => decide (s.now < 3600000000000 + t))) ++ [s.now]
  ({ s with pole := if b then { s.pole with gaveB := recent } else { s.pole with gaveA := recent } }, recent.length)

/-- POLE_GIVE_UP (R375 to R377, R379): pole b diagnoses a fault in itself in cycle `cycle`. `otherToo`: the other pole diagnoses one
within the same 60-cycle window. -/
def execPoleGiveUp (b : Bool) (cause : Fin 8) (cycle : Nat) (otherToo : Bool) (s : State) : Host.Outcome State Fault Refusal :=
  let st := s.poleOf b
  if s.inStrike ∨ (st ≠ .active ∧ st ≠ .standby) then .next s
  else
    let src := if b then 3 else 2
    let s1 : State := s.pulse src (le 1 (b2n b) ++ le 1 cause.val ++ le 2 0 ++ le 8 cycle)
    if otherToo then .next (s1.enterStrike src 0xFFFF)
    else
      let n := s1.noteGiveUp b
      if st = .active then
        if s1.stbyOk then
          let s2 : State := n.1.switchPole cause.val cycle
          if 3 ≤ n.2 then .next (s2.poleFailed b) else .next s2
        else .next (s1.enterStrike src 0xFFFF)
      else if 3 ≤ n.2 then .next (n.1.poleFailed b)
      else .next (n.1.setPole b .test)

/-- POLE_SELF_TEST_DONE (R377): a pass starts the resynchronisation; a failure makes the pole FAILED. -/
def execPoleSelfTestDone (b pass : Bool) (s : State) : Host.Outcome State Fault Refusal :=
  if s.poleOf b = .test ∧ !s.inStrike then
    if pass then
      let s1 : State := s.setPole b .resync
      .next { s1 with pole := { s1.pole with syncFrom := s.now, diverged := false } }
    else .next (s.failPole b)
  else .next s

/-- POLE_RESYNC_DONE (R377, R378): the pole joins lockstep as STANDBY; its duration is kept and recorded. -/
def execPoleResyncDone (b : Bool) (s : State) : Host.Outcome State Fault Refusal :=
  if s.poleOf b = .resync ∧ !s.inStrike then
    let us := (s.now - s.pole.syncFrom) / 1000
    let s1 : State := (s.setPole b .standby).setFld R.WSQ_RESYNC_US F.WSQ_RESYNC_US_US (min us 65535)
    .next (s1.dryEvent 7 0 (le 1 (b2n b) ++ le 1 (b2n (!s.pole.diverged)) ++ le 2 0 ++ le 4 us))
  else .next s

/-- POLE_DIVERGENCE (R378): the standby discards its state and resynchronises; source 4. -/
def execPoleDivergence (s : State) : Host.Outcome State Fault Refusal :=
  if s.stbyOk ∧ !s.inStrike then
    let s1 : State := (s.setPole (!s.pole.b) .resync).addFld R.WSQ_SWITCH_CNT F.WSQ_SWITCH_CNT_DIVERGE 1
    .next ({ s1 with pole := { s1.pole with syncFrom := s.now, diverged := true } }.pulse 4 [])
  else .next s

/-- POLE_SWITCH (R379): a planned switch-over, cause COMMAND; ignored when STBY_OK is 0. No source is raised. -/
def State.plannedSwitch (s : State) : State := if s.stbyOk ∧ !s.inStrike then s.switchPole 6 0 else s
def execPoleSwitch (s : State) : Host.Outcome State Fault Refusal := .next s.plannedSwitch

/-- WSQ_POLE_STAT as it reads (R395). -/
def State.poleStat (s : State) : Word :=
  BitVec.ofNat 32 (b2n s.pole.b + s.pole.stA.code * 2 + s.pole.stB.code * 16 + b2n s.stbyOk * 128)

end Sys2Proof.Machine
end

