-- ==== Sys2Proof/Machine/Transit.lean ====
section
/-!
DEFINITION. Storm flaps (R271 to R275) and transit light paths (R276 to R282).
-/

namespace Sys2Proof.Machine

open Sys2Proof

/-- The Canopy and the lower port of a ring pair: pair 0 on Canopy 0, pair 1 on Canopy 4. -/
def pairCan (pair : Nat) : Nat := 4 * pair
def pairPort (pair : Nat) : Nat := 16 * pair

/-- A condition of R272: both flaps of the pair stay or go closed. -/
def State.flapShut (s : State) (pair : Nat) : Bool :=
  let k := pairCan pair
  !s.pins.resetN || s.inStrike || (s.slot k).inReset || (s.slot k).retired || s.dom (domCan k 0) == 3 || s.pwr.failed || !s.active
    || (if pair = 0 then s.img.releasePri else s.img.releaseCtr) || s.fld (R.OPT_FLAP_CTL k) F.OPT_FLAP_CTL_HOLD_CLOSED == 1

/-- OPT_FLAP_STAT.STATE: 0 CLOSED, 1 OPENING, 2 OPEN, 3 CLOSING. -/
def State.flap (s : State) (pair : Nat) : Nat := s.fld (R.OPT_FLAP_STAT (pairCan pair)) F.OPT_FLAP_STAT_STATE

/-- The flap pair enters a state, with both positions. -/
def State.setFlap (s : State) (pair st pos : Nat) : State :=
  let a := R.OPT_FLAP_STAT (pairCan pair)
  (((s.setFld a F.OPT_FLAP_STAT_STATE st).setFld a F.OPT_FLAP_STAT_POS_LO pos).setFld a F.OPT_FLAP_STAT_POS_HI pos).modCanopy (pairCan pair)
    fun c => { c with flapAt := s.now }

/-- Both ports of a pair retrain as the flaps reach a position (R273). -/
def State.retrainPair (s : State) (pair : Nat) : State :=
  s.live fun s => (s.retrain (pairPort pair) 6).retrain (pairPort pair + 1) 6

/-- A port is ACTIVE in loopback: its peer is this device's partner port (R271). -/
def State.loopback (s : State) (p : Nat) : Bool :=
  s.isActive p && s.fld (R.LNK_PEER p) F.LNK_PEER_NODE == s.node && s.fld (R.LNK_PEER p) F.LNK_PEER_PORT == partner p

/-- FLAP_OPEN_START (R273): CLOSED to OPENING, the drive applied at a slot boundary. -/
def execFlapOpenStart (pair : Fin 2) (s : State) : Host.Outcome State Fault Refusal :=
  .next (if s.flap pair.val = 0 ∧ !s.flapShut pair.val ∧ s.loopback (pairPort pair.val) ∧ s.loopback (pairPort pair.val + 1) ∧ s.ftc % 128 = 0
    then s.setFlap pair.val 1 2 else s)

/-- A completed movement counted. -/
def State.flapMoved (s : State) (pair : Nat) : State := s.addFld (R.OPT_FLAP_STAT (pairCan pair)) F.OPT_FLAP_STAT_MOVES 1

/-- FLAP_OPENED (R273): both position sensors read open. -/
def execFlapOpened (pair : Fin 2) (s : State) : Host.Outcome State Fault Refusal :=
  .next (if s.flap pair.val = 1 then ((s.setFlap pair.val 2 1).flapMoved pair.val).retrainPair pair.val else s)

/-- FLAP_CLOSE (R272, R273): a closing condition wins over an opening in progress. -/
def execFlapClose (pair : Fin 2) (s : State) : Host.Outcome State Fault Refusal :=
  .next (if (s.flap pair.val = 1 ∨ s.flap pair.val = 2) ∧ s.flapShut pair.val then s.setFlap pair.val 3 2 else s)

/-- FLAP_CLOSED (R273): both position sensors read closed. -/
def execFlapClosed (pair : Fin 2) (s : State) : Host.Outcome State Fault Refusal :=
  .next (if s.flap pair.val = 3 then ((s.setFlap pair.val 0 0).flapMoved pair.val).retrainPair pair.val else s)

/-- FLAP_STUCK (R273, R275): 5 ms in OPENING or in CLOSING. -/
def execFlapStuck (pair : Fin 2) (s : State) : Host.Outcome State Fault Refusal :=
  let k := pairCan pair.val
  .next (if (s.flap pair.val = 1 ∨ s.flap pair.val = 3) ∧ 5000000 + (s.canopy k).flapAt ≤ s.now then
    let s1 : State := (s.canFault k 10 (le 1 (s.flap pair.val))).sparing (9 + k) (pairPort pair.val) 0 0xFF 0xFF 0xFF 0 7
    if s.flap pair.val = 1 then s1.setFlap pair.val 3 2
    else (s1.setFlap pair.val 0 3).setFld (R.OPT_FLAP_STAT k) F.OPT_FLAP_STAT_STUCK 1
  else s)

/-- The window start offset of an entry in 1/16 tick (R278): the delays measured on the input port and told by DELAYS, and the pass delay of
R269 (1.2 ns, 19 sixteenths). -/
def State.pathOffset (s : State) (e : Entry3) : Nat :=
  let x := s.tport (pairIn e.pair)
  match e.hop with
  | 0 => 0
  | 1 => x.dIn
  | 2 => x.d0 + 19 + x.dIn
  | _ => x.d1 + 19 + x.d0 + 19 + x.dIn

/-- The tick is the one in which a window of the entry starts (R276, R278). -/
def State.windowNow (s : State) (e : Entry3) : Bool :=
  let t := s.img.slotBase + 128 * e.slot + s.pathOffset e / 16
  let per := 128 * max 1 s.img.slotPeriod
  decide (t ≤ s.ftc) && (s.ftc - t) % per == 0

/-- A neighbour link stands aside for a window and the guard after it, from the interval that the window start cuts to the first that starts at or after
its end, and starts again with a preamble and a marker (R279, R280). -/
def State.standAside (s : State) (p part : Nat) : State :=
  s.modPort p fun q => { q with guardUntil := s.ftc + (if part = 0 then 136 else 137), resume := 2 }

/-- A destination window with no valid preamble and marker (R279): counted, and 16 within 1 ms raise the source. -/
def State.missWindow (s : State) (k : Nat) : State :=
  let recent := (s.canopy k).misses.filter (fun t => decide (s.now < 1000000 + t)) ++ [s.now]
  let s1 : State := s.addFld (R.OPT_GUARD_ERR k) whole 1
  if 16 ≤ recent.length then (s1.modCanopy k fun c => { c with misses := [] }).canFault k 11 []
  else s1.modCanopy k fun c => { c with misses := recent }

/-- The start of a window of an entry (R278 to R280, R282), by its role: a pass and a source stand aside, a source's link opens with its guard, and
a destination's link is heard until the window ends. -/
def State.windowStarts (s : State) (pair entry : Nat) (e : Entry3) (found : Bool) : State :=
  let k := pairCan (pair / 2)
  let s0 : State := s.modCanopy k fun c => { c with paths := SMap.set (fun _ => 0) c.paths entry (s.pathOffset e) }
  let halted := (s.canopy k).suspended
  if e.role = 0 then (s0.standAside (pairOutPort e.pair) (s.pathOffset e % 16)).addFld (R.OPT_TRANSIT_CNT k) whole (if halted then 0 else 1)
  else if e.role = 1 then
    let s1 : State := s0.standAside (pairOutPort e.pair) 0
    match s.entryLink entry e with
    | some q => if halted then s1 else s1.modPort q fun x => { x with guardUntil := s.ftc + 8, winUntil := s.ftc + 128, resume := 2 }
    | none => s1
  else if e.role = 2 then
    if halted then s0
    else
      let s1 : State := if found then s0 else s0.missWindow k
      match s.entryLink entry e with
      | some q => s1.modPort q fun x => { x with rxUntil := s.ftc + 129 }
      | none => s1
  else s0

/-- TRANSIT_WINDOW (R278 to R280, R282): the window of an entry starts; `found` says that a DESTINATION finds a valid preamble and marker. -/
def execTransitWindow (pair : Fin 4) (entry : Nat) (found : Bool) (s : State) : Host.Outcome State Fault Refusal :=
  .next (s.live fun s =>
    match s.img.entry entry with
    | none => s
    | some e => if !s.active ∨ e.pair ≠ pair.val ∨ !s.windowNow e then s else s.windowStarts pair.val entry e found)

/-- TRANSIT_WINDOW_END (R279, R280): the window is over; its guard follows. -/
def execTransitWindowEnd (pair : Fin 4) (entry : Nat) (s : State) : Host.Outcome State Fault Refusal :=
  .next (s.live fun s =>
    match s.img.entry entry with
    | none => s
    | some e =>
      if e.pair ≠ pair.val then s
      else
        let close (t : State) (q : Nat) : State := if (t.port q).winUntil ≤ t.ftc then t.modPort q fun x => { x with winUntil := 0 } else t
        match s.entryLink entry e with
        | some q => close s q
        | none => s)

end Sys2Proof.Machine
end

