-- ==== Sys2Proof/Machine/Reset.lean ====
section
/-!
DEFINITION. Resets (R416, R17): warm, pin and power-on reset, start-up (R343, R418 to R420), the release of a Bell's reset with its strap check (R24,
R25), and the release of the thermal latch (R353).
-/

namespace Sys2Proof.Machine

open Sys2Proof

/-- Status registers of domain WARM and narrower that show physical state which a warm reset keeps (R163, R301): Lanterns, flaps, links of dies,
and the descriptor and repair of a slot. -/
def warmKept (a : Nat) : Bool :=
  (List.range 8).any fun k =>
    [R.OPT_STAT k, R.OPT_LANT k 0, R.OPT_LANT k 1, R.OPT_FLAP_STAT k, R.SEAM_STAT k, R.SEAM_B_STAT k, R.UCI_STAT k, R.UCI_DESC0 k, R.UCI_DESC1 k,
     R.UCI_REPAIR k].contains a

/-- The fields of those registers that show no such state return to their reset values (R17): the count of flap movements, and what R300 and R301
set anew. -/
def State.warmFields (s : State) : State :=
  (List.range 8).foldl (fun t k =>
    ((((t.setFld (R.OPT_FLAP_STAT k) F.OPT_FLAP_STAT_MOVES 0).setFld (R.OPT_FLAP_STAT k) F.OPT_FLAP_STAT_STUCK 0).setFld (R.SEAM_STAT k) F.SEAM_STAT_PEER_IN_RESET
      0).setFld (R.SEAM_STAT k) F.SEAM_STAT_DRAINED 0).setFld (R.UCI_STAT k) F.UCI_STAT_PEER_IN_RESET 0) s

/-- A port after a warm reset, with its sequence numbers to restart (R237). -/
def PortSt.warm (q : PortSt) : PortSt := { resync := true, own := q.own, mcount := q.mcount, lit := q.lit, litAt := q.litAt }

/-- Every crossing re-arms without retraining, with new epochs on both sides (R299, R301). -/
def State.rearmAll (s : State) : State :=
  (List.range 16).foldl (fun t c =>
    let u : State := t.epochUp c true true
    let up : Bool := if c < 8 then u.seamState c == 3 else (let st := u.fld (R.UCI_STAT (c - 8)) F.UCI_STAT_STATE; st == 3 || st == 4)
    if up then u.startRearm c else u) s

/-- A warm reset (R163, R416): journals, streams, requests, engines and runs end and every port trains again; FTC, alignment, DRAM, flaps and the Dry
bag are kept. -/
def State.warmReset (s0 : State) : State :=
  let s : State := s0.resetRecord 2 0xFF 0xFF
  let s1 : State := (s.resetRegs .warm fun a => !warmKept a).warmFields
  let s2 : State := { s1 with
    jrn := {}, col := {}, spillq := [], loss := {}, trn := { restart := s1.trn.restart, tidCnt := s1.trn.tidCnt },
    bells := s1.bells.map fun e => (e.1, { e.2 with runs := [], queue := [], held := [] }),
    canopies := s1.canopies.map fun e => (e.1, { e.2.refit (s1.savedXt e.1) with suspended := false, paths := [], misses := [], queue := [] }),
    clk := { s1.clk with gate := [] }, pwr := { s1.pwr with step := [], req := [], refused := [], pgFail := [] } }
  let s3 : State := (List.range 8).foldl (fun t b =>
    (if (t.bell b).inReset ∨ (t.bell b).initPending then t else t.setFld (R.BEL_STAT b) F.BEL_STAT_DRAM_INIT_DONE 1).setOpp b 0) s2
  let s4 : State := allLinks.foldl (fun t p => ((t.markDown p true).clearLink p).setPort p (t.port p).warm) s3
  (allLinks.foldl State.restartLink s4).rearmAll

/-- A ring and a Seam lane after a pin or power-on reset: the records of R259 and R296 are kept by a pin reset. -/
def Ring.cold (por : Bool) (r : Ring) : Ring := if por then {} else { calCnt := r.calCnt, calFtc := r.calFtc, calWall := r.calWall }
def CanopySt.cold (por : Bool) (saved : SMap (Option (List (Nat × Int)))) (c : CanopySt) : CanopySt :=
  { rings := if por then [] else c.rings.map fun e => (e.1, e.2.cold por), xt := saved, flapAt := c.flapAt }

/-- The path-link registers dropped. -/
def State.dropPathRegs (s : State) : State := { s with regs := s.regs.filter fun e => !inWindow 0x120000 0x8000 e.1 }

/-- The state beside the registers after a pin reset, or after power-on. -/
def State.coldFields (s2 : State) (por : Bool) : State :=
  let vin := b2n (s2.fld R.PWR_STAT F.PWR_STAT_VIN_LOW == 1 || s2.fld R.PWR_STAT F.PWR_STAT_VIN_HIGH == 1)
  { s2 with
    ftc := 0, jrn := {}, pit := {}, col := {}, loss := {}, pole := {}, spillq := [], ports := [], cross := [], time := {},
    trn := { restart := s2.trn.restart },
    flt := { pairs := if vin = 1 then [(7, { (s2.pair 7) with seen := false, pend := false })] else [], events := s2.flt.events, dropped := s2.flt.dropped },
    bells := s2.bells.map fun e => (e.1, { cand := e.2.cand }),
    slots := s2.slots.map fun e => (e.1, { occ := e.2.occ }),
    seams := s2.seams.map fun e => (e.1, { lanes := if por then [] else e.2.lanes }),
    canopies := (List.range 8).map fun k => (k, (s2.canopy k).cold por (s2.savedXt k)),
    clk := {},
    pwr := { dom := s2.pwr.dom, sens := s2.pwr.sens.map (fun e => (e.1, { e.2 with bad := false, cause := 0, hot := 0 })), aon := s2.pwr.aon, failed := s2.pwr.failed },
    sec := { s2.sec with running := none, nonce := none, upd := none } }

/-- A pin or power-on reset (R416, R401): every domain but PD_RIDGE_00 is switched off, the registers of its domain and the narrower ones take
their reset values, and dies and rings that were retired are tried again. `req` is the requester of its record. -/
def State.coldReset (s0 : State) (por : Bool) (req : Nat) : State :=
  let flaps := [0, 1].filter fun p => s0.flap p != 0
  let s : State := ((s0.updateFails).resetRecord (if por then 0 else 1) req 0xFF).domainsOff [0]
  let slow := s.fld R.CLK_STAT F.CLK_STAT_SLOW_OK
  let s1 : State := (s.resetRegs (if por then .por else .pin) fun _ => true).dropPathRegs.coldFields por
  let s2 : State := (List.range 16).foldl (fun t c => t.epochUp c true true) (s1.setFld R.CLK_STAT F.CLK_STAT_SLOW_OK slow)
  flaps.foldl (fun t p => t.setFlap p 3 2) s2

/-- The hold-up time measured at power-on (R391), a free value: below 4 ms it raises source 25. -/
def State.measureHoldup (s : State) : State :=
  let r := s.freshNat
  let us := r.1 % 65536
  let s1 : State := r.2.setFld R.DRY_HOLDUP F.DRY_HOLDUP_US us
  if 4000 ≤ us then s1.setFld R.DRY_STAT F.DRY_STAT_HOLDUP_OK 1 else (s1.setFld R.DRY_STAT F.DRY_STAT_HOLDUP_OK 0).pulse 25 (le 2 us)

/-- Start-up (R343, R420): with RESET_N high, the input qualified and no thermal latch, CLK_CFG is sampled (R327), the step-2 domains switch on, the
Ridge's sensors are cross-checked (R350), the
Dry bag is READY, and the ROM picks the firmware (R408). In ROM recovery no other domain is switched on (R409); otherwise the other domains follow
and the poles boot in lockstep, pole A active. -/
def State.startUp (s : State) : State :=
  if !s.pins.resetN ∨ s.pwr.failed ∨ !s.pwr.aon ∨ s.fld R.THM_LATCH F.THM_LATCH_VALID = 1 then s
  else
    let s0 : State := { s with clk := { s.clk with cfg := (s.reg R.CLK_CFG).toNat } }.domsOn seqStep2
    let s1 : State := (s0.crossCheck 0).setFld R.CLK_STAT F.CLK_STAT_SLOW_OK 1
    let s2 : State := (((s1.setFld R.DRY_STAT F.DRY_STAT_READY 1).dryFlush 0).measureHoldup).bootPick
    if s2.sec.running.isNone then s2
    else
      let s3 : State := s2.domsOn seqStep3
      let s4 : State := (List.range 8).foldl (fun t b => if t.fitted b then t.domsOn (seqBell b) else t) s3
      let s5 : State := (List.range 8).foldl (fun t k => (t.domsOn (seqCan k)).lanternsStart k) s4
      (s5.setPole false .active).setPole true .standby

/-- A pin reset and a power-on reset, with the start-up that follows when it may. -/
def State.pinReset (s : State) (req : Nat) : State := (s.coldReset false req).startUp
def State.powerOnReset (s : State) (req : Nat) : State := (s.coldReset true req).startUp

/-- PIN_RESET (R401, R416): RESET_N goes low. -/
def execPinReset (s : State) : Host.Outcome State Fault Refusal :=
  .next (if !s.pins.resetN then s
  else
    let s1 : State := { s with pins := { s.pins with resetN := false } }
    if s.pwr.aon then s1.pinReset 0 else s1)

/-- RESET_N_RELEASE (R420, R435): start-up begins, at once or when the input qualifies. -/
def execResetNRelease (s : State) : Host.Outcome State Fault Refusal :=
  .next (if s.pins.resetN then s else { s with pins := { s.pins with resetN := true } }.startUp)

/-- POWER_ON_RESET (R416): main power is restored. -/
def execPowerOnReset (s : State) : Host.Outcome State Fault Refusal :=
  .next (if s.pwr.aon then { s with pwr := { s.pwr with failed := false } }.powerOnReset 4 else s)

/-- SEC_PIN_RESET and SEC_POWER_ON_RESET (R416): the keys of SEC_RESET. -/
def execSecPinReset (s : State) : Host.Outcome State Fault Refusal := .next (if s.pwr.aon then s.pinReset 1 else s)
def execSecPowerOnReset (s : State) : Host.Outcome State Fault Refusal := .next (if s.pwr.aon then s.powerOnReset 1 else s)

/-- TEST_MODE_FALL (R415): a pin reset while the unlock is in force. -/
def execTestModeFall (s : State) : Host.Outcome State Fault Refusal :=
  let s1 : State := { s with pins := { s.pins with testMode := false } }
  .next (if s.pwr.aon ∧ s.fld R.SEC_STAT F.SEC_STAT_UNLOCK = 1 then s1.pinReset 3 else s1)

/-- INPUT_QUALIFIED (R337): the input, in 10 mV, within 40.5 V to 59.5 V for 10 ms: the main conversion restarts with a power-on reset. -/
def execInputQualified (cv : Nat) (s : State) : Host.Outcome State Fault Refusal :=
  .next (if s.pwr.aon ∧ s.pwr.failed ∧ 4050 ≤ cv ∧ cv ≤ 5950 then
    let s1 : State := (s.setFld R.PWR_IN F.PWR_IN_VIN cv).setFld R.PWR_STAT F.PWR_STAT_VIN_LOW 0
    let s2 : State := s1.setFld R.PWR_STAT F.PWR_STAT_VIN_HIGH 0
    { s2 with pwr := { s2.pwr with failed := false } }.powerOnReset 4
  else s)

/-- ALWAYS_ON_POWER_UP (R17, R338, R442): PD_RIDGE_00 gains power; the slow oscillator starts and GADDR is sampled. The AON registers took their reset
values as that power was lost. The main conversion waits for the input to qualify. -/
def execAlwaysOnPowerUp (gaddr : Fin 8) (s : State) : Host.Outcome State Fault Refusal :=
  .next (if s.pwr.aon then s
  else { s with pwr := { s.pwr with aon := true, failed := true }, pins := { s.pins with gaddr := gaddr.val } }.setFld R.CLK_STAT F.CLK_STAT_SLOW_OK 1)

/-- The first condition of R353 that fails, as RESULT codes it; 1 accepts. -/
def State.releaseResult (s : State) : Nat :=
  let inputBad : Bool := s.fld R.PWR_STAT F.PWR_STAT_VIN_LOW == 1 || s.fld R.PWR_STAT F.PWR_STAT_VIN_HIGH == 1
    || (s.pwr.failed && (s.fld R.PWR_STAT F.PWR_STAT_FAIL == 1 || s.fld R.PWR_STAT F.PWR_STAT_FAIL == 2))
  let hot : Bool := (List.range 608).any fun i =>
    s.dieRead (sensorDie i) && !(s.sensor i).bad && !(s.sensor i).samples.isEmpty && decide (380 ≤ s.rawTemp i)
  if s.fld R.THM_LATCH F.THM_LATCH_VALID ≠ 1 then 2
  else if inputBad then 3
  else if hot then 4
  else if !(dieSensors 0).all s.sensorAgrees then 5
  else 1

/-- THM_RELEASE (R353): an accepted release clears the latch and acts as a pin reset. -/
def State.thmRelease (s : State) : State :=
  let r := s.releaseResult
  let s1 : State := s.setFld R.THM_RELEASE F.THM_RELEASE_RESULT r
  if r = 1 then (s1.setReg R.THM_LATCH 0).pinReset 2 else s1
def execThmRelease (s : State) : Host.Outcome State Fault Refusal := .next (if s.pwr.aon then s.thmRelease else s)

/-- The strap checks of R24: parity, form and port. -/
def strapParity (v : Nat) : Bool := ((List.range 4).filter (bit v)).length % 2 == 1
def strapForm (v : Nat) (form : Bool) : Bool := form == bit v 0
def strapPort (v b : Nat) : Bool := v % 8 == b

/-- R24: the strap v that Bell b presents is stored, and its three checks are recorded. -/
def State.strapRead (s : State) (b v : Nat) (form : Bool) : State :=
  let err (t : State) (f : Fld) (ok : Bool) : State := t.setFld R.ID_STRAP_ERR f (withBit (t.fld R.ID_STRAP_ERR f) b (!ok))
  let s1 : State := (s.setFld R.ID_STRAP (F.ID_STRAP_BELL b) v).setFld (R.SEAM_B_STAT b) F.SEAM_B_STAT_STRAP v
  err (err (err s1 F.ID_STRAP_ERR_PARITY (strapParity v)) F.ID_STRAP_ERR_FORM (strapForm v form)) F.ID_STRAP_ERR_PORT (strapPort v b)

/-- R24, R345, R347, R350: Bell b leaves reset with a good strap: its first operating point, its power reference, its rows repaired and its sensors compared. -/
def State.bellReleased (s : State) (b : Nat) (x : BellSt) : State :=
  let s3 : State := (s.setBell b { x with inReset := false, strapFail := false }).setOpp b 0
  let s4 : State := { s3 with
    pwr := { s3.pwr with ffRef := SMap.set (fun _ => 0) s3.pwr.ffRef b (SMap.get (fun _ => 0) s3.pwr.ffLast b) } }
  (s4.repairRows b).crossCheck (1 + b)

/-- BELL_RESET_RELEASE (R24, R25): the Bell latches its straps; a failed check holds it in die reset and switches its domains off (R42). Otherwise
pending row repairs are applied (R53),
it starts at OPP 0 (R345), and its sensors are cross-checked (R350). -/
def execBellResetRelease (b : Fin 8) (bstrap : Fin 16) (form : Bool) (s : State) : Host.Outcome State Fault Refusal :=
  let b := b.val
  let v := bstrap.val
  let x := s.bell b
  .next (s.live fun s =>
    if !x.inReset ∨ x.retired ∨ x.dead ∨ !s.pins.resetN ∨ s.dom (domBell b 0) ≠ 0 ∨ s.dom (domBell b 1) ≠ 0 then s
    else if strapParity v ∧ strapForm v form ∧ strapPort v b then (s.strapRead b v form).bellReleased b x
    else ((((s.strapRead b v form).setBell b { x with strapFail := true }).pulse (srcBell b 0) (le 1 b ++ le 1 v)).bellOff b).pairOff b)

end Sys2Proof.Machine
end

