-- ==== Sys2Proof/Machine/Bridge.lean ====
section
/-!
DEFINITION. The bridge (R187, R192 to R194, R446): Ethernet frames, admission of host messages, host bindings, neighbour solicitations and echo
requests, and the PCS of the Ethernet instances.
-/

namespace Sys2Proof.Machine

open Sys2Proof

/-- An Ethernet instance runs: a bridge, PORT_USE 3, its PCS locked (R192, R446). -/
def State.ethUp (s : State) (p i : Nat) : Bool := s.active && s.img.bridge && s.img.portUse p == 3 && (s.port p).pcs.contains i

/-- A frame discarded and counted (R193). -/
def State.ethDrop (s : State) : State := s.bump R.TRN_ETH_DROP_CNT

/-- The binding of a context (R187). -/
def State.binding (s : State) (hctx : Nat) : Option Binding := SMap.get (fun _ => none) s.trn.binds hctx

/-- A message admitted from a host enters the switch; a broadcast is delivered here and sent on (R177, R187). -/
def State.letIn (s : State) (p : Fin 32) (m : Msg) : State :=
  if m.dstNode = 0xFFFFF then
    if (m.mtype = 0x14 ∨ m.mtype = 0x08) ∧ !m.resp then (s.deliver (.port p) m).broadcast .ridge m else s
  else s.switchIn (.port p) m

/-- A ZFP message from a host at an address and port (R187, R194). -/
def State.hostMessage (s : State) (p : Fin 32) (from_ : Binding) (m0 : Msg) : State :=
  let m := { m0 with srcNode := s.node, srcDie := 31, origTick := if m0.resp then m0.origTick else s.ftc % 2 ^ 32 }
  let ctx := m0.tid / 2 ^ 52
  if m0.resp then
    if m0.mtype = 0x13 ∧ s.binding (bits (leAt m0.body 4 2) 11 0) = some from_ then s.letIn p m else s.ethDrop
  else if m0.mtype = 0x14 then
    if ctx ≠ leAt m0.body 0 2 then s.ethDrop
    else if (s.binding ctx).any (·.addr != from_.addr) ∧ !bit (leAt m0.body 2 1) 0 then s.ethDrop
    else { s with trn := { s.trn with binds := SMap.set (fun _ => none) s.trn.binds ctx (some from_) } }.letIn p m
  else if s.binding ctx = some from_ then s.letIn p m
  else s.ethDrop

/-- A UDP datagram (R193): the checks of its row, then the ZFP message (R172). -/
def State.udpFrame (s : State) (p : Fin 32) (f : Frame) : State :=
  let u := f.payload
  if f.dmac = s.mac p ∧ f.dst = s.img.bridgeAddr ∧ f.next = 17 ∧ beAt u 2 2 = s.img.udpPort ∧ beAt u 4 2 = u.length ∧ 8 ≤ u.length
      ∧ beAt u 6 2 ≠ 0 ∧ cksumOk f.src f.dst 17 u ∧ s.zfpFlows then
    match Msg.parse (u.drop 8) with
    | none => s.bump R.TRN_DISCARD_CNT
    | some m => s.hostMessage p ⟨beAt f.src 0 16, beAt u 0 2⟩ m
  else s.ethDrop

/-- A frame carries a valid ICMPv6 message of a type, code 0. -/
def Frame.icmp (f : Frame) (type n : Nat) : Bool :=
  f.next == 58 && decide (n ≤ f.payload.length) && leAt f.payload 0 1 == type && leAt f.payload 1 1 == 0 && cksumOk f.src f.dst 58 f.payload

/-- A neighbour solicitation for BRIDGE_ADDR (R193). -/
def State.isSolicitation (s : State) (p : Nat) (f : Frame) : Bool :=
  let a := s.img.bridgeAddr
  (f.dmac == s.mac p || f.dmac == mcastMac (solicited a)) && (f.dst == a || f.dst == solicited a) && f.hop == 255 && f.icmp 135 24
    && (f.payload.drop 8).take 16 == a

/-- The neighbour advertisement that answers it: solicited and override, with this port's MAC; to all nodes for an unspecified source. -/
def State.advertise (s : State) (p i : Nat) (f : Frame) : State :=
  let a := s.img.bridgeAddr
  let anon := f.src == zeros 16
  let dst := if anon then allNodes else f.src
  let rest := [if anon then (0x20 : Byte) else 0x60] ++ zeros 3 ++ a ++ [2, 1] ++ s.mac p
  s.emit (.frame p i (ip6Frame (if anon then mcastMac allNodes else f.smac) (s.mac p) (icmpPacket a dst 255 136 rest)))

/-- A neighbour advertisement for an address that this device resolves or has resolved (R193): the MAC of its target option. -/
def State.advertised? (s : State) (p : Nat) (f : Frame) : Option (Nat × Nat) :=
  let a := beAt (f.payload.drop 8) 0 16
  if (f.dmac == s.mac p || f.dmac == mcastMac allNodes) && (f.dst == s.img.bridgeAddr || f.dst == allNodes) && f.hop == 255 && f.icmp 136 32
      && leAt f.payload 24 1 == 2 && leAt f.payload 25 1 == 1
      && (s.trn.ethWait.any (·.1 == a) || (SMap.get (fun _ => none) s.trn.neigh a).isSome) then some (a, beAt f.payload 26 6)
  else none

/-- A neighbour resolved: the packets that waited for it go out. -/
def State.resolved (s : State) (p i a mac : Nat) : State :=
  let s1 : State := { s with trn := { s.trn with neigh := SMap.set (fun _ => none) s.trn.neigh a (some mac), ethWait := s.trn.ethWait.filter (·.1 != a) } }
  (s.trn.ethWait.filter (·.1 == a)).foldl (fun t e => t.emit (.frame p i (ip6Frame (be 6 mac) (t.mac p) e.2))) s1

/-- An echo request for BRIDGE_ADDR (R193), and its reply. -/
def State.isEcho (s : State) (p : Nat) (f : Frame) : Bool := f.dmac == s.mac p && f.dst == s.img.bridgeAddr && f.icmp 128 8
def State.echo (s : State) (p i : Nat) (f : Frame) : State :=
  s.emit (.frame p i (ip6Frame f.smac (s.mac p) (icmpPacket s.img.bridgeAddr f.src 64 129 (f.payload.drop 4))))

/-- A frame at an Ethernet instance (R193): a datagram for the bridge, a solicitation, an advertisement, an echo request, or another frame. -/
def State.frameIn (s : State) (p : Fin 32) (i : Nat) (bytes : List Byte) : State :=
  let f := Frame.parse bytes
  if s.ethUp p i then
    if !f.whole ∨ f.etype ≠ 0x86DD ∨ f.ver ≠ 6 then s.ethDrop
    else if s.isSolicitation p f then s.advertise p i f
    else if s.isEcho p f then s.echo p i f
    else match s.advertised? p f with
      | some e => s.resolved p i e.1 e.2
      | none => s.udpFrame p f
  else s

/-- ETH_FRAME (R193, R194). -/
def execEthFrame (p : Fin 32) (inst : Fin 2) (frame : List Byte) (s : State) : Host.Outcome State Fault Refusal :=
  .next (s.live fun s => s.frameIn p inst frame)

/-- NEIGHBOR_SOLICITATION (R193): answered for BRIDGE_ADDR; a frame that is none is treated as any other. -/
def execNeighborSolicitation (p : Fin 32) (inst : Fin 2) (frame : List Byte) (s : State) : Host.Outcome State Fault Refusal :=
  .next (s.live fun s => s.frameIn p inst frame)

/-- ECHO_REQUEST (R193): answered for BRIDGE_ADDR; a frame that is none is treated as any other. -/
def execEchoRequest (p : Fin 32) (inst : Fin 2) (frame : List Byte) (s : State) : Host.Outcome State Fault Refusal :=
  .next (s.live fun s => s.frameIn p inst frame)

/-- ETHERNET_PCS_LOCK (R446): the PCS of an instance gains or loses lock, and its link comes up or goes down; the other instance goes on. -/
def execEthernetPcsLock (p : Fin 32) (inst : Fin 2) (up : Bool) (s : State) : Host.Outcome State Fault Refusal :=
  .next (s.live fun s =>
    if s.active ∧ s.img.bridge ∧ s.img.portUse p = 3 then
      s.modPort p fun q => { q with pcs := if up then (q.pcs ++ [inst.val]).eraseDups else q.pcs.filter (· != inst.val) }
    else s)

end Sys2Proof.Machine
end

