-- ==== Sys2Proof/Machine/Collector.lean ====
section
/-!
DEFINITION. The fault collector (R358 to R369, R373): reports, severity, capture, escalation, the degrade and isolate actions,
acknowledgement, management events, FAULT_N, the collector's own faults and fault injection.
-/

namespace Sys2Proof.Machine

open Sys2Proof

/-- The forced sources of R361. -/
def forced (i : Nat) : Bool := [0, 6, 10, 14, 28, 30].contains i

/-- Reserved sources never report (R360): the fourth source of a slot. -/
def reservedSource (i : Nat) : Bool := decide (160 ≤ i) && decide (i < 192) && i % 4 == 3

/-- The configured severity of a source: its SEVERITY byte in the image in force, and 1 before any image is (R361). -/
def State.sevCfg (s : State) (i : Nat) : Nat := if s.active then s.img.severity i else 1

/-- Pending sources other than i. -/
def State.pendingOthers (s : State) (i : Nat) : List Pair :=
  (s.flt.pairs.filter (fun e => e.1 != i && e.2.pend)).map (·.2)

/-- R366: a report of a source that is not pending escalates when another source is pending at an effective severity of its
configured severity or less. -/
def State.escalates (s : State) (i : Nat) : Bool :=
  let c := s.sevCfg i
  !forced i && !(s.pair i).pend && decide (1 ≤ c) && (s.pendingOthers i).any (fun p => decide (p.pendSev ≤ c))

/-- The effective severity of a report (R361, R366). -/
def State.sevOf (s : State) (i : Nat) : Nat :=
  if forced i then 4 else if s.escalates i then min 4 (s.sevCfg i + 1) else s.sevCfg i

/-- The highest effective severity among pending sources (FLT_STAT.MAXSEV). -/
def State.maxSev (s : State) : Nat :=
  s.flt.pairs.foldl (fun m e => if e.2.pend then max m e.2.pendSev else m) 0

/-- FAULT_N is low (R368): a source pending, Strike, clock-less hold or the thermal latch. -/
def State.faultN (s : State) : Bool :=
  s.flt.pairs.any (·.2.pend) || s.inStrike || s.fld R.CLK_STAT F.CLK_STAT_CLKLESS == 1
    || s.fld R.THM_LATCH F.THM_LATCH_VALID == 1

/-- The die of a fault record (R455). -/
def dieOf (i : Nat) : Nat :=
  if i < 32 then 0
  else if i < 96 then 1 + (i - 32) / 8
  else if i < 128 then 1 + (i - 96) / 4
  else if i < 160 then (let c := (i - 128) / 2; if c < 8 then 1 + c else 9 + (c - 8))
  else if i < 192 then 9 + (i - 160) / 4
  else if i < 288 then 9 + (i - 192) / 12
  else 0

/-- A management event queued (R362, R405): at most 64 are held, the oldest dropped and counted. -/
def State.mgmtEvent (s : State) (i sev : Nat) : State :=
  let ev := s.flt.events ++ [(i, sev)]
  let s1 : State :=
    if 64 < ev.length then { s with flt := { s.flt with events := ev.drop 1, dropped := s.flt.dropped + 1 } }
    else { s with flt := { s.flt with events := ev } }
  let s2 : State := s1.setFld R.SEC_GUY_STAT F.SEC_GUY_STAT_EVT_HELD s1.flt.events.length
  if s2.fld R.SEC_GUY_STAT F.SEC_GUY_STAT_BUS = 0 then s2.emit .ibi else s2

/-- A FAULT or FIRST_FAULT record of a source (R389, R390). -/
def State.faultRecord (s : State) (type i eff count : Nat) (esc : Bool) : State :=
  let p := s.pair i
  s.dryWrite { type := type, flags := b2n (type == 2) + 2 * b2n esc + 4 * b2n p.injected, sev := eff + 8 * s.sevCfg i, ftc := s.ftc,
               wall := s.wall, source := i, die := dieOf i, node := s.node, restart := s.trn.restart, count := count,
               detail := fit 80 p.detail }

/-- Severity 0 for a report (R362): counted, and a FAULT record at most once per source per second. -/
def State.logReport (s : State) (i eff : Nat) (esc : Bool) : State :=
  let p := s.pair i
  let due : Bool := match p.lastRec with
    | none => true
    | some t => decide (1000000000 + t ≤ s.now)
  let n := min (p.since + 1) 0xFFFFFFFF
  let s1 : State := s.setPairSt i { p with cnt := min (p.cnt + 1) 0xFFFFFFFF, sevEff := eff, seen := true,
                                           since := if due then 0 else n,
                                           lastRec := if due then some s.now else p.lastRec }
  let s2 : State := if esc then s1.bump R.FLT_ESC_CNT else s1
  if due then s2.faultRecord 1 i eff n esc else s2

/-- First-fault capture (R365). -/
def State.firstFault (s : State) (i eff : Nat) (esc : Bool) : State :=
  if s.fld R.FLT_FIRST F.FLT_FIRST_VALID = 0 then
    let p := s.pair i
    let s1 : State := s.setReg R.FLT_FIRST (BitVec.ofNat 32
      (i + s.sevCfg i * 2 ^ 9 + eff * 2 ^ 12 + b2n esc * 2 ^ 15 + b2n p.injected * 2 ^ 16 + 2 ^ 31))
    let s2 : State := s1.setPair R.FLT_FIRST_FTC_LO R.FLT_FIRST_FTC_HI s.ftc
    let s3 : State := (List.range 4).foldl (fun t k => t.setReg (R.FLT_FIRST_DET k) (BitVec.ofNat 32 (leAt p.detail (4 * k) 4))) s2
    (s3.faultRecord 2 i eff (max 1 p.since) esc).setPairSt i { p with since := 0 }
  else s

/-- The degrade action of R363. For a port the pair's `degr` limits VC2 (Machine/LinkTx.lean) and THROTTLE is sent; for a device
source THROTTLE is sent on every ACTIVE port, as the Ridge throttle does (R351); for a Bell or Seam link CAPb becomes the lower of its value and 3. -/
def State.degrade (s : State) (i : Nat) : State :=
  let bellCap (b : Nat) : State :=
    let c := s.fld R.PWR_OPP_CAP (F.PWR_OPP_CAP_CAP b)
    let s1 : State := s.setPairSt i { s.pair i with degr := true, savedCap := some c }
    s1.setFld R.PWR_OPP_CAP (F.PWR_OPP_CAP_CAP b) (min c 3)
  let mark : State := s.setPairSt i { s.pair i with degr := true }
  let slotPorts (k : Nat) : State := (List.range 4).foldl (fun t q => t.sendThrottle (4 * k + q)) mark
  if i < 32 then (List.range 32).foldl State.sendThrottle mark
  else if i < 96 then bellCap ((i - 32) / 8)
  else if i < 128 then bellCap ((i - 96) / 4)
  else if i < 160 then (let c := (i - 128) / 2; if c < 8 then bellCap c else slotPorts (c - 8))
  else if i < 192 then slotPorts ((i - 160) / 4)
  else if i < 288 then slotPorts ((i - 192) / 12)
  else mark.sendThrottle ((i - 288) / 7)

/-- The isolate action of R363. -/
def State.isolate (s : State) (i : Nat) : State :=
  if i < 32 then
    if i = 2 then s.failPole false
    else if i = 3 then s.failPole true
    else s.enterStrike i 0xFFFF
  else if i < 96 then s.retireBell ((i - 32) / 8) i
  else if i < 128 then s.retireBell ((i - 96) / 4) i
  else if i < 160 then (let c := (i - 128) / 2; if c < 8 then s.retireBell c i else s.retireSlot (c - 8) i)
  else if i < 192 then s.retireSlot ((i - 160) / 4) i
  else if i < 288 then s.retireSlot ((i - 192) / 12) i
  else s.holdPort ((i - 288) / 7) 0xC

/-- The collector's own fault (R369): the Strike path is driven directly and FLT_STAT.SELF reads 1. -/
def State.selfFault (s : State) (check : Nat) : State :=
  ((s.setFld R.FLT_STAT F.FLT_STAT_SELF 1).pulse 0 (le 2 check)).enterStrike 0 check

/-- A report of a source at its effective severity (R362). In the Strike state, and for a source already pending, it is counted and
logged only (R366, R367). -/
def State.handleReport (s : State) (i : Nat) : State :=
  let esc := s.escalates i
  let eff := s.sevOf i
  let was := (s.pair i).pend
  let strike := s.inStrike
  let s1 : State := s.logReport i eff (esc && !strike)
  if strike ∨ was ∨ eff = 0 then s1
  else
    let s2 : State := s1.setPairSt i { s1.pair i with pend := true, pendSev := eff }
    let s3 : State := (s2.firstFault i eff esc).mgmtEvent i s2.maxSev
    if eff = 4 then s3.enterStrike i 0xFFFF
    else
      let s4 : State := if 2 ≤ eff then s3.degrade i else s3
      if 3 ≤ eff then s4.isolate i else s4

/-- The report of one pair sampled by the collector (R358, R359): `equal` says that it shows equal levels on two consecutive
samples. An event's pair returns to inactive once sampled. -/
def State.samplePair (s : State) (i : Nat) (equal : Bool) : State :=
  let p := s.pair i
  let s1 : State := s.setPairSt i { p with wire := equal }
  if equal ∧ i ≤ 1 then s1.selfFault i
  else
    let s2 : State := if equal ∧ !p.wire then s1.pulse 1 (le 2 i) else s1
    if (equal || p.active) ∧ !p.seen then
      let s3 : State := s2.handleReport i
      if p.event ∧ !equal then s3.setPairSt i { s3.pair i with active := false, event := false, seen := false, injected := false } else s3
    else if !equal ∧ !p.active then s2.setPairSt i { s2.pair i with seen := false }
    else s2

/-- FAULT_REPORT (R358 to R367). `readBackFails` says that the write of a record by it fails its read-back (R391): source 24 and
DRY_STAT.WRITE_ERR. Source 0 does not pass through the severity logic (R369). -/
def execFaultReport (src : Fin 512) (equal readBackFails : Bool) (s : State) : Host.Outcome State Fault Refusal :=
  if reservedSource src.val then .next s
  else if src.val = 0 ∧ !equal then
    if (s.pair 0).active then .next (s.enterStrike 0 0xFFFF) else .next s
  else
    let s1 : State := s.samplePair src.val equal
    if readBackFails ∧ (s1.reg R.DRY_SEQ ≠ s.reg R.DRY_SEQ) then
      .next ((s1.setFld R.DRY_STAT F.DRY_STAT_WRITE_ERR 1).pulse 24 (le 4 (s1.reg R.DRY_SEQ).toNat))
    else .next s1

/-- Acknowledgement of a source (R363, R364): only while its pair is inactive; it lifts the degrade action and not an isolation. -/
def State.ackSource (s : State) (i : Nat) : State :=
  let p := s.pair i
  if p.pend ∧ !p.active ∧ !p.wire then
    let s1 : State := s.setPairSt i { p with pend := false, degr := false, savedCap := none }
    match p.savedCap with
    | some c =>
      let b := if i < 96 then (i - 32) / 8 else if i < 128 then (i - 96) / 4 else (i - 128) / 2
      s1.setFld R.PWR_OPP_CAP (F.PWR_OPP_CAP_CAP b) c
    | none =>
      if !p.degr then s1
      else if 288 ≤ i then s1.liftThrottle ((i - 288) / 7)
      else if 144 ≤ i then
        let k := if i < 160 then (i - 128) / 2 - 8 else if i < 192 then (i - 160) / 4 else (i - 192) / 12
        (List.range 4).foldl (fun t q => t.liftThrottle (4 * k + q)) s1
      else (List.range 32).foldl State.liftThrottle s1
  else s

/-- FAULT_ACK (R364). -/
def execFaultAck (src : Fin 512) (s : State) : Host.Outcome State Fault Refusal := .next (s.ackSource src.val)

/-- ACK_ALL (R364): every pending source whose pair is inactive. -/
def State.ackAll (s : State) : State := (List.range 512).foldl (fun t i => t.ackSource i) s
def execAckAll (s : State) : Host.Outcome State Fault Refusal := .next s.ackAll

/-- COLLECTOR_SELF_FAULT (R369): a parity error or dual-rail mismatch; `check` names the register or check for the STRIKE record. -/
def execCollectorSelfFault (check : BitVec 16) (s : State) : Host.Outcome State Fault Refusal := .next (s.selfFault check.toNat)

/-- FAULT_INJECT (R373): FLT_INJ.GO acts while TEST_MODE is high and the signed unlock is in force: drive the pair active, drive it to
equal levels, or plant a parity error in a collector register. -/
def State.inject (s : State) (src kind : Nat) : State :=
  if s.fld R.SEC_STAT F.SEC_STAT_UNLOCK = 1 ∧ s.pins.testMode then
    match kind with
    | 0 => s.setPairSt src { s.pair src with active := true, event := true, seen := false, injected := true }
    | 1 => (s.setPairSt src { s.pair src with injected := true }).samplePair src true
    | 2 => (s.setPairSt 0 { s.pair 0 with injected := true }).selfFault src
    | _ => s
  else s
def execFaultInject (s : State) : Host.Outcome State Fault Refusal :=
  .next (s.inject (s.fld R.FLT_INJ F.FLT_INJ_SOURCE) (s.fld R.FLT_INJ F.FLT_INJ_KIND))

end Sys2Proof.Machine
end

