-- ==== Sys2Proof/Machine/Verify.lean ====
section
/-!
DEFINITION. Verification of a Pitch image (R160): checks 1 to 17 and 19 with the placement of R143, the chain of R148, the field values of R149 to
R158, the descriptors of R78, the pipelines of R93, R123 and R136, the collectives of R122, and the capacity of R117. A check answers the offset of
the failing field.
-/

namespace Sys2Proof.Machine

open Sys2Proof

/-- The first failing test of a list, each with the offset of its field. -/
def firstBad (l : List (Bool × Nat)) : Option Nat := (l.find? (·.1)).map (·.2)

/-- n bytes from an offset are zero. -/
def Store.zeroAt (st : Store) (o n : Nat) : Bool := (st.slice o n).all (· == 0)

/-- The end of the directory, and what PIT_ERR_SECT shows where checks 1 to 10 fail other than in a section: 0xFF in the signature block, else 0xFE. A
byte between sections that is not zero shows as 0xFE, the directory that places them (DESIGN CHOICE, log entry 178). -/
def Store.dirEnd (st : Store) : Nat := 128 + 80 * st.sectCount
def Store.sectAt (st : Store) (o : Nat) : Nat := if o < st.dirEnd ∨ o < st.sigOff then 0xFE else 0xFF

/-- A failure in a section: its directory index and the offset. -/
def Sect.at_ (x : Sect) (o : Option Nat) : Option (Nat × Nat) := o.map fun a => (x.idx, a)

/-- Check 1 (FORMAT). -/
def Store.badFormat (st : Store) (minorMax : Nat) : Option Nat :=
  let n := st.sectCount
  (firstBad [(st.num 0 4 != 0x48435450, 0), (st.num 4 1 != 1, 4), (decide (minorMax < st.num 5 1), 5), (st.num 6 2 != 128, 6),
    (n == 0 || decide (64 < n), 12), (!st.zeroAt 104 24, 104)]).or <|
  (List.range (min n 64)).findSome? fun i =>
    let o := 128 + 80 * i
    firstBad [(decide (2 ≤ st.num (o + 3) 1), o + 3), (st.num (o + 4) 4 != 0, o + 4), (st.num (o + 72) 8 != 0, o + 72)]

/-- Check 2 (LENGTH): TOTAL_LEN and the placement of R143. Bytes not listed in the store are zero. -/
def Store.badLength (st : Store) : Option Nat :=
  let sig := st.sigOff
  let xs := st.sects
  (firstBad [(st.num 8 4 != st.len || decide (0x1000000 < st.len), 8), (sig % 64 != 0 || decide (st.len < sig) || decide (sig < st.dirEnd), 20)]).or <|
  (xs.findSome? fun x =>
    let o := 128 + 80 * x.idx + 8
    firstBad [(x.off % 64 != 0 || decide (x.off < st.dirEnd) || decide (sig < x.off + x.len), o),
      (xs.any fun y => decide (y.idx < x.idx) && decide (x.off < y.off + y.len) && decide (y.off < x.off + x.len), o)]).or <|
  (st.bytes.find? fun e => decide (st.dirEnd ≤ e.1) && decide (e.1 < sig) && !xs.any fun x => decide (x.off ≤ e.1) && decide (e.1 < x.off + x.len)).map (·.1)

/-- The key that a certificate carries (R147). -/
def certPub (c : List Byte) : Nat × Nat := pubKey ((c.drop 32).take 96)

/-- Certificate i of an image fails R147 or R148. -/
def State.badCert (s : State) (st : Store) (i : Nat) : Bool :=
  let c := st.cert i
  let prev := st.cert (i - 1)
  let use := leAt c 4 1
  let last := decide (i + 1 = st.ncert)
  leAt c 0 4 != 0x31435654 || decide (4 ≤ use) || leAt c 5 3 != 0 || leAt c 28 4 != 0 || decide (certSvn c < s.fuses.certLvl) || (last && !bit use 1)
    || (if i = 0 then
          leAt c 16 8 != Config.rootKeyId || !certOk Config.rootKey c || (s.fuses.bound && certKey c != s.fuses.bindId)
        else leAt c 16 8 != certKey prev || !bit (leAt prev 4 1) 0 || !certOk (certPub prev) c)

/-- Check 4 (CHAIN): the layout of the signature block (R147), the chain (R148), and no image while the test unlock is in force (R415). -/
def State.badChain (s : State) (st : Store) : Option Nat :=
  let sig := st.sigOff
  let n := st.ncert
  let fin := sig + 8 + 224 * n + 96
  (firstBad [(s.fld R.SEC_STAT F.SEC_STAT_UNLOCK == 1, sig), (st.num sig 4 != 0x31535654, sig), (n != 2 && n != 3, sig + 4),
    (st.num (sig + 5) 3 != 0, sig + 5), (decide (st.len < fin) || st.bytes.any fun e => decide (fin ≤ e.1), fin)]).or <|
  (List.range n).findSome? fun i => firstBad [(s.badCert st i, sig + 8 + 224 * i)]

/-- Check 5 (SIGNATURE). -/
def Store.badSignature (st : Store) : Option Nat :=
  let o := st.sigOff + 8 + 224 * st.ncert
  firstBad [(!sigOk (certPub (st.cert (st.ncert - 1))) (st.slice 0 st.dirEnd) (st.slice o 96), o)]

/-- Check 6 (DIGEST): the section that fails, and the offset of its DIGEST (DESIGN CHOICE, log entry 178). -/
def Store.badDigest (st : Store) : Option (Nat × Nat) :=
  st.sects.findSome? fun x =>
    let o := 128 + 80 * x.idx + 24
    x.at_ (firstBad [(sha384 (st.slice x.off x.len) != st.slice o 48, o)])

/-- Check 10 (SECTION): types and counts (R146). R145 gives SVER 1 to every type and names no check for another value: it fails here (DESIGN CHOICE,
log entry 179). -/
def Store.badSection (st : Store) : Option Nat :=
  let xs := st.sects
  let known (t : Nat) : Bool := decide (1 ≤ t) && decide (t ≤ 12)
  let count (t : Nat) : Nat := (xs.filter fun x => x.type == t).length
  let bell (x : Sect) : Nat := st.num x.off 1
  (xs.findSome? fun x =>
    let o := 128 + 80 * x.idx
    firstBad [(if known x.type then st.num (o + 2) 1 != 1 else !bit x.flags 0, o),
      (xs.any fun y => decide (y.idx < x.idx) && known x.type && y.type == x.type && (x.type != 6 || bell y == bell x), o)]).or <|
  firstBad ([1, 2, 3, 4, 5, 7, 8, 9, 10].map fun t => (count t == 0, 128)) |>.or <| firstBad [(decide (8 < count 6), 128)]

/-- What a check of the section of a TYPE finds. -/
def Store.onSect (st : Store) (type : Nat) (k : Sect → Option (Nat × Nat)) : Option (Nat × Nat) := (st.find type).bind k

/-- ROLE (R149). -/
def Store.badRole (st : Store) (x : Sect) : Option Nat :=
  let b := x.off
  let n (o k : Nat) : Nat := st.num (b + o) k
  let lead := n 20 4
  let eth := (List.range 32).filter fun p => n (32 + p) 1 == 3
  if x.len ≠ 256 then some b
  else
    (firstBad [(decide (0x3FFFF < n 0 4), b), (decide (16383 < n 4 2), b + 4), (decide (15 < n 6 1), b + 6), (decide (1 < n 7 1), b + 7),
      (decide (15 < n 8 1), b + 8), (n 9 3 != 0, b + 9), (decide (1048576 ≤ n 12 4), b + 12), (decide (1048576 ≤ n 16 4), b + 16),
      (lead != 0 && (lead % 128 != 0 || decide (lead < 256) || decide (65536 < lead)), b + 20), (decide (16 < n 26 1), b + 26),
      (!st.zeroAt (b + 27) 5, b + 27), (!st.zeroAt (b + 112) 144, b + 112)]).or <|
    ((List.range 32).findSome? fun p =>
      let u := n (32 + p) 1
      firstBad [(decide (4 < u) || (u == 1 && !(p == 0 || p == 1 || p == 16 || p == 17)) || (u == 3 && (!bit (n 8 1) 0 || decide (8 < eth.length))), b + 32 + p)]).or <|
    (List.range 32).findSome? fun p =>
      let v := n (80 + p) 1
      firstBad [(decide (7 < v) && v != 255, b + 80 + p)]

/-- ROUTE (R150). -/
def Store.badRoute (st : Store) (x : Sect) : Option Nat :=
  let own := st.num ((st.find 1).elim 0 (·.off)) 4
  if x.len ≠ 1048576 then some x.off
  else (firstBad [(decide (own < 0x40000) && st.num (x.off + 4 * own) 4 % 64 != 62, x.off + 4 * own)]).or <|
    (List.range 0x40000).findSome? fun i =>
      let e := st.num (x.off + 4 * i) 4
      let p := bits e 5 0
      let a := bits e 11 6
      firstBad [(!(decide (p < 32) || p == 62 || p == 63) || !(decide (a < 32) || a == 63) || bits e 31 18 != 0, x.off + 4 * i)]

/-- WAVE (R151, R268). -/
def Store.badWave (st : Store) (x : Sect) : Option Nat :=
  if x.len ≠ 512 then some x.off
  else (List.range 32).findSome? fun p =>
    let o := x.off + 16 * p
    let a := st.num o 1
    let b := st.num (o + 1) 1
    firstBad [(a == 0 || decide (18 < a), o), (b == 0 || decide (18 < b) || b == a, o + 1), (decide (10 < st.num (o + 2) 2), o + 2), (!st.zeroAt (o + 4) 12, o + 4)]

/-- The ports of a SLOT pair (R151). -/
def pairPorts (c : Nat) : Nat × Nat := if c = 0 then (0, 1) else if c = 1 then (1, 0) else if c = 2 then (16, 17) else (17, 16)

/-- SLOT (R151, R276). -/
def Store.badSlot (st : Store) (x : Sect) : Option Nat :=
  let n := st.num (x.off + 2) 2
  let ent (i : Nat) : Nat := x.off + 16 + 8 * i
  let per := st.num x.off 2
  (firstBad [(per == 0 || decide (4096 < per), x.off), (decide (x.len < 16 + 8 * n), x.off + 2), (st.num (x.off + 8) 8 % 128 != 0, x.off + 8)]).or <|
  (List.range n).findSome? fun i =>
    let o := ent i
    let pair := st.num (o + 2) 1
    let r := st.num (o + 3) 1
    let role := r % 4
    let hop := bits r 3 2
    let lines := st.num (o + 4) 4
    let pp := pairPorts pair
    firstBad [(decide (per ≤ st.num o 2), o), (decide (3 < pair), o + 2), ((List.range i).any fun j => st.num (ent j) 3 == st.num o 3, o),
      (!((role == 0 && (hop == 1 || hop == 2)) || (role == 1 && hop == 0) || (role == 2 && (hop == 2 || hop == 3))) || decide (16 ≤ r)
        || st.portUse pp.1 != 1 || st.portUse pp.2 != 1, o + 3),
      (decide (524288 ≤ lines) || lines % 2 == 1, o + 4)]

/-- The bytes that the extents place in a region (R117). -/
def Extent.inRegion (e : Extent) (b die j : Nat) : Bool := e.kind != 6 && e.kind != 8 && e.bell == b && e.die == die && bit e.mask j
def Store.regionDemand (st : Store) (b die j : Nat) : Nat := ((st.extents.filter fun e => e.inRegion b die j).map (·.len)).foldl (· + ·) 0
def regionMax : Nat := 375000000

/-- An extent beyond its region is a field out of range where the region's demand would fit; otherwise CAPACITY_SHORT reports the region (R117). -/
def Store.extentBeyond (st : Store) (e : Extent) : Bool :=
  e.kind != 8 && decide (regionMax < e.off + e.len) &&
    (e.kind == 6 || (List.range 64).all fun j => !bit e.mask j || decide (st.regionDemand e.bell e.die j ≤ regionMax))

/-- The Vestibule of a Bell (R108): its extents take more than VEST_SIZE gives it, or the slabs of a pool pass the end of the pool's extent. R108 gives
the sizes and R160 names no check of them: an image that breaks them fails check 11 (DESIGN CHOICE, log entry 184). -/
def Store.vestBeyond (st : Store) (es : List Extent) (i : Nat) : Bool :=
  match es[i]? with
  | none => false
  | some e => e.kind == 3 &&
      decide (st.vestSize * 536870912 < (((es.take (i + 1)).filter fun f => f.kind == 3 && f.bell == e.bell).map Extent.size).foldl (· + ·) 0)
def Store.slabsBeyond (st : Store) (p : Pool) : Bool :=
  !p.isMirror && p.slabs != 0 &&
    p.bses.any fun j => (st.vestExtent? p j).elim true fun e => decide (e.len < p.slabBase + p.slabs * p.slice 32)

/-- MEMORY (R152, R153). -/
def Store.badMemory (st : Store) (x : Sect) : Option Nat :=
  let ne := st.num x.off 4
  let np := st.num (x.off + 4) 4
  let es := st.extents
  if 512 < np ∨ x.len < 8 + 32 * (ne + np) then some x.off
  else
    ((List.range ne).findSome? fun i =>
      let o := x.off + 8 + 32 * i
      match es[i]? with
      | none => some o
      | some e =>
        let kv := decide (1 ≤ e.kind) && decide (e.kind ≤ 3)
        let meets (f : Extent) : Bool := f.kind != 6 && f.kind != 8 && e.kind != 6 && e.kind != 8 && f.bell == e.bell && f.die == e.die
          && (f.mask &&& e.mask) != 0 && decide (f.off < e.off + e.len) && decide (e.off < f.off + f.len)
        firstBad [(decide (8 < e.kind), o), (if e.kind = 8 then e.bell != 255 else decide (7 < e.bell), o + 1), (decide (3 < e.die), o + 2),
          (decide (3 < e.perm) || (decide (2 ≤ e.kind) && decide (e.kind ≤ 5) && e.perm != 0), o + 3),
          (e.off % 64 != 0 || st.extentBeyond e, o + 12), (e.len % 64 != 0, o + 16), (if kv then decide (63 < e.pool) else e.pool != 0xFFFF, o + 20),
          (decide (1048576 ≤ st.num (o + 24) 4), o + 24), ((es.take i).any meets, o + 12),
          (st.vestBeyond es i, o + 16)]).or <|
    (List.range np).findSome? fun i =>
      let o := x.off + 8 + 32 * (ne + i)
      let n (a k : Nat) : Nat := st.num (o + a) k
      firstBad [(decide (7 < n 0 1), o), (decide (63 < n 1 1), o + 1), (decide (15 < n 2 1), o + 2), (decide (3 < n 3 1), o + 3),
        (!(n 6 1 == 0 || n 6 1 == 1 || n 6 1 == 8), o + 6), (decide (2 < n 7 1), o + 7), (n 8 1 == 0 || decide (64 < n 8 1), o + 8), (n 28 4 != 0, o + 28),
        ((st.pools[i]?).any st.slabsBeyond, o + 20)]

/-- PROGRAM (R154). -/
def Store.badProgram (st : Store) (x : Sect) : Option Nat :=
  let nd := st.ndesc x
  let ne := st.nentry x
  let fin := x.off + 16 + 2 * ne
  firstBad [(decide (7 < st.num x.off 1), x.off), (nd == 0 || decide (4096 < nd), x.off + 4), (ne == 0 || decide (256 < ne), x.off + 6),
    (decide (x.off + x.len < st.descBase x + 64 * nd), x.off + 4), (!st.zeroAt fin (st.descBase x - fin), fin)]

/-- The offsets of n records from an offset, each with its length at `at_`. -/
def Store.recsFrom (st : Store) (at_ : Nat) : Nat → Nat → List Nat
  | _, 0 => []
  | o, n + 1 => o :: st.recsFrom at_ (o + st.num (o + at_) 4) n

/-- A list of numbers rises strictly. -/
def rising : List Nat → Bool
  | a :: b :: t => decide (a < b) && rising (b :: t)
  | _ => true

/-- PIPELINE (R155). -/
def Store.badPipeline (st : Store) (x : Sect) : Option Nat :=
  let n := st.num x.off 4
  let fin := x.off + x.len
  let os := st.recsFrom 28 (x.off + 8) (min n 1024)
  (firstBad [(decide (1024 < n) || decide (x.len < 8), x.off)]).or <|
  (os.findSome? fun o =>
    let ns := st.num (o + 24) 2
    let nr := st.num (o + 26) 2
    let len := st.num (o + 28) 4
    let tail := 32 + 4 * (ns + nr)
    let sh := (List.range ns).map fun i => st.num (o + 32 + 4 * i) 4
    firstBad [(decide (fin < o + 32), o), (decide (1023 < st.num o 2), o), (decide (2 < st.num (o + 2) 1), o + 2), (decide (2 < st.num (o + 3) 1), o + 3),
      (ns == 0 || decide (4096 < ns), o + 24), (decide (4096 < nr), o + 26), (len % 8 != 0 || decide (len < tail) || decide (fin < o + len), o + 28),
      (!rising sh || sh.any fun v => decide (0x3FFFF < v), o + 32),
      ((List.range nr).any fun i => decide (262144 ≤ st.num (o + 32 + 4 * ns + 4 * i) 4), o + 32 + 4 * ns),
      (!st.zeroAt (o + tail) (len - tail), o + tail)]).or <|
  firstBad [(!rising (os.map fun o => st.num o 2), x.off + 8)]

/-- COLLECTIVE (R156). -/
def Store.badCollective (st : Store) (x : Sect) : Option Nat :=
  let n := st.num x.off 4
  let fin := x.off + x.len
  let os := st.recsFrom 44 (x.off + 8) (min n 16384)
  (firstBad [(decide (16384 < n) || decide (x.len < 8), x.off)]).or <|
  (os.findSome? fun o =>
    let f (a k : Nat) : Nat := st.num (o + a) k
    let nc := f 40 1
    let nl := f 41 1
    let len := f 44 4
    let tail := 48 + 4 * nc + 8 * nl
    let elems := f 12 4
    let ranks := f 16 2
    firstBad [(decide (fin < o + 48), o), (decide (16384 ≤ f 0 4), o), (decide (2 < f 4 1), o + 4), (decide (1 < f 5 1), o + 5), (decide (2 < f 6 1), o + 6),
      (decide (3 < f 7 1), o + 7), (!(f 8 1 == 8 || f 8 1 == 10 || f 8 1 == 11), o + 8), (!fmtOk (f 9 1), o + 9), (decide (3 < f 10 1), o + 10),
      (decide (7 < f 11 1) || (f 5 1 == 1 && f 11 1 != 0), o + 11), (elems == 0 || decide (16777216 < elems), o + 12),
      (decide (ranks < 2) || decide (4096 < ranks), o + 16), (decide (1048576 ≤ f 36 4) || (f 5 1 == 0 && (f 11 1 == 0) != (f 36 4 == 0xFFFFF)), o + 36), (decide (16 < nc) || (f 5 1 == 1 && nc != 1), o + 40),
      (decide (128 < nl), o + 41), (len % 8 != 0 || decide (len < tail) || decide (fin < o + len), o + 44),
      ((List.range nc).any fun i => decide (1048576 ≤ f (48 + 4 * i) 4), o + 48),
      ((List.range nl).any fun i => f (50 + 4 * nc + 8 * i) 1 == 0 || decide (8 < f (50 + 4 * nc + 8 * i) 1), o + 48 + 4 * nc),
      (!st.zeroAt (o + tail) (len - tail), o + tail)]).or <|
  firstBad [(!rising (os.map fun o => st.num o 4), x.off + 8)]

/-- SEVERITY and POLICY (R157). -/
def Store.badSeverity (st : Store) (x : Sect) : Option Nat :=
  if x.len ≠ 512 then some x.off else (List.range 512).findSome? fun i => firstBad [(decide (4 < st.num (x.off + i) 1), x.off + i)]
def Store.badPolicy (st : Store) (x : Sect) : Option Nat :=
  let b := x.off
  let v (o d : Nat) : Nat := let r := st.num (b + o) 1; if r = 0 then d else r
  let opp := st.num (b + 4) 1
  let cal := st.num (b + 5) 1
  let lim := st.num (b + 6) 2
  if x.len ≠ 64 then some b
  else firstBad [(decide (v 1 115 ≤ v 0 105), b), (decide (125 ≤ v 1 115), b + 1), (decide (v 3 100 ≤ v 2 95), b + 2), (decide (105 ≤ v 3 100), b + 3),
    (if opp < 128 then opp != 0 else bits opp 6 3 != 0 || decide (5 < opp % 8), b + 4), (cal != 0 && (decide (cal < 4) || decide (80 < cal)), b + 5),
    (lim != 0 && (decide (lim < 500) || decide (1650 < lim)), b + 6), (!st.zeroAt (b + 8) 56, b + 8)]

/-- LIVE (R167) and SPARE (R158). R158 does not say that DELTA numbers differ: two of one number fail check 11 (DESIGN CHOICE, log entry 180). -/
def Store.badLive (st : Store) (x : Sect) : Option Nat := firstBad [(decide (1024 < st.num x.off 4) || decide (x.len < 4 + 8 * st.num x.off 4), x.off)]
def Store.badSpare (st : Store) (x : Sect) : Option Nat :=
  let n := st.num x.off 4
  let ds := st.deltas
  let patchesOk (d : Delta) : Bool :=
    let ps := st.patches d
    (ps.all fun p => p.len % 4 == 0 && st.num (p.src - 9) 1 == 0 && (p.type == 6 || p.inst == 0)) && (ps.map fun p => 12 + p.len).foldl (· + ·) 32 == d.len
  (firstBad [(decide (16 < n) || decide (x.len < 8), x.off), (st.num (x.off + 4) 4 != 0, x.off + 4)]).or <|
  (List.range ds.length).findSome? fun i =>
    match ds[i]? with
    | none => none
    | some d =>
      let o := d.off
      firstBad [(decide (x.off + x.len < o + 32), o), (decide (15 < d.num) || ((ds.take i).any fun e => e.num == d.num), o), (st.num (o + 1) 3 != 0, o + 1),
        (decide (33554432 ≤ st.num (o + 4) 4) || decide (0x3FFFF < d.node) || decide (16 < d.die), o + 4),
        (d.len % 4 != 0 || decide (d.len < 32) || decide (1048576 < d.len) || decide (x.off + x.len < o + d.len), o + 12),
        (decide (d.len < 32 + 12 * d.npatch), o + 8), (decide (1048576 ≤ d.reload), o + 16), (!st.zeroAt (o + 24) 8, o + 24), (!patchesOk d, o + 32)]

/-- Check 11 (FIELD), section by section in directory order. -/
def Store.badField (st : Store) : Option (Nat × Nat) :=
  st.sects.findSome? fun x => x.at_ <|
    match x.type with
    | 1 => st.badRole x
    | 2 => st.badRoute x
    | 3 => st.badWave x
    | 4 => st.badSlot x
    | 5 => st.badMemory x
    | 6 => st.badProgram x
    | 7 => st.badPipeline x
    | 8 => st.badCollective x
    | 9 => st.badSeverity x
    | 10 => st.badPolicy x
    | 11 => st.badLive x
    | 12 => st.badSpare x
    | _ => none

/-- A word that LIVE may list (R167). -/
def liveScope (type off : Nat) : Bool :=
  (type == 10 && decide (off < 64) && off % 4 == 0) || (type == 9 && decide (off < 512) && off % 4 == 0) || (type == 1 && off == 20)

/-- LIVE's entries (R167): TYPE and offset; and check 12 (LIVE_SCOPE). -/
def Store.liveWords (st : Store) : List (Nat × Nat) :=
  match st.find 11 with
  | none => []
  | some x => (List.range (min (st.num x.off 4) 1024)).map fun i => (st.num (x.off + 4 + 8 * i) 2, st.num (x.off + 8 + 8 * i) 4)
def Store.badScope (st : Store) : Option (Nat × Nat) :=
  st.onSect 11 fun x => x.at_ <| (List.range st.liveWords.length).findSome? fun i =>
    firstBad [((st.liveWords[i]?).any fun e => !liveScope e.1 e.2, x.off + 4 + 8 * i)]

/-- The descriptors of a run from an index, at most n of them (R57). -/
def Store.runFrom (st : Store) (x : Sect) : Nat → Nat → List Nat
  | _, 0 => []
  | i, n + 1 => if st.ndesc x ≤ i then [] else i :: st.runFrom x (Desc.decode (st.descBytes x i)).next n

/-- Reason 0x08 of R78 for a program: an entry point or a NEXT beyond it, or a cycle. R78 gives neither the order of the three nor the index that is
recorded: every NEXT is checked first, with its own index, then the entry points in order and then their chains, each with the index that the entry
point names (DESIGN CHOICE, log entry 170). -/
def Store.badChainNext (st : Store) (x : Sect) : Option Nat :=
  let nd := st.ndesc x
  let es := (List.range (st.nentry x)).map (st.entryPoint x)
  ((List.range nd).find? fun i => let nx := (Desc.decode (st.descBytes x i)).next; nx != 0xFFFF && decide (nd ≤ nx)).or <|
  (es.find? fun e => decide (nd ≤ e)).or <| es.find? fun e => decide (nd < (st.runFrom x e (nd + 1)).length)

/-- The first descriptor of a Bell's program that R78 refuses, with its reason. -/
def Store.badDesc (st : Store) (b : Nat) (x : Sect) : Option (Nat × Nat) :=
  ((List.range (st.ndesc x)).findSome? fun i =>
    let d := Desc.decode (st.descBytes x i)
    (d.reason (st.poolOf b d.poolNum) true).map fun r => (i, r)).or <|
  (st.badChainNext x).map fun i => (i, 8)

/-- Check 13 (PROGRAM): Bell, index and reason, and the place. -/
def State.badPrograms (s : State) (st : Store) : Option ((Nat × Nat × Nat) × Nat × Nat) :=
  ((List.range 8).filter s.bellLive).findSome? fun b =>
    (st.program b).bind fun x => (st.badDesc b x).map fun r => ((b, r.1, r.2), x.idx, st.descBase x + 64 * r.1)

/-- A descriptor contradicts its pipeline's key/value role or determinism class by itself (R93, R136): its OUT_SPACE, EXACT where it forms a sum, and a
SAMPLE of Class E on logits that are not gathered. -/
def Store.badUse (st : Store) (p : Pipe) (b : Nat) (d : Desc) : Bool :=
  let sums := [0x01, 0x02, 0x03, 0x04, 0x08, 0x0A]
  let kv := if p.kvRole = 2 then d.space == 3 else d.space == 0 || d.space == 1
  (d.opcode == 0x0B && (p.kvRole == 0 || !kv)) || (p.cls == 0 && sums.contains d.opcode && !d.exact)
    || (p.cls == 0 && d.opcode == 0x0A && !st.gathered b d)

/-- The first fault of one run of a pipeline on a Bell, with its descriptors' own values: the mark of a field does not take its value away (R94). -/
def Store.badRun (st : Store) (p : Pipe) (b : Nat) (x : Sect) (entry : Nat) : Option Nat :=
  let ids := st.runFrom x (st.entryPoint x entry) (st.ndesc x)
  let ds := ids.map fun i => Desc.decode (st.descBytes x i)
  (List.range ds.length).findSome? fun k => match ds[k]? with
    | none => none
    | some d => firstBad [(st.badUse p b d || !st.useOk p.cls (ds.take k) d, st.descBase x + 64 * ids.getD k 0)]

/-- Check 14 (PIPELINE). R160 names the receive areas of R103 here; no field of an image gives one, since a dispatch table is data of a run, so nothing
of the image can fail it (DESIGN CHOICE, log entry 183). -/
def State.badPipelines (s : State) (st : Store) : Option (Nat × Nat) :=
  st.onSect 7 fun x =>
    let os := st.recsFrom 28 (x.off + 8) (min (st.num x.off 4) 1024)
    (os.zip st.pipes).findSome? fun e =>
      let o := e.1
      let p := e.2
      (x.at_ ((List.range p.marks.length).findSome? fun i =>
        let m := p.marks.getD i 0
        firstBad [((st.program (bits m 14 12)).elim true fun y => decide (st.ndesc y ≤ bits m 11 0), o + 32 + 4 * p.shards.length + 4 * i)])).or <|
      (List.range 8).findSome? fun b =>
        let en := p.entry.getD b 0xFFFF
        if en = 0xFFFF then none
        else match st.program b with
          | none => some (x.idx, o + 8 + 2 * b)
          | some y =>
            if st.nentry y ≤ en then some (x.idx, o + 8 + 2 * b)
            else if s.bellLive b then y.at_ (st.badRun p b y en) else none

/-- The descriptors of this device that contribute to a collective under its own COLL_ID: Bell, PROGRAM section, offset and fields. -/
def Store.contributors (st : Store) : List (Nat × Sect × Nat × Desc) :=
  (List.range 8).flatMap fun b => match st.program b with
    | none => []
    | some x => ((List.range (st.ndesc x)).map fun i => (b, x, st.descBase x + 64 * i, Desc.decode (st.descBytes x i))).filter fun e => e.2.2.2.sends

/-- The most terms of an element (R131). -/
def termsMax : Nat := 0xFFFFFFFF

/-- PART_FMT is ESF exactly where sums are EXACT; MODE is of SUM alone, so ESF is refused with every other OP (R122; DEDUCED, log entry 185). -/
def Coll.badFmt (c : Coll) : Bool := (c.partFmt == 11) != (c.op == 0 && c.mode == 0)

/-- Check 15 (COLLECTIVE). The exponents of phase 1 add nothing to the terms of an element (R131). -/
def Store.badCollectives (st : Store) : Option (Nat × Nat) :=
  let cs := st.contributors
  (st.onSect 8 fun x =>
    let os := st.recsFrom 44 (x.off + 8) (min (st.num x.off 4) 16384)
    x.at_ <| (os.zip st.colls).findSome? fun e =>
      let o := e.1
      let c := e.2
      let ks := ((cs.filter fun d => d.2.2.2.collId == c.id && d.2.2.2.opcode != 0x0D).map fun d => d.2.2.2.k).foldl (· + ·) 0
      let badTerms : Bool := Nat.blt termsMax c.terms || Nat.blt c.terms ks
      firstBad [(c.badFmt, o + 8), (badTerms, o + 28), (c.locals.any fun l => decide (c.ranks ≤ l.rank), o + 48)]).or <|
  cs.findSome? fun d => d.2.1.at_ (firstBad [(!d.2.2.2.collOk st d.1, d.2.2.1 + 44)])

/-- Check 16 (ABSENT_UNIT): work or memory on a Bell or slot that is not live (R25). Work is what a pipeline starts there and what a collective expects
of it; a PROGRAM section alone starts nothing, and R78 passes over that of a Bell that is not live, as it must after a REMAP for a lost Bell, whose delta
cannot take a section out. -/
def State.badUnits (s : State) (st : Store) : Option (Nat × Nat) :=
  let dead (b : Nat) : Bool := decide (b < 8) && !s.bellLive b
  (st.onSect 7 fun x => x.at_ <| ((st.recsFrom 28 (x.off + 8) (min (st.num x.off 4) 1024)).zip st.pipes).findSome? fun e =>
    (List.range 8).findSome? fun b => firstBad [(e.2.entry.getD b 0xFFFF != 0xFFFF && dead b, e.1 + 8 + 2 * b)]).or <|
  (st.onSect 5 fun x => x.at_ <|
    ((List.range st.extents.length).findSome? fun i =>
      firstBad [((st.extents[i]?).any fun e => e.kind != 6 && e.kind != 8 && e.size != 0 && dead e.bell, x.off + 8 + 32 * i)]).or <|
    (List.range st.pools.length).findSome? fun i =>
      firstBad [((st.pools[i]?).any fun p => (p.pages != 0 || p.slabs != 0) && dead p.bell, x.off + 8 + 32 * (st.extents.length + i))]).or <|
  (st.onSect 8 fun x => x.at_ <| ((st.recsFrom 44 (x.off + 8) (min (st.num x.off 4) 16384)).zip st.colls).findSome? fun e =>
    firstBad [(e.2.locals.any fun l => dead (l.die - 1), e.1 + 41)]).or <|
  st.onSect 1 fun x => x.at_ <| (List.range 32).findSome? fun p => firstBad [(st.portUse p != 0 && !s.slotLive (p / 4), x.off + 32 + p)]

/-- The demand on Ridge SRAM (R117, R180, R213): both image stores, the deduplication table, the replay buffers of 32 ports, the journals and
collective staging. -/
def Store.ridgeDemand (st : Store) : Nat :=
  2 * 16777216 + 16777216 + 32 * 2048 * 256 + Config.journalBytes.val + ((st.extents.filter fun e => e.kind == 8).map (·.len)).foldl (· + ·) 0

/-- The shortfall of R117; 0 where everything fits. -/
def State.shortfall (s : State) (st : Store) : Nat :=
  ((((List.range 8).filter s.bellLive).flatMap fun b => (List.range 256).map fun r => st.regionDemand b (r / 64) (r % 64) - regionMax).foldl (· + ·) 0)
    + (st.ridgeDemand - 268435456)

/-- Checks 16 and 17, which activation repeats (R163, R164): the code, the place and the shortfall. -/
def State.placeCheck (s : State) (st : Store) : Option VerRes :=
  match s.badUnits st with
  | some e => some { code := 0x10, sect := e.1, off := e.2 }
  | none =>
    let n := s.shortfall st
    if 0 < n then some { code := 0x11, sect := (st.find 5).elim 0xFE (·.idx), off := (st.find 5).elim 0 (·.off), short := n } else none

/-- A failure with its place: of checks 1 to 10 by its offset, of the others in its section. -/
def Store.fail (st : Store) (code : Nat) (o : Option Nat) : Option VerRes := o.map fun a => { code := code, sect := st.sectAt a, off := a }
def failIn (code : Nat) (o : Option (Nat × Nat)) : Option VerRes := o.map fun e => { code := code, sect := e.1, off := e.2 }

/-- Checks 11 to 17. -/
def State.structureCheck (s : State) (st : Store) : Option VerRes :=
  (failIn 0x0B st.badField).or <| (failIn 0x0F st.badScope).or <|
  ((s.badPrograms st).map fun e => { code := 0x0C, sect := e.2.1, off := e.2.2, desc := some e.1 }).or <|
  (failIn 0x0D (s.badPipelines st)).or <| (failIn 0x0E st.badCollectives).or <| s.placeCheck st

/-- The first patch of a delta that check 19 refuses: absent target or a TYPE that may not be patched (SECTION), a range beyond its section or a change
of NODE_ID (FIELD). -/
def Store.badPatch (st : Store) (d : Delta) : Option VerRes :=
  (st.patches d).findSome? fun p =>
    let fails (c : Nat) : Option VerRes := some { code := c, sect := (st.find 12).elim 0xFE (·.idx), off := p.src - 12 }
    match st.patchSect p with
    | none => fails 0x0A
    | some x =>
      if p.type = 11 ∨ p.type = 12 then fails 0x0A
      else if x.len < p.off + p.len ∨ (p.type = 1 ∧ (st.applyPatch p).sectNum 1 0 4 ≠ st.sectNum 1 0 4) then fails 0x0B
      else none

/-- Check 19: each delta applied to a copy. -/
def State.deltaCheck (s : State) (st : Store) : Option VerRes :=
  st.deltas.findSome? fun d => ((st.badPatch d).or (s.structureCheck (st.applyDelta d))).map fun r => { r with delta := some d.num }

/-- Checks 1 to 10. -/
def State.headCheck (s : State) (st : Store) : Option VerRes :=
  let hd (c : Nat) (bad : Bool) (o : Nat) : Option VerRes := st.fail c (firstBad [(bad, o)])
  (st.fail 0x01 (st.badFormat (s.fld R.PIT_FMT F.PIT_FMT_MINOR_MAX))).or <| (st.fail 0x02 st.badLength).or <|
  (hd 0x03 (st.num 32 8 != s.serialNo) 32).or <| (st.fail 0x04 (s.badChain st)).or <| (st.fail 0x05 st.badSignature).or <| (failIn 0x06 st.badDigest).or <|
  (hd 0x07 (decide (st.svn < s.fuses.pitLvl)) 16).or <|
  (hd 0x08 (decide (st.epoch < s.fld R.PIT_EPOCH_RANGE F.PIT_EPOCH_RANGE_MIN) || decide (s.fld R.PIT_EPOCH_RANGE F.PIT_EPOCH_RANGE_MAX < st.epoch)) 14).or <|
  (hd 0x09 (decide ((s.reg R.SEC_FW_VER).toNat < st.num 52 4)) 52).or <| st.fail 0x0A st.badSection

/-- Checks 1 to 17: none where all pass. -/
def State.verifyImage (s : State) (st : Store) : Option VerRes := (s.headCheck st).or (s.structureCheck st)

end Sys2Proof.Machine
end

