-- ==== Sys2Proof/Machine/Pitch.lean ====
section
/-!
DEFINITION. The Pitch image at work: staging and verification of the shadow (R159 to R161), FULL and REMAP activation (R162 to R165), and live
fields (R166, R167), with the rules of R170.
-/

namespace Sys2Proof.Machine

open Sys2Proof

/-- The code of a shadow state in PIT_STAT (R170). -/
def Shadow.code : Shadow → Nat
  | .empty => 0 | .loading => 1 | .verifying => 2 | .verified => 3 | .armed => 4

/-- The shadow in a state, and PIT_STAT.CODE. -/
def State.setShadow (s : State) (v : Shadow) : State := { s with pit := { s.pit with shState := v } }.setFld R.PIT_STAT F.PIT_STAT_SHADOW v.code
def State.pitCode (s : State) (c : Nat) : State := s.setFld R.PIT_STAT F.PIT_STAT_CODE c

/-- OWNER as a master writes it: 1 fabric, 2 Guy line. -/
def ownerOf (guy : Bool) : Nat := if guy then 2 else 1

/-- A write of the shadow's registers by a master (R159, R409): ignored in ROM recovery, and with SHADOW_BUSY while the other master owns it. -/
def State.pitWrite (s : State) (guy : Bool) (k : State → State) : State :=
  if s.sec.running.isNone then s
  else
    let o := s.fld R.PIT_STAT F.PIT_STAT_OWNER
    if o ≠ 0 ∧ o ≠ ownerOf guy then s.pitCode 0x18 else k s

/-- A verification or a wait for peers given up. -/
def State.dropVerify (s : State) : State :=
  { s with pit := { s.pit with res := none, peers := [] },
           trn := { s.trn with reqs := s.trn.reqs.filter fun r => match r.purpose with
             | Purpose.pitchQuery _ => false
             | _ => true } }

/-- OPEN (R159): from any state but ARMED the shadow is emptied, loads, and belongs to the writer. -/
def State.openShadow (s : State) (guy : Bool) : State :=
  s.pitWrite guy fun s =>
    if s.pit.shState = .armed then s.pitCode 0x1A
    else
      let s1 : State := s.dropVerify
      let s2 : State := { s1 with pit := { s1.pit with shadow := {}, isSealed := false } }
      (((s2.setShadow .loading).setFld R.PIT_STAT F.PIT_STAT_OWNER (ownerOf guy)).setFld R.PIT_SHD_LEN F.PIT_SHD_LEN_LEN 0).pitCode 0
def execOpenShadow (guy : Bool) (s : State) : Host.Outcome State Fault Refusal := .next (s.openShadow guy)

/-- A write of PIT_SHD_DATA (R159, R170). After a failed verification R160 asks for OPEN before loading again and names no code for a write made without
it: it is ignored with SHADOW_SEALED (DESIGN CHOICE, log entry 181). -/
def State.shadowData (s : State) (guy : Bool) (data : Nat) : State :=
  s.pitWrite guy fun s =>
    let o := s.fld R.PIT_SHD_OFF F.PIT_SHD_OFF_OFF
    if s.pit.shState ≠ .loading ∨ s.pit.isSealed then s.pitCode 0x19
    else if 16777216 ≤ o then s.pitCode 0x02
    else
      let st := s.pit.shadow.write o (le 4 data)
      let n := max st.len (o + 4)
      let s1 : State := { s with pit := { s.pit with shadow := { st with len := n } } }
      ((s1.setFld R.PIT_SHD_OFF F.PIT_SHD_OFF_OFF (o + 4)).setFld R.PIT_SHD_LEN F.PIT_SHD_LEN_LEN n).pitCode 0
def execShadowDataWrite (guy : Bool) (data : BitVec 32) (s : State) : Host.Outcome State Fault Refusal := .next (s.shadowData guy data.toNat)

/-- A PITCH_QUERY to the peer of an OVERFLOW extent (R161, R174). -/
def State.queryPeer (s : State) (i : Nat) : State :=
  match s.pit.shadow.extents[i]? with
  | none => s
  | some e =>
    s.request { mtype := 0x2A, dstNode := e.peer, srcNode := s.node,
                body := le 8 s.pit.shadow.systemId ++ le 4 s.pit.shadow.layoutGen } (.pitchQuery i)

/-- VERIFY (R160): the checks run on the shadow. Checks 1 to 17 are followed by a query to the peer of each OVERFLOW extent, or by check 19. -/
def State.startVerify (s : State) (guy : Bool) : State :=
  s.pitWrite guy fun s =>
    if s.pit.shState ≠ .loading then s.pitCode 0x1A
    else
      let st := s.pit.shadow
      let s1 : State := s.setShadow .verifying
      let peers := (List.range st.extents.length).filter fun i => (st.extents[i]?).any fun e => e.kind == 6
      match s.verifyImage st with
      | some r => { s1 with pit := { s1.pit with res := some r } }
      | none =>
        if peers.isEmpty then { s1 with pit := { s1.pit with res := some ((s.deltaCheck st).getD { code := 0 }) } }
        else peers.foldl State.queryPeer { s1 with pit := { s1.pit with peers := peers.map fun i => (i, 0), peerBy := 100000000 + s.now } }
def execVerify (guy : Bool) (s : State) : Host.Outcome State Fault Refusal := .next (s.startVerify guy)

/-- The shortfall that PIT_SHORT_BYTES shows for a CAPACITY_SHORT (R117, R161). -/
def State.noteShort (s : State) (r : VerRes) : State :=
  if r.code = 0x11 then (s.setPair R.PIT_SHORT_BYTES_LO R.PIT_SHORT_BYTES_HI r.short).setFld R.PIT_STAT F.PIT_STAT_PEER (b2n r.peer) else s

/-- The result of a verification shown (R160, R170): the shadow is VERIFIED, or returns to LOADING sealed, with its code and place. -/
def State.endVerify (s : State) (r : VerRes) : State :=
  let s1 : State := (s.dropVerify).pitCode r.code
  if r.code = 0 then (s1.setShadow .verified).setFld R.PIT_STAT F.PIT_STAT_DELTA 0
  else
    let s2 : State := ({ s1 with pit := { s1.pit with isSealed := true } }.setShadow .loading).noteShort r
    let s3 : State := (s2.setFld R.PIT_ERR_SECT F.PIT_ERR_SECT_SECT r.sect).setReg R.PIT_ERR_OFF (BitVec.ofNat 32 r.off)
    let s4 : State := (s3.setFld R.PIT_ERR_SECT F.PIT_ERR_SECT_DELTA (r.delta.getD 0)).setFld R.PIT_STAT F.PIT_STAT_DELTA (b2n r.delta.isSome)
    match r.desc with
    | some (b, i, why) => s4.capture (R.BEL_DESC_ERR b) (i % 4096 + why * 4096)
    | none => s4

/-- VERIFY_DONE (R160): verification ends once every check has been made. -/
def execVerifyDone (s : State) : Host.Outcome State Fault Refusal :=
  .next (match s.pit.res with
    | some r => if s.pit.shState = .verifying then s.endVerify r else s
    | none => s)

/-- The query of one peer ended: with none left, check 19 decides. -/
def State.peerReady (s : State) (i : Nat) : State :=
  let s1 : State := { s with pit := { s.pit with peers := s.pit.peers.filter fun e => e.1 != i } }
  if s1.pit.peers.isEmpty then { s1 with pit := { s1.pit with res := some ((s1.deltaCheck s1.pit.shadow).getD { code := 0 }) } } else s1

/-- A peer's answer names an extent of a SHARD and size (R161): pairs of SHARD and size from its 12th byte. -/
def peerHolds (shard size : Nat) (body : List Byte) : Bool :=
  (List.range ((body.length - 12) / 12)).any fun i => leAt body (12 + 12 * i) 4 == shard && leAt body (16 + 12 * i) 8 == size

/-- A peer's answer (R118, R161): shadow state, whether its image is of this placement, its code and its shortfall, and its HOSTED extents. A peer that is
not ready yet is asked again. -/
def State.peerAnswer (s : State) (i : Nat) (body : List Byte) : State :=
  if s.pit.shState = .verifying ∧ s.pit.res.isNone ∧ s.pit.peers.any (fun e => e.1 == i) then
    let st := leAt body 0 1
    let fits := leAt body 1 1 == 1 && (s.pit.shadow.extents[i]?).any fun e => peerHolds e.shard e.size body
    let place := (s.pit.shadow.find 5).elim 0 fun x => x.off + 8 + 32 * i
    if (st = 3 ∨ st = 4) ∧ fits then s.peerReady i
    else if leAt body 2 1 = 0x11 then
      { s with pit := { s.pit with res := some { code := 0x11, sect := (s.pit.shadow.find 5).elim 0xFE (·.idx), off := place, short := leAt body 4 8, peer := true } } }
    else s.queryPeer i
  else s

/-- PEER_WAIT_TIMEOUT (R161): a peer has not reached the state within 100 ms. -/
def execPeerWaitTimeout (ext : Nat) (s : State) : Host.Outcome State Fault Refusal :=
  .next (if s.pit.shState = .verifying ∧ s.pit.res.isNone ∧ s.pit.peers.any (fun e => e.1 == ext) ∧ s.pit.peerBy ≤ s.now then
    let place := (s.pit.shadow.find 5).elim 0 fun x => x.off + 8 + 32 * ext
    { s with pit := { s.pit with res := some { code := 0x12, sect := (s.pit.shadow.find 5).elim 0xFE (·.idx), off := place } } }
  else s)

/-- The answer to a PITCH_QUERY (R161, R174): the shadow's state, whether its image is of the SYSTEM_ID and LAYOUT_GEN asked for, PIT_STAT.CODE, the
shortfall after a CAPACITY_SHORT, and the SHARD and size of every HOSTED extent of the asking node. R174 names the state and the shortfall; the layout,
and the extents that R161 has the asker compare, are the model's (DESIGN CHOICE, log entry 131). -/
def State.queryBody (s : State) (asker : Nat) (q : List Byte) : List Byte :=
  let st := s.pit.shadow
  let same := st.systemId == leAt q 0 8 && st.layoutGen == leAt q 8 4
  let held := if same then st.extents.filter fun e => e.kind == 7 && e.peer == asker else []
  let code := s.fld R.PIT_STAT F.PIT_STAT_CODE
  le 1 s.pit.shState.code ++ le 1 (b2n same) ++ le 1 (if same then code else 0) ++ le 1 0
    ++ le 8 (if code = 0x11 then s.getPair R.PIT_SHORT_BYTES_LO R.PIT_SHORT_BYTES_HI else 0) ++ held.flatMap fun e => le 4 e.shard ++ le 8 e.size

/-- PITCH_QUERY (R161), class I. -/
def execPitchQueryMsg (src : Entry) (raw : List Byte) (s : State) : Host.Outcome State Fault Refusal :=
  .next (s.receiveReq src raw 0x2A fun m => s.respond m 0 (s.queryBody m.srcNode m.body))

/-- DROP (R159). -/
def State.dropShadow (s : State) (guy : Bool) : State :=
  s.pitWrite guy fun s =>
    if s.pit.shState = .armed then s.pitCode 0x1A
    else
      let s1 : State := s.dropVerify
      let s2 : State := { s1 with pit := { s1.pit with shadow := {}, isSealed := false } }
      (((s2.setShadow .empty).setFld R.PIT_STAT F.PIT_STAT_OWNER 0).setFld R.PIT_SHD_LEN F.PIT_SHD_LEN_LEN 0).pitCode 0
def execDrop (guy : Bool) (s : State) : Host.Outcome State Fault Refusal := .next (s.dropShadow guy)

/-- The ticks of a FULL and of a REMAP activation, and the tick rule of R162. -/
def State.actTick (s : State) : Nat := s.getPair R.PIT_ACT_TICK_LO R.PIT_ACT_TICK_HI
def State.remapTick (s : State) : Nat := s.getPair R.PIT_REMAP_TICK_LO R.PIT_REMAP_TICK_HI
def State.tickPast (s : State) (t : Nat) : Bool := t % 128 != 0 || decide (t < s.ftc + 1024)

/-- ARM (R162). -/
def State.armFull (s : State) (guy : Bool) : State :=
  s.pitWrite guy fun s =>
    if s.pit.shState ≠ .verified then s.pitCode 0x1A
    else if s.tickPast s.actTick then s.pitCode 0x14
    else if s.pit.remap.isSome then s.pitCode 0x15
    else (s.setShadow .armed).pitCode 0
def execArm (guy : Bool) (s : State) : Host.Outcome State Fault Refusal := .next (s.armFull guy)

/-- DISARM (R162): a later one is ignored. -/
def State.disarmFull (s : State) (guy : Bool) : State :=
  s.pitWrite guy fun s =>
    if s.pit.shState ≠ .armed then s.pitCode 0x1A
    else if s.ftc + 128 < s.actTick then (s.setShadow .verified).pitCode 0 else s
def execDisarm (guy : Bool) (s : State) : Host.Outcome State Fault Refusal := .next (s.disarmFull guy)

/-- The registers that show the image in force (R163, R164). -/
def State.showImage (s : State) (delta : Nat) : State :=
  let s1 : State := s.setPair R.PIT_ACTIVE_ID_LO R.PIT_ACTIVE_ID_HI s.img.imageId
  let s2 : State := s1.setReg R.PIT_LAYOUT (BitVec.ofNat 32 (s.img.layoutGen % 2 ^ 27 + delta * 2 ^ 27))
  s2.setReg R.PIT_EPOCH (BitVec.ofNat 32 s.img.epoch)

/-- Neighbours are told of the image, and the clock role is checked (R165, R238, R327). -/
def State.announce (s : State) : State :=
  ((allLinks.foldl (fun t p => if t.isActive p then t.sendInfo p else t) s).refreshAll).checkRole

/-- The shadow put in force with a warm reset (R163). R163 empties the shadow and does not say whose it then is: it has no owner (DESIGN CHOICE, log entry
182). -/
def State.swapImage (s : State) : State :=
  let s1 : State := { s with pit := { force := s.pit.shadow } }
  let s2 : State := (s1.setFld R.PIT_SHD_LEN F.PIT_SHD_LEN_LEN 0).setReg R.PIT_STAT (fset (fset 0 F.PIT_STAT_ACTIVE 1) F.PIT_STAT_READY 0)
  let s3 : State := ((s2.showImage 0).addFld R.PIT_ACT_CNT F.PIT_ACT_CNT_FULL 1).warmReset
  let s4 : State := (s3.setFld R.WSQ_BUDDY F.WSQ_BUDDY_NODE s3.img.buddy).setFld R.WSQ_PRED F.WSQ_PRED_NODE s3.img.pred
  (s4.setFld R.WSQ_MIRROR_STAT F.WSQ_MIRROR_STAT_BUDDY_OK 1).announce.setFld R.PIT_STAT F.PIT_STAT_READY 1

/-- FULL_ACTIVATION (R163): at the tick armed, checks 16 and 17 again, and no open stream and no completion that waits; the first failure ends it and
the shadow is VERIFIED again. -/
def execFullActivation (s : State) : Host.Outcome State Fault Refusal :=
  .next (s.live fun s =>
    if s.pit.shState ≠ .armed ∨ s.ftc < s.actTick then s
    else match s.placeCheck s.pit.shadow with
      | some r => ((s.setShadow .verified).noteShort r).pitCode r.code
      | none =>
        if !s.jrn.streams.isEmpty ∨ !s.jrn.comps.isEmpty then (s.setShadow .verified).pitCode 0x13 else s.swapImage)

/-- The delta of a number in the image in force. -/
def State.delta? (s : State) (n : Nat) : Option Delta := if s.active then s.img.deltas.find? (fun d => d.num == n) else none

/-- The delta names the unit that WSQ_LOST_UNIT shows, where it shows one (R383). -/
def State.deltaFits (s : State) (d : Delta) : Bool :=
  s.fld R.WSQ_LOST_UNIT F.WSQ_LOST_UNIT_VALID == 0
    || (d.node == s.fld R.WSQ_LOST_UNIT F.WSQ_LOST_UNIT_NODE && d.die == s.fld R.WSQ_LOST_UNIT F.WSQ_LOST_UNIT_DIE)

/-- A PIT_REMAP write with ARM (R164, R170): the tick rules of R162, a FULL arm is cancelled. A delta that names another unit than the lost one is
ignored with source 29 (R383). -/
def State.armRemap (s : State) (n : Nat) : State :=
  if s.sec.running.isNone then s
  else
    let s0 : State := s.setFld R.PIT_REMAP F.PIT_REMAP_DELTA n
    match s0.delta? n with
    | none => s0.pitCode 0x1A
    | some d =>
      if !s0.deltaFits d then s0.pulse 29 (le 1 n)
      else if s0.tickPast s0.remapTick then s0.pitCode 0x14
      else
        let s1 : State := { s0 with pit := { s0.pit with remap := some (s0.remapTick, n) } }.setFld R.PIT_STAT F.PIT_STAT_REMAP_PEND 1
        if s1.pit.shState = .armed then (s1.setShadow .verified).pitCode 0x16 else s1.pitCode 0
def execRemapArm (_guy : Bool) (delta : Fin 16) (s : State) : Host.Outcome State Fault Refusal := .next (s.armRemap delta.val)

/-- The REMAP no longer pending. -/
def State.clearRemap (s : State) : State := { s with pit := { s.pit with remap := none } }.setFld R.PIT_STAT F.PIT_STAT_REMAP_PEND 0

/-- A PIT_REMAP write with DISARM (R162, R170). -/
def State.disarmRemap (s : State) (n : Nat) : State :=
  if s.sec.running.isNone then s
  else
    let s0 : State := s.setFld R.PIT_REMAP F.PIT_REMAP_DELTA n
    match s0.pit.remap with
    | none => s0.pitCode 0x1A
    | some r => if s0.ftc + 128 < r.1 then s0.clearRemap.pitCode 0 else s0
def execRemapDisarm (_guy : Bool) (delta : Fin 16) (s : State) : Host.Outcome State Fault Refusal := .next (s.disarmRemap delta.val)

/-- Buddy and predecessor of the new map (R189, R190): a lost device whose node this device now answers for is adopted, and a new buddy gets the
records. -/
def State.newNeighbours (s : State) (d : Delta) : State :=
  let mine : Bool := d.die == 0 && d.node != s.node && (s.img.route d.node).1 == 62 && !s.jrn.adopted.contains d.node
    && !s.jrn.adopting.contains d.node
  let s1 : State := if s.img.buddy ≠ s.fld R.WSQ_BUDDY F.WSQ_BUDDY_NODE then s.remirror s.img.buddy else s
  let s2 : State := s1.setFld R.WSQ_PRED F.WSQ_PRED_NODE s1.img.pred
  if mine then s2.adopt d.node true else s2

/-- The delta applied (R141, R164, R384): a new generation, instances of the old one aborted, orders executed again, and the hold of R382 ended. -/
def State.applyRemap (s : State) (d : Delta) (st : Store) (tick : Nat) : State :=
  let old : List Nat := (List.range 32).map s.portUse
  let s1 : State := (s.abortWhere (fun _ => true) 5 fun x => (s.img.coll? x.coll).elim 0 Coll.nodeRank).clearRemap
  let g := (s1.fld R.COL_MAP_GEN F.COL_MAP_GEN_GEN + 1) % 256
  let s2 : State := ({ s1 with pit := { s1.pit with force := st } }.setFld R.COL_MAP_GEN F.COL_MAP_GEN_GEN g).addFld R.COL_MAP_GEN F.COL_MAP_GEN_REMAPS 1
  let s3 : State := (((s2.showImage (d.num + 1)).addFld R.PIT_ACT_CNT F.PIT_ACT_CNT_REMAP 1).pitCode 0).setFld R.WSQ_LOST_UNIT F.WSQ_LOST_UNIT_VALID 0
  let s4 : State := { s3 with loss := { s3.loss with lost := none, cursor := [] },
                              canopies := s3.canopies.map fun e => (e.1, { e.2 with suspended := false }) }
  let s5 : State := (List.range 32).foldl (fun t p => if t.portUse p = old.getD p 0 then t else (t.portDown p).restartLink p) s4
  let s6 : State := s5.dryEvent 0x0C 0xFF (le 1 d.num ++ le 1 g ++ le 8 tick)
  (((s6.restoreShards s.img d.node d.die).newNeighbours d).relaunch).announce

/-- REMAP_ACTIVATION (R164): at the tick, checks 16 and 17 on the patched layout; a failure ends it with its code, and raises source 29 (R383). -/
def execRemapActivation (s : State) : Host.Outcome State Fault Refusal :=
  .next (s.live fun s =>
    match s.pit.remap with
    | none => s
    | some (tick, n) =>
      if s.ftc < tick then s
      else match s.delta? n with
        | none => (s.clearRemap).pulse 29 (le 1 n)
        | some d =>
          let st := s.img.applyDelta d
          match s.placeCheck st with
          | some r => (((s.clearRemap).noteShort r).pitCode r.code).pulse 29 (le 1 n)
          | none => s.applyRemap d st tick)

/-- The section and the byte offset that PIT_CFG_SEL selects (R166); none outside the section. -/
def State.cfgWord? (s : State) : Option (Sect × Nat) :=
  let i := s.fld R.PIT_CFG_SEL F.PIT_CFG_SEL_SECT
  let o := 4 * s.fld R.PIT_CFG_SEL F.PIT_CFG_SEL_WORD
  match s.img.sects[i]? with
  | some x => if s.active ∧ o + 4 ≤ x.len then some (x, o) else none
  | none => none

/-- PIT_CFG_DATA as it reads (R166). -/
def State.cfgData (s : State) : Nat := match s.cfgWord? with
  | some (x, o) => s.img.num (x.off + o) 4
  | none => 0

/-- A write of PIT_CFG_DATA (R166, R167). -/
def State.liveWrite (s : State) (data : Nat) : State :=
  match s.cfgWord? with
  | none => s
  | some (x, o) =>
    if !(s.img.liveWords.contains (x.type, o) && liveScope x.type o) then (s.pitCode 0x17).bump R.PIT_DENY_CNT
    else
      let st := s.img.write (x.off + o) (le 4 data)
      let bad := if x.type = 10 then st.badPolicy x else if x.type = 9 then st.badSeverity x else st.badRole x
      if bad.isSome then s.pitCode 0x0B
      else
        let rest := s.pit.live.filter fun e => !(e.1 == x.idx && e.2.1 == o)
        ({ s with pit := { s.pit with live := rest ++ [(x.idx, o, data)] } }.setFld R.PIT_LIVE_PEND F.PIT_LIVE_PEND_PEND 1).pitCode 0
def execLiveWrite (data : BitVec 32) (s : State) : Host.Outcome State Fault Refusal := .next (s.liveWrite data.toNat)

/-- LIVE_APPLY (R167): at a slot boundary the pending words take effect, after an activation of the same tick (R324). -/
def execLiveApply (s : State) : Host.Outcome State Fault Refusal :=
  .next (if s.liveDue ∧ !s.activationDue then
    let st := s.pit.live.foldl (fun (t : Store) e => match t.sects[e.1]? with
      | some x => t.write (x.off + e.2.1) (le 4 e.2.2)
      | none => t) s.pit.force
    let s1 : State := (s.addFld R.PIT_LIVE_CNT whole s.pit.live.length).setFld R.PIT_LIVE_PEND F.PIT_LIVE_PEND_PEND 0
    { s1 with pit := { s1.pit with force := st, live := [] } }
  else s)

end Sys2Proof.Machine
end

