-- ==== Sys2Proof/Machine/Loss.lean ====
section
/-!
DEFINITION. The loss of a ring unit (R380 to R384): probes, isolation, the declaration, the hold and the mirror gap, the spare's reload, and adoption
without a re-map.
-/

namespace Sys2Proof.Machine

open Sys2Proof

/-- The Fabric Address of control address a on the Ridge of this device's own address space (R28), without its node. -/
def ctlOffset (a : Nat) : Nat := 0x7F00000000 + a

/-- A REG_WR broadcast to the ring (R177), with the write made here by the local agent's caller. -/
def State.castReg (s : State) (a data : Nat) : State :=
  s.request { mtype := 0x08, dstNode := 0xFFFFF, srcNode := s.node, body := le 8 (0xFFFFF * 2 ^ 44 + ctlOffset a) ++ le 4 data ++ zeros 4 } .broadcast

/-- The ring ports whose peer is a node (R380). -/
def State.portsTo (s : State) (x : Nat) : List Nat :=
  ringPorts.filter fun p => s.fld (R.LNK_PEER p) F.LNK_PEER_VALID == 1 && s.fld (R.LNK_PEER p) F.LNK_PEER_NODE == x

/-- Every ring port toward a node has been down for a time in ns. -/
def State.downFor (s : State) (x ns : Nat) : Bool :=
  (s.portsTo x).all fun p => (SMap.get (fun _ => none) s.loss.downSince p).any fun t => decide (t + ns ≤ s.now)

/-- A probe (R381): REG_RD of ID_DEV, with ALT = 1 when every ring port toward the device is down (R380). -/
def State.probe (s : State) (n : Nat) : State :=
  let alt := s.downFor n 0
  let s1 : State := if alt ∧ (SMap.get (fun _ => none) s.loss.probeSent n).isNone then
      { s with loss := { s.loss with probeSent := SMap.set (fun _ => none) s.loss.probeSent n (some s.now) } } else s
  s1.request { mtype := 0x06, alt := alt, dstNode := n, srcNode := s1.node, body := le 8 (n * 2 ^ 44 + ctlOffset R.ID_DEV) } (.probe n)

/-- The neighbours that are probed: the buddy and the predecessor. -/
def State.probed (s : State) : List Nat := [s.fld R.WSQ_BUDDY F.WSQ_BUDDY_NODE, s.fld R.WSQ_PRED F.WSQ_PRED_NODE].eraseDups.filter (· != s.node)

/-- The device takes part in probing (R381). -/
def State.probes (s : State) : Bool := s.active && s.img.buddy != s.node

/-- BUDDY_PROBE (R381): every 100 µs. -/
def execBuddyProbe (s : State) : Host.Outcome State Fault Refusal :=
  .next (s.live fun s =>
    if s.probes ∧ s.loss.probeAt.all (fun t => decide (100000 + t ≤ s.now)) then
      s.probed.foldl State.probe { s with loss := { s.loss with probeAt := some s.now } }
    else s)

/-- The response to a probe (R380, R381). -/
def State.probeAnswered (s : State) (n : Nat) : State :=
  { s with loss := { s.loss with lastProbe := s.now, probeSent := SMap.set (fun _ => none) s.loss.probeSent n none } }

/-- RING_ISOLATION (R381): no response for 1.5 ms, counted from the first alignment since the last FULL activation: source 28 and Strike. -/
def execRingIsolation (s : State) : Host.Outcome State Fault Refusal :=
  .next (s.live fun s =>
    if s.probes ∧ s.loss.armed ∧ 1500000 + max s.loss.lastProbe s.loss.countFrom ≤ s.now then (s.pulse 28 []).enterStrike 28 0xFFFF else s)

/-- The regions that a delta adds WEIGHTS extents to (R383): Bell, offset in the Bell, bytes. -/
def State.reloadRegions (s : State) (d : Delta) : List (Nat × Nat × Nat) :=
  let old := s.img.extents
  ((s.img.applyDelta d).extents.filter fun e => e.kind == 0 && !old.contains e).flatMap fun e =>
    ((List.range 64).filter (bit e.mask)).map fun j => (e.bell, bseOff (64 * e.die + j) e.off, e.len)

/-- What is left to load, in MiB rounded up (WSQ_RELOAD_STAT.LEFT). -/
def leftMiB (l : List (Nat × Nat × Nat)) : Nat := ((l.map (·.2.2)).foldl (· + ·) 0 + 1048575) / 1048576

/-- The next read of a pull (R383): at most 8,192 bytes. The replica's place for a shard is not stated: the model reads where the spare puts it. -/
def State.pullNext (s : State) : State :=
  let s1 : State := s.setFld R.WSQ_RELOAD_STAT F.WSQ_RELOAD_STAT_LEFT (leftMiB s.loss.cursor)
  match s.loss.cursor, s.delta? (s.fld R.WSQ_RELOAD_STAT F.WSQ_RELOAD_STAT_DELTA) with
  | (b, off, n) :: _, some d =>
    s1.request { mtype := 0x02, dstNode := d.reload, dstDie := b + 1, srcNode := s1.node,
                 body := le 8 (d.reload * 2 ^ 44 + (b + 1) * 2 ^ 39 + off) ++ le 4 (min n 8192) ++ zeros 4 } .reload
  | _, _ => s1.setFld R.WSQ_RELOAD_STAT F.WSQ_RELOAD_STAT_STATE 3

/-- The answer of the replica: written to the memory of the spare, and the next read. -/
def State.reloadAnswer (s : State) (data : List Byte) : State :=
  if s.fld R.WSQ_RELOAD_STAT F.WSQ_RELOAD_STAT_STATE ≠ 1 then s
  else match s.loss.cursor with
    | (b, off, n) :: t =>
      let k := min n data.length
      let s1 : State := s.writeMem b off (data.take k)
      let rest := if k < n then (b, off + k, n - k) :: t else t
      { s1 with loss := { s1.loss with cursor := rest } }.pullNext
    | [] => s

/-- The spare starts to reload the shards of a lost unit (R383). -/
def State.startReload (s : State) (node die : Nat) : State :=
  match (if s.active ∧ s.img.isSpare then s.img.deltas.find? (fun d => d.node == node && d.die == die) else none) with
  | none => s
  | some d =>
    let rs := s.reloadRegions d
    let s1 : State := { s with loss := { s.loss with cursor := rs } }.setFld R.WSQ_RELOAD_STAT F.WSQ_RELOAD_STAT_DELTA d.num
    let s2 : State := s1.setFld R.WSQ_RELOAD_STAT F.WSQ_RELOAD_STAT_LEFT (leftMiB rs)
    if d.reload = 0xFFFFF then s2.setFld R.WSQ_RELOAD_STAT F.WSQ_RELOAD_STAT_STATE 2
    else (s2.setFld R.WSQ_RELOAD_STAT F.WSQ_RELOAD_STAT_STATE 1).pullNext

/-- The streams of a lost device whose pools this device's image does not mirror are lost (R100); the images of a ring declare their pools alike
(DEDUCED, log entry 153). -/
def State.loseUnmirrored (s : State) (hit : Stream → Bool) : State :=
  if s.kvPools.any (!·.mirrored) then
    { s with jrn := { s.jrn with streams := s.jrn.streams.map fun st => { st with lost := st.lost || (hit st && decide (0 < st.l)) } } }
  else s

/-- A write of WSQ_LOST_UNIT by a Control Pole (R380, R382): launches that involve the unit are held, branches of streams with a shard on a lost device
are lost (R114), the spare reloads, and a lost buddy holds no records (R190): a gap in the mirror is recorded where it is the second failure (R191). -/
def State.lostUnit (s : State) (data : Nat) : State :=
  let s1 : State := s.setReg R.WSQ_LOST_UNIT (BitVec.ofNat 32 (data % 2 ^ 25 + data / 2 ^ 31 % 2 * 2 ^ 31))
  if !bit data 31 then s1
  else
    let node := data % 2 ^ 20
    let die := bits data 24 20
    let hit (st : Stream) : Bool := (s1.shardSet st.id ++ st.shards).contains node
    let s2 : State := if die = 0 then (s1.loseBranches hit).loseUnmirrored hit else s1
    let s3 : State := if die = 0 ∧ node = s2.fld R.WSQ_BUDDY F.WSQ_BUDDY_NODE ∧ node ≠ s2.node then
        (if s2.jrn.remirroring then s2.mirrorGap fun _ => true else s2).setFld R.WSQ_MIRROR_STAT F.WSQ_MIRROR_STAT_BUDDY_OK 0
      else s2
    s3.startReload node die

/-- LOST_UNIT_WRITE (R382, R395): only a Control Pole writes the register. -/
def execLostUnitWrite (_src : Entry) (pole : Bool) (data : BitVec 32) (s : State) : Host.Outcome State Fault Refusal :=
  .next (if pole then s.live fun s => s.lostUnit data.toNat else s)

/-- The declaration of a loss (R380): broadcast, source 26, a UNIT_LOST record, and the write here. -/
def State.declareLost (s : State) (node die : Nat) : State :=
  let w := node + die * 2 ^ 20 + 2 ^ 31
  let s1 : State := (s.castReg R.WSQ_LOST_UNIT w).pulse 26 (le 4 (node + die * 2 ^ 20))
  let s2 : State := s1.dryEvent 0x0B (if die = 0 then 0xFF else die) (le 4 node ++ le 1 die ++ le 4 s1.node)
  { s2 with loss := { s2.loss with lost := if die = 0 then some (node, die, s2.ftc) else s2.loss.lost } }.lostUnit w

/-- WSQ_LOST_UNIT shows a unit as lost. -/
def State.shownLost (s : State) (node die : Nat) : Bool :=
  s.fld R.WSQ_LOST_UNIT F.WSQ_LOST_UNIT_VALID == 1 && s.fld R.WSQ_LOST_UNIT F.WSQ_LOST_UNIT_NODE == node && s.fld R.WSQ_LOST_UNIT F.WSQ_LOST_UNIT_DIE == die

/-- UNIT_LOST_DECLARE (R380, R188): die 0 is the predecessor, lost when the ring ports toward it have been down for 2 ms and a probe with ALT = 1 has
gone unanswered for 100 µs; a Bell of this device is lost when it is retired, or in die reset with a delta for it. -/
def execUnitLostDeclare (die : Fin 9) (s : State) : Host.Outcome State Fault Refusal :=
  let d := die.val
  .next (s.live fun s =>
    if !s.active then s
    else if d = 0 then
      let x := s.fld R.WSQ_PRED F.WSQ_PRED_NODE
      if x ≠ s.node ∧ !s.jrn.adopted.contains x ∧ !s.shownLost x 0 ∧ s.loss.lost.isNone ∧ s.downFor x 2000000
          ∧ (SMap.get (fun _ => none) s.loss.probeSent x).any (fun t => decide (100000 + t ≤ s.now)) then s.declareLost x 0
      else s
    else
      let b := s.bell (d - 1)
      if s.fitted (d - 1) ∧ !s.shownLost s.node d ∧ (b.retired ∨ (b.inReset ∧ s.hasDelta (d - 1))) then s.declareLost s.node d else s)

/-- RELOAD_DONE (R383, R395): ignored unless STATE is 2. -/
def State.reloadDone (s : State) : State :=
  if s.fld R.WSQ_RELOAD_STAT F.WSQ_RELOAD_STAT_STATE = 2 then
    { (s.setFld R.WSQ_RELOAD_STAT F.WSQ_RELOAD_STAT_STATE 3).setFld R.WSQ_RELOAD_STAT F.WSQ_RELOAD_STAT_LEFT 0 with
      loss := { s.loss with cursor := [] } }
  else s
def execReloadDone (s : State) : Host.Outcome State Fault Refusal := .next s.reloadDone

/-- RELOAD_COMPLETE (R383): the spare's agent broadcasts the REMAP tick and the arm, and arms itself. -/
def execReloadComplete (s : State) : Host.Outcome State Fault Refusal :=
  .next (s.live fun s =>
    if s.fld R.WSQ_RELOAD_STAT F.WSQ_RELOAD_STAT_STATE = 3 ∧ s.pit.remap.isNone then
      let t := slotAt (s.ftc + s.fld R.WSQ_AGENT_CFG F.WSQ_AGENT_CFG_LEAD)
      let n := s.fld R.WSQ_RELOAD_STAT F.WSQ_RELOAD_STAT_DELTA
      let s1 : State := ((s.castReg R.PIT_REMAP_TICK_LO (t % 2 ^ 32)).castReg R.PIT_REMAP_TICK_HI (t / 2 ^ 32)).castReg R.PIT_REMAP (n + 16)
      ((s1.setPair R.PIT_REMAP_TICK_LO R.PIT_REMAP_TICK_HI t).armRemap n).setFld R.WSQ_RELOAD_STAT F.WSQ_RELOAD_STAT_STATE 0
    else s)

/-- ADOPT_WITHOUT_REMAP (R384): no delta names the lost device: its buddy adopts it at the first slot boundary at or after the declaration plus
LEAD. -/
def execAdoptWithoutRemap (s : State) : Host.Outcome State Fault Refusal :=
  .next (s.live fun s =>
    match s.loss.lost with
    | some (x, 0, t) =>
      if x = s.fld R.WSQ_PRED F.WSQ_PRED_NODE ∧ !(s.img.deltas.any fun d => d.node == x && d.die == 0)
          ∧ slotAt (t + s.fld R.WSQ_AGENT_CFG F.WSQ_AGENT_CFG_LEAD) ≤ s.ftc then
        let s1 : State := { s with loss := { s.loss with lost := none } }.setFld R.WSQ_LOST_UNIT F.WSQ_LOST_UNIT_VALID 0
        s1.adopt x false
      else s
    | _ => s)

end Sys2Proof.Machine
end

