-- ==== Sys2Proof/Machine/Views.lean ====
section
/-!
DEFINITION. What a read of a control register gives (R16, R18, R37): the stored word, or the value of the state that holds what the register shows
(a selected item, a count, a fused value, a pin).
-/

namespace Sys2Proof.Machine

open Sys2Proof

/-- A word packed from values at bit positions. -/
def pack (l : List (Nat × Nat)) : Nat := l.foldl (fun n x => n + x.2 * 2 ^ x.1) 0

/-- ID_ (R458): fused values. -/
def State.viewId (s : State) (off w : Nat) : Nat :=
  let f := s.fuses
  if off = 0x4 then pack [(0, f.step % 256), (8, f.bellStep % 256), (16, f.numrev % 256)]
  else if off = 0x8 then pack [(0, f.bellMap % 256), (8, f.grade % 4), (16, 32), (24, 0xFF)]
  else if off = 0xC then f.serial % 2 ^ 32
  else if off = 0x10 then f.serial / 2 ^ 32 % 2 ^ 32
  else w

/-- PIT_ (R170): the word that PIT_CFG_SEL selects. -/
def State.viewPit (s : State) (off w : Nat) : Nat := if off = 0x58 then s.cfgData else w

/-- WSQ_ (R197, R395): the poles and the journal's counts. -/
def State.viewWsq (s : State) (off w : Nat) : Nat :=
  if off = 0x0 then s.poleStat.toNat
  else if off = 0x100 then s.jrn.own.length
  else if off = 0x104 then s.jrn.mir.length
  else if off = 0x120 then (s.jrn.own.filter (fun x => x.2.st == .done)).length
  else w

/-- FLT_ (R394): the collector's sources. -/
def State.viewFlt (s : State) (off w : Nat) : Nat :=
  let i := s.fld R.FLT_SEL F.FLT_SEL_SOURCE
  let p := s.pair i
  let pend (j : Nat) : Bool := (s.pair j).pend
  if off = 0x0 then
    pack [(0, b2n s.inStrike), (1, b2n s.faultN), (2, bits w 2 2), (3, b2n s.testUnlocked), (4, s.maxSev),
          (8, ((List.range 512).filter pend).length)]
  else if off = 0x24 then
    pack [(0, b2n p.active), (1, b2n p.pend), (2, s.sevCfg i % 8), (5, p.sevEff % 8), (8, b2n p.wire), (9, b2n (forced i))]
  else if off = 0x28 then p.cnt
  else if 0x40 ≤ off ∧ off < 0x80 then
    let m := (off - 0x40) / 4
    pack (((List.range 32).filter (fun n => pend (32 * m + n))).map fun n => (n, 1))
  else if off = 0xA0 then (if s.testUnlocked then w else 0)
  else w

/-- FTC_ (R335). -/
def State.viewFtc (s : State) (off w : Nat) : Nat :=
  let x := SMap.get (fun _ => {}) s.time.ports (s.fld R.FTC_PORT_SEL F.FTC_PORT_SEL_PORT)
  if off = 0x0 then s.ftc % 2 ^ 32
  else if off = 0x4 then s.time.nowHi
  else if off = 0x34 then x.dIn % 2 ^ 16
  else if off = 0x38 then x.asym % 2 ^ 16
  else w

/-- CLK_ (R336). CLK_STAT.CLKLESS is readable over the Guy line only. -/
def State.viewClk (s : State) (guy : Bool) (off w : Nat) : Nat :=
  if off = 0x4 then (if guy then w else withBit w 6 false)
  else if off = 0x14 then (Config.clockKhz (s.fld R.CLK_MON_SEL F.CLK_MON_SEL_CLOCK) s.now).toNat
  else if off = 0x34 then s.gate (s.fld R.CLK_GATE_SEL F.CLK_GATE_SEL_DOMAIN)
  else w

/-- PWR_ (R356): the selected domain, and the factory time constant until one is written. -/
def State.viewPwr (s : State) (off w : Nat) : Nat :=
  let d := s.fld R.PWR_DOM_SEL F.PWR_DOM_SEL_DOMAIN
  let st := s.dom d
  if off = 0x14 then ((SMap.get (fun _ => none) s.pwr.req d).getD 0)
  else if off = 0x18 then
    pack [(0, st), (2, b2n (st != 3)), (3, b2n (st == 3)), (4, b2n (s.pwr.refused.contains d)), (5, b2n (s.pwr.pgFail.contains d))]
  else if off = 0x50 then (if bits w 23 8 = 0 then w + Config.factoryTau.toNat * 2 ^ 8 else w)
  else w

/-- Die centres of R21 in 0.1 mm, by die number. -/
def dieCentre : List (Int × Int) :=
  [(0, 0), (0, 250), (250, 250), (250, 0), (250, -250), (0, -250), (-250, -250), (-250, 0), (-250, 250), (-220, 450), (220, 450),
   (450, 220), (450, -220), (220, -450), (-220, -450), (-450, -220), (-450, 220)]

/-- The package position of a sensor (R27): a Bell's is mirrored and turned clockwise as its straps say. -/
def State.sensorAt (s : State) (i : Nat) : Int × Int :=
  let die := sensorDie i
  let c := dieCentre.getD die (0, 0)
  let p := sensorPos i
  let strap := bits (s.reg R.ID_STRAP).toNat (4 * (die - 1) + 3) (4 * (die - 1))
  let q : Int × Int :=
    if 1 ≤ die ∧ die < 9 then
      let u := if bit strap 0 then -p.1 else p.1
      match strap % 8 / 2 with
      | 0 => (u, p.2)
      | 1 => (p.2, -u)
      | 2 => (-u, -p.2)
      | _ => (-p.2, u)
    else p
  (q.1 + c.1, q.2 + c.2)

/-- The sensors that are read and not marked bad, and the hottest of them. -/
def State.goodSensors (s : State) : List Nat := (List.range 608).filter fun i => s.dieRead (sensorDie i) && !(s.sensor i).bad
def State.hottest (s : State) : Option Nat :=
  s.goodSensors.foldl (fun m i => match m with
    | none => some i
    | some j => if s.temp j < s.temp i then some i else m) none

/-- THM_ (R357). -/
def State.viewThm (s : State) (off w : Nat) : Nat :=
  let i := s.fld R.THM_SEL F.THM_SEL_SENSOR
  let x := s.sensor i
  let bad (j : Nat) : Bool := (s.sensor j).bad
  if off = 0x0 then
    pack [(0, s.fld R.THM_LATCH F.THM_LATCH_VALID), (1, bits w 1 1), (2, bits w 2 2), (3, ((List.range 608).filter bad).length)]
  else if off = 0x8 then
    let unread := !s.dieRead (sensorDie i)
    pack [(0, if unread then 0 else unsigned 12 (s.temp i)), (12, sensorClass i), (14, b2n x.bad), (15, x.cause % 4), (17, b2n unread)]
  else if off = 0xC then pack [(0, unsigned 16 (s.sensorAt i).1), (16, unsigned 16 (s.sensorAt i).2)]
  else if off = 0x10 then (match s.hottest with
    | some j => pack [(0, j), (10, unsigned 12 (s.temp j))]
    | none => 0)
  else if 0x40 ≤ off ∧ off < 0x8C then
    let m := (off - 0x40) / 4
    pack (((List.range 32).filter (fun n => bad (32 * m + n))).map fun n => (n, 1))
  else w

/-- The firmware slot that does not run. -/
def State.otherSlot (s : State) : Bool := !(s.sec.running.getD false)

/-- FW_STATE (R408): 0 ROM recovery, 1 TRIAL, 2 CONFIRMED. -/
def State.fwState (s : State) : Nat := match s.sec.running with
  | none => 0
  | some b => if s.fwSlot b = .trial then 1 else 2

/-- SEC_ (R422): firmware, fuses and pins. -/
def State.viewSec (s : State) (off w : Nat) : Nat :=
  let f := s.fuses
  let o := s.otherSlot
  if off = 0x0 then
    pack [(0, s.fwState), (2, b2n (s.sec.running.getD false)), (3, b2n (s.fwSlot o == .pending)), (4, b2n f.bound), (5, bits w 5 5),
          (6, b2n s.pins.testMode), (7, f.keyRev % 16), (11, bits w 13 11)]
  else if off = 0x8 then pack [(0, bits w 15 0), (16, if s.fwSlot o = .invalid then 0xFF else s.fwSvn o % 256)]
  else if off = 0xC then pack [(0, f.fwLvl % 128), (8, f.pitLvl % 128), (16, f.certLvl % 128)]
  else if off = 0x10 then (if f.bound then f.bindId % 2 ^ 32 else 0)
  else if off = 0x14 then (if f.bound then f.bindId / 2 ^ 32 % 2 ^ 32 else 0)
  else w

/-- The lane carried on a line, 31 for none. -/
def laneOn (m : List Nat) (line : Option Nat) : Nat := (line.bind m.idxOf?).getD 31

/-- LNK_ (R241): versions, maps, spares and windows of port p. -/
def State.viewLnk (s : State) (p off w : Nat) : Nat :=
  let q := s.port p
  let rx := s.fld (R.LNK_MAP_SEL p) F.LNK_MAP_SEL_DIR = 1
  let lineOf (n : Nat) : Nat := if 15 < n then 0
    else if rx then ((q.rxMap.find? (fun x => x.1 == n)).map (·.2)).getD 0 else q.txMap.getD n 0
  let usable (v : Nat) : Nat := (q.cr.getD v {}).usable
  let sp := s.spares p
  if off = 0x8 then pack [(0, 1), (4, 2)]
  else if 0x14 ≤ off ∧ off < 0x20 then
    let m := (off - 0x14) / 4
    pack ((List.range 6).map fun i => (5 * i, lineOf (6 * m + i) % 32))
  else if off = 0x20 then
    let serves (k : Nat) : Nat := b2n (q.calUse.any fun u => some u.spare == sp[k]?)
    pack [(0, laneOn q.txMap sp[0]?), (5, laneOn q.txMap sp[1]?), (10, serves 0), (11, serves 1), (12, bits w 12 12)]
  else if off = 0x24 then lineMask (if rx then q.rxOos else q.txOos) % 2 ^ 20
  else if off = 0x38 then pack [(0, usable 0 % 2 ^ 16), (16, usable 1 % 2 ^ 16)]
  else if off = 0x3C then pack [(0, usable 2 % 2 ^ 16), (16, usable 3 % 64)]
  else w

/-- The term of the crosstalk matrix that OPT_XT_SEL selects; 0xFF is an unused term (R284). -/
def State.xtTerm (s : State) (k : Nat) : Nat × Int :=
  (s.xtRow k (s.fld (R.OPT_XT_SEL k) F.OPT_XT_SEL_ROW)).getD (s.fld (R.OPT_XT_SEL k) F.OPT_XT_SEL_TERM) (0xFF, 0)

/-- The path link that OPT_PATH_SEL of Canopy 0 or 4 selects, and its entry with a window start in force (R278, R284). -/
def State.selPath (s : State) (k : Nat) : Nat :=
  32 + 2 * (2 * (k / 4) + s.fld (R.OPT_PATH_SEL k) F.OPT_PATH_SEL_PORT) + s.fld (R.OPT_PATH_SEL k) F.OPT_PATH_SEL_DIST
def State.selOffset (s : State) (k : Nat) : Nat :=
  (((s.canopy k).paths.find? fun x => ((s.img.entry x.1).bind fun e => s.entryLink x.1 e) == some (s.selPath k)).map (·.2)).getD 0

/-- OPT_ (R284): the selected ring, crosstalk term and path of Canopy k. -/
def State.viewOpt (s : State) (k off w : Nat) : Nat :=
  let h := s.selHeater k
  let r : Ring := h.elim {} fun x => s.ring k x
  let q := s.selPath k
  if off = 0x0 then pack [(0, bits w 11 0), (16, (s.canopy k).calPend)]
  else if off = 0x24 then
    h.elim 0 fun x => pack [(0, r.st % 8), (3, x % 18), (8, (Config.ringSensor k x).val), (13, if r.st = 4 then r.tries % 4 else 0), (16, r.code % 2 ^ 14)]
  else if off = 0x28 then h.elim 0 fun x => if heaterDir x = 0 then (Config.launchPower k x s.now).toNat else r.pwr % 2 ^ 16
  else if off = 0x2C then r.calCnt % 2 ^ 32
  else if off = 0x30 then r.calFtc % 2 ^ 32
  else if off = 0x34 then r.calFtc / 2 ^ 32 % 2 ^ 32
  else if off = 0x38 then r.calWall % 2 ^ 32
  else if off = 0x3C then pack [(0, r.slicer.1 % 1024), (10, r.slicer.2.1 % 1024), (20, r.slicer.2.2 % 1024)]
  else if off = 0x64 then pack [(0, (s.xtTerm k).1 % 256), (16, unsigned 16 (s.xtTerm k).2)]
  else if 0x70 ≤ off ∧ off < 0x90 then unsigned 16 (s.ffGain k ((off - 0x70) / 4))
  else if off = 0xB4 then
    pack [(0, s.lnk q), (4, s.fld (R.LNK_PEER q) F.LNK_PEER_NODE), (24, s.txW q % 32), (29, b2n (s.canopy k).suspended)]
  else if off = 0xB8 then (s.reg (R.LNK_FLIT_BAD_CNT q)).toNat
  else if off = 0xBC then s.selOffset k % 2 ^ 20
  else w

/-- BEL_ (R80): the Bell's runs and its key/value pools. -/
def State.viewBel (s : State) (b off w : Nat) : Nat :=
  let p := s.img.poolOf b (s.fld (R.BEL_KV_SEL b) F.BEL_KV_SEL_POOL)
  let on (l : List PageRef) : Bool := l.any fun r => r.bell == b
  if off = 0x0 then (s.belStat b).toNat
  else if off = 0x84 then (if s.active then p.elim 0 fun p => s.pagesFree p else 0)
  else if off = 0x88 then (if s.active then p.elim 0 fun p => s.pagesReserved b p.pool else 0)
  else if off = 0x8C then (if s.active then s.vestFree b else 0)
  else if off = 0x90 then (s.jrn.streams.filter fun st => on st.pages || on st.resv).length
  else w

/-- SEAM_ (R310): the selected lane and direction of Bell b's link. -/
def State.viewSeam (s : State) (b off w : Nat) : Nat :=
  let d := s.fld (R.SEAM_LANE_SEL b) F.SEAM_LANE_SEL_DIR
  let l := s.fld (R.SEAM_LANE_SEL b) F.SEAM_LANE_SEL_LANE
  let r := s.seamLane b d l
  if off = 0x14 then (s.seamLaneStat b d l).toNat
  else if off = 0x18 then r.cnt % 2 ^ 32
  else if off = 0x1C then r.ftc % 2 ^ 32
  else if off = 0x20 then r.ftc / 2 ^ 32 % 2 ^ 32
  else if off = 0x24 then r.wall % 2 ^ 32
  else if 0x30 ≤ off ∧ off < 0x3C then (s.seamBadWord b d ((off - 0x30) / 4)).toNat
  else w

/-- COL_ (R142): the engines and DET_DESC. -/
def State.viewCol (s : State) (off w : Nat) : Nat :=
  if off = 0x0 then
    let up (e : Nat) : Nat := b2n (s.active && s.dom (12 + e / 2) == 0)
    pack [(0, up 0), (1, up 1), (2, up 2), (3, up 3), (8, s.colOpen)]
  else if off = 0x10 then s.detDesc
  else w

/-- TRN_ (R196): traffic, the deduplication table and the selected binding. -/
def State.viewTrn (s : State) (off w : Nat) : Nat :=
  let x := s.binding (s.fld R.TRN_HCTX_SEL F.TRN_HCTX_SEL_HCTX)
  if off = 0x0 then pack [(0, b2n s.zfpFlows), (1, b2n (s.active && s.img.bridge)), (8, s.trn.restart % 128)]
  else if off = 0x8 then pack [(0, s.trn.dedup.length), (31, bits w 31 31)]
  else if 0x48 ≤ off ∧ off < 0x58 then x.elim 0 fun x => x.addr / 2 ^ (32 * ((off - 0x48) / 4)) % 2 ^ 32
  else if off = 0x58 then x.elim 0 fun x => pack [(0, x.port % 2 ^ 16), (16, 1)]
  else w

/-- A word as a read gives it: write-only bits read 0 (R16). -/
def readMask (i : RegInfo) (w : Nat) : Nat :=
  i.fields.foldl (fun n f => if f.acc = .wo then (fset (BitVec.ofNat 32 n) ⟨f.hi, f.lo⟩ 0).toNat else n) w

/-- The value of the register at a control address; an unassigned offset reads 0 (R18). -/
def State.view (s : State) (guy : Bool) (a : Nat) : Nat :=
  match blockOf a, regInfo? a with
  | some (blk, n, off), some i =>
    let w := readMask i (s.reg a).toNat
    (match blk with
      | .id => s.viewId off w
      | .pit => s.viewPit off w
      | .wsq => s.viewWsq off w
      | .flt => s.viewFlt off w
      | .ftc => s.viewFtc off w
      | .clk => s.viewClk guy off w
      | .pwr => s.viewPwr off w
      | .thm => s.viewThm off w
      | .sec => s.viewSec off w
      | .dry => w
      | .lnk => s.viewLnk n off w
      | .opt => s.viewOpt n off w
      | .bel => s.viewBel n off w
      | .seam => s.viewSeam n off w
      | .uci => w
      | .col => s.viewCol off w
      | .trn => s.viewTrn off w) % 2 ^ 32
  | _, _ => 0

/-- A read of a control register with what it does: FTC_NOW_LO latches FTC_NOW_HI (R335), and DRY_DATA steps through the Dry bag (R396). -/
def State.readReg (s : State) (guy : Bool) (a : Nat) : Nat × State :=
  if a = R.DRY_DATA then s.readDry
  else (s.view guy a, if a = R.FTC_NOW_LO then s.latchNow else s)

end Sys2Proof.Machine
end

