-- ==== Sys2Proof/Machine/Registers.lean ====
section
/-!
DEFINITION. Writes of control registers (R16 to R19): access codes and reserved encodings, what a write of each register does, and the checks that a
control address passes before it is reached (R32, R38, R400, R403, R458). REGISTER_WRITE stands here.
-/

namespace Sys2Proof.Machine

open Sys2Proof

/-- A value may be placed in a field (R18). -/
def Legal.ok : Legal → Nat → Bool
  | .any, _ => true
  | .range lo hi, v => decide (lo ≤ v) && decide (v ≤ hi)
  | .notVal x, v => v != x
  | .zero, v => v == 0

/-- One field of a written word, under its access code (R16). -/
def putField (guy : Bool) (v : Nat) (w : Word) (f : FieldInfo) : Word :=
  let d : Fld := ⟨f.hi, f.lo⟩
  let x := bits v f.hi f.lo
  match f.acc with
  | .rw => if f.legal.ok x then fset w d x else w
  | .guy => if guy && f.legal.ok x then fset w d x else w
  | .w1c => fset w d (fget w d - (fget w d &&& x))
  | .ro => w
  | .wo => w

/-- A register's word after a write (R16, R18). -/
def wordAfter (i : RegInfo) (guy : Bool) (v : Nat) (w : Word) : Word := i.fields.foldl (putField guy v) w

/-- A write applied under the access codes alone; an unassigned offset ignores it. -/
def State.plainWrite (s : State) (guy : Bool) (a v : Nat) : State :=
  match regInfo? a with
  | none => s
  | some i => s.setReg a (wordAfter i guy v (s.reg a))

/-- A write kept only where the register pair or word that results satisfies a condition. -/
def State.writeIf (s : State) (guy : Bool) (a v : Nat) (ok : State → Bool) : State :=
  let t := s.plainWrite guy a v
  if ok t then t else s

/-- A step taken where a bit of the written word is 1. -/
def State.onBit (s : State) (v i : Nat) (k : State → State) : State := if bit v i then k s else s

/-- PIT_ (R159, R162, R164, R166, R170). -/
def State.writePit (s : State) (guy : Bool) (off a v : Nat) : State :=
  if off = 0x4 then
    match v % 32 with
    | 1 => s.openShadow guy
    | 2 => s.startVerify guy
    | 4 => s.armFull guy
    | 8 => s.disarmFull guy
    | 16 => s.dropShadow guy
    | _ => s
  else if off = 0x10 ∨ off = 0x14 then
    s.pitWrite guy fun s => if s.pit.shState = .verified then s.plainWrite guy a v else s
  else if off = 0x20 then
    s.pitWrite guy fun s => if v % 2 ^ 25 ≤ 16777216 then s.setFld a F.PIT_SHD_OFF_OFF (v % 2 ^ 25 / 4 * 4) else s
  else if off = 0x24 then s.shadowData guy v
  else if off = 0x48 then
    if bit v 4 ∧ bit v 5 then s
    else ((s.plainWrite guy a v).onBit v 4 fun s => s.armRemap (v % 16)).onBit v 5 fun s => s.disarmRemap (v % 16)
  else if off = 0x58 then s.liveWrite v
  else s.plainWrite guy a v

/-- The agent lead may be set to a value (R395). -/
def leadOk (v : Nat) : Bool := v % 128 == 0 && decide (1048576 ≤ v) && decide (v ≤ 268435456)

/-- WSQ_ (R395). -/
def State.writeWsq (s : State) (guy : Bool) (off a v : Nat) : State :=
  if off = 0x4 then s.onBit v 0 State.plannedSwitch
  else if off = 0x20 then (if leadOk v then s.plainWrite guy a v else s)
  else if off = 0x24 then s.lostUnit v
  else if off = 0x2C then s.onBit v 0 State.reloadDone
  else s.plainWrite guy a v

/-- FLT_ (R364, R370, R373, R394). -/
def State.writeFlt (s : State) (guy : Bool) (off a v : Nat) : State :=
  let i := s.fld R.FLT_SEL F.FLT_SEL_SOURCE
  if off = 0x24 then s.onBit v 1 fun s => s.ackSource i
  else if off = 0x28 then (if v = 0 then s.setPairSt i { s.pair i with cnt := 0 } else s)
  else if 0x40 ≤ off ∧ off < 0x80 then
    (List.range 32).foldl (fun t n => t.onBit v n fun t => t.ackSource (8 * (off - 0x40) + n)) s
  else if off = 0x80 then s.onBit v 0 State.ackAll
  else if off = 0x90 then (if v = 0x5354524B then (s.pulse 30 []).enterStrike 30 0xFFFF else s)
  else if off = 0xA0 then
    if s.testUnlocked then
      (s.plainWrite guy a v).onBit v 11 fun s => s.inject (s.fld R.FLT_INJ F.FLT_INJ_SOURCE) (s.fld R.FLT_INJ F.FLT_INJ_KIND)
    else s
  else s.plainWrite guy a v

/-- FTC_ (R314, R315, R318, R321, R335). -/
def State.writeFtc (s : State) (guy : Bool) (off a v : Nat) : State :=
  if off = 0xC then
    ((s.plainWrite guy a (withBit v 1 false)).becomeRoot).onBit v 1 State.ftcLoad
  else if off = 0x18 ∨ off = 0x1C then
    if s.fld R.FTC_CFG F.FTC_CFG_ROOT = 1 then (s.plainWrite guy a v).setFld R.FTC_STAT F.FTC_STAT_WALL_OK 1 else s
  else if off = 0x38 then
    let p := s.fld R.FTC_PORT_SEL F.FTC_PORT_SEL_PORT
    s.setTport p { s.tport p with asym := v % 2 ^ 16 }
  else if off = 0x3C then s.plainWrite guy a (v ||| 0x30003)
  else s.plainWrite guy a v

/-- CLK_ (R332, R334). -/
def State.writeClk (s : State) (guy : Bool) (off a v : Nat) : State :=
  if off = 0x20 then s.forceMuxes v
  else if off = 0x34 then s.writeGate (s.fld R.CLK_GATE_SEL F.CLK_GATE_SEL_DOMAIN) v
  else s.plainWrite guy a v

/-- PWR_ (R342, R356). -/
def State.writePwr (s : State) (guy : Bool) (off a v : Nat) : State :=
  let d := s.fld R.PWR_DOM_SEL F.PWR_DOM_SEL_DOMAIN
  if off = 0x14 then (if s.pwr.failed then s else s.domRequest d (v % 4))
  else if off = 0x18 then
    let clear (n : Nat) (l : List Nat) : List Nat := if bit v n then l.filter (· != d) else l
    { s with pwr := { s.pwr with refused := clear 4 s.pwr.refused, pgFail := clear 5 s.pwr.pgFail } }
  else s.plainWrite guy a v

/-- THM_ (R350, R353, R357): a write of 0 to THM_EVT_CNT clears both fields, and any other is ignored. -/
def State.writeThm (s : State) (guy : Bool) (off a v : Nat) : State :=
  if off = 0x1C then s.onBit v 0 State.thmRelease
  else if off = 0x20 then
    (s.plainWrite guy a v).onBit v 5 fun s => s.thmXcheck (s.fld R.THM_XCHECK F.THM_XCHECK_DIE)
  else if off = 0x90 then (if v = 0 then s.setReg a 0 else s)
  else s.plainWrite guy a v

/-- A commit by its key (R410). Whether a fuse fails its read-back is a free condition here. -/
def State.commitKey (s : State) (v : Nat) : State :=
  let r := s.freshBool
  if v = 0x46575356 then r.2.commit .fw r.1
  else if v = 0x50495356 then r.2.commit .pit r.1
  else if v = 0x43455356 then r.2.commit .cert r.1
  else s

/-- SEC_ (R408, R410, R416, R422). -/
def State.writeSec (s : State) (guy : Bool) (off a v : Nat) : State :=
  if off = 0x20 then s.commitKey v
  else if off = 0x24 then (s.onBit v 0 State.confirmFw).onBit v 1 State.abandonFw
  else if off = 0x28 then
    if v = 0x50525354 then s.pinReset 1 else if v = 0x50435943 then s.powerOnReset 1 else s
  else s.plainWrite guy a v

/-- DRY_ (R392, R396). -/
def State.writeDry (s : State) (guy : Bool) (off a v : Nat) : State :=
  if off = 0x10 then s.setFld a F.DRY_SEL_OFFSET (v / 4 * 4)
  else if off = 0x18 then
    if v = 0x4350494E then s.erasePinned else if v = 0x4352494E then s.eraseRing else s
  else s.plainWrite guy a v

/-- The receive windows of a port fit its buffers (R222, R241). -/
def State.creditsFit (s : State) (p : Nat) : Bool :=
  decide (s.fld (R.LNK_CREDIT_CFG0 p) F.LNK_CREDIT_CFG0_VC0 + s.fld (R.LNK_CREDIT_CFG0 p) F.LNK_CREDIT_CFG0_VC1
    + s.fld (R.LNK_CREDIT_CFG1 p) F.LNK_CREDIT_CFG1_VC2 ≤ 8192)

/-- LNK_ (R234, R239, R241). -/
def State.writeLnk (s : State) (guy : Bool) (p off a v : Nat) : State :=
  if off = 0x4 then
    let s1 : State := (s.plainWrite guy a v).onBit v 1 fun s => s.live fun s => s.retrain p 6
    (s1.onBit v 2 fun s => s.live fun s => s.restartHeld p).onBit v 3 fun s => s.live fun s => s.commandReset p
  else if off = 0x30 ∨ off = 0x34 then s.writeIf guy a v fun t => t.creditsFit p
  else s.plainWrite guy a v

/-- A write of OPT_XT_DATA (R249, R284): ignored for the row's own column and for 144 to 254. -/
def State.writeXt (s : State) (k v : Nat) : State :=
  let i := s.fld (R.OPT_XT_SEL k) F.OPT_XT_SEL_ROW
  let n := s.fld (R.OPT_XT_SEL k) F.OPT_XT_SEL_TERM
  let j := v % 256
  if j = i ∨ (144 ≤ j ∧ j ≤ 254) then s
  else
    let row := s.xtRow k i
    let row' := setAt (row ++ List.replicate (8 - row.length) (0xFF, 0)) n (j, signed 16 (v / 65536))
    s.modCanopy k fun c => { c with xt := SMap.set (fun _ => none) c.xt i (some row') }

/-- OPT_ (R249, R250, R256, R265, R284). -/
def State.writeOpt (s : State) (guy : Bool) (k off a v : Nat) : State :=
  if off = 0x4 then (s.onBit v 0 fun s => s.live fun s => s.lantCommand k).onBit v 1 fun s => s.live fun s => s.calAll k
  else if off = 0x40 then s.onBit v 0 fun s => s.live fun s => s.laneCal k
  else if off = 0x54 then s.live fun s => s.monSelect k (BitVec.ofNat 32 v)
  else if off = 0x64 then s.writeXt k v
  else if off = 0x68 then (s.plainWrite guy a v).onBit v 1 fun s => s.xtFactory k
  else if 0x70 ≤ off ∧ off < 0x90 then
    s.modCanopy k fun c => { c with gain := SMap.set (fun _ => none) c.gain ((off - 0x70) / 4) (some (v % 2 ^ 16)) }
  else if off = 0x94 then (if v = 0 then s.setReg a 0 else s)
  else if off = 0xB8 then (if v = 0 then s.setReg (R.LNK_FLIT_BAD_CNT (s.selPath k)) 0 else s)
  else s.plainWrite guy a v

/-- BEL_ (R80). -/
def State.writeBel (s : State) (guy : Bool) (b off a v : Nat) : State :=
  if off = 0x4 then s.setDrain b (bit v 0) else s.plainWrite guy a v

/-- SEAM_ (R295, R299, R310). -/
def State.writeSeam (s : State) (guy : Bool) (b off a v : Nat) : State :=
  if off = 0x4 then
    ((s.onBit v 0 fun s => s.seamCommand b).onBit v 1 fun s => s.seamLinkReset b).onBit v 2 fun s => s.seamCalAll b
  else s.plainWrite guy a v

/-- UCI_ (R305, R311). -/
def State.writeUci (s : State) (guy : Bool) (k off a v : Nat) : State :=
  if off = 0x4 then (s.onBit v 0 fun s => s.slotRetrain k).onBit v 1 fun s => s.slotLinkReset k
  else if off = 0x8 ∧ bit v 0 then s.admitAllow k
  else s.plainWrite guy a v

/-- TRN_ (R179, R196): a write that makes US × RETRY exceed 10,000 is ignored whole. -/
def State.writeTrn (s : State) (guy : Bool) (off a v : Nat) : State :=
  if off = 0x4 then
    s.writeIf guy a v fun t => decide (t.fld R.TRN_TIMEOUT F.TRN_TIMEOUT_US * t.fld R.TRN_TIMEOUT F.TRN_TIMEOUT_RETRY ≤ 10000)
  else s.plainWrite guy a v

/-- A word written to the register at a control address, with what the write does. -/
def State.writeReg (s : State) (guy : Bool) (a v : Nat) : State :=
  match blockOf a, regInfo? a with
  | some (blk, n, off), some _ =>
    match blk with
    | .id => s.plainWrite guy a v
    | .pit => s.writePit guy off a v
    | .wsq => s.writeWsq guy off a v
    | .flt => s.writeFlt guy off a v
    | .ftc => s.writeFtc guy off a v
    | .clk => s.writeClk guy off a v
    | .pwr => s.writePwr guy off a v
    | .thm => s.writeThm guy off a v
    | .sec => s.writeSec guy off a v
    | .dry => s.writeDry guy off a v
    | .lnk => s.writeLnk guy n off a v
    | .opt => s.writeOpt guy n off a v
    | .bel => s.writeBel guy n off a v
    | .seam => s.writeSeam guy n off a v
    | .uci => s.writeUci guy n off a v
    | .col => s.plainWrite guy a v
    | .trn => s.writeTrn guy off a v
  | _, _ => s

/-- Checks 2 to 4 of R32 on a die number, as their code: reserved die 2, absent die 1, in reset 7. -/
def State.dieCheck (s : State) (die : Nat) : Option Nat :=
  if die = 0 then none
  else if die < 9 then
    let b := die - 1
    let x := s.bell b
    if !s.fitted b ∨ x.retired ∨ x.strapFail then some 1
    else if x.inReset ∨ !s.bellLive b ∨ s.fld (R.SEAM_STAT b) F.SEAM_STAT_ARMED = 0 then some 7
    else none
  else if die < 17 then
    let k := die - 9
    let x := s.slot k
    if x.occ = .empty ∨ x.retired then some 1
    else if x.inReset ∨ !s.slotLive k ∨ s.fld (R.UCI_STAT k) F.UCI_STAT_STATE = 3 then some 7
    else none
  else some 2

/-- Registers that answer while PD_RIDGE_00 alone is powered (R400). -/
def aonReg (blk : Blk) (off : Nat) : Bool :=
  match blk with
  | .id | .thm | .dry | .sec => true
  | .clk => off == 0x0 || off == 0x4
  | .ftc => [0xC, 0x10, 0x14, 0x18, 0x1C, 0x30, 0x38, 0x3C].contains off
  | .pwr => off == 0x0 || off == 0x4
  | _ => false

/-- The power domains of which one must be on for a register to answer (R39, R400). The manual names no domain for a block: a poles' register is the
active pole's, a block of a unit that of the unit. The Ridge-side SEAM_ and UCI_ registers stay readable whether or not a die is there (R38), so they
depend on no PHY. -/
def regDoms (blk : Blk) (n off : Nat) : List Nat :=
  match blk with
  | .pit | .wsq | .pwr => [1, 2]
  | .flt => [3]
  | .ftc => [7]
  | .clk => [6]
  | .lnk => [24 + n / 8]
  | .opt => [domCan n 0]
  | .bel => [domBell n 0]
  | .seam => if off < 0x2000 then [1, 2] else [domBell n 1]
  | .uci => [1, 2]
  | .col => [12, 13]
  | .trn => [14]
  | .id | .thm | .dry | .sec => [0]

/-- The die that holds a register (R37, R38). -/
def regDie (blk : Blk) (n off : Nat) : Nat :=
  match blk with
  | .opt => 9 + n
  | .bel => 1 + n
  | .seam => if off < 0x2000 then 0 else 1 + n
  | _ => 0

/-- The checks of a control address (R458, R38, R400): ALIGN 5, UNMAPPED 3, ABSENT_DIE 1, IN_RESET 7. A slot without a Canopy has none to hold an OPT_ block. -/
def State.ctlCheck (s : State) (a : Nat) : Option Nat :=
  if a % 4 ≠ 0 then some 5
  else match blockOf a with
    | none => some 3
    | some (blk, n, off) =>
      let die := regDie blk n off
      if blk = .opt ∧ (s.slot n).occ ≠ .canopy then some 1
      else match s.dieCheck die with
        | some c => some c
        | none =>
          if aonReg blk off then (if s.pwr.aon then none else some 7)
          else if (regDoms blk n off).any (fun d => s.dom d != 3) then none
          else some 7

/-- The register holds a GUY field (R403). -/
def guyReg (a : Nat) : Bool := (regInfo? a).any fun i => i.fields.any fun f => f.acc == .guy


/-- A read of a control address: its STATUS, the word and the state after. -/
def State.ctlRead (s : State) (src : Entry) (a : Nat) : Nat × Nat × State :=
  match s.ctlCheck a with
  | some c => (c, 0, s.refuseAt src c 0 a)
  | none => let r := s.readReg (src == .guy) a; (0, r.1, r.2)

/-- A write of a control address: its STATUS and the state after. A register with a GUY field is written over the Guy line only (R403), and
WSQ_LOST_UNIT by a Control Pole only (R395). -/
def State.ctlWrite (s : State) (src : Entry) (pole : Bool) (a v : Nat) : Nat × State :=
  let guy := src == .guy
  match s.ctlCheck a with
  | some c => (c, s.refuseAt src c 0 a)
  | none =>
    if a = R.WSQ_LOST_UNIT ∧ !pole then (4, s.refuseAt src 4 0 a)
    else if guyReg a ∧ !guy then (8, s.bump R.SEC_GUY_DENY_CNT)
    else (0, s.writeReg guy a v)

/-- REGISTER_WRITE (R16, R18, R19): a write applied where it arrives at the Ridge register interface. -/
def execRegisterWrite (src : Entry) (addr data : BitVec 32) (s : State) : Host.Outcome State Fault Refusal :=
  .next (if s.pwr.aon then (s.ctlWrite src (src == .ridge) addr.toNat data.toNat).2 else s)

end Sys2Proof.Machine
end

