-- ==== Sys2Proof/Machine/Access.lean ====
section
/-!
DEFINITION. Fabric accesses (R28 to R34, R110, R113, R174, R306, R458): the checks of R32 on an address, RD and WR of a Bell's memory, of the control
window and of a partner's window, and the register messages REG_RD and REG_WR.
-/

namespace Sys2Proof.Machine

open Sys2Proof

/-- Where a range of a die's offsets lies (R28, R29, R31). -/
inductive Where where
  | sram
  | control (a : Nat)
  | region (bse : Nat)
  | buffer (c : Nat)
  | window (k : Nat)
  | unmapped
  deriving DecidableEq, Repr

/-- The mapped range that holds n bytes from an offset of a die; a range that crosses the end of one is unmapped (R174). -/
def State.whereIs (s : State) (die off n : Nat) : Where :=
  if die = 0 then
    if off + n ≤ 0x10000000 then .sram
    else if 0x7F00000000 ≤ off ∧ off + n ≤ 0x8000000000 then .control (off % 2 ^ 32)
    else .unmapped
  else if die < 9 then
    if off < 0x2000000000 then (if off % 0x20000000 + n ≤ 375000000 then .region (bseOfOff off) else .unmapped)
    else if 0x4000000000 ≤ off ∧ off < 0x4004000000 then
      (if off % 0x400000 + n ≤ 0x400000 then .buffer (off % 2 ^ 38 / 0x400000) else .unmapped)
    else .unmapped
  else match (s.slot (die - 9)).occ with
    | .thirdParty base size => if base ≤ off ∧ off + n ≤ base + size then .window (die - 9) else .unmapped
    | _ => .unmapped

/-- The extents of the image in force that a range of a Bell touches. RIDGE_STAGING lies in Ridge SRAM and OVERFLOW in the peer's regions (R152). -/
def State.touched (s : State) (b off n : Nat) : List Extent :=
  if s.active then
    s.img.extents.filter fun e => e.bell == b && e.kind != 8 && e.kind != 6 &&
      (List.range 64).any (fun i => bit e.mask i && overlap off n (bseOff (64 * e.die + i) e.off) e.len)
  else []

/-- The extents that a spare has opened to host writes (R383) hold the range. -/
def State.reloadOpen (s : State) (b off n : Nat) : Bool :=
  s.fld R.WSQ_RELOAD_STAT F.WSQ_RELOAD_STAT_STATE == 2 &&
    s.loss.cursor.any fun r => r.1 == b && decide (r.2.1 ≤ off) && decide (off + n ≤ r.2.1 + r.2.2)

/-- A range of a Bell's DRAM is refused (R30, R110, R152): it touches the Stuff sack or the Vestibule, or an extent whose PERM does not allow it. -/
def State.guarded (s : State) (b off n : Nat) (write : Bool) : Bool :=
  ((s.touched b off n).any fun e => e.kind == 3 || e.kind == 4 || !bit e.perm (b2n write)) && !(write && s.reloadOpen b off n)

/-- The checks of R32 on an RD or WR of n bytes at a Fabric Address; none where it passes. -/
def State.accessCheck (s : State) (src : Entry) (addr n : Nat) (write : Bool) : Option Nat :=
  let die := bits addr 43 39
  let off := addr % 2 ^ 39
  if reservedNode (addr / 2 ^ 44) then some 6
  else match s.dieCheck die with
    | some c => some c
    | none =>
      match s.whereIs die off n with
      | .sram => some 4
      | .control a =>
        (match src with
          | .slot _ => some 4
          | _ => if n = 4 ∧ a % 4 = 0 then none else some 5)
      | .region _ =>
        if s.fld (R.BEL_STAT (die - 1)) F.BEL_STAT_DRAM_INIT_DONE = 0 then some 7
        else if s.guarded (die - 1) off n write then some 4
        else none
      | .buffer _ => if s.fld (R.BEL_STAT (die - 1)) F.BEL_STAT_DRAM_INIT_DONE = 0 then some 7 else none
      | .window _ => none
      | .unmapped => some 3

/-- The address that ID_REFUSE_ADDR takes for a refused range (R458): of a control-space access its control address. -/
def State.refusedAddr (s : State) (addr n : Nat) : Nat :=
  match s.whereIs (bits addr 43 39) (addr % 2 ^ 39) n with
  | .control a => a
  | _ => addr

/-- The committed rows that a commit copy in progress will fill, as (Bell, Bell offset, bytes) (R111, R113). -/
def State.copyRows (s : State) (st : Stream) : List (Nat × Nat × Nat) :=
  match st.copyFrom with
  | none => []
  | some l0 =>
    if st.copyDone then []
    else st.copySlabs.flatMap fun r =>
      match s.img.poolOf r.2.bell r.2.pool with
      | none => []
      | some p =>
        (List.range (st.l - l0)).flatMap fun i =>
          let pos := l0 + i
          let page := p.pageOff ((st.pagesIn p.bell p.pool).getD (pos / 64) 0)
          p.bses.flatMap fun bse => (List.range p.heads).flatMap fun h =>
            [false, true].map fun v => (p.bell, bseOff bse (p.rowAt 64 page h (pos % 64) v), p.headDim * p.elem)

/-- The stream whose commit copy will fill a slot that the range touches (R113). -/
def State.awaitedCopy (s : State) (b off n : Nat) : Option Nat :=
  (s.jrn.streams.find? fun st => (s.copyRows st).any fun r => r.1 == b && overlap off n r.2.1 r.2.2).map (·.id)

/-- A fabric read of Bell memory answered (R457). -/
def State.answerRead (s : State) (m : Msg) (addr n : Nat) (ups : List Upset) : State :=
  let r := s.readRange (bits addr 43 39 - 1) (addr % 2 ^ 39) n ups false
  match r.2.1 with
  | some _ => r.1.respond m 0x14 []
  | none => r.1.respond m 0 r.2.2

/-- The fields of an RD or WR body (R174): ADDR and LEN; none where its layout is wrong, which discards the message (R172). -/
def rangeOf (write : Bool) (body : List Byte) : Option (Nat × Nat) :=
  let n := leAt body 8 4
  let size := if write then 16 + n else 16
  if body.length = size ∧ leAt body 12 4 = 0 ∧ 1 ≤ n ∧ n ≤ (if write then 8176 else 8192) then some (leAt body 0 8, n) else none

/-- A discarded request (R172). -/
def State.discardMsg (s : State) : State := s.bump R.TRN_DISCARD_CNT

/-- An RD served (R113, R174, R306). -/
def State.serveRead (s : State) (src : Entry) (m : Msg) (ups : List Upset) : State :=
  match rangeOf false m.body with
  | none => s.discardMsg
  | some (addr, n) =>
    let die := bits addr 43 39
    match s.accessCheck src addr n false with
    | some c => (s.refuseAt src c die (s.refusedAddr addr n)).respond m c []
    | none =>
      match s.whereIs die (addr % 2 ^ 39) n with
      | .control a => let r := s.ctlRead src a; r.2.2.respond m r.1 (if r.1 = 0 then le 4 r.2.1 else [])
      | .window k => { s with trn := { s.trn with handed := s.trn.handed ++ [(k, m)] } }.emit (.partner k m)
      | _ =>
        match s.awaitedCopy (die - 1) (addr % 2 ^ 39) n with
        | some st => { s with trn := { s.trn with reads := s.trn.reads ++ [{ src := src, msg := m, stream := st }] } }
        | none => s.answerRead m addr n ups

/-- RD (R174), class I. `ups` are the symbol errors that its words hold (R46). -/
def execRd (src : Entry) (msg : List Byte) (ups : List Upset) (s : State) : Host.Outcome State Fault Refusal :=
  .next (s.receiveReq src msg 0x02 fun m => s.serveRead src m ups)

/-- A WR to Bell memory or the control window: its STATUS, and whether it was executed (R48, R54, R179). -/
def State.serveWrite (s : State) (src : Entry) (m : Msg) (addr n : Nat) (ups : List Upset) : State × Nat × List Byte × Bool :=
  let die := bits addr 43 39
  let data := m.body.drop 16
  match s.accessCheck src addr n true with
  | some c => (s.refuseAt src c die (s.refusedAddr addr n), c, [], false)
  | none =>
    match s.whereIs die (addr % 2 ^ 39) n with
    | .control a => let r := s.ctlWrite src (m.srcDie == 0) a (leNat data); (r.2, r.1, [], r.1 == 0)
    | _ =>
      let r := s.writeRange (die - 1) (addr % 2 ^ 39) data ups
      (r.1, if r.2 = none then 0 else 0x14, [], true)

/-- A WR to a partner's window (R306): forwarded once per key, which is held while the partner executes it. -/
def State.partnerWr (s : State) (m : Msg) (k : Nat) : State :=
  match s.dedupCheck m with
  | .execute =>
    let d : Dedup := { node := m.srcNode, die := m.srcDie, tid := m.tid, resp := none, sentAt := s.now }
    let s1 : State := { s with trn := { s.trn with dedup := s.trn.dedup ++ [d], handed := s.trn.handed ++ [(k, m)] } }
    s1.noteFull.emit (.partner k m)
  | _ => s.window m fun t => (t, 0, [], false)

/-- WR (R174), class W: words are written in ascending order (R54). -/
def execWr (src : Entry) (msg : List Byte) (ups : List Upset) (s : State) : Host.Outcome State Fault Refusal :=
  .next (s.receiveReq src msg 0x04 fun m =>
    match rangeOf true m.body with
    | none => s.discardMsg
    | some (addr, n) =>
      match s.accessCheck src addr n true, s.whereIs (bits addr 43 39) (addr % 2 ^ 39) n with
      | none, .window k => s.partnerWr m k
      | _, _ => s.window m fun t => t.serveWrite src m addr n ups)

/-- The control address of a register message (R458), or its refusal: the die checks, and UNMAPPED outside the control window of die 0. -/
def State.regAddr (s : State) (addr : Nat) : Nat ⊕ Nat :=
  let die := bits addr 43 39
  let off := addr % 2 ^ 39
  match s.dieCheck die with
  | some c => .inl c
  | none => if die ≠ 0 ∨ off < 0x7F00000000 then .inl 3 else .inr (off % 2 ^ 32)

/-- REG_RD (R458), class I. -/
def execRegRd (src : Entry) (msg : List Byte) (s : State) : Host.Outcome State Fault Refusal :=
  .next (s.receiveReq src msg 0x06 fun m =>
    let addr := leAt m.body 0 8
    if m.body.length ≠ 8 then s.discardMsg
    else match s.regAddr addr with
      | .inl c => (s.refuseAt src c (bits addr 43 39) addr).respond m c []
      | .inr a => let r := s.ctlRead src a; r.2.2.respond m r.1 (if r.1 = 0 then le 4 r.2.1 else []))

/-- REG_WR (R458, R403), class W, alone or as one copy of a broadcast (R177). -/
def execRegWr (src : Entry) (msg : List Byte) (s : State) : Host.Outcome State Fault Refusal :=
  .next (s.receiveReq src msg 0x08 fun m =>
    let addr := leAt m.body 0 8
    if m.body.length ≠ 16 ∨ leAt m.body 12 4 ≠ 0 then s.discardMsg
    else s.window m fun t =>
      match t.regAddr addr with
      | .inl c => (t.refuseAt src c (bits addr 43 39) addr, c, [], false)
      | .inr a => let r := t.ctlWrite src (m.srcDie == 0) a (leAt m.body 8 4); (r.2, r.1, [], r.1 == 0))

/-- The copy that a read waits for has filled its slot (R113). -/
def State.copyFilled (s : State) (stream : Nat) : Bool :=
  (s.stream? stream).all fun st => st.copyDone || st.copyFrom.isNone

/-- COMMIT_SLOT_READ_RELEASE (R113): the read is answered with the committed data once its slot is filled. -/
def execCommitSlotReadRelease (node tid : Nat) (ups : List Upset) (s : State) : Host.Outcome State Fault Refusal :=
  .next (match s.trn.reads.find? (fun r => r.msg.srcNode == node && r.msg.tid == tid) with
    | none => s
    | some r =>
      if s.copyFilled r.stream then
        { s with trn := { s.trn with reads := s.trn.reads.erase r } }.answerRead r.msg (leAt r.msg.body 0 8) (leAt r.msg.body 8 4) ups
      else s)

end Sys2Proof.Machine
end

