-- ==== Sys2Proof/Machine/Aes.lean ====
section
/-!
DEFINITION. AES-128 encryption of one block (R105), as FIPS 197 publishes it (PRESUMED: the manual names the cipher and does not
restate it; log entry 150). The S-box is computed from its definition.
-/

namespace Sys2Proof.Machine

/-- Multiplication by x in GF(2^8). -/
def gx (a : Nat) : Nat := let d := a * 2; if 256 ≤ d then (d - 256) ^^^ 0x1B else d

/-- Multiplication in GF(2^8), k bits of b from the top. -/
def gmulGo (a b : Nat) : Nat → Nat → Nat
  | 0, acc => acc
  | k + 1, acc => gmulGo a b k (gx acc ^^^ (if bit b k then a else 0))
def gmul (a b : Nat) : Nat := gmulGo a b 8 0

/-- a^254, the inverse in GF(2^8), with 0 to 0. -/
def ginv (a : Nat) : Nat :=
  let a2 := gmul a a; let a4 := gmul a2 a2; let a8 := gmul a4 a4
  let a16 := gmul a8 a8; let a32 := gmul a16 a16; let a64 := gmul a32 a32; let a128 := gmul a64 a64
  gmul a128 (gmul a64 (gmul a32 (gmul a16 (gmul a8 (gmul a4 a2)))))

/-- Rotation of a byte left by k. -/
def rot8 (a k : Nat) : Nat := (a * 2 ^ k) % 256 + a / 2 ^ (8 - k)

/-- The AES S-box. -/
def aesSbox (a : Nat) : Nat := let b := ginv a; (b ^^^ rot8 b 1 ^^^ rot8 b 2 ^^^ rot8 b 3 ^^^ rot8 b 4) ^^^ 0x63

/-- Bytes XORed in pairs. -/
def xorBytes (a b : List Nat) : List Nat := (a.zip b).map fun p => p.1 ^^^ p.2

/-- The round keys from round i on: 16 bytes each. -/
def aesKeys : Nat → Nat → List Nat → List (List Nat)
  | 0, _, k => [k]
  | n + 1, rc, k =>
    let t := [aesSbox (k.getD 13 0) ^^^ rc, aesSbox (k.getD 14 0), aesSbox (k.getD 15 0), aesSbox (k.getD 12 0)]
    let w0 := xorBytes (k.take 4) t
    let w1 := xorBytes ((k.drop 4).take 4) w0
    let w2 := xorBytes ((k.drop 8).take 4) w1
    let w3 := xorBytes (k.drop 12) w2
    k :: aesKeys n (gx rc) (w0 ++ w1 ++ w2 ++ w3)

/-- SubBytes and ShiftRows. -/
def aesSubShift (s : List Nat) : List Nat :=
  (List.range 16).map fun i => aesSbox (s.getD ((i + 4 * (i % 4)) % 16) 0)

/-- MixColumns. -/
def aesMix (s : List Nat) : List Nat :=
  (List.range 16).map fun i =>
    let c := i / 4 * 4
    let g (k : Nat) : Nat := s.getD (c + (i + k) % 4) 0
    gmul (g 0) 2 ^^^ gmul (g 1) 3 ^^^ g 2 ^^^ g 3

/-- The rounds after the first key addition. -/
def aesRounds : List (List Nat) → List Nat → List Nat
  | [], s => s
  | [k], s => xorBytes (aesSubShift s) k
  | k :: t, s => aesRounds t (xorBytes (aesMix (aesSubShift s)) k)

/-- AES-128 of one 16-byte block. -/
def aes128 (key block : List Byte) : List Byte :=
  let n (l : List Byte) : List Nat := (fit 16 l).map (·.toNat)
  match aesKeys 10 1 (n key) with
  | [] => []
  | k :: t => (aesRounds t (xorBytes (n block) k)).map (BitVec.ofNat 8)

end Sys2Proof.Machine
end

