-- ==== Sys2Proof/Machine/VectorFn.lean ====
section
/-!
DEFINITION. The functions of the vector unit that are not algebraic (R73): exponential, logarithm, reciprocal square root, tanh and
sigmoid, each the exact value rounded once to FP32. The value is found in fixed point with 700 fraction bits and a sticky bit below
them. No FP32 input has a function value so near a rounding boundary (DEDUCED, log entry 24).
-/

namespace Sys2Proof.Machine

/-- Fraction bits of the fixed-point work. -/
abbrev fxBits : Nat := 700
def fxOne : Nat := 2 ^ fxBits

/-- 1 + y/1 (1 + y/2 (1 + ... y/n)) in fixed point. -/
def expSeries (y : Nat) : Nat → Nat → Nat
  | 0, acc => acc
  | n + 1, acc => expSeries y n (fxOne + y * acc / fxOne / (n + 1))

/-- A fixed-point value squared k times. -/
def fxSquare : Nat → Nat → Nat
  | 0, v => v
  | k + 1, v => fxSquare k (v * v / fxOne)

/-- e^x for a fixed-point x below 2^9. -/
def fxExp (x : Nat) : Nat := fxSquare 14 (expSeries (x / 2 ^ 14) 80 fxOne)

/-- A finite magnitude in fixed point, limited to 300. -/
def fxOf (m : Nat) (e : Int) : Nat :=
  if m = 0 then 0
  else if 8 < ilog m e then 300 * fxOne
  else
    let k := e + fxBits
    min (300 * fxOne) (if 0 ≤ k then m * 2 ^ k.toNat else m / 2 ^ (-k).toNat)

/-- A fixed-point value with a sticky bit, rounded to FP32. -/
def fxRound (s : Bool) (v : Nat) : Num := f32 (.fin s (2 * v + 1) (-(fxBits : Int) - 1))

/-- e^x in fixed point, of a finite x. -/
def fxExpNum (s : Bool) (m : Nat) (e : Int) : Nat :=
  let p := fxExp (fxOf m e)
  if s then fxOne * fxOne / p else p

/-- e^x (R73). -/
def vexp (x : Num) : Num :=
  match x with
  | .nan => .nan
  | .inf s => if s then .zero else .inf false
  | .fin s m e => if m = 0 then .fin false 1 0 else fxRound false (fxExpNum s m e)

/-- The series of atanh: z^(2i+1) / (2i+1), with z^2 = zz and t the current power. -/
def atanhSeries (zz : Nat) : Nat → Nat → Nat → Nat → Nat
  | 0, _, _, acc => acc
  | n + 1, i, t, acc => atanhSeries zz n (i + 2) (t * zz / fxOne) (acc + t / i)
def fxAtanh2 (z : Nat) : Nat := 2 * atanhSeries (z * z / fxOne) 240 1 z 0

/-- ln 2 in fixed point. -/
def fxLn2 : Nat := fxAtanh2 (fxOne / 3)

/-- Natural logarithm (R73). -/
def vln (x : Num) : Num :=
  match x with
  | .nan => .nan
  | .inf s => if s then .nan else .inf false
  | .fin s m e =>
    if m = 0 then .inf true
    else if s then .nan
    else
      let p := Nat.log2 m
      let t := m * fxOne / 2 ^ p
      let f := fxAtanh2 ((t - fxOne) * fxOne / (t + fxOne))
      let k := (p : Int) + e
      let v : Int := k * fxLn2 + f
      if t = fxOne ∧ k = 0 then .zero else fxRound (decide (v < 0)) v.natAbs

/-- Reciprocal square root (R73). -/
def vrsqrt (x : Num) : Num :=
  match x with
  | .nan => .nan
  | .inf s => if s then .nan else .zero
  | .fin s m e =>
    if m = 0 then .inf s
    else if s then .nan
    else
      let m2 := if e % 2 = 0 then m else 2 * m
      let e2 := if e % 2 = 0 then e else e - 1
      let k := 64 + Nat.log2 m2
      let r := isqrt (4 ^ k / m2)
      f32 (.fin false (2 * r + b2n (r * r * m2 != 4 ^ k)) (-(e2 / 2) - (k : Int) - 1))

/-- tanh (R73). -/
def vtanh (x : Num) : Num :=
  match x with
  | .nan => .nan
  | .inf s => .fin s 1 0
  | .fin s m e =>
    if m = 0 then .fin s 0 0
    else
      let p := fxExp (fxOf (2 * m) e)
      fxRound s ((p - fxOne) * fxOne / (p + fxOne))

/-- Sigmoid (R73). -/
def vsigmoid (x : Num) : Num :=
  match x with
  | .nan => .nan
  | .inf s => if s then .zero else .fin false 1 0
  | .fin s m e => if m = 0 then .fin false 1 (-1) else fxRound false (fxOne * fxOne / (fxOne + fxExpNum (!s) m e))

/-- The order of R74: descending value, equal values by ascending index, NaN last. `a` and `b` are (index, value). -/
def ranksBefore (a b : Nat × Num) : Bool :=
  if a.2.isNan then b.2.isNan && decide (a.1 < b.1)
  else if b.2.isNan then true
  else if b.2.lt a.2 then true
  else if a.2.lt b.2 then false
  else decide (a.1 < b.1)

/-- Values ranked by R74, with their indices. -/
def rankAll (vs : List Num) : List (Nat × Num) := ((List.range vs.length).zip vs).mergeSort ranksBefore

end Sys2Proof.Machine
end

