-- ==== Sys2Proof/Machine/BellOps.lean ====
section
/-!
DEFINITION. The operations of the Bell (R75, R76, R452 to R454): reading operands, arithmetic by R59 to R74, and writing outputs to
memory or to a collective.
-/

namespace Sys2Proof.Machine

open Sys2Proof

/-- An output element: a number, or an ESF integer with its anchor (R66). -/
inductive El where
  | num (x : Num)
  | esf (i anchor : Int)
  deriving DecidableEq, Repr

/-- The value of an element (R71). -/
def El.toNum : El → Num
  | .num x => x
  | .esf i a => esfNum i a

/-- An element multiplied by a gate weight, an FP32 code (R104): an FP32 product, and the exact product of an ESF element, which enters the combine by
R67. -/
def El.gated (g : Nat) : El → El
  | .num x => .num (fmul x (ofF32 g))
  | .esf i a => .num ((esfNum i a).mul (ofF32 g))

/-- An element as a collective carries it, and the flags that this raises (R63, R67, R128, R130, R132). An ESF element goes as its integer. Another value
is truncated against the collective's anchor in an Exact collective, and none stands for a term that reaches the anchor (ANCHOR_LOW); it is
converted to PART_FMT, by the descriptor's SAT, in the others; and to a maximum it goes as its block exponent plus 1 (R69; log entry 162). -/
def El.toColl (c : Coll) (x : ColInst) (e : Nat) (sat : Bool) (v : El) : Option (Int × Nat) :=
  if c.op = 1 then some ((topExp [v.toNum]).elim noExp (· + 1), nanFlag [v.toNum])
  else if c.partFmt = 11 then
    match v with
    | .esf i _ => some (i, flagIf (i == esfNan) flNonfinite)
    | .num n => match esfTerm n (c.anchorAt x e) with
      | none => some (esfNan, flNonfinite)
      | some t => if (topExp [n]).any (fun k => decide (c.anchorAt x e ≤ k)) then none else some (t.1, flagIf t.2 flInexact)
  else
    let r := encodeElem c.partFmt sat v.toNum
    some ((r.1 : Nat), flagIf r.2 flSaturated ||| nanFlag [v.toNum])

/-- The M rows of an operand in a cluster buffer, each of w elements, at the row stride of R453. -/
def Acc.rows (a : Acc) (b c off f w m : Nat) (ups : List Upset) : Acc × List (List Byte) :=
  a.gets b c 0 (rowLen f w) ups ((List.range m).map (fun i => cbOff c (off + i * rowStride f w)))

/-- Elements contributed to a collective by BSE i of cluster c (R452): `first` is the element of the instance at which they begin, `fl` the flags of
their computation, and `gate` the rank and the gate weight of an expert's row, by which a sum's elements are multiplied (R104). -/
def Acc.send (a : Acc) (p : Part) (d : Desc) (c i first : Nat) (vs : List El) (fl : Nat) (gate : Option (Nat × Nat)) : Acc :=
  match a.s.img.coll? d.collId with
  | none => a
  | some k =>
    let x := a.s.openInst d.collId p.wo.stream p.wo.seq a.s.mapGen
    let ws := if k.op = 0 then gate.elim vs (fun g => vs.map (El.gated g.2)) else vs
    let cs := (List.range ws.length).map fun j => (ws.getD j (.num Num.zero)).toColl k x (first + j) d.sat
    if cs.any (·.isNone) then { a.raise fl with err := some (5, c, i) }
    else
      let f := fl ||| orAll (cs.map (·.elim 0 (·.2)))
      let y : Contrib := { cluster := c, off := first, vals := cs.filterMap (·.map (·.1)), flags := f, moeRank := gate.elim 0 (·.1) }
      { a.raise f with pieces := a.pieces ++ [y] }

/-- What becomes of row m of an operation whose rows come from a receive area (R103, R104): none where the row is absent and not computed, and else the
rank and gate weight of a dispatched row. -/
def Acc.rowFate (a : Acc) (b : Nat) (area : Option MoeArea) (m : Nat) : Option (Option (Nat × Nat)) :=
  match area with
  | none => some none
  | some x => if a.s.moeHas b x m then some ((x.rows.find? (·.1 == m)).map (·.2)) else none

/-- A row that an expert does not compute: its cluster contributes no elements for it. -/
def Acc.skip (a : Acc) (c first : Nat) : Acc := { a with pieces := a.pieces ++ [{ cluster := c, off := first, vals := [] }] }

/-- The bytes of one output row in a format, ESF included, and the flags of its conversion (R63, R64, R71). -/
def outBytes (f : Nat) (sat : Bool) (vs : List El) : List Byte × Nat :=
  if f = 11 then
    (vs.flatMap (fun v => match v with | .esf i _ => esfBytes i | .num _ => zeros 16), 0)
  else
    let r := writeRow f sat (vs.map (·.toNum))
    (r.1, r.2 ||| nanFlag (vs.map (·.toNum)))

/-- Where a cluster-level operation writes (R452): the cluster's buffer, or the region of its lowest selected BSE. -/
def Desc.clusterOut (d : Desc) (c off : Nat) : Nat :=
  if d.space = 0 then cbOff c (d.outOff + off) else bseOff (bseNum c d.lowBse) (d.outOff + off)

/-- Output rows of a cluster-level operation, each of w elements, with the flags of their computation, written at the row stride of R453 or sent to the
collective. R453 does not say where an ATTN with OUT_SPACE 1 writes: in the region of the cluster's lowest selected BSE, as the operations that R452
lists do (DESIGN CHOICE, log entry 168). -/
def Acc.emitRows (a : Acc) (p : Part) (b : Nat) (d : Desc) (c w : Nat) (rows : List (List El × Nat)) (ups : List Upset) : Acc :=
  let area := a.s.moeArea? b c (a.s.runChain b p.wo)
  (List.range rows.length).foldl (fun (a : Acc) m => a.andThen fun a =>
    let row := rows.getD m ([], 0)
    match a.rowFate b area m with
    | none => if d.space = 2 then a.skip c (d.outOff + m * w) else a
    | some gate =>
      let a1 := a.raise row.2
      if d.space = 2 then a1.send p d c 0 (d.outOff + m * w) row.1 row.2 gate
      else if d.space ≤ 1 then
        let r := outBytes d.fmtOut d.sat row.1
        (a1.raise r.2).write b c (if d.space = 1 then d.lowBse else 0) (d.clusterOut c (m * rowStride d.fmtOut w)) (fit (rowStride d.fmtOut w) r.1) ups
      else a1) a

/-- A cluster-level operation that maps each row of operand A, in FMT_A at A_OFF, to an output row (R452): `g` takes the cluster, the row
number and the row's values, and gives the elements and flags. -/
def mapRows (p : Part) (b : Nat) (d : Desc) (wIn wOut m : Nat) (ups : List Upset) (g : Nat → List Num → List El × Nat) (s : State) : Acc :=
  d.clusters.foldl (fun (a : Acc) c =>
    let r := a.rows b c d.aOff d.fmtA wIn m ups
    r.1.andThen fun a =>
      a.emitRows p b d c wOut ((List.range m).map (fun i => g i (readRow d.fmtA wIn (r.2.getD i [])).values)) ups) { s := s }

/-- The same with a second operand in FMT_B at B_OFF, of rows as wide (R75). -/
def mapRows2 (p : Part) (b : Nat) (d : Desc) (w m : Nat) (ups : List Upset) (g : Nat → List Num → List Num → List El × Nat) (s : State) : Acc :=
  d.clusters.foldl (fun (a : Acc) c =>
    let r := a.rows b c d.aOff d.fmtA w m ups
    let q := r.1.rows b c d.bOff d.fmtB w m ups
    q.1.andThen fun a =>
      a.emitRows p b d c w ((List.range m).map (fun i => g i (readRow d.fmtA w (r.2.getD i [])).values (readRow d.fmtB w (q.2.getD i [])).values)) ups) { s := s }

/-- Numbers as output elements. -/
def nums (vs : List Num) : List El := vs.map .num

/-- Softmax of a row (R73, R75): exponentials of the differences from the maximum, divided by their sum. R73 gives the arithmetic; the
composition is DEDUCED (log entry 25). -/
def softmaxRow (exact : Bool) (vs : List Num) : List Num × Nat :=
  let mx := vs.foldl (fun m v => if m.lt v then v else m) ((vs.find? (fun v => !v.isNan)).getD .nan)
  let es := vs.map (fun v => vexp (fsub v mx))
  let t := vectorSum exact es
  (es.map (fun e => fdiv e t.1), t.2 ||| nanFlag es)

/-- SOFTMAX (R75). -/
def softmaxOp (b : Fin 8) (ups : List Upset) (p : Part) (d : Desc) (_ : RunSt) (t : State) : Acc :=
  mapRows p b.val d d.k d.k d.m ups (fun _ vs => let r := softmaxRow d.exact vs; (nums r.1, r.2)) t
def execOpSoftmax (b : Fin 8) (run : Nat) (ups : List Upset) (s : State) : Host.Outcome State Fault Refusal :=
  .next (s.runOp b.val run 3 (softmaxOp b ups))

/-- Normalisation of a row (R73, R75): RMS, or layer normalisation, which subtracts the mean first; then the gain. -/
def normRow (exact layer : Bool) (eps : Num) (gain vs : List Num) : List Num × Nat :=
  let n := Num.ofInt (vs.length : Nat) 0
  let mean := vectorSum exact vs
  let ds := if layer then vs.map (fun v => fsub v (fdiv mean.1 n)) else vs
  let sq := vectorSum exact (ds.map (fun v => fmul v v))
  let r := vrsqrt (fadd (fdiv sq.1 n) eps)
  ((ds.zip gain).map (fun q => fmul (fmul q.1 r) q.2), sq.2 ||| (if layer then mean.2 else 0))

/-- NORM (R75): gain at A_OFF in FMT_A, rows at B_OFF in FMT_B. -/
def normOp (b : Fin 8) (ups : List Upset) (p : Part) (d : Desc) (_ : RunSt) (t : State) : Acc :=
  d.clusters.foldl (fun (a : Acc) c =>
    let g := a.get b.val c 0 (cbOff c d.aOff) (rowLen d.fmtA d.k) ups
    let q := g.1.rows b.val c d.bOff d.fmtB d.k d.m ups
    q.1.andThen fun a =>
      let gain := (readRow d.fmtA d.k g.2).values
      a.emitRows p b.val d c d.k (q.2.map fun l =>
        let o := normRow d.exact (bit d.aux0 0) (ofF32 d.aux1) gain (readRow d.fmtB d.k l).values
        (nums o.1, o.2)) ups) { s := t }
def execOpNorm (b : Fin 8) (run : Nat) (ups : List Upset) (s : State) : Host.Outcome State Fault Refusal :=
  .next (s.runOp b.val run 4 (normOp b ups))

/-- The FP32 code of a value. -/
def toF32 (x : Num) : Nat := (encodeElem 10 false x).1

/-- A ROPE row (R75): the dimensions that are not rotated are carried over; the value of a rotated one is not stated, and is a free function of the base,
the position and the head's elements, NaN where its own element is NaN (R62). -/
def ropeRow (base pos heads k rot : Nat) (vs : List Num) : List Num :=
  (List.range heads).flatMap fun h =>
    let head := (vs.drop (h * k)).take k
    (List.range k).map fun i =>
      let x := head.getD i .nan
      if i < rot ∧ !x.isNan then ofF32 (Config.rope base pos rot (head.map toF32) i % 2 ^ 32) else x

/-- ROPE (R75): M rows of N heads of K elements; row m is for position POS + m. -/
def ropeOp (b : Fin 8) (ups : List Upset) (p : Part) (d : Desc) (_ : RunSt) (t : State) : Acc :=
  mapRows p b.val d (d.n * d.k) (d.n * d.k) d.m ups (fun m vs => (nums (ropeRow d.aux1 (p.wo.pos + m) d.n d.k d.aux0 vs), 0)) t
def execOpRope (b : Fin 8) (run : Nat) (ups : List Upset) (s : State) : Host.Outcome State Fault Refusal :=
  .next (s.runOp b.val run 5 (ropeOp b ups))

/-- SiLU (R75): x times sigmoid(x). -/
def silu (x : Num) : Num := fmul x (vsigmoid x)

/-- GELU, tanh form (R75): a free function of its input; NaN gives NaN (R62). -/
def geluOf (x : Num) : Num := if x.isNan then .nan else ofF32 (Config.gelu (toF32 x) % 2 ^ 32)

/-- ELTWISE (R75): add, multiply, SiLU, GELU, whose rounding order the manual does not state and whose values are free, or gated SiLU. -/
def eltwiseOp (b : Fin 8) (ups : List Upset) (p : Part) (d : Desc) (_ : RunSt) (t : State) : Acc :=
  match d.aux0 with
  | 0 => mapRows2 p b.val d d.k d.m ups (fun _ x y => (nums ((x.zip y).map (fun q => fadd q.1 q.2)), 0)) t
  | 1 => mapRows2 p b.val d d.k d.m ups (fun _ x y => (nums ((x.zip y).map (fun q => fmul q.1 q.2)), 0)) t
  | 2 => mapRows p b.val d d.k d.k d.m ups (fun _ x => (nums (x.map silu), 0)) t
  | 3 => mapRows p b.val d d.k d.k d.m ups (fun _ x => (nums (x.map geluOf), 0)) t
  | _ => mapRows2 p b.val d d.k d.m ups (fun _ x y => (nums ((x.zip y).map (fun q => fmul (silu q.1) q.2)), 0)) t
def execOpEltwise (b : Fin 8) (run : Nat) (ups : List Upset) (s : State) : Host.Outcome State Fault Refusal :=
  .next (s.runOp b.val run 6 (eltwiseOp b ups))

/-- The values of a QUANT input row (R453): an ESF row takes the anchors at ANCHOR_ARG. -/
def quantIn (f k : Nat) (l anchors : List Byte) : List Num :=
  if f = 11 then (List.range k).map (fun i => esfNum (esfInt (l.drop (16 * i))) (signed 16 (leAt anchors (2 * i) 2)))
  else (readRow f k l).values

/-- A QUANT output row in ESF (R453): each block of 32 takes the LOCAL anchor of its values, which enter by R67. -/
def quantEsf (vs : List Num) : List El × Nat :=
  let bs := (blocks32 vs (nblk vs.length)).map fun blk =>
    let a := localAnchor (topExp blk)
    let es := blk.map (fun v => esfSum [v] a)
    (es.map (fun e => El.esf e.1 a), orAll (es.map (·.2)))
  (bs.flatMap (·.1), orAll (bs.map (·.2)))

/-- The anchor of an ESF element. -/
def El.anchor : El → Int
  | .num _ => 0
  | .esf _ a => a

/-- QUANT (R453). -/
def quantOp (b : Fin 8) (ups : List Upset) (p : Part) (d : Desc) (_ : RunSt) (t : State) : Acc :=
  d.clusters.foldl (fun (a : Acc) c =>
    let r := a.rows b.val c d.aOff d.fmtA d.k d.m ups
    let h := if d.fmtA = 11 then r.1.gets b.val c 0 (2 * d.k) ups ((List.range d.m).map (fun m => cbOff c (d.anchorArg + 2 * m * d.k))) else (r.1, [])
    h.1.andThen fun a =>
      let vals := (List.range d.m).map (fun m => quantIn d.fmtA d.k (r.2.getD m []) (h.2.getD m []))
      let esf := d.fmtOut == 11
      let outs := vals.map (fun vs => if esf then quantEsf vs else (nums vs, 0))
      let a1 := a.emitRows p b.val d c d.k outs ups
      if esf ∧ d.space ≤ 2 then
        (List.range d.m).foldl (fun (a : Acc) m =>
          a.write b.val c 0 (cbOff c (d.anchorArg + 2 * m * d.k)) (((outs.getD m ([], 0)).1).flatMap (fun v => i16 v.anchor)) ups) a1
      else a1) { s := t }
def execOpQuant (b : Fin 8) (run : Nat) (ups : List Upset) (s : State) : Host.Outcome State Fault Refusal :=
  .next (s.runOp b.val run 7 (quantOp b ups))

/-- The gate weights of the selected logits (R75, R101): softmax over them, or sigmoids divided by their sum. The ascending index of R73's Ordered sum
is taken as the rank r at which a selected expert stands, not as its expert number (DESIGN CHOICE, log entry 169). -/
def gateWeights (exact sig : Bool) (zs : List Num) : List Num × Nat :=
  if sig then
    let ss := zs.map vsigmoid
    let t := vectorSum exact ss
    (ss.map (fun x => fdiv x t.1), t.2 ||| nanFlag ss)
  else softmaxRow exact zs

/-- MOE_GATE (R101): top-k pairs of expert number and FP32 weight in the order of R74. To a collective each pair goes as two elements, the expert
number as a number and the weight (DESIGN CHOICE, log entry 171). -/
def moeGateOp (b : Fin 8) (ups : List Upset) (p : Part) (d : Desc) (_ : RunSt) (t : State) : Acc :=
  let topk := d.aux0 % 64
  let width := alignUp (8 * topk) 64
  d.clusters.foldl (fun (a : Acc) c =>
    let r := a.rows b.val c d.aOff d.fmtA d.k d.m ups
    r.1.andThen fun a =>
      (List.range d.m).foldl (fun (a : Acc) m =>
        let vs := (readRow d.fmtA d.k (r.2.getD m [])).values
        let top := (rankAll vs).take topk
        let w := gateWeights d.exact (bit d.aux0 8) (top.map (·.2))
        let bytes := (top.zip w.1).flatMap (fun q => le 4 q.1.1 ++ le 4 (encodeElem 10 false q.2).1)
        let fl := w.2 ||| nanFlag vs ||| nanFlag w.1
        let a1 := a.raise fl
        if d.space = 2 then
          a1.send p d c 0 (d.outOff + m * 2 * topk) ((top.zip w.1).flatMap (fun q => [.num (Num.ofInt (q.1.1 : Nat) 0), .num q.2])) fl none
        else if d.space ≤ 1 then a1.write b.val c (if d.space = 1 then d.lowBse else 0) (d.clusterOut c (m * width)) (fit width bytes) ups else a1) a) { s := t }
def execOpMoeGate (b : Fin 8) (run : Nat) (ups : List Upset) (s : State) : Host.Outcome State Fault Refusal :=
  .next (s.runOp b.val run 8 (moeGateOp b ups))

/-- MOE_DISPATCH_RECEIVE (R103). A row for a Bell that cannot take it is turned away, and its sender sends it again (R34). -/
def execMoeDispatchReceive (row : MoeRow) (s : State) : Host.Outcome State Fault Refusal :=
  .next (s.live fun s => if s.bellRuns row.bell.val ∧ s.moeOpen row.bell.val then s.placeMoe row else s)

/-- A row that Bell b dispatches to Bell `x.bell` of this device: placed, or kept until that Bell's crossing is armed; a Bell that is retired takes
none (R34). -/
def State.moeLocal (s : State) (b : Nat) (x : MoeRow) : State :=
  if x.bell.val = b ∨ s.moeOpen x.bell.val then s.placeMoe x
  else if (s.bell x.bell.val).retired then s
  else s.onBell x.bell.val fun y => { y with moeWait := y.moeWait ++ [x] }

/-- MOE_DISPATCH (R102): each token row goes to the owner of each of its experts, by the table at COLL_ID; the gate rows of MOE_GATE stand
at B_OFF. -/
def moeDispatchOp (b : Fin 8) (ups : List Upset) (_ : Part) (d : Desc) (_ : RunSt) (t : State) : Acc :=
  let topk := d.aux0 % 64
  d.clusters.foldl (fun (a : Acc) c =>
    let r := a.rows b.val c d.aOff d.fmtA d.k d.m ups
    let g := r.1.gets b.val c 0 (8 * topk) ups ((List.range d.m).map (fun m => cbOff c (d.bOff + m * alignUp (8 * topk) 64)))
    (List.range d.m).foldl (fun (a : Acc) j => (List.range topk).foldl (fun (a : Acc) rk =>
      let gate := g.2.getD j []
      let e := a.get b.val c 0 (cbOff c (d.collId + 16 * leAt gate (8 * rk) 4)) 16 ups
      e.1.andThen fun a =>
        let who := leAt e.2 0 4
        let row := moeRowOf e.2 j rk gate (r.2.getD j [])
        if who % 2 ^ 20 = a.s.node then { a with s := a.s.moeLocal b.val row }
        else { a with s := a.s.emit (.moe (who % 2 ^ 20) (bits who 24 20) row) }) a) g.1) { s := t }
def execOpMoeDispatch (b : Fin 8) (run : Nat) (ups : List Upset) (s : State) : Host.Outcome State Fault Refusal :=
  .next (s.runOp b.val run 9 (moeDispatchOp b ups))

/-- The counter block of a draw (R105). -/
def sampleBlock (stream pos : Nat) (spec : Bool) (branch : Nat) : List Byte :=
  le 4 stream ++ le 4 pos ++ le 1 (if spec then branch else 0xFF) ++ zeros 7

/-- U of a draw (R105). -/
def drawU (w : WorkOrder) (pos : Nat) : Nat := leAt (aes128 (fit 16 w.seed) (sampleBlock w.stream pos w.spec w.branch)) 0 3

/-- Running sums of the weights (R106): ESF integers at anchor 1 in Exact mode, or FP32 in rank order. -/
def cumEsf (ws : List Num) : List Int :=
  (ws.foldl (fun (a : Int × List Int) w => let x := a.1 + ((esfTerm w 1).elim 0 (·.1)); (x, a.2 ++ [x])) (0, [])).2
def cumF32 (ws : List Num) : List Num :=
  (ws.foldl (fun (a : Num × List Num) w => let x := fadd a.1 w; (x, a.2 ++ [x])) (Num.zero, [])).2

/-- TOP_P as an exact integer over 2^k: its significand and the power of two. -/
def fracOf : Num → Nat × Nat
  | .fin _ m e => if 0 ≤ e then (m * 2 ^ e.toNat, 0) else (m, (-e).toNat)
  | _ => (0, 0)

/-- The draw of R106 from ranked logits, kept ones only: the position among them. -/
def drawIndex (exact : Bool) (topP : Nat) (u : Nat) (ws : List Num) : Nat :=
  let last := ws.length - 1
  if exact then
    let cs := cumEsf ws
    let kept := cs.getD last 0
    let f := fracOf (ofF32 topP)
    let n := if topP < 0x3F800000 then (cs.findIdx? (fun c => decide ((f.1 : Int) * kept ≤ c * (2 ^ f.2 : Nat)))).getD last else last
    (cs.findIdx? (fun c => decide ((u : Int) * cs.getD n 0 < c * (2 ^ 24 : Nat)))).getD n
  else
    let cs := cumF32 ws
    let kept := cs.getD last Num.zero
    let n := if topP < 0x3F800000 then (cs.findIdx? (fun c => !c.lt (fmul (ofF32 topP) kept))).getD last else last
    let bar := fmul (.fin false u (-24)) (cs.getD n Num.zero)
    (cs.findIdx? (fun c => bar.lt c)).getD n

/-- The token drawn from a row of logits (R106), and the flags of its weights. -/
def sampleRow (exact : Bool) (w : WorkOrder) (pos : Nat) (zs : List Num) : Nat × Nat :=
  let zs := zs.map f32
  let ranked := rankAll zs
  let fl := nanFlag zs
  match ranked with
  | [] => (0, fl)
  | (i0, z0) :: _ =>
    if w.temp % 2 ^ 31 = 0 ∨ !z0.isFin then (i0, fl)
    else
      let kept := if w.topK = 0 then ranked else ranked.take w.topK
      let ws := kept.map (fun q => if q.2.isNan then Num.zero else vexp (fdiv (fsub q.2 z0) (ofF32 w.temp)))
      let ix := flagIf (exact && ws.any (fun x => (esfTerm x 1).elim false (·.2))) flInexact
      ((kept.getD (drawIndex exact w.topP (drawU w pos) ws) (i0, z0)).1, fl ||| ix)

/-- SAMPLE (R105, R106): row i draws the token of position POS + i + 1. The tokens of the first selected cluster are reported. To a collective each goes
as one element, the token as a number (DESIGN CHOICE, log entry 171). -/
def sampleOp (b : Fin 8) (ups : List Upset) (p : Part) (d : Desc) (_ : RunSt) (t : State) : Acc :=
  d.clusters.foldl (fun (a : Acc) c =>
    let r := a.rows b.val c d.aOff d.fmtA d.k d.m ups
    r.1.andThen fun a =>
      let outs := (List.range d.m).map (fun i => sampleRow d.exact p.wo (p.wo.pos + i + 1) (readRow d.fmtA d.k (r.2.getD i [])).values)
      let fl := orAll (outs.map (·.2))
      let a1 := { a.raise fl with toks := if a.toks.isEmpty then outs.map (·.1) else a.toks }
      if d.space = 2 then a1.send p d c 0 d.outOff (outs.map fun o => .num (Num.ofInt (o.1 : Nat) 0)) fl none
      else if d.space ≤ 1 then
        a1.write b.val c (if d.space = 1 then d.lowBse else 0) (d.clusterOut c 0) (outs.flatMap (fun o => le 4 o.1)) ups
      else a1) { s := t }
def execOpSample (b : Fin 8) (run : Nat) (ups : List Upset) (s : State) : Host.Outcome State Fault Refusal :=
  .next (s.runOp b.val run 0x0A (sampleOp b ups))

/-- The elements that one BSE of a MATMUL computes for row m of B (R65 to R70): the anchor of element n of that row is `anchor n`. -/
def matmulRow (d : Desc) (arows : List Row) (brow : Row) (anchor : Nat → Int) : List (Option (El × Nat)) :=
  (List.range d.n).map fun n =>
    let ar := arows.getD n ⟨[], []⟩
    if d.exact then
      let a := if d.anchorSrc = 0 then localAnchor (rowExp d.fmtA d.fmtB ar brow) else anchor n
      (exactDot d.fmtA d.fmtB ar brow a (d.anchorSrc != 0)).map (fun q => (El.esf q.1 a, q.2))
    else some (El.num (orderedDot ar brow), 0)

/-- The first byte of the block of the r-th selected BSE (R76). -/
def Desc.blockOff (d : Desc) (c i off : Nat) : Nat :=
  if d.space = 0 then cbOff c (d.outOff + off) else bseOff (bseNum c i) (d.outOff + off)

/-- Operand rows read by BSE i of cluster c (R70): an Exact operation with LOCAL anchors reads an MX row's scale bytes before its elements, and another
operand twice. -/
def Acc.operand (a : Acc) (ahead : Bool) (b c i f k : Nat) (ups : List Upset) (offs : List Nat) : Acc × List (List Byte) :=
  if !ahead then a.gets b c i (rowLen f k) ups offs
  else if isMx f then
    offs.foldl (fun (p : Acc × List (List Byte)) o =>
      let s := p.1.get b c i (o + dataLen f k) (nblk k) ups
      let e := s.1.get b c i o (dataLen f k) ups
      (e.1, p.2 ++ [e.2 ++ s.2])) (a, [])
  else (a.gets b c i (rowLen f k) ups offs).1.gets b c i (rowLen f k) ups offs

/-- MATMUL (R76): the blocks of the selected BSEs in the order of R452. -/
def matmulOp (b : Fin 8) (ups : List Upset) (p : Part) (d : Desc) (_ : RunSt) (t : State) : Acc :=
  (List.range d.sel.length).foldl (fun (a : Acc) r =>
    let ci := d.sel.getD r (0, 0)
    let c := ci.1
    let i := ci.2
    let loc := d.exact && d.anchorSrc == 0
    let area := a.s.moeArea? b.val c (a.s.runChain b.val p.wo)
    let q := a.operand loc b.val c 0 d.fmtB d.k ups ((List.range d.m).map (fun m => cbOff c (d.bOff + m * rowStride d.fmtB d.k)))
    let w := q.1.operand loc b.val c i d.fmtA d.k ups ((List.range d.n).map (fun n => bseOff (bseNum c i) (d.aOff + n * d.aStride)))
    let elem (m n : Nat) : Nat := r * d.n * d.m + m * d.n + n
    let g := if d.exact ∧ d.anchorSrc = 1 then
        w.1.get b.val c i (cbOff c (d.anchorArg + 2 * ((if d.space = 2 then d.outOff else 0) + elem 0 0))) (2 * d.n * d.m) ups
      else (w.1, [])
    g.1.andThen fun a =>
      let arows := w.2.map (readRow d.fmtA d.k)
      (List.range d.m).foldl (fun (a : Acc) m => a.andThen fun a => match a.rowFate b.val area m with
        | none => if d.space = 2 then a.skip c (d.outOff + elem m 0) else a
        | some gate =>
          let anchor (n : Nat) : Int := if d.anchorSrc = 2 then signed 16 d.anchorArg else signed 16 (leAt g.2 (2 * (m * d.n + n)) 2)
          let els := matmulRow d arows (readRow d.fmtB d.k (q.2.getD m [])) anchor
          if els.any (·.isNone) then { a with err := some (5, c, i) }
          else
            let vs := els.filterMap id
            let fl := orAll (vs.map (·.2))
            let a1 := a.raise fl
            let row := vs.map (·.1)
            let a2 :=
              if d.space = 2 then a1.send p d c i (d.outOff + elem m 0) row fl gate
              else if d.space ≤ 1 then
                let o := outBytes d.fmtOut d.sat row
                (a1.raise o.2).write b.val c i (d.blockOff c i ((r * d.m + m) * d.outRow)) (fit d.outRow o.1) ups
              else a1
            if loc ∧ d.fmtOut = 11 ∧ d.space ≤ 2 then
              a2.write b.val c i (cbOff c (d.anchorArg + 2 * elem m 0)) (row.flatMap (fun v => i16 v.anchor)) ups
            else a2) a) { s := t }
def execOpMatmul (b : Fin 8) (run : Nat) (ups : List Upset) (s : State) : Host.Outcome State Fault Refusal :=
  .next (s.runOp b.val run 1 (matmulOp b ups))

/-- The part of an operand row that a block exponent depends on (R69): an MX row's scale bytes, and the whole of another row. -/
def scaleSpan (f k : Nat) : Nat × Nat := if isMx f then (dataLen f k, nblk k) else (0, rowLen f k)

/-- A row of which only that part has been read. -/
def scaleRow (f k : Nat) (l : List Byte) : Row :=
  if isMx f then ⟨[], (List.range (nblk k)).map (fun i => leAt l i 1)⟩ else readRow f k l

/-- EXPMAX (R75): the largest Eb plus 1 of each output element of a MATMUL shape; −32,768 where there is none (R126). -/
def expmaxOp (b : Fin 8) (ups : List Upset) (p : Part) (d : Desc) (_ : RunSt) (t : State) : Acc :=
  (List.range d.sel.length).foldl (fun (a : Acc) r =>
    let ci := d.sel.getD r (0, 0)
    let c := ci.1
    let i := ci.2
    let sb := scaleSpan d.fmtB d.k
    let sa := scaleSpan d.fmtA d.k
    let q := a.gets b.val c 0 sb.2 ups ((List.range d.m).map (fun m => cbOff c (d.bOff + m * rowStride d.fmtB d.k + sb.1)))
    let w := q.1.gets b.val c i sa.2 ups ((List.range d.n).map (fun n => bseOff (bseNum c i) (d.aOff + n * d.aStride + sa.1)))
    w.1.andThen fun a =>
      let arows := w.2.map (scaleRow d.fmtA d.k)
      let area := a.s.moeArea? b.val c (a.s.runChain b.val p.wo)
      (List.range d.m).foldl (fun (a : Acc) m =>
        let first := d.outOff + r * d.n * d.m + m * d.n
        if (a.rowFate b.val area m).isNone then (if d.space = 2 then a.skip c first else a)
        else
          let brow := scaleRow d.fmtB d.k (q.2.getD m [])
          let vs := arows.map (fun ar => (rowExp d.fmtA d.fmtB ar brow).elim noExp (· + 1))
          if d.space = 2 then { a with pieces := a.pieces ++ [{ cluster := c, off := first, vals := vs }] }
          else if 1 < d.space then a
          else a.write b.val c i (d.blockOff c i ((r * d.m + m) * d.outRow)) (vs.flatMap i16) ups) a) { s := t }
def execOpExpmax (b : Fin 8) (run : Nat) (ups : List Upset) (s : State) : Host.Outcome State Fault Refusal :=
  .next (s.runOp b.val run 0x0D (expmaxOp b ups))

/-- The key and value rows that an ATTN reads for head h of BSE i of its pool (R99): committed positions by the page table, and
speculative ones in the slab. `extra` counts the positions that the run itself has appended. -/
def State.attnRows (s : State) (b c i h : Nat) (d : Desc) (p : Pool) (spec : Bool) (extra : Nat) (st : Stream) (slab : Nat) : List (Nat × Nat) :=
  let tab := cbOff c d.collId
  let l := s.memNum b tab 4
  let nv := s.memNum b (tab + 4) 1
  let n := p.headDim * p.elem
  let bse := bseNum c i
  let paged (t page : Nat) : List (Nat × Nat) :=
    [false, true].map (fun v => (bseOff bse (p.rowAt 64 (p.pageOff page) h (t % 64) v), n))
  let slabbed (t : Nat) : List (Nat × Nat) := [false, true].map (fun v => (bseOff bse (p.rowAt 32 (s.slabOff p bse slab) h t v), n))
  ((List.range (min l (64 * d.k))).flatMap (fun t => paged t (s.memNum b (tab + 16 + 4 * (t / 64)) 3)))
    ++ (List.range (if spec then nv + extra else 0)).flatMap slabbed
    ++ (if spec then [] else (List.range extra).flatMap (fun t => (((st.pagesIn b p.pool)[(l + t) / 64]?).map (fun q => paged (l + t) q)).getD []))

/-- One query head of an ATTN (R75): `q` are its codes and `kv` the key and value rows, alternating, that the run sees, of which the first `certain`
positions are those of R99's table. The scale of the scores, the causal limit among the query tokens and the order of rounding are not stated, so
an element is a free function of these, and so is INEXACT; NaN in the query, in a key or in the element's value gives NaN (R62). -/
def attnHead (d : Desc) (dim m certain : Nat) (q : List Nat) (kv : List (List Nat)) : List El × Nat :=
  let nan (f : Nat) (l : List Nat) : Bool := l.any fun c => (decodeElem f c).isNan
  let key := (List.range certain).any fun t => nan d.fmtA (kv.getD (2 * t) [])
  let outs := (List.range dim).map fun i =>
    if nan d.fmtB q || key || (List.range certain).any (fun t => nan d.fmtA (((kv.getD (2 * t + 1) []).drop i).take 1)) then Num.nan
    else ofF32 (Config.attn d.exact d.fmtA d.fmtB m q kv i % 2 ^ 32)
  (nums outs, nanFlag outs ||| flagIf (d.exact && (List.range dim).any fun i => Config.attnInexact d.fmtA d.fmtB m q kv i) flInexact)

/-- ATTN (R75, R99, R110, R453): queries, and the keys and values visible to the run, are read, in Exact mode each key twice; the output rows hold H × G
heads. -/
def attnOp (b : Fin 8) (ups : List Upset) (p : Part) (d : Desc) (r : RunSt) (t : State) : Acc :=
  match t.poolFor b.val d, t.stream? p.wo.stream with
  | some q, some st =>
    let w := d.attnRow q
    let n := q.headDim * q.elem
    let g := bits d.aux0 7 4 + 1
    let extra := if r.appended.contains d.poolNum then p.wo.ntok else 0
    let slab := (st.slabIn p.wo.branch b.val d.poolNum).getD 0
    d.clusters.foldl (fun (a : Acc) c =>
      let tab := cbOff c d.collId
      let certain := min (t.memNum b.val tab 4) (64 * d.k) + (if p.wo.spec then t.memNum b.val (tab + 4) 1 else 0)
      let tb := a.get b.val c 0 tab 16 ups
      let qs := tb.1.rows b.val c d.bOff d.fmtB w d.m ups
      let heads := d.bses.flatMap (fun i => (List.range q.heads).map (fun h => (i, (t.attnRows b.val c i h d q p.wo.spec extra st slab).map (·.1))))
      let keys (l : List Nat) : List Nat := (List.range (l.length / 2)).map fun j => l.getD (2 * j) 0
      let once := if d.exact then heads.foldl (fun (a : Acc) x => (a.gets b.val c x.1 n ups (keys x.2)).1) qs.1 else qs.1
      let kv := heads.foldl (fun (y : Acc × List (List (List Nat))) x =>
        let got := y.1.gets b.val c x.1 n ups x.2
        (got.1, y.2 ++ [got.2.map (unpackCodes d.fmtA q.headDim)])) (once, [])
      kv.1.andThen fun a =>
        a.emitRows p b.val d c w ((List.range d.m).map fun m =>
          let codes := unpackCodes d.fmtB w (qs.2.getD m [])
          let hs := (List.range (heads.length * g)).map fun j =>
            attnHead d q.headDim m certain ((codes.drop (j * q.headDim)).take q.headDim) (kv.2.getD (j / g) [])
          (hs.flatMap (·.1), orAll (hs.map (·.2)))) ups) { s := t }
  | _, _ => { s := t }
def execOpAttn (b : Fin 8) (run : Nat) (ups : List Upset) (s : State) : Host.Outcome State Fault Refusal :=
  .next (s.runOp b.val run 2 (attnOp b ups))

/-- KV_APPEND (R97, R109, R453): keys and values of M tokens from POS on, into committed pages, or into the branch's slab with
OUT_SPACE 3. Each committed position of a mirrored pool goes to the buddy (R100). -/
def kvAppendOp (b : Fin 8) (ups : List Upset) (p : Part) (d : Desc) (_ : RunSt) (t : State) : Acc :=
  match t.poolFor b.val d, t.stream? p.wo.stream with
  | some q, some st =>
    let n := q.headDim * q.elem
    let a1 := d.clusters.foldl (fun (a : Acc) c =>
      let r := a.rows b.val c d.aOff d.fmtA (d.kvRow q) d.m ups
      r.1.andThen fun a => (List.range d.m).foldl (fun (a : Acc) m =>
        let pos := p.wo.pos + m
        (List.range d.bses.length).foldl (fun (a : Acc) ri => (List.range q.heads).foldl (fun (a : Acc) h =>
          [false, true].foldl (fun (a : Acc) v =>
            let i := d.bses.getD ri 0
            let bytes := ((r.2.getD m []).drop ((2 * (ri * q.heads + h) + b2n v) * n)).take n
            let bse := bseNum c i
            let dst : Option Nat :=
              if d.space = 3 then (st.slabIn p.wo.branch b.val q.pool).map (fun sl => q.rowAt 32 (a.s.slabOff q bse sl) h (pos - st.l) v)
              else ((st.pagesIn b.val q.pool)[pos / 64]?).map (fun pg => q.rowAt 64 (q.pageOff pg) h (pos % 64) v)
            match dst with
            | some o => a.write b.val c i (bseOff bse o) bytes ups
            | none => a) a) a) a) a) { s := t }
    if q.mirrored ∧ d.space ≠ 3 then
      a1.andThen fun a => (List.range d.m).foldl (fun (a : Acc) m =>
        let pos := p.wo.pos + m
        match (st.pagesIn b.val q.pool)[pos / 64]? with
        | some pg => { a with s := a.s.mirrorRow p.wo.stream p.wo.seq q pos pg }
        | none => a) a
    else a1
  | _, _ => { s := t }
def execOpKvAppend (b : Fin 8) (run : Nat) (ups : List Upset) (s : State) : Host.Outcome State Fault Refusal :=
  .next (s.runOp b.val run 0x0B (kvAppendOp b ups))

/-- The copies of a STAGE (R454): cluster, BSE, position r, the local end, and the far end in OUT_SPACE 0 or 1. -/
def Desc.copies (d : Desc) : List (Nat × Nat × Nat × Nat × Nat) :=
  if bits d.aux0 2 1 = 0 then
    (List.range d.sel.length).map fun r =>
      let ci := d.sel.getD r (0, 0)
      (ci.1, ci.2, r, bseOff (bseNum ci.1 ci.2) d.aOff, if d.space = 0 then cbOff ci.1 d.outOff else bseOff (bseNum ci.1 ci.2) d.outOff)
  else
    (List.range d.clusters.length).map fun r =>
      let c := d.clusters.getD r 0
      (c, 0, r, cbOff c d.aOff, if d.space = 0 then cbOff c d.outOff else bseOff (bseNum c d.lowBse) d.outOff)

/-- A Fabric Address range of this device lies in a Vestibule extent (R94). -/
def State.fabricVest (s : State) (addr n : Nat) : Bool :=
  addr / 2 ^ 44 == s.node && decide (1 ≤ bits addr 43 39) && decide (bits addr 43 39 ≤ 8) && s.touchesVest (bits addr 43 39 - 1) (addr % 2 ^ 39) n

/-- The requests of one copy to or from a Fabric Address, in messages of at most 8,128 bytes written or 8,192 read. -/
def Acc.stageRemote (a : Acc) (p : Part) (b : Nat) (rev : Bool) (loc addr k : Nat) (bytes : List Byte) : Acc :=
  let st := p.wo.stream
  let sq := p.wo.seq
  let ask (o : Nat) (mt : Nat) (body : List Byte) : Msg :=
    { mtype := mt, dstNode := (addr + o) / 2 ^ 44, dstDie := bits (addr + o) 43 39, srcNode := a.s.node, srcDie := b + 1, body := body }
  if rev then
    { a with s := (cutAt k 8192).foldl (fun t o =>
        t.request (ask o 0x02 (le 8 (addr + o) ++ le 4 (min 8192 (k - o)) ++ zeros 4)) (.stageRead b st sq (loc + o))) a.s }
  else
    { a with s := (cutAt k 8128).foldl (fun t o =>
        t.request (ask o 0x04 (le 8 (addr + o) ++ le 4 (min 8128 (k - o)) ++ zeros 4 ++ (bytes.drop o).take 8128)) (.stageWrite b st sq (loc + o))) a.s }

/-- STAGE (R454, R94): the copies, in either direction; a range in the Vestibule ends the run with BAD_REF. -/
def stageOp (b : Fin 8) (ups : List Upset) (p : Part) (d : Desc) (_ : RunSt) (t : State) : Acc :=
  let rev := bit d.aux0 0
  let bad := d.copies.any fun x => t.touchesVest b.val x.2.2.2.1 d.k ||
    (if d.space = 4 then t.fabricVest (d.faddr + x.2.2.1 * d.k) d.k else t.touchesVest b.val x.2.2.2.2 d.k)
  if bad then { s := t, err := some (4, 0, 0) }
  else d.copies.foldl (fun (a : Acc) x =>
    let c := x.1
    let i := x.2.1
    let loc := x.2.2.2.1
    if d.space = 4 then
      if rev then a.andThen (fun a => a.stageRemote p b.val true loc (d.faddr + x.2.2.1 * d.k) d.k [])
      else
        let r := a.get b.val c i loc d.k ups
        r.1.andThen (fun a => a.stageRemote p b.val false loc (d.faddr + x.2.2.1 * d.k) d.k r.2)
    else
      let src := if rev then x.2.2.2.2 else loc
      let dst := if rev then loc else x.2.2.2.2
      let r := a.get b.val c i src d.k ups
      r.1.write b.val c i dst r.2 ups) { s := t }
def execOpStage (b : Fin 8) (run : Nat) (ups : List Upset) (s : State) : Host.Outcome State Fault Refusal :=
  .next (s.runOp b.val run 0x0C (stageOp b ups))

end Sys2Proof.Machine
end

