-- ==== Sys2Proof/Machine/Guy.lean ====
section
/-!
DEFINITION. The Guy line (R397 to R405, R411 to R413): vendor-defined register access, MCTP control, I3C addresses, PLDM sensors and events, and
SPDM. The bytes of DSP messages are given by their fields; the order of those fields in an answer is the model's.
-/

namespace Sys2Proof.Machine

open Sys2Proof

/-- The Guy line answers: the always-on domain is powered (R400, R442). -/
def State.guyUp (s : State) : Bool := s.pwr.aon

/-- REG_READ (R399): a refusal carries no data of the register: a free value. -/
def execGuyRegRead (addr : BitVec 32) (s : State) : Host.Outcome State Fault Refusal :=
  .next (if s.guyUp then
    let r := s.ctlRead .guy addr.toNat
    if r.1 = 0 then r.2.2.answer 1 0 (le 4 r.2.1)
    else
      let f := r.2.2.freshBytes 4
      f.2.answer 1 r.1 f.1
  else s)

/-- REG_WRITE (R399, R403), not served in ROM recovery (R409). -/
def execGuyRegWrite (addr data : BitVec 32) (s : State) : Host.Outcome State Fault Refusal :=
  .next (if s.guyUp && !s.recovery then
    let r := s.ctlWrite .guy false addr.toNat data.toNat
    r.2.answer 2 r.1 []
  else s)

/-- Words written in turn to one address up to the first refused one (R399): the status, how many were written, and the state. -/
def State.blockWrite (s : State) (a : Nat) : List (BitVec 32) → Nat → Nat × Nat × State
  | [], n => (0, n, s)
  | v :: t, n =>
    let r := s.ctlWrite .guy false a v.toNat
    if r.1 = 0 then r.2.blockWrite a t (n + 1) else (r.1, n, r.2)

/-- Words read in turn from one address up to the first refused one (R399). -/
def State.blockRead (s : State) (a : Nat) : Nat → List Byte → Nat × List Byte × State
  | 0, l => (0, l, s)
  | n + 1, l =>
    let r := s.ctlRead .guy a
    if r.1 = 0 then r.2.2.blockRead a n (l ++ le 4 r.2.1) else (r.1, l, r.2.2)

/-- BLOCK_WRITE (R399, R400): LENGTH for a count outside 1 to 256. -/
def execGuyBlockWrite (addr : BitVec 32) (words : List (BitVec 32)) (s : State) : Host.Outcome State Fault Refusal :=
  .next (if s.guyUp && !s.recovery then
    if words.length = 0 ∨ 256 < words.length then s.answer 3 9 (le 2 0)
    else
      let r := s.blockWrite addr.toNat words 0
      r.2.2.answer 3 r.1 (le 2 r.2.1)
  else s)

/-- BLOCK_READ (R399, R400). -/
def execGuyBlockRead (addr : BitVec 32) (n : Nat) (s : State) : Host.Outcome State Fault Refusal :=
  .next (if s.guyUp && !s.recovery then
    if n = 0 ∨ 256 < n then s.answer 4 9 []
    else
      let r := s.blockRead addr.toNat n []
      r.2.2.answer 4 r.1 r.2.1
  else s)

/-- The message types that the Gaeth accepts (R398). -/
def mctpTypes : List Nat := [0x00, 0x01, 0x05, 0x7E]

/-- The largest packet payload of the bus in use (R397). -/
def State.busMax (s : State) : Nat := if s.fld R.SEC_GUY_STAT F.SEC_GUY_STAT_BUS = 0 then 256 else 64

/-- MCTP_CONTROL (R397, R398): endpoint ID, versions and types; a packet from the bus owner; a type that is discarded. -/
def execMctpControl (req : MctpReq) (s : State) : Host.Outcome State Fault Refusal :=
  .next (if s.guyUp then
    match req with
    | .setEid eid =>
      if eid = 0 ∨ eid = 0xFF then s.guySend (le 1 0 ++ le 1 1 ++ le 1 2)
      else (s.setFld R.SEC_GUY_STAT F.SEC_GUY_STAT_EID eid.toNat).guySend (le 1 0 ++ le 1 1 ++ le 1 0 ++ le 1 eid.toNat)
    | .getEid => s.guySend (le 1 0 ++ le 1 2 ++ le 1 0 ++ le 1 (s.fld R.SEC_GUY_STAT F.SEC_GUY_STAT_EID))
    | .getVersion t =>
      if mctpTypes.contains t.toNat then s.guySend (le 1 0 ++ le 1 4 ++ le 1 0 ++ Config.mctpVersion t.toNat)
      else s.guySend (le 1 0 ++ le 1 4 ++ le 1 0x80)
    | .getMsgTypes => s.guySend (le 1 0 ++ le 1 5 ++ le 1 0 ++ le 1 4 ++ mctpTypes.flatMap (le 1))
    | .packet len =>
      if 64 ≤ len ∧ len ≤ s.busMax ∧ s.sec.maxPkt < len then { s with sec := { s.sec with maxPkt := len } } else s
    | .otherType _ => s
  else s)

/-- I3C_ADDRESS_ASSIGN (R397): ENTDAA, or SETDASA to the static address 0x58 + GADDR, on a target that has no dynamic address yet. -/
def execI3cAddressAssign (setdasa : Bool) (static dyn : BitVec 7) (s : State) : Host.Outcome State Fault Refusal :=
  .next (if s.guyUp && s.fld R.SEC_GUY_STAT F.SEC_GUY_STAT_DYN_ADDR == 0 && dyn != 0 && (!setdasa || static.toNat == 0x58 + s.pins.gaddr % 8) then
    (s.setFld R.SEC_GUY_STAT F.SEC_GUY_STAT_DYN_ADDR dyn.toNat).setFld R.SEC_GUY_STAT F.SEC_GUY_STAT_BUS 0
  else s)

/-- The hottest sensor of a die, if the die is read (R405, R348). -/
def State.dieHottest (s : State) (die : Nat) : Option Int :=
  if s.dieRead die then ((dieSensors die).filter fun i => !(s.sensor i).bad).foldl (fun m i => some (m.elim (s.temp i) fun v => max v (s.temp i))) none
  else none

/-- The ring pairs are ACTIVE in loopback (R420). -/
def State.readyForImage (s : State) : Bool :=
  !s.active && [0, 1, 16, 17].all fun p => s.fld (R.LNK_STAT p) F.LNK_STAT_STATE == 5

/-- The device-state sensor (R405), its states numbered as they are listed; of several that hold, the first of the order here. -/
def State.deviceState (s : State) : Nat :=
  if s.fld R.THM_LATCH F.THM_LATCH_VALID = 1 then 5
  else if s.fld R.CLK_STAT F.CLK_STAT_CLKLESS = 1 then 6
  else if s.inStrike then 4
  else if s.recovery then 0
  else if s.active then 3
  else if s.readyForImage then 2
  else 1

/-- A reading of sensor n of the PDR repository (R405): 1 to 17 temperatures in 0.25 °C, 18 to 20 the input in the units of PWR_IN and PWR_INPUT_P,
21 the device state and 22 the fault severity; none while its domain is off. -/
def State.pldmSensor (s : State) (n : Nat) : Option Int :=
  if 1 ≤ n ∧ n ≤ 17 then s.dieHottest (n - 1)
  else if n = 18 then some (s.fld R.PWR_IN F.PWR_IN_VIN)
  else if n = 19 then some (s.fld R.PWR_IN F.PWR_IN_IIN)
  else if n = 20 then (if s.dom 1 != 3 || s.dom 2 != 3 then some (s.fld R.PWR_INPUT_P F.PWR_INPUT_P_AVG) else none)
  else if n = 21 then some s.deviceState
  else if n = 22 then (if s.dom 3 != 3 then some s.maxSev else none)
  else none

/-- The record of a sensor: its number and kind (numeric 0, state 1). -/
def pdr (n : Nat) : Option (List Byte) := if 1 ≤ n ∧ n ≤ 22 then some (le 2 n ++ le 1 (if n ≤ 20 then 0 else 1)) else none

/-- A PLDM answer: type and command, the completion code, and the data. -/
def State.pldm (s : State) (type cmd code : Nat) (data : List Byte) : State := s.guySend (le 1 1 ++ le 1 type ++ le 1 cmd ++ le 1 code ++ data)

/-- A sensor's answer: operational with its reading, or unavailable (R404). -/
def State.sensorReply (s : State) (cmd n : Nat) (ok : Bool) : State :=
  if !ok then s.pldm 2 cmd 0x80 []
  else match s.pldmSensor n with
    | some v => s.pldm 2 cmd 0 (le 1 0 ++ le 4 (unsigned 32 v))
    | none => s.pldm 2 cmd 0 (le 1 2)

/-- The oldest unread management event is sent, with the number dropped before it (R405). -/
def State.pollEvent (s : State) : State :=
  match s.flt.events with
  | [] => s.pldm 2 0x0B 0 []
  | e :: t =>
    let s1 : State := { s with flt := { s.flt with events := t, dropped := 0 } }
    (s1.setFld R.SEC_GUY_STAT F.SEC_GUY_STAT_EVT_HELD t.length).pldm 2 0x0B 0 (le 2 e.1 ++ le 1 e.2 ++ le 4 s.flt.dropped)

/-- PLDM_PLATFORM (R405); in ROM recovery Type 0 alone is served (R409). -/
def execPldmPlatform (req : PldmReq) (s : State) : Host.Outcome State Fault Refusal :=
  .next (if s.guyUp then
    match req with
    | .getTid => s.pldm 0 2 0 [Config.pldmTid]
    | .getTypes => s.pldm 0 4 0 (if s.recovery then le 1 0 ++ le 1 5 else le 1 0 ++ le 1 2 ++ le 1 5)
    | .getPdr h => if s.recovery then s else (match pdr h with
      | some b => s.pldm 2 0x51 0 b
      | none => s.pldm 2 0x51 0x82 [])
    | .getSensorReading n => if s.recovery then s else s.sensorReply 0x11 n (decide (1 ≤ n) && decide (n ≤ 20))
    | .getStateSensor n => if s.recovery then s else s.sensorReply 0x21 n (n == 21 || n == 22)
    | .pollEvent => if s.recovery then s else s.pollEvent
  else s)

/-- The certificates of slot 0 (R412), the Alias certificate last. -/
def State.certSlot (s : State) : List Byte :=
  Config.certChain ++ Config.aliasCert (s.sec.running.elim [] fun b => s.fwBytes b 20 48) (s.sec.running.elim 0 s.fwSvn)
    (s.fld R.SEC_STAT F.SEC_STAT_UNLOCK == 1)

/-- The words that LIVE lists, as in force, in entry order (R413, R167). -/
def Store.liveBytes (st : Store) : List Byte :=
  st.liveWords.flatMap fun e => match st.find e.1 with
    | some x => st.slice (x.off + e.2) 4
    | none => []

/-- A measurement (R413). -/
def State.measurement (s : State) (i : Nat) : Option (List Byte) :=
  let word (a : Nat) : List Byte := le 4 (s.view true a)
  if i = 1 then some Config.romDigest
  else if i = 2 then some (match s.sec.running with
    | some b => s.fwBytes b 20 48 ++ le 4 (s.fwVersion b) ++ le 1 (s.fwSvn b)
    | none => zeros 53)
  else if i = 3 then some (word R.SEC_LEVEL ++ word R.SEC_BIND_LO ++ word R.SEC_BIND_HI ++ le 1 s.fuses.keyRev ++ word R.ID_CAP ++ word R.ID_REV)
  else if i = 4 then some (if s.active then
      sha384 (s.img.slice 0 (128 + 80 * s.img.sectCount)) ++ le 8 s.img.imageId ++ le 4 s.img.layoutGen ++ le 1 (s.fld R.PIT_LAYOUT F.PIT_LAYOUT_DELTA)
    else zeros 61)
  else if i = 5 then some (le 1 (s.fld R.SEC_STAT F.SEC_STAT_UNLOCK) ++ le 1 (b2n s.pins.testMode))
  else if i = 6 then some (sha384 s.img.liveBytes)
  else none

/-- An SPDM answer; with the nonce of the request and a signature by the Alias key where it is signed: a free value. -/
def State.spdm (s : State) (code : Nat) (data : List Byte) : State := s.guySend (le 1 5 ++ le 1 code ++ data)
def State.spdmSigned (s : State) (code : Nat) (data nonce : List Byte) : State :=
  let f := s.freshBytes 128
  f.2.spdm code (data ++ nonce ++ f.1)
def State.spdmError (s : State) (code : Nat) : State := s.spdm 0x7F (le 1 code)

/-- SPDM_REQUEST (R412, R413): versions 1.2 and 1.3; CERT_CAP, CHAL_CAP and MEAS_CAP with signature; slot 0. -/
def execSpdmRequest (req : SpdmReq) (s : State) : Host.Outcome State Fault Refusal :=
  .next (if s.guyUp then
    match req with
    | .getVersion => s.spdm 0x04 (le 1 0x12 ++ le 1 0x13)
    | .getCapabilities => s.spdm 0x61 (le 4 0x16)
    | .negotiateAlgorithms => s.spdm 0x63 (le 4 0x80 ++ le 4 2)
    | .getDigests => s.spdm 0x01 (le 1 1 ++ sha384 s.certSlot)
    | .getCertificate slot off len =>
      if slot = 0 ∧ off < s.certSlot.length then s.spdm 0x02 ((s.certSlot.drop off).take len) else s.spdmError 1
    | .challenge slot nonce => if slot = 0 then s.spdmSigned 0x03 (sha384 s.certSlot) nonce else s.spdmError 1
    | .getMeasurements i signed nonce =>
      let all := (List.range 6).flatMap fun n => (s.measurement (n + 1)).getD []
      match (if i = 0 then some (le 1 6) else if i = 0xFF then some all else s.measurement i) with
      | none => s.spdmError 1
      | some m => if signed then s.spdmSigned 0x60 m nonce else s.spdm 0x60 m
    | .other _ => s.spdmError 7
  else s)

end Sys2Proof.Machine
end

