-- ==== Sys2Proof/Machine/Respond.lean ====
section
/-!
DEFINITION. Answers to this device's own requests and their timers (R178, R180): what each answer, refusal or TIMEOUT does to the work that sent the
request (R79, R95, R100, R161, R181, R185, R381, R383).
-/

namespace Sys2Proof.Machine

open Sys2Proof

/-- The cause nibble of REMOTE for a STATUS that ends an access without success (R79). -/
def remoteCause (status : Nat) : Nat :=
  if status = 0x14 then 8 else if status = 0x12 then 0xA else if status = 0x13 then 0xB else status % 16

/-- The cause nibble of TIMEOUT (R79). -/
def causeTimeout : Nat := 9

/-- REMOTE with a cause: the whole byte is the code (R79). -/
def remoteCode (cause : Nat) : Nat := cause * 16 + 7

/-- The cluster and the BSE that an offset of a Bell belongs to (R29): a cluster buffer's BSE is 0. -/
def unitAt (o : Nat) : Nat × Nat :=
  if inDram o then
    let n := 64 * (o / 0x800000000) + o / 0x20000000 % 64
    (n / 16, n % 16)
  else ((o - 0x4000000000) / 0x400000, 0)

/-- A STAGE of a run failed at the copy whose local end holds offset `o` (R79): its other requests end with it. -/
def State.stageFailed (s : State) (b stream seq o code : Nat) : State :=
  let s1 : State := { s with trn := { s.trn with reqs := s.trn.reqs.filter fun q => match q.purpose with
    | Purpose.stageRead b' st sq _ => !(b' == b && st == stream && sq == seq)
    | Purpose.stageWrite b' st sq _ => !(b' == b && st == stream && sq == seq)
    | _ => true } }
  match (s1.bell b).runs.find? fun r => r.stream == stream && r.seq == seq with
  | none => s1
  | some r => s1.runError b r (((r.cur.find? fun a => a.d.opcode == 0x0C).map (·.idx)).getD r.last) code (unitAt o).1 (unitAt o).2

/-- A remote access of a STAGE refused or given up (R79, R94). A PROTECTED refusal of another device does not say whether the range lies in a Vestibule,
where R94 ends the run with BAD_REF, or in another protected range, where R79 ends it with REMOTE: a free value (log entry 175). -/
def State.stageRefused (s : State) (b stream seq o cause : Nat) : State :=
  if cause = 4 then
    let f := s.freshBool
    f.2.stageFailed b stream seq o (if f.1 then 4 else remoteCode cause)
  else s.stageFailed b stream seq o (remoteCode cause)

/-- The token fetch of an order failed (R95): every run of it on this device ends, one that waits for its start at its entry point, and the order with
RUN_ERROR. -/
def State.tokensFailed (s : State) (stream seq code : Nat) : State :=
  match s.part? stream seq with
  | none => s
  | some p =>
    if p.phase ≠ .running then s
    else
      let s1 : State := p.bells.foldl (fun t b => match (t.bell b).runs.find? fun r => r.stream == stream && r.seq == seq with
        | some r => t.runError b r r.next code 0 0
        | none =>
          if (t.bell b).queue.contains (stream, seq) ∨ (t.bell b).held.contains (stream, seq) then
            t.runError b { stream := stream, seq := seq, next := t.entryOf b p.wo } (t.entryOf b p.wo) code 0 0
          else t.abortRun b p.wo 1 code) s
      match s1.part? stream seq with
      | none => s1
      | some q => s1.putPart { q.fail 1 code 0 with bells := [] }

/-- The data of a STAGE read is written at its local end (R454). -/
def State.stageData (s : State) (b stream seq off : Nat) (data : List Byte) : State :=
  let r := s.writeRange b off data []
  match r.2 with
  | none => r.1
  | some .ue => r.1.stageFailed b stream seq off 1
  | some .poisoned => r.1.stageFailed b stream seq off 2

/-- A buddy's answer to a KV_MIRROR (R100): the part reports once none is left. -/
def State.kvMirrored (s : State) (stream seq : Nat) : State :=
  match s.part? stream seq with
  | none => s
  | some p =>
    let q := { p with mirrors := p.mirrors - 1 }
    let s1 : State := s.putPart q
    if q.mirrors = 0 ∧ q.phase = .ended then s1.reportPart q else s1

/-- The work that a request was for, once it has been answered OK. -/
def State.answered (s : State) (r : Req) (m : Msg) : State :=
  match r.purpose with
  | .tokens stream seq => (match s.part? stream seq with
    | some p => s.putPart { p with input := (List.range p.wo.ntok).map fun i => leAt m.body (4 * i) 4 }
    | none => s)
  | .mirror i target => s.mirrorAnswered i target
  | .launch _ _ => s
  | .report _ _ => s
  | .kvMirror stream seq => s.kvMirrored stream seq
  | .coll => s
  | .completion _ _ => s
  | .probe n => s.probeAnswered n
  | .pitchQuery i => s.peerAnswer i m.body
  | .stageRead b stream seq off => s.stageData b stream seq off m.body
  | .stageWrite _ _ _ _ => s
  | .broadcast => s
  | .reload => s.reloadAnswer m.body
  | .bindMirror => s.checkBuddy

/-- The work that a class I or W request was for, once the request has ended without success. -/
def State.failed (s : State) (r : Req) (cause : Nat) : State :=
  match r.purpose with
  | .tokens stream seq => s.tokensFailed stream seq (remoteCode cause)
  | .stageRead b stream seq off => s.stageRefused b stream seq off cause
  | .stageWrite b stream seq off => s.stageRefused b stream seq off cause
  | .probe n => if cause = causeTimeout then s else s.probeAnswered n
  | .reload => s.pullNext
  | _ => s

/-- A class I or W request given up with TIMEOUT (R178), and what follows for its work. -/
def State.timedOut (s : State) (r : Req) : State := (s.giveUp r).failed r causeTimeout

/-- The data that an answer must bring: an RD's LEN_RD bytes (R174). -/
def bodyFits (r : Req) (m : Msg) : Bool :=
  if r.msg.mtype = 0x02 then m.body.length == leAt r.msg.body 8 4 else if r.msg.mtype = 0x06 then m.body.length == 4 else true

/-- A response that belongs to an outstanding request (R173, R178). -/
def State.takeResponse (s : State) (r : Req) (m : Msg) : State :=
  let wait (w : Wait) (ns : Nat) : State := s.putReq { r with wait := w, waitUntil := s.now + ns } r.msg.tid
  if m.status = 0x10 then s
  else if m.status = 0x07 then wait .inReset 100000
  else if m.status = 0x11 then wait .busy 10000
  else if m.status = 0 then (if bodyFits r m then (s.dropReq r.msg.tid).answered r m else s)
  else match mclass r.msg.mtype with
    | .selfDedup => s
    | _ => (s.dropReq r.msg.tid).failed r (remoteCause m.status)

/-- ZFP_RESPONSE (R178): a response that no outstanding request expects has no effect. -/
def execZfpResponse (src : Entry) (msg : List Byte) (s : State) : Host.Outcome State Fault Refusal :=
  .next (s.receive src msg fun m =>
    if m.resp then
      (match s.req? m.tid with
        | some r => if m.mtype = r.msg.mtype + 1 ∧ m.dstNode = s.node then s.takeResponse r m else s
        | none => s).takeUp m
    else s)

/-- REQUEST_TIMEOUT (R178): the timer of a request has expired. A completion's timer sends all of its stream and context again from the oldest
(R185). -/
def execRequestTimeout (tid : Nat) (s : State) : Host.Outcome State Fault Refusal :=
  .next (match s.req? tid with
    | none => s
    | some r =>
      if s.now < r.deadline ∨ s.inStrike ∨ r.wait ≠ .none then s
      else match r.purpose with
        | .completion stream hctx => s.resendComps stream hctx true
        | _ =>
          if r.resends < s.retries then s.resend r true true
          else match mclass r.msg.mtype with
            | .selfDedup => s.renew r
            | _ => s.timedOut r)

/-- IN_RESET_RESEND (R178): 100 µs after the refusal, with RETX = 1 and the first TID; given up at an age of 10,000,000 ticks
for classes I and W, while a class S request waits for its timer from then on, like one that has had no response. -/
def execInResetResend (tid : Nat) (s : State) : Host.Outcome State Fault Refusal :=
  .next (match s.req? tid with
    | none => s
    | some r =>
      if r.wait = .inReset ∧ r.waitUntil ≤ s.now ∧ !s.inStrike then
        if s.age r.msg.origTick < 10000000 then s.resend r false false
        else match mclass r.msg.mtype with
          | .selfDedup => s.putReq { r with wait := .none } tid
          | _ => s.timedOut r
      else s)

/-- BUSY_RESEND (R180): 10 µs after a BUSY response, not counted against RETRY, within the age limit of R179. -/
def execBusyResend (tid : Nat) (s : State) : Host.Outcome State Fault Refusal :=
  .next (match s.req? tid with
    | none => s
    | some r =>
      if r.wait = .busy ∧ r.waitUntil ≤ s.now ∧ !s.inStrike then
        if s.age r.msg.origTick ≤ 12000000 then s.resend r false false else s.timedOut r
      else s)

end Sys2Proof.Machine
end

