-- ==== Sys2Proof/Machine/Dispatch.lean ====
section
/-!
DEFINITION. The meaning of every command: one arm per constructor of Instr, each one direct call of the command's meaning.
-/

namespace Sys2Proof.Machine

open Sys2Proof

/-- The effect of a command on everything but the queue. -/
def exec (i : Instr) (s : State) : Host.Outcome State Fault Refusal :=
  match i with
  | .rd src msg ups => Sys2Proof.Machine.execRd src msg ups s
  | .wr src msg ups => Sys2Proof.Machine.execWr src msg ups s
  | .regRd src msg => Sys2Proof.Machine.execRegRd src msg s
  | .regWr src msg => Sys2Proof.Machine.execRegWr src msg s
  | .bellResetRelease b bstrap form => Sys2Proof.Machine.execBellResetRelease b bstrap form s
  | .bankRefresh b die bse bank => Sys2Proof.Machine.execBankRefresh b die bse bank s
  | .dramInitDone b => Sys2Proof.Machine.execDramInitDone b s
  | .scrubStep b ups => Sys2Proof.Machine.execScrubStep b ups s
  | .runLaunchAtBell b stream seq => Sys2Proof.Machine.execRunLaunchAtBell b stream seq s
  | .runQueueEntryFree b => Sys2Proof.Machine.execRunQueueEntryFree b s
  | .descriptorFetch b run storeErr => Sys2Proof.Machine.execDescriptorFetch b run storeErr s
  | .descriptorComplete b run => Sys2Proof.Machine.execDescriptorComplete b run s
  | .opNop b run => Sys2Proof.Machine.execOpNop b run s
  | .opMatmul b run ups => Sys2Proof.Machine.execOpMatmul b run ups s
  | .opAttn b run ups => Sys2Proof.Machine.execOpAttn b run ups s
  | .opSoftmax b run ups => Sys2Proof.Machine.execOpSoftmax b run ups s
  | .opNorm b run ups => Sys2Proof.Machine.execOpNorm b run ups s
  | .opRope b run ups => Sys2Proof.Machine.execOpRope b run ups s
  | .opEltwise b run ups => Sys2Proof.Machine.execOpEltwise b run ups s
  | .opQuant b run ups => Sys2Proof.Machine.execOpQuant b run ups s
  | .opMoeGate b run ups => Sys2Proof.Machine.execOpMoeGate b run ups s
  | .opMoeDispatch b run ups => Sys2Proof.Machine.execOpMoeDispatch b run ups s
  | .moeDispatchReceive row => Sys2Proof.Machine.execMoeDispatchReceive row s
  | .opSample b run ups => Sys2Proof.Machine.execOpSample b run ups s
  | .opKvAppend b run ups => Sys2Proof.Machine.execOpKvAppend b run ups s
  | .opStage b run ups => Sys2Proof.Machine.execOpStage b run ups s
  | .opExpmax b run ups => Sys2Proof.Machine.execOpExpmax b run ups s
  | .opSync b run => Sys2Proof.Machine.execOpSync b run s
  | .belDrain b on => Sys2Proof.Machine.execBelDrain b on s
  | .woRun src msg => Sys2Proof.Machine.execWoRun src msg s
  | .woCommit src msg => Sys2Proof.Machine.execWoCommit src msg s
  | .woDiscard src msg => Sys2Proof.Machine.execWoDiscard src msg s
  | .woOpen src msg => Sys2Proof.Machine.execWoOpen src msg s
  | .woClose src msg => Sys2Proof.Machine.execWoClose src msg s
  | .launchTickReached stream seq => Sys2Proof.Machine.execLaunchTickReached stream seq s
  | .launch src msg => Sys2Proof.Machine.execLaunch src msg s
  | .commitCopyDone stream => Sys2Proof.Machine.execCommitCopyDone stream s
  | .commitSlotReadRelease node tid ups => Sys2Proof.Machine.execCommitSlotReadRelease node tid ups s
  | .runComplete stream seq => Sys2Proof.Machine.execRunComplete stream seq s
  | .partReport src msg => Sys2Proof.Machine.execPartReport src msg s
  | .kvMirrorMsg src msg => Sys2Proof.Machine.execKvMirrorMsg src msg s
  | .expPartial src msg stagingErr => Sys2Proof.Machine.execExpPartial src msg stagingErr s
  | .expResult src msg => Sys2Proof.Machine.execExpResult src msg s
  | .colPartial src msg stagingErr => Sys2Proof.Machine.execColPartial src msg stagingErr s
  | .colResult src msg => Sys2Proof.Machine.execColResult src msg s
  | .colAbort src msg => Sys2Proof.Machine.execColAbort src msg s
  | .collectiveStall inst => Sys2Proof.Machine.execCollectiveStall inst s
  | .openShadow guy => Sys2Proof.Machine.execOpenShadow guy s
  | .shadowDataWrite guy data => Sys2Proof.Machine.execShadowDataWrite guy data s
  | .verify guy => Sys2Proof.Machine.execVerify guy s
  | .verifyDone => Sys2Proof.Machine.execVerifyDone s
  | .pitchQueryMsg src msg => Sys2Proof.Machine.execPitchQueryMsg src msg s
  | .peerWaitTimeout ext => Sys2Proof.Machine.execPeerWaitTimeout ext s
  | .arm guy => Sys2Proof.Machine.execArm guy s
  | .disarm guy => Sys2Proof.Machine.execDisarm guy s
  | .drop guy => Sys2Proof.Machine.execDrop guy s
  | .fullActivation => Sys2Proof.Machine.execFullActivation s
  | .remapArm guy delta => Sys2Proof.Machine.execRemapArm guy delta s
  | .remapDisarm guy delta => Sys2Proof.Machine.execRemapDisarm guy delta s
  | .remapActivation => Sys2Proof.Machine.execRemapActivation s
  | .liveWrite data => Sys2Proof.Machine.execLiveWrite data s
  | .liveApply => Sys2Proof.Machine.execLiveApply s
  | .imageInfo p msg => Sys2Proof.Machine.execImageInfo p msg s
  | .zfpForward src msg => Sys2Proof.Machine.execZfpForward src msg s
  | .zfpResponse src msg => Sys2Proof.Machine.execZfpResponse src msg s
  | .requestTimeout tid => Sys2Proof.Machine.execRequestTimeout tid s
  | .inResetResend tid => Sys2Proof.Machine.execInResetResend tid s
  | .busyResend tid => Sys2Proof.Machine.execBusyResend tid s
  | .dedupKeyExpire node die tid => Sys2Proof.Machine.execDedupKeyExpire node die tid s
  | .jrnMirrorMsg src msg => Sys2Proof.Machine.execJrnMirrorMsg src msg s
  | .mirrorTimeout idx => Sys2Proof.Machine.execMirrorTimeout idx s
  | .journalRelease idx => Sys2Proof.Machine.execJournalRelease idx s
  | .completionSend stream hctx => Sys2Proof.Machine.execCompletionSend stream hctx s
  | .compAck src msg => Sys2Proof.Machine.execCompAck src msg s
  | .hostBind src msg => Sys2Proof.Machine.execHostBind src msg s
  | .ethFrame p inst frame => Sys2Proof.Machine.execEthFrame p inst frame s
  | .neighborSolicitation p inst frame => Sys2Proof.Machine.execNeighborSolicitation p inst frame s
  | .echoRequest p inst frame => Sys2Proof.Machine.execEchoRequest p inst frame s
  | .dataFlit p flit => Sys2Proof.Machine.execDataFlit p flit s
  | .ctrlFlit p flit => Sys2Proof.Machine.execCtrlFlit p flit s
  | .idleFlit p flit => Sys2Proof.Machine.execIdleFlit p flit s
  | .nakResendTimeout p cbc => Sys2Proof.Machine.execNakResendTimeout p cbc s
  | .ackStallReplay p cbc => Sys2Proof.Machine.execAckStallReplay p cbc s
  | .markerInterval p => Sys2Proof.Machine.execMarkerInterval p s
  | .markerReceive p line marker ringOn => Sys2Proof.Machine.execMarkerReceive p line marker ringOn s
  | .spillGrant p => Sys2Proof.Machine.execSpillGrant p s
  | .spillRelease p => Sys2Proof.Machine.execSpillRelease p s
  | .paramMsg p msg => Sys2Proof.Machine.execParamMsg p msg s
  | .auditMsg p msg => Sys2Proof.Machine.execAuditMsg p msg s
  | .creditAudit p => Sys2Proof.Machine.execCreditAudit p s
  | .laneFailMsg p msg => Sys2Proof.Machine.execLaneFailMsg p msg s
  | .wrongLockMsg p msg => Sys2Proof.Machine.execWrongLockMsg p msg s
  | .calReqMsg p msg => Sys2Proof.Machine.execCalReqMsg p msg s
  | .calDoneMsg p msg => Sys2Proof.Machine.execCalDoneMsg p msg s
  | .stopMsg p msg => Sys2Proof.Machine.execStopMsg p msg s
  | .throttleMsg p msg => Sys2Proof.Machine.execThrottleMsg p msg s
  | .resumeMsg p msg => Sys2Proof.Machine.execResumeMsg p msg s
  | .idleReqMsg p msg => Sys2Proof.Machine.execIdleReqMsg p msg s
  | .idleAckMsg p msg => Sys2Proof.Machine.execIdleAckMsg p msg s
  | .retrainReqMsg p msg => Sys2Proof.Machine.execRetrainReqMsg p msg s
  | .laneFailureDetect p line cause ringOn => Sys2Proof.Machine.execLaneFailureDetect p line cause ringOn s
  | .laneFailResend p line => Sys2Proof.Machine.execLaneFailResend p line s
  | .linkEnable p => Sys2Proof.Machine.execLinkEnable p s
  | .lightDetect p lit => Sys2Proof.Machine.execLightDetect p lit s
  | .clockLock p lines => Sys2Proof.Machine.execClockLock p lines s
  | .alignDone p lanes skewUi => Sys2Proof.Machine.execAlignDone p lanes skewUi s
  | .trainingTimeout p => Sys2Proof.Machine.execTrainingTimeout p s
  | .trainingRetry p => Sys2Proof.Machine.execTrainingRetry p s
  | .idleQuietTimeout p => Sys2Proof.Machine.execIdleQuietTimeout p s
  | .idleExit p burst => Sys2Proof.Machine.execIdleExit p burst s
  | .retrain p => Sys2Proof.Machine.execRetrain p s
  | .restart p => Sys2Proof.Machine.execRestart p s
  | .linkReset p => Sys2Proof.Machine.execLinkReset p s
  | .ringSearch k lantern stbyOk => Sys2Proof.Machine.execRingSearch k lantern stbyOk s
  | .ringSearchDone k sweeps => Sys2Proof.Machine.execRingSearchDone k sweeps s
  | .lockLoopUpdate k req lost => Sys2Proof.Machine.execLockLoopUpdate k req lost s
  | .xtMatrixSave k => Sys2Proof.Machine.execXtMatrixSave k s
  | .relockAttempt k h => Sys2Proof.Machine.execRelockAttempt k h s
  | .relockEnd k h locked code => Sys2Proof.Machine.execRelockEnd k h locked code s
  | .calibrationWindow k h => Sys2Proof.Machine.execCalibrationWindow k h s
  | .calibrationWindowDone k h code slicer moves => Sys2Proof.Machine.execCalibrationWindowDone k h code slicer moves s
  | .calOverdue k h => Sys2Proof.Machine.execCalOverdue k h s
  | .calSummary k => Sys2Proof.Machine.execCalSummary k s
  | .lossOfSignal p lines => Sys2Proof.Machine.execLossOfSignal p lines s
  | .portDarkTimeout p => Sys2Proof.Machine.execPortDarkTimeout p s
  | .rxPowerCheck p line power belowWarn => Sys2Proof.Machine.execRxPowerCheck p line power belowWarn s
  | .stageCheck k stage port line excess => Sys2Proof.Machine.execStageCheck k stage port line excess s
  | .lanternWear k l bias => Sys2Proof.Machine.execLanternWear k l bias s
  | .lanternSwitchOver k cause => Sys2Proof.Machine.execLanternSwitchOver k cause s
  | .combReferenceFault k => Sys2Proof.Machine.execCombReferenceFault k s
  | .lantSwitch k => Sys2Proof.Machine.execLantSwitch k s
  | .calAll k => Sys2Proof.Machine.execCalAll k s
  | .laneCalReq k => Sys2Proof.Machine.execLaneCalReq k s
  | .monitorMeasure k sel => Sys2Proof.Machine.execMonitorMeasure k sel s
  | .monitorMeasureDone k power => Sys2Proof.Machine.execMonitorMeasureDone k power s
  | .xtFactory k => Sys2Proof.Machine.execXtFactory k s
  | .flapOpenStart pair => Sys2Proof.Machine.execFlapOpenStart pair s
  | .flapOpened pair => Sys2Proof.Machine.execFlapOpened pair s
  | .flapClose pair => Sys2Proof.Machine.execFlapClose pair s
  | .flapClosed pair => Sys2Proof.Machine.execFlapClosed pair s
  | .flapStuck pair => Sys2Proof.Machine.execFlapStuck pair s
  | .transitWindow pair entry found => Sys2Proof.Machine.execTransitWindow pair entry found s
  | .transitWindowEnd pair entry => Sys2Proof.Machine.execTransitWindowEnd pair entry s
  | .seamFlit b toBell flit => Sys2Proof.Machine.execSeamFlit b toBell flit s
  | .seamReplayTimeout b fromBell => Sys2Proof.Machine.execSeamReplayTimeout b fromBell s
  | .seamMarker b fromBell => Sys2Proof.Machine.execSeamMarker b fromBell s
  | .seamLaneFail b toBell msg => Sys2Proof.Machine.execSeamLaneFail b toBell msg s
  | .seamLaneFailureDetect b toBell lane cause => Sys2Proof.Machine.execSeamLaneFailureDetect b toBell lane cause s
  | .seamCalReq b toBell msg => Sys2Proof.Machine.execSeamCalReq b toBell msg s
  | .seamCalDone b toBell msg => Sys2Proof.Machine.execSeamCalDone b toBell msg s
  | .seamRetrainReq b toBell msg => Sys2Proof.Machine.execSeamRetrainReq b toBell msg s
  | .seamCalWaitTimeout b => Sys2Proof.Machine.execSeamCalWaitTimeout b s
  | .seamTrainStart b => Sys2Proof.Machine.execSeamTrainStart b s
  | .seamTestDone b badRtx badBtx => Sys2Proof.Machine.execSeamTestDone b badRtx badBtx s
  | .seamAlignDone b agree => Sys2Proof.Machine.execSeamAlignDone b agree s
  | .seamAlignTimeout b => Sys2Proof.Machine.execSeamAlignTimeout b s
  | .seamHeld b => Sys2Proof.Machine.execSeamHeld b s
  | .peerResetIndication c dieSide equal => Sys2Proof.Machine.execPeerResetIndication c dieSide equal s
  | .rearmReq c toDie msg => Sys2Proof.Machine.execRearmReq c toDie msg s
  | .rearmAck c toDie msg => Sys2Proof.Machine.execRearmAck c toDie msg s
  | .rearmTimeout c => Sys2Proof.Machine.execRearmTimeout c s
  | .seamRetrain b => Sys2Proof.Machine.execSeamRetrain b s
  | .seamLinkReset b => Sys2Proof.Machine.execSeamLinkReset b s
  | .seamCalAll b => Sys2Proof.Machine.execSeamCalAll b s
  | .slotDiscovery k modules rate desc => Sys2Proof.Machine.execSlotDiscovery k modules rate desc s
  | .slotRetrain k => Sys2Proof.Machine.execSlotRetrain k s
  | .slotLinkReset k => Sys2Proof.Machine.execSlotLinkReset k s
  | .admitAllow k => Sys2Proof.Machine.execAdmitAllow k s
  | .slotPartnerFault k detail => Sys2Proof.Machine.execSlotPartnerFault k detail s
  | .tapBypass => Sys2Proof.Machine.execTapBypass s
  | .tapIdcode => Sys2Proof.Machine.execTapIdcode s
  | .tapSamplePreload preload => Sys2Proof.Machine.execTapSamplePreload preload s
  | .tapSegmentInsert unit => Sys2Proof.Machine.execTapSegmentInsert unit s
  | .tapExtest levels => Sys2Proof.Machine.execTapExtest levels s
  | .tapClamp levels => Sys2Proof.Machine.execTapClamp levels s
  | .tapHighz => Sys2Proof.Machine.execTapHighz s
  | .tapReset => Sys2Proof.Machine.execTapReset s
  | .timeSyncSend p => Sys2Proof.Machine.execTimeSyncSend p s
  | .timeDelaysWallSend p => Sys2Proof.Machine.execTimeDelaysWallSend p s
  | .delaysMsg p msg => Sys2Proof.Machine.execDelaysMsg p msg s
  | .wallMsg p msg => Sys2Proof.Machine.execWallMsg p msg s
  | .servoUpdate => Sys2Proof.Machine.execServoUpdate s
  | .upstreamLoss => Sys2Proof.Machine.execUpstreamLoss s
  | .holdoverTimeout => Sys2Proof.Machine.execHoldoverTimeout s
  | .noUpstreamTimeout => Sys2Proof.Machine.execNoUpstreamTimeout s
  | .referencePllLock spread => Sys2Proof.Machine.execReferencePllLock spread s
  | .ftcLoad => Sys2Proof.Machine.execFtcLoad s
  | .ftcNowRead => Sys2Proof.Machine.execFtcNowRead s
  | .referenceTrip code kind => Sys2Proof.Machine.execReferenceTrip code kind s
  | .fastOscTrip => Sys2Proof.Machine.execFastOscTrip s
  | .slowOscTrip => Sys2Proof.Machine.execSlowOscTrip s
  | .bellPllTrip b kind => Sys2Proof.Machine.execBellPllTrip b kind s
  | .fastReady => Sys2Proof.Machine.execFastReady s
  | .fallbackTimeout => Sys2Proof.Machine.execFallbackTimeout s
  | .muxSwitchTimeout m => Sys2Proof.Machine.execMuxSwitchTimeout m s
  | .clkMuxForce muxes => Sys2Proof.Machine.execClkMuxForce muxes s
  | .inputUndervoltage cv => Sys2Proof.Machine.execInputUndervoltage cv s
  | .inputOvervoltage cv => Sys2Proof.Machine.execInputOvervoltage cv s
  | .inputOutOfRange cv => Sys2Proof.Machine.execInputOutOfRange cv s
  | .inputQualified cv => Sys2Proof.Machine.execInputQualified cv s
  | .inputOvercurrent cv ca => Sys2Proof.Machine.execInputOvercurrent cv ca s
  | .powerFail cause cv ca => Sys2Proof.Machine.execPowerFail cause cv ca s
  | .auxPowerChange on => Sys2Proof.Machine.execAuxPowerChange on s
  | .domainStateRequest dom req => Sys2Proof.Machine.execDomainStateRequest dom req s
  | .engineGroupIdle b g => Sys2Proof.Machine.execEngineGroupIdle b g s
  | .powerGoodFail dom => Sys2Proof.Machine.execPowerGoodFail dom s
  | .dvfsStep b => Sys2Proof.Machine.execDvfsStep b s
  | .dvfsStepEnd b late => Sys2Proof.Machine.execDvfsStepEnd b late s
  | .powerLimitCheck peak avg => Sys2Proof.Machine.execPowerLimitCheck peak avg s
  | .bellPowerSample b power fine => Sys2Proof.Machine.execBellPowerSample b power fine s
  | .sensorSample idx reading fail => Sys2Proof.Machine.execSensorSample idx reading fail s
  | .throttleStep region => Sys2Proof.Machine.execThrottleStep region s
  | .thmXcheck die => Sys2Proof.Machine.execThmXcheck die s
  | .thmRelease => Sys2Proof.Machine.execThmRelease s
  | .faultReport src equal readBackFails => Sys2Proof.Machine.execFaultReport src equal readBackFails s
  | .faultAck src => Sys2Proof.Machine.execFaultAck src s
  | .ackAll => Sys2Proof.Machine.execAckAll s
  | .collectorSelfFault check => Sys2Proof.Machine.execCollectorSelfFault check s
  | .strikeRecordWrite faultN outputs dark flaps => Sys2Proof.Machine.execStrikeRecordWrite faultN outputs dark flaps s
  | .strikeCommand key => Sys2Proof.Machine.execStrikeCommand key s
  | .faultInject => Sys2Proof.Machine.execFaultInject s
  | .poleGiveUp b cause cycle otherToo => Sys2Proof.Machine.execPoleGiveUp b cause cycle otherToo s
  | .poleSelfTestDone b pass => Sys2Proof.Machine.execPoleSelfTestDone b pass s
  | .poleResyncDone b => Sys2Proof.Machine.execPoleResyncDone b s
  | .poleDivergence => Sys2Proof.Machine.execPoleDivergence s
  | .poleSwitch => Sys2Proof.Machine.execPoleSwitch s
  | .buddyProbe => Sys2Proof.Machine.execBuddyProbe s
  | .ringIsolation => Sys2Proof.Machine.execRingIsolation s
  | .unitLostDeclare die => Sys2Proof.Machine.execUnitLostDeclare die s
  | .lostUnitWrite src pole data => Sys2Proof.Machine.execLostUnitWrite src pole data s
  | .reloadDone => Sys2Proof.Machine.execReloadDone s
  | .reloadComplete => Sys2Proof.Machine.execReloadComplete s
  | .adoptWithoutRemap => Sys2Proof.Machine.execAdoptWithoutRemap s
  | .dryDataRead => Sys2Proof.Machine.execDryDataRead s
  | .erasePinned => Sys2Proof.Machine.execErasePinned s
  | .eraseRing => Sys2Proof.Machine.execEraseRing s
  | .guyRegRead addr => Sys2Proof.Machine.execGuyRegRead addr s
  | .guyRegWrite addr data => Sys2Proof.Machine.execGuyRegWrite addr data s
  | .guyBlockWrite addr words => Sys2Proof.Machine.execGuyBlockWrite addr words s
  | .guyBlockRead addr n => Sys2Proof.Machine.execGuyBlockRead addr n s
  | .guyBind cert => Sys2Proof.Machine.execGuyBind cert s
  | .guyUnlockNonce => Sys2Proof.Machine.execGuyUnlockNonce s
  | .guyUnlock token testMode => Sys2Proof.Machine.execGuyUnlock token testMode s
  | .mctpControl req => Sys2Proof.Machine.execMctpControl req s
  | .pldmPlatform req => Sys2Proof.Machine.execPldmPlatform req s
  | .firmwareUpdate req => Sys2Proof.Machine.execFirmwareUpdate req s
  | .spdmRequest req => Sys2Proof.Machine.execSpdmRequest req s
  | .i3cAddressAssign setdasa static dyn => Sys2Proof.Machine.execI3cAddressAssign setdasa static dyn s
  | .fwLvlCommit readBackFails => Sys2Proof.Machine.execFwLvlCommit readBackFails s
  | .pitLvlCommit readBackFails => Sys2Proof.Machine.execPitLvlCommit readBackFails s
  | .certLvlCommit readBackFails => Sys2Proof.Machine.execCertLvlCommit readBackFails s
  | .confirm => Sys2Proof.Machine.execConfirm s
  | .abandon => Sys2Proof.Machine.execAbandon s
  | .secPinReset => Sys2Proof.Machine.execSecPinReset s
  | .secPowerOnReset => Sys2Proof.Machine.execSecPowerOnReset s
  | .pinReset => Sys2Proof.Machine.execPinReset s
  | .resetNRelease => Sys2Proof.Machine.execResetNRelease s
  | .powerOnReset => Sys2Proof.Machine.execPowerOnReset s
  | .testModeFall => Sys2Proof.Machine.execTestModeFall s
  | .registerWrite src addr data => Sys2Proof.Machine.execRegisterWrite src addr data s
  | .timeSync p msg rx => Sys2Proof.Machine.execTimeSync p msg rx s
  | .flitInterval link readErr => Sys2Proof.Machine.execFlitInterval link readErr s
  | .lossOfSignalEnd p lines => Sys2Proof.Machine.execLossOfSignalEnd p lines s
  | .standbyLanternLost k => Sys2Proof.Machine.execStandbyLanternLost k s
  | .ethernetPcsLock p inst up => Sys2Proof.Machine.execEthernetPcsLock p inst up s
  | .retrainPortDown p => Sys2Proof.Machine.execRetrainPortDown p s
  | .seamMarkerReceive b toBell lane word => Sys2Proof.Machine.execSeamMarkerReceive b toBell lane word s
  | .slotModuleLoss k m => Sys2Proof.Machine.execSlotModuleLoss k m s
  | .alwaysOnPowerUp gaddr => Sys2Proof.Machine.execAlwaysOnPowerUp gaddr s

end Sys2Proof.Machine
end

