-- ==== Sys2Proof/Machine/Pins.lean ====
section
/-!
DEFINITION. The lands (R423 to R426), the fibre positions (R427), and the level of each output pin in each condition of the device (R429, R430).
-/

namespace Sys2Proof.Machine

open Sys2Proof

/-- What a land carries (R424 to R426). -/
inductive Land where
  | vin | gnd | testRsvd | aux3v3
  | frefP | frefN | refoutP | refoutN | xaIn | xaOut | xbIn | xbOut
  | resetN | faultN | glScl | glSda | gaddr (bit : Fin 3) | testMode
  | tck | tms | tdi | tdo | trstN
  deriving DecidableEq, Repr

/-- The signal lands of the south-east field (R425). -/
def signalLand (r c : Nat) : Option Land :=
  match r, c with
  | 95, 85 => some .frefP | 95, 86 => some .frefN | 93, 85 => some .refoutP | 93, 86 => some .refoutN
  | 95, 89 => some .xaIn | 95, 90 => some .xaOut | 93, 89 => some .xbIn | 93, 90 => some .xbOut
  | 96, 81 => some .resetN | 96, 82 => some .faultN | 96, 84 => some .glScl | 96, 85 => some .glSda
  | 94, 81 => some (.gaddr 0) | 94, 82 => some (.gaddr 1) | 94, 83 => some (.gaddr 2) | 96, 88 => some .testMode
  | 94, 92 => some .tck | 94, 93 => some .tms | 94, 94 => some .tdi | 94, 95 => some .tdo | 94, 96 => some .trstN
  | 96, 93 => some .aux3v3 | 96, 94 => some .aux3v3 | 96, 95 => some .aux3v3 | 96, 96 => some .aux3v3
  | _, _ => none

/-- The land of row r and column c, 1 to 96 each (R423). -/
def landOf (r c : Nat) : Option Land :=
  if r < 1 ∨ 96 < r ∨ c < 1 ∨ 96 < c then none
  else if 81 ≤ r ∧ c ≤ 16 then some (if (r + c) % 2 = 0 then .vin else .gnd)
  else if r ≤ 2 ∧ 45 ≤ c ∧ c ≤ 52 then some .testRsvd
  else some ((signalLand r c).getD .gnd)

/-- The centre of a land in 0.1 mm from the package centre, eastward and northward (R423). -/
def landCentre (r c : Nat) : Int × Int := (10 * (c : Int) - 485, 485 - 10 * (r : Int))

/-- What a fibre position of a unit carries (R427). -/
inductive Fibre where
  | tx (port : Nat) | rx (port : Nat) | dark
  deriving DecidableEq, Repr

/-- Position 1 to 12 of the plug of fibre-attach unit k (R427). -/
def fibreAt (k pos : Nat) : Fibre :=
  if 1 ≤ pos ∧ pos ≤ 4 then .tx (4 * k + pos - 1) else if 9 ≤ pos ∧ pos ≤ 12 then .rx (4 * k + 12 - pos) else .dark

/-- The conditions of R429, and that of this device. In always-on only, RESET_N is low or the main conversion does not run. -/
inductive Condition where
  | unpowered | alwaysOn | clockless | strike | inService
  deriving DecidableEq, Repr
def State.condition (s : State) : Condition :=
  if !s.pwr.aon then .unpowered
  else if !s.pins.resetN ∨ s.pwr.failed then .alwaysOn
  else if s.fld R.CLK_STAT F.CLK_STAT_CLKLESS = 1 then .clockless
  else if s.inStrike then .strike
  else .inService

/-- The level of an output (R429). -/
inductive Level1 where
  | highZ | low | released | driven
  deriving DecidableEq, Repr

/-- REFOUT_P and REFOUT_N (R429, R430): low means both legs low. -/
def State.refoutPin (s : State) : Level1 :=
  match s.condition with
  | .unpowered => .highZ
  | .alwaysOn | .clockless => .low
  | .strike | .inService => if s.refoutOn then .driven else .low

/-- FAULT_N (R368, R429). -/
def State.faultPin (s : State) : Level1 :=
  match s.condition with
  | .unpowered => .highZ
  | .alwaysOn => if s.fld R.THM_LATCH F.THM_LATCH_VALID = 1 then .low else .released
  | .strike | .clockless => .low
  | .inService => if s.faultN then .low else .released

/-- The optical transmitters of a port are dark outside service, and the flaps of a ring pair are closed (R429). -/
def State.transmits (s : State) (p : Nat) : Bool := s.condition == .inService && !(s.port p).down && !(s.port p).txMap.isEmpty
def State.flapsClosed (s : State) (pair : Nat) : Bool := s.condition != .inService || s.flap pair == 0

end Sys2Proof.Machine
end

