-- ==== Sys2Proof/Safety.lean ====
section
/-!
DEFINITION. What counts as a sound state and a safe run of the SG-6480, in the terms that the statements use.
-/

namespace Sys2Proof.Machine

open Sys2Proof

/-- Values of manufacture stay, levels never fall, and a binding once made stays (R4, R40, R410, R414). -/
def Fuses.NotBelow (a b : Fuses) : Prop :=
  a.fwLvl ≤ b.fwLvl ∧ a.pitLvl ≤ b.pitLvl ∧ a.certLvl ≤ b.certLvl ∧ (a.bound = true → b.bound = true ∧ b.bindId = a.bindId) ∧
    b.serial = a.serial ∧ b.bellMap = a.bellMap ∧ b.grade = a.grade ∧ b.step = a.step ∧ b.bellStep = a.bellStep ∧ b.numrev = a.numrev ∧
    b.stepnum = a.stepnum ∧ b.keyRev = a.keyRev

/-- Each level is a number of 64 fuses (R410). -/
def Fuses.InRange (f : Fuses) : Prop := f.fwLvl ≤ 64 ∧ f.pitLvl ≤ 64 ∧ f.certLvl ≤ 64

/-- Memory and the registers are in their canonical form. -/
def State.Canonical (s : State) : Prop := Memory.wf s.mem = true ∧ SMap.wf resetWord s.regs = true

/-- The Dry bag holds at most 256 pinned records (R388, R392), and the Gaeth at most 64 unread events (R405). -/
def State.Bounded (s : State) : Prop := s.dry.pinned.length ≤ 256 ∧ s.flt.events.length ≤ 64

/-- A sound state: canonical, bounded, its fused levels in range. -/
def State.Sound (s : State) : Prop := s.Canonical ∧ s.Bounded ∧ s.fuses.InRange

/-- The parts of the state that the spec gives the device, beside the time: fabric time, the registers, the fuses, the DRAM and cluster buffers, the transport,
accepted work, the image stores, the fault collector, the Twin poles, the watch over ring units, the Dry bag, security and firmware, the pins, the Bells, the
collectives, the ports, the slots, the Canopies, the Seam links, the domain crossings, the TAP, time transfer, the clocks, power and heat, and the ports that
wait for the Stuff sack. -/
inductive Piece where
  | ftc | regs | fuses | mem | trn | jrn | pit | flt | pole | loss | dry | sec | pins | bells | col | ports | slots | canopies | seams | cross | tap | time | clk | pwr | spillq
  deriving DecidableEq, Repr

/-- State t holds the same as s in one part. -/
def Piece.Same (s t : State) : Piece → Prop
  | .ftc => t.ftc = s.ftc
  | .regs => t.regs = s.regs
  | .fuses => t.fuses = s.fuses
  | .mem => t.mem = s.mem
  | .trn => t.trn = s.trn
  | .jrn => t.jrn = s.jrn
  | .pit => t.pit = s.pit
  | .flt => t.flt = s.flt
  | .pole => t.pole = s.pole
  | .loss => t.loss = s.loss
  | .dry => t.dry = s.dry
  | .sec => t.sec = s.sec
  | .pins => t.pins = s.pins
  | .bells => t.bells = s.bells
  | .col => t.col = s.col
  | .ports => t.ports = s.ports
  | .slots => t.slots = s.slots
  | .canopies => t.canopies = s.canopies
  | .seams => t.seams = s.seams
  | .cross => t.cross = s.cross
  | .tap => t.tap = s.tap
  | .time => t.time = s.time
  | .clk => t.clk = s.clk
  | .pwr => t.pwr = s.pwr
  | .spillq => t.spillq = s.spillq

/-- The pieces of the state that a command may change; every other piece it leaves as it is. -/
def mayChange : Instr → List Piece
  | .rd .. => [.regs, .mem, .trn, .flt, .dry, .bells, .ports, .time]
  | .wr .. | .regWr .. | .guyRegWrite .. | .guyBlockWrite .. | .registerWrite ..
    => [.ftc, .regs, .fuses, .mem, .trn, .jrn, .pit, .flt, .pole, .loss, .dry, .sec, .bells, .col, .ports, .slots, .canopies, .seams, .cross, .time, .clk, .pwr, .spillq]
  | .regRd .. => [.regs, .trn, .flt, .ports, .time]
  | .bellResetRelease .. | .powerGoodFail .. | .thmXcheck ..
    => [.regs, .mem, .trn, .jrn, .flt, .loss, .dry, .sec, .bells, .ports, .slots, .canopies, .cross, .pwr, .spillq]
  | .bankRefresh .. | .runLaunchAtBell .. | .runQueueEntryFree .. => [.bells]
  | .dramInitDone .. => [.regs, .mem, .bells]
  | .scrubStep .. => [.regs, .mem, .flt, .dry, .bells]
  | .descriptorFetch .. => [.regs, .mem, .trn, .jrn, .flt, .bells, .col, .ports, .pwr]
  | .descriptorComplete .. => [.regs, .jrn, .bells]
  | .opNop .. | .opSync .. => [.regs, .mem, .trn, .jrn, .flt, .bells, .col, .ports]
  | .opMatmul .. | .opAttn .. | .opSoftmax .. | .opNorm .. | .opRope .. | .opEltwise .. | .opQuant .. | .opMoeGate .. | .opMoeDispatch ..
  | .opSample .. | .opKvAppend .. | .opStage .. | .opExpmax .. => [.regs, .mem, .trn, .jrn, .flt, .dry, .bells, .col, .ports]
  | .moeDispatchReceive .. => [.mem, .bells]
  | .belDrain .. => [.regs, .bells]
  | .woRun .. | .woCommit .. | .woDiscard .. | .woOpen .. | .woClose .. | .launchTickReached .. | .launch .. | .runComplete .. | .partReport ..
  | .jrnMirrorMsg .. | .mirrorTimeout .. | .completionSend .. | .compAck .. => [.regs, .trn, .jrn, .flt, .ports]
  | .commitCopyDone .. | .kvMirrorMsg .. => [.regs, .mem, .trn, .jrn, .flt, .ports]
  | .commitSlotReadRelease .. => [.regs, .mem, .trn, .flt, .dry, .bells, .ports]
  | .expPartial .. | .expResult .. | .colPartial .. | .colResult .. | .colAbort .. => [.regs, .mem, .trn, .jrn, .flt, .col, .ports]
  | .collectiveStall .. => [.flt, .col]
  | .openShadow .. | .verifyDone | .drop .. => [.regs, .trn, .pit]
  | .shadowDataWrite .. | .arm .. | .disarm .. | .remapDisarm .. | .liveWrite .. | .liveApply => [.regs, .pit]
  | .verify .. | .reloadComplete => [.regs, .trn, .pit, .flt, .ports]
  | .pitchQueryMsg .. | .zfpForward .. | .journalRelease .. | .hostBind .. | .ethFrame .. | .neighborSolicitation .. | .echoRequest ..
    => [.regs, .trn, .flt, .ports]
  | .peerWaitTimeout .. => [.pit]
  | .fullActivation => [.regs, .trn, .jrn, .pit, .flt, .loss, .dry, .sec, .bells, .col, .ports, .canopies, .seams, .cross, .clk, .pwr, .spillq]
  | .remapArm .. => [.regs, .pit, .flt]
  | .remapActivation => [.regs, .mem, .trn, .jrn, .pit, .flt, .loss, .dry, .bells, .col, .ports, .canopies]
  | .imageInfo .. | .holdoverTimeout | .buddyProbe | .retrainPortDown .. => [.regs, .trn, .flt, .loss, .ports]
  | .zfpResponse .. => [.regs, .mem, .trn, .jrn, .pit, .flt, .loss, .dry, .bells, .col, .ports]
  | .requestTimeout .. | .inResetResend .. | .busyResend .. => [.regs, .mem, .trn, .jrn, .flt, .loss, .bells, .col, .ports]
  | .dedupKeyExpire .. => [.trn]
  | .dataFlit .. | .ctrlFlit .. | .idleFlit .. => [.regs, .trn, .flt, .loss, .ports, .canopies, .spillq]
  | .nakResendTimeout .. | .creditAudit .. | .trainingRetry .. | .idleQuietTimeout .. | .transitWindowEnd .. | .timeDelaysWallSend ..
  | .ethernetPcsLock .. => [.ports]
  | .ackStallReplay .. | .auditMsg .. | .laneFailMsg .. | .retrainReqMsg .. | .laneFailResend .. | .alignDone .. | .trainingTimeout .. | .retrain ..
  | .flapOpened .. | .flapClosed .. => [.regs, .trn, .flt, .loss, .ports, .canopies]
  | .markerInterval .. | .collectorSelfFault .. | .strikeCommand .. | .ringIsolation => [.regs, .flt, .dry, .ports]
  | .markerReceive .. | .laneFailureDetect .. | .relockEnd .. => [.regs, .flt, .dry, .ports, .canopies]
  | .spillGrant .. => [.regs, .spillq]
  | .spillRelease .. | .monitorMeasure .. | .monitorMeasureDone .. | .admitAllow .. | .dryDataRead | .i3cAddressAssign .. => [.regs]
  | .paramMsg .. => [.regs, .trn, .flt, .loss, .dry, .sec, .ports, .canopies, .spillq]
  | .wrongLockMsg .. | .lockLoopUpdate .. | .lanternSwitchOver .. => [.regs, .trn, .flt, .loss, .dry, .ports, .canopies]
  | .calReqMsg .. | .calDoneMsg .. | .stopMsg .. | .throttleMsg .. | .resumeMsg .. | .idleReqMsg .. | .lightDetect .. | .clockLock .. | .idleExit ..
  | .wallMsg .. => [.regs, .ports]
  | .idleAckMsg .. | .linkEnable .. | .restart .. | .calibrationWindow .. | .calibrationWindowDone .. | .lossOfSignalEnd .. => [.regs, .ports, .canopies]
  | .linkReset .. => [.regs, .trn, .flt, .loss, .dry, .sec, .ports, .canopies, .time, .spillq]
  | .ringSearch .. | .flapOpenStart .. | .flapClose .. => [.regs, .canopies]
  | .ringSearchDone .. | .lantSwitch .. | .flapStuck .. => [.regs, .flt, .dry, .canopies]
  | .xtMatrixSave .. | .xtFactory .. => [.dry, .canopies]
  | .relockAttempt .. | .calAll .. | .laneCalReq .. => [.canopies]
  | .calOverdue .. | .rxPowerCheck .. => [.flt, .canopies]
  | .calSummary .. => [.regs, .dry, .canopies, .seams]
  | .lossOfSignal .. | .portDarkTimeout .. | .transitWindow .. => [.regs, .flt, .ports, .canopies]
  | .stageCheck .. | .slotPartnerFault .. => [.flt]
  | .lanternWear .. | .combReferenceFault .. | .slowOscTrip | .inputOutOfRange .. | .pldmPlatform .. | .standbyLanternLost .. => [.regs, .flt]
  | .seamFlit .. | .seamReplayTimeout .. | .seamLaneFail .. | .seamCalReq .. | .seamCalDone .. | .seamRetrainReq .. | .seamTrainStart ..
  | .seamTestDone .. | .seamAlignTimeout .. | .seamRetrain .. => [.regs, .seams]
  | .seamMarker .. => [.regs, .dry, .seams]
  | .seamLaneFailureDetect .. => [.regs, .flt, .seams]
  | .seamCalWaitTimeout .. => [.flt, .seams]
  | .seamAlignDone .. => [.regs, .flt, .dry, .seams, .cross]
  | .seamHeld .. => [.regs, .mem, .trn, .jrn, .flt, .loss, .dry, .sec, .bells, .col, .ports, .canopies, .cross, .pwr, .spillq]
  | .peerResetIndication .. => [.regs, .trn, .jrn, .flt, .loss, .dry, .sec, .ports, .slots, .canopies, .seams, .cross, .spillq]
  | .rearmReq .. | .rearmAck .. => [.regs, .mem, .bells, .seams, .cross]
  | .rearmTimeout .. => [.regs, .trn, .flt, .loss, .dry, .sec, .ports, .slots, .canopies, .seams, .cross, .spillq]
  | .seamLinkReset .. => [.regs, .trn, .dry, .sec, .seams, .cross]
  | .seamCalAll .. => [.seams]
  | .slotDiscovery .. => [.regs, .trn, .flt, .loss, .dry, .sec, .ports, .slots, .canopies, .seams, .cross, .pwr, .spillq]
  | .slotRetrain .. => [.regs, .seams, .cross]
  | .slotLinkReset .. => [.regs, .trn, .flt, .loss, .dry, .sec, .ports, .canopies, .cross, .spillq]
  | .tapBypass | .tapIdcode | .tapSamplePreload .. | .tapSegmentInsert .. | .tapExtest .. | .tapClamp .. | .tapHighz | .tapReset => [.tap]
  | .timeSyncSend .. => [.ports, .time]
  | .delaysMsg .. => [.regs, .ports, .time]
  | .servoUpdate | .upstreamLoss | .noUpstreamTimeout => [.regs, .trn, .flt, .loss, .ports, .time]
  | .referencePllLock .. => [.ftc, .regs, .trn, .flt, .loss, .dry, .ports, .time, .clk]
  | .ftcLoad | .ftcNowRead => [.time]
  | .referenceTrip .. => [.regs, .flt, .dry, .ports, .clk]
  | .fastOscTrip => [.regs, .flt, .dry, .time, .clk]
  | .bellPllTrip .. => [.regs, .mem, .trn, .jrn, .flt, .loss, .dry, .sec, .bells, .col, .ports, .canopies, .cross, .clk, .pwr, .spillq]
  | .fastReady => [.regs, .clk]
  | .fallbackTimeout => [.regs, .dry, .time, .clk]
  | .muxSwitchTimeout .. | .clkMuxForce ..
    => [.ftc, .regs, .mem, .trn, .jrn, .flt, .pole, .loss, .dry, .sec, .bells, .col, .ports, .canopies, .cross, .time, .clk, .spillq]
  | .inputUndervoltage .. | .auxPowerChange .. => [.regs, .trn, .flt, .pole, .dry, .bells, .ports, .slots, .canopies, .tap, .time, .pwr]
  | .inputOvervoltage .. | .inputOvercurrent .. | .powerFail .. => [.regs, .flt, .pole, .dry, .bells, .ports, .slots, .canopies, .time, .pwr]
  | .inputQualified .. | .thmRelease | .secPinReset | .secPowerOnReset | .powerOnReset
    => [.ftc, .regs, .mem, .trn, .jrn, .pit, .flt, .pole, .loss, .dry, .sec, .bells, .col, .ports, .slots, .canopies, .seams, .cross, .time, .clk, .pwr, .spillq]
  | .domainStateRequest .. => [.regs, .mem, .trn, .jrn, .pit, .flt, .loss, .dry, .sec, .bells, .col, .ports, .slots, .canopies, .seams, .cross, .pwr, .spillq]
  | .engineGroupIdle .. | .dvfsStep .. => [.pwr]
  | .dvfsStepEnd .. | .powerLimitCheck .. => [.regs, .flt, .pwr]
  | .bellPowerSample .. => [.regs, .canopies, .pwr]
  | .sensorSample .. => [.regs, .trn, .flt, .pole, .loss, .dry, .bells, .ports, .slots, .canopies, .seams, .time, .pwr]
  | .throttleStep .. => [.regs, .flt, .ports, .pwr]
  | .faultReport .. | .faultInject => [.regs, .mem, .trn, .jrn, .flt, .pole, .loss, .dry, .sec, .bells, .col, .ports, .slots, .canopies, .cross, .pwr, .spillq]
  | .faultAck .. | .ackAll => [.regs, .flt, .ports]
  | .strikeRecordWrite .. => [.regs, .flt, .dry]
  | .poleGiveUp .. | .poleSelfTestDone .. => [.regs, .flt, .pole, .dry, .ports, .pwr]
  | .poleResyncDone .. | .poleSwitch => [.regs, .pole, .dry]
  | .poleDivergence => [.regs, .flt, .pole]
  | .unitLostDeclare .. | .lostUnitWrite .. => [.regs, .trn, .jrn, .flt, .loss, .dry, .ports]
  | .reloadDone => [.regs, .loss]
  | .adoptWithoutRemap => [.regs, .trn, .jrn, .flt, .loss, .ports]
  | .erasePinned | .eraseRing => [.regs, .dry]
  | .guyRegRead .. | .guyBlockRead .. => [.regs, .time]
  | .guyBind .. | .fwLvlCommit .. | .pitLvlCommit .. | .certLvlCommit .. => [.regs, .fuses, .flt, .dry]
  | .guyUnlockNonce => [.sec]
  | .guyUnlock .. => [.regs, .flt, .dry, .sec, .pins]
  | .mctpControl .. => [.regs, .sec]
  | .firmwareUpdate .. => [.regs, .flt, .dry, .sec]
  | .spdmRequest .. => []
  | .confirm | .abandon => [.regs, .dry, .sec]
  | .pinReset | .testModeFall
    => [.ftc, .regs, .mem, .trn, .jrn, .pit, .flt, .pole, .loss, .dry, .sec, .pins, .bells, .col, .ports, .slots, .canopies, .seams, .cross, .time, .clk, .pwr, .spillq]
  | .resetNRelease => [.regs, .mem, .trn, .jrn, .flt, .pole, .loss, .dry, .sec, .pins, .bells, .ports, .slots, .canopies, .cross, .clk, .pwr, .spillq]
  | .timeSync .. => [.ftc, .regs, .trn, .flt, .loss, .ports, .time]
  | .flitInterval .. => [.regs, .mem, .trn, .flt, .loss, .dry, .sec, .bells, .ports, .canopies, .seams, .time, .spillq]
  | .seamMarkerReceive .. => [.regs, .flt, .seams, .cross]
  | .slotModuleLoss .. => [.regs, .trn, .flt, .loss, .dry, .sec, .ports, .slots, .canopies, .spillq]
  | .alwaysOnPowerUp .. => [.regs, .pins, .pwr]

/-- A run of steps from one state to another. -/
inductive Reaches : State → State → Prop where
  | refl (s : State) : Reaches s s
  | step {s t u : State} (h : Reaches s t) (hs : Machine.step t = .next u) : Reaches s u

/-- A run of steps that stops nowhere: after n of them the machine has a next state. -/
def Runs (s : State) (n : Nat) : Prop := ∃ t, Host.Core.run core n s = .next t

/-- The device takes a message as a request of an MTYPE: ZFP flows, the bytes parse (R172), a slot's partner may send it (R306), and its EPOCH lies within
one of the device's own (R173), and its DST_NODE is not reserved (R32) and no node whose orders the device is adopting (R189). -/
def State.Takes (s : State) (src : Entry) (raw : List Byte) (mtype : Nat) (m : Msg) : Prop :=
  s.zfpFlows = true ∧ Msg.parse raw = some m ∧ s.partnerOk src m = true ∧ m.mtype = mtype ∧ m.resp = false ∧ s.epochOk m = true ∧
    reservedNode m.dstNode = false ∧ s.jrn.adopting.contains m.dstNode = false

end Sys2Proof.Machine
end

