-- ==== Sys2Proof/Certificates/Slice0/Obligations.lean ====
section
/-!
DEFINITION. The statements about the SG-6480 that are to be proved.
-/

open Sys2Proof Sys2Proof.Machine

/-- R82 to R85, R95, R181: an order that a home accepts is journaled; a repeat of an accepted one is answered again; any other is refused with its reason, or
not answered while its mirror is awaited. WO_RUN stands for RUN orders and for a TYPE that no order has.
The model's choices here are log entries 40, 45, 173, 187. -/
def Obligations.OrdersAreJudged : Prop :=
  ∀ (s : State) (src : Entry) (raw : List Byte) (m : Msg) (c : Instr) (t : State), s.Takes src raw 0x10 m →
    (c = .woCommit src raw ∧ (WorkOrder.decode m.body).type = 2 ∨ c = .woDiscard src raw ∧ (WorkOrder.decode m.body).type = 3 ∨
      c = .woOpen src raw ∧ (WorkOrder.decode m.body).type = 4 ∨ c = .woClose src raw ∧ (WorkOrder.decode m.body).type = 5 ∨
      c = .woRun src raw ∧ ¬(2 ≤ (WorkOrder.decode m.body).type ∧ (WorkOrder.decode m.body).type ≤ 5)) →
    (match s.admitOrder m.body (WorkOrder.decode m.body) with
      | .accept => t = s.journalOrder m (WorkOrder.decode m.body)
      | .again i => ∀ e, s.jrn.own.find? (fun x => x.1 == i) = some (i, e) → t = s.respond m 0 (submitBody true 0 (WorkOrder.decode m.body) e.acceptTick)
      | .silent => t = s
      | .refuse r => t = s.notAccepted m (WorkOrder.decode m.body) r) →
    (∀ i, s.admitOrder m.body (WorkOrder.decode m.body) = .again i → ∃ e, s.jrn.own.find? (fun x => x.1 == i) = some (i, e)) →
    exec c s = .next (t.takeUp m)

/-- R88, R89, R174, R184, R324: at its launch tick an accepted order that leads its stream is launched, and an armed part of this device starts its run or, while an
earlier order of its stream has not started here, waits for it as a part that is due. Neither happens while an activation of an image is due.
The model's choices here are log entries 41, 42, 43, 47, 101, 153, 172, 174, 200. -/
def Obligations.LaunchAtItsTick : Prop :=
  (∀ (s : State) (stream seq peers i : Nat) (e : JEntry), s.inStrike = false → s.entry? stream seq = some (i, e) → e.st = .accepted → e.lead = true →
      e.launchTick ≤ s.ftc → s.lossHold stream = false → s.activationDue = false →
      (s.putEntry i { e with
        st := .launched, startTick := s.ftc, late := decide (e.launchTick < s.ftc) || (e.wo.launchTick != 0 && decide (e.wo.launchTick < s.ftc)) }).part? stream seq = none →
      exec (.launchTickReached stream ⟨seq, peers⟩) s = .next (s.putEntry i { e with
        st := .launched, startTick := s.ftc, late := decide (e.launchTick < s.ftc) || (e.wo.launchTick != 0 && decide (e.wo.launchTick < s.ftc)) })) ∧
    (∀ (s : State) (stream seq peers : Nat) (p : Part), s.inStrike = false → s.entry? stream seq = none → s.part? stream seq = some p → p.phase = .armed → p.tick ≤ s.ftc →
      s.lossHold stream = false → s.mustWait p = false → exec (.launchTickReached stream ⟨seq, peers⟩) s = .next (s.partDue p peers)) ∧
    ∀ (s t : State) (src : Entry) (raw : List Byte) (peers : Nat) (m : Msg) (w : WorkOrder), s.Takes src raw 0x20 m → w = WorkOrder.decode ((m.body.drop 9).take 128) →
      t = ((s.adoptShard w).armPart m.srcNode (leAt m.body 0 1) (leAt m.body 1 8) w).respond m 0 [] →
      ∀ p, t.part? w.stream w.seq = some p →
          exec (.launch src ⟨raw, peers⟩) s =
            .next ((if p.phase = .armed ∧ p.due = false ∧ leAt m.body 1 8 < t.ftc then t.partDue p peers else t).takeUp m)

/-- R88, R92, R100, R111, R113, R184: a part that has run reports to its home once its mirrors are acknowledged, and a COMMIT's copy that is done ends its part.
The model's choices here are log entries 45, 48, 99. -/
def Obligations.PartsReport : Prop :=
  (∀ (s : State) (stream seq : Nat) (p : Part), s.part? stream seq = some p → (p.phase = .ended ∨ p.phase = .running ∧ p.bells = []) → p.mirrors = 0 → s.inStrike = false →
      exec (.runComplete stream seq) s = .next (s.reportPart p)) ∧
    (∀ (s t : State) (stream : Nat) (p q : Part) (st : Stream), s.jrn.parts.find? (fun p => p.wo.stream == stream && p.phase == Phase.copying) = some p →
      s.stream? stream = some st → t = s.endCopy stream st p → t.part? stream p.wo.seq = some q →
      exec (.commitCopyDone stream) s = .next (if q.mirrors = 0 then t.reportPart q else t)) ∧
    ∀ (s : State) (src : Entry) (raw : List Byte) (m : Msg) (i : Nat) (e : JEntry), s.Takes src raw 0x22 m →
      (s.respond m 0 []).entry? (Report.decode m.srcNode m.body).1 (Report.decode m.srcNode m.body).2.1 = some (i, e) → e.st = .launched →
      (Report.decode m.srcNode m.body).2.2.gen = e.gen → ((s.respond m 0 []).shardSet (Report.decode m.srcNode m.body).1).contains (Report.decode m.srcNode m.body).2.2.node = true →
      e.reports.any (fun q => q.node == (Report.decode m.srcNode m.body).2.2.node) = false →
      exec (.partReport src raw) s = .next ((
        if e.reports.length + 1 = ((s.respond m 0 []).shardSet (Report.decode m.srcNode m.body).1).length then
          (s.respond m 0 []).orderEnds i { e with reports := e.reports ++ [(Report.decode m.srcNode m.body).2.2] }
        else (s.respond m 0 []).putEntry i { e with reports := e.reports ++ [(Report.decode m.srcNode m.body).2.2] }).takeUp m)

/-- R100, R181, R182, R184 to R187: what a buddy mirrors is kept, or where it restores a shard written back, and answered, a late journal mirror only answered; a mirror that stays unanswered gives the order up, and the buddy is told to release a delivered entry 16 ms after its acceptance. A
completion goes to the bridge of its host context while fewer than 16 wait for an acknowledgement, an acknowledgement is taken up, and a host context is bound to the bridge that asks.
The model's choices here are log entries 45, 49, 51, 153, 186, 187. -/
def Obligations.MirrorsAndCompletions : Prop :=
  (
    (∀ (s : State) (src : Entry) (raw : List Byte) (m : Msg), s.Takes src raw 0x26 m →
        exec (.kvMirrorMsg src raw) s = .next (((
          if leAt m.body 6 2 = 1 then s.restoreRow (leAt m.body 0 4) (leAt m.body 4 1) (leAt m.body 5 1) (leAt m.body 8 8) (m.body.drop 16)
          else s.storeMirror (leAt m.body 0 4) (leAt m.body 4 1) (leAt m.body 5 1) (leAt m.body 8 8) (m.body.drop 16)).respond m 0 []).takeUp m)) ∧
      (∀ (s : State) (src : Entry) (raw : List Byte) (m : Msg), s.Takes src raw 0x24 m →
        exec (.jrnMirrorMsg src raw) s = .next (((
          if leAt m.body 0 8 < SMap.get (fun _ => 0) s.jrn.mirSeen (mirrorKey m.srcNode (m.body.drop 8)) then s
          else { s with jrn := { s.jrn with
            mirSeen := SMap.set (fun _ => 0) s.jrn.mirSeen (mirrorKey m.srcNode (m.body.drop 8)) (leAt m.body 0 8 + 1) } }.mirrorWrite (m.body.drop 8) m).respond m 0 []).takeUp m)) ∧
      (∀ (s : State) (idx : Nat) (e : JEntry), s.jrn.own.find? (fun x => x.1 == idx) = some (idx, e) → e.st = .awaiting →
        e.acceptAt + s.timeoutNs * (s.retries + 1) ≤ s.now → exec (.mirrorTimeout idx) s = .next (((s.undoOrder idx e).mirrorEntry idx 6 e).notAccepted e.sub e.wo 0x0D)) ∧
      ∀ (s : State) (idx : Nat) (e : JEntry), s.jrn.own.find? (fun x => x.1 == idx) = some (idx, e) → e.st = .delivered → 16000000 + e.acceptTick ≤ s.ftc →
        s.mirrorOut idx = false → exec (.journalRelease idx) s = .next (s.mirrorEntry idx 5 e)) ∧
  (
    (∀ (s : State) (stream hctx n : Nat) (c : Comp), s.inStrike = false → (s.compsOf stream hctx).find? (fun c => !c.sent) = some c → s.bridgeOf hctx = some n →
        ((s.compsOf stream hctx).filter (·.sent)).length < 16 →
        exec (.completionSend stream hctx) s = .next (State.sendComp { s with jrn := { s.jrn with comps := s.jrn.comps.map fun d =>
            if d.stream = stream ∧ d.hctx = hctx ∧ d.dseq = c.dseq then { d with sent := true, deadline := s.now + s.timeoutNs } else d } } c false n)) ∧
      (∀ (s : State) (src : Entry) (raw : List Byte) (m : Msg), s.zfpFlows = true → Msg.parse raw = some m → s.partnerOk src m = true → m.mtype = 0x13 → m.resp = true →
        m.status = 0 → m.body.length = 16 →
        exec (.compAck src raw) s = .next ((s.ackComps (leAt m.body 0 4) (bits (leAt m.body 4 2) 11 0) (leAt m.body 8 8)).takeUp m)) ∧
      ∀ (s : State) (src : Entry) (raw : List Byte) (m : Msg), s.Takes src raw 0x14 m → s.dedupCheck m = .execute →
        exec (.hostBind src raw) s = .next (((((s.bindHome (bits (leAt m.body 0 2) 11 0) m.srcNode).holdKey m
          ((s.bindHome (bits (leAt m.body 0 2) 11 0) m.srcNode).response m 0 [])).switchIn .ridge
          ((s.bindHome (bits (leAt m.body 0 2) 11 0) m.srcNode).response m 0 []))).takeUp m))

/-- R370, R371, R375 to R379: a STRIKE command with its key raises source 30 and enters Strike, another key does nothing, and the measured steps of a Strike go into its one record.
A pole that gives up hands over to a standby, or the device enters Strike; self-test, resynchronisation, divergence and a planned switch move the poles between their states.
The model's choices here are log entries 143, 144, 188, 208. -/
def Obligations.PolesAndStrike : Prop :=
  (
    (∀ s : State, exec (.strikeCommand 0x5354524B) s = .next ((s.pulse 30 []).enterStrike 30 0xFFFF)) ∧
      (∀ (s : State) (key : BitVec 32), key ≠ 0x5354524B → exec (.strikeCommand key) s = .next s) ∧
      ∀ (s : State) (a b c d : Nat) (x : StrikeSt), s.flt.strike = some x → x.steps = [] →
        exec (.strikeRecordWrite (some a) (some b) (some c) (some d)) s =
          .next (State.strikeRecord { s with flt := { s.flt with strike := some { x with steps := [some a, some b, some c, some d] } } })) ∧
  (
    (∀ (s : State) (b : Bool) (cause : Fin 8) (cycle : Nat), s.inStrike = false → s.poleOf b = .active → 
        (s.pulse (if b then 3 else 2) (le 1 (b2n b) ++ le 1 cause.val ++ le 2 0 ++ le 8 cycle)).stbyOk = true →
        ((s.pulse (if b then 3 else 2) (le 1 (b2n b) ++ le 1 cause.val ++ le 2 0 ++ le 8 cycle)).noteGiveUp b).2 < 3 →
        exec (.poleGiveUp b cause cycle false) s =
          .next (((s.pulse (if b then 3 else 2) (le 1 (b2n b) ++ le 1 cause.val ++ le 2 0 ++ le 8 cycle)).noteGiveUp b).1.switchPole cause.val cycle)) ∧
      (∀ (s : State) (b : Bool) (cause : Fin 8) (cycle : Nat), s.inStrike = false → (s.poleOf b = .active ∨ s.poleOf b = .standby) →
        exec (.poleGiveUp b cause cycle true) s =
          .next ((s.pulse (if b then 3 else 2) (le 1 (b2n b) ++ le 1 cause.val ++ le 2 0 ++ le 8 cycle)).enterStrike (if b then 3 else 2) 0xFFFF)) ∧
      (∀ (s : State) (b : Bool), s.poleOf b = .test → s.inStrike = false →
        exec (.poleSelfTestDone b true) s = .next { (s.setPole b .resync) with pole := { (s.setPole b .resync).pole with syncFrom := s.now, diverged := false } } ∧
          exec (.poleSelfTestDone b false) s = .next (s.failPole b)) ∧
      (∀ (s : State) (b : Bool), s.poleOf b = .resync → s.inStrike = false →
        exec (.poleResyncDone b) s = .next (((s.setPole b .standby).setFld R.WSQ_RESYNC_US F.WSQ_RESYNC_US_US (min ((s.now - s.pole.syncFrom) / 1000) 65535)).dryEvent 7 0
          (le 1 (b2n b) ++ le 1 (b2n (!s.pole.diverged)) ++ le 2 0 ++ le 4 ((s.now - s.pole.syncFrom) / 1000)))) ∧
      (∀ s : State, s.stbyOk = true → s.inStrike = false →
        exec .poleDivergence s = .next (State.pulse { ((s.setPole (!s.pole.b) .resync).addFld R.WSQ_SWITCH_CNT F.WSQ_SWITCH_CNT_DIVERGE 1) with
          pole := { (s.setPole (!s.pole.b) .resync).pole with syncFrom := s.now, diverged := true } } 4 []) ∧
        exec .poleSwitch s = .next (s.switchPole 6 0)))

/-- R47, R49, R51, R52: a Bell's memory is cleared when its initialisation ends, a bank is refreshed once its interval has passed, and the scrubber reads the
next word.
The model's choices here are log entries 7, 21, 22, 23. -/
def Obligations.DramKept : Prop :=
  (∀ (s : State) (b : Fin 8), (s.bell b.val).initPending = true → (s.bell b.val).inReset = false → s.seamState b.val ≠ 3 →
      (((s.clearDram b.val).onBell b.val (fun x => { x with initPending := false, poison := [] })).setFld (R.BEL_STAT b.val) F.BEL_STAT_DRAM_INIT_DONE 1).seamState b.val ≠ 3 →
      exec (.dramInitDone b) s = .next (((s.clearDram b.val).onBell b.val (fun x => { x with initPending := false, poison := [] })).setFld (R.BEL_STAT b.val)
        F.BEL_STAT_DRAM_INIT_DONE 1)) ∧
    (∀ (s : State) (b : Fin 8) (die : Fin 4) (bse : Fin 64) (bank : Fin 16),
      SMap.get (fun _ => 0) (s.bell b.val).refAt ((die.val * 64 + bse.val) * 16 + bank.val) + refreshNs (s.fld (R.BEL_REFRESH b.val) (F.BEL_REFRESH_RATE die.val)) ≤ s.now →
      exec (.bankRefresh b die bse bank) s = .next (s.onBell b.val (fun x => { x with
        refAt := SMap.set (fun _ => 0) x.refAt ((die.val * 64 + bse.val) * 16 + bank.val) s.now }))) ∧
    ∀ (s : State) (b : Fin 8) (ups : List Upset), (s.bell b.val).inReset = false → (s.bell b.val).retired = false → (s.bell b.val).initPending = false →
      s.fld (R.BEL_SCRUB_CTL b.val) F.BEL_SCRUB_CTL_EN ≠ 0 → s.inStrike = false → ((s.scrubRoll b.val).bell b.val).scrubNext < scrubWords →
      exec (.scrubStep b ups) s = .next (
        if some ((s.scrubRoll b.val).bell b.val).scrubPass ≠ ((s.scrubRoll b.val).bell b.val).scrubFrom then
          ((s.scrubRoll b.val).setFld (R.BEL_SCRUB_STAT b.val) F.BEL_SCRUB_STAT_LATE 1).scrubWord b.val ups
        else (s.scrubRoll b.val).scrubWord b.val ups)

/-- R75, R103, R124, R126 to R129, R132, R133, R139: a chunk of a collective of the map generation in force is taken by the engine, a result is delivered, and an instance without messages for the time-out is
reported as stalled. SYNC ends once its collective has delivered what the run waits for, and stops the run with an aborted instance's cause; a dispatched row is placed.
The model's choices here are log entries 33, 36, 37, 161, 162, 163, 165, 166. -/
def Obligations.CollectivesAndReceives : Prop :=
  (
    (∀ (s : State) (src : Entry) (raw : List Byte) (e : Bool) (m : Msg) (c : Coll) (k : Nat) (i : Instr), s.inStrike = false → s.Takes src raw 0x28 m → s.colTakes (ColHdr.decode m.body) = true →
        (k = 1 ∧ i = .expPartial src raw e ∨ k = 3 ∧ i = .colPartial src raw e) →
        (ColHdr.decode m.body).kind = k → (ColHdr.decode m.body).gen = ((s.respond m 0 []).reg R.COL_MAP_GEN).toNat % 256 →
        (s.respond m 0 []).img.coll? (ColHdr.decode m.body).coll = some c → (ColHdr.decode m.body).count ≠ 0 →
        (ColHdr.decode m.body).off + (ColHdr.decode m.body).count ≤ c.elems →
        (m.body.drop 32).length = payloadLen k (ColHdr.decode m.body).fmt (ColHdr.decode m.body).count →
        exec i s = .next (((s.respond m 0 []).takePartial c (ColHdr.decode m.body) m.srcNode (m.body.drop 32) e).takeUp m)) ∧
      (∀ (s : State) (src : Entry) (raw : List Byte) (m : Msg) (c : Coll) (k : Nat) (i : Instr), s.inStrike = false → s.Takes src raw 0x28 m → s.colTakes (ColHdr.decode m.body) = true →
        (k = 2 ∧ i = .expResult src raw ∨ k = 4 ∧ i = .colResult src raw) →
        (ColHdr.decode m.body).kind = k → (ColHdr.decode m.body).gen = ((s.respond m 0 []).reg R.COL_MAP_GEN).toNat % 256 →
        (s.respond m 0 []).img.coll? (ColHdr.decode m.body).coll = some c → (ColHdr.decode m.body).count ≠ 0 →
        (ColHdr.decode m.body).off + (ColHdr.decode m.body).count ≤ c.elems →
        (m.body.drop 32).length = payloadLen k (ColHdr.decode m.body).fmt (ColHdr.decode m.body).count →
        exec i s = .next (((s.respond m 0 []).takeResult c (ColHdr.decode m.body) m.srcNode (m.body.drop 32)).takeUp m)) ∧
      (∀ (s : State) (src : Entry) (raw : List Byte) (m : Msg) (c : Coll), s.inStrike = false → s.Takes src raw 0x28 m → s.colTakes (ColHdr.decode m.body) = true → (ColHdr.decode m.body).kind = 5 →
        (ColHdr.decode m.body).gen = ((s.respond m 0 []).reg R.COL_MAP_GEN).toNat % 256 → (s.respond m 0 []).img.coll? (ColHdr.decode m.body).coll = some c →
        exec (.colAbort src raw) s = .next (((s.respond m 0 []).abortInst
          ((s.respond m 0 []).openInst (ColHdr.decode m.body).coll (ColHdr.decode m.body).stream (ColHdr.decode m.body).seq (ColHdr.decode m.body).gen)
          (leAt (m.body.drop 32) 0 1) (leAt (m.body.drop 32) 1 1) (ColHdr.decode m.body).rank (some m.srcNode)).takeUp m)) ∧
      ∀ (s : State) (n : Nat) (x : ColInst), s.col.insts[n]? = some x → x.closed = false → x.stalled = false →
        x.lastMsg + 1000 * s.fld R.COL_TIMEOUT F.COL_TIMEOUT_US ≤ s.now → s.inStrike = false →
        exec (.collectiveStall n) s = .next ((s.putInst { x with stalled := true }).pulse 23 (le 4 x.coll ++ le 4 x.stream ++ le 8 x.seq))) ∧
  (
    (∀ (s : State) (b : Fin 8) (run : Nat) (r : RunSt) (a : Active) (x : ColInst) (c : Coll), s.bellRuns b.val = true → (s.bell b.val).runs[run]? = some r →
        r.cur.find? (fun a => !a.done && a.d.opcode == 0x0E) = some a → s.inst? a.d.collId r.stream r.seq s.mapGen = some x → s.img.coll? a.d.collId = some c →
        (x.aborted = none → x.delivered c (SMap.get (fun _ => 0) r.sent a.d.collId) = true → exec (.opSync b run) s = .next (s.putRun b.val { r with
            cur := r.cur.map (fun y => if y.idx = a.idx then { y with done := true } else y)
            flags := r.flags ||| x.flags ||| (if x.mixed then flDetMixed else 0) })) ∧
          (∀ err, x.aborted = some (1, err) → exec (.opSync b run) s = .next (s.stopRun b.val r 1 err 0)) ∧
          ∀ err, x.aborted = some (3, err) → exec (.opSync b run) s = .next (s.stopRun b.val r 9 0 0)) ∧
      ∀ (s : State) (row : MoeRow), s.inStrike = false → s.bellRuns row.bell.val = true → s.moeOpen row.bell.val = true → exec (.moeDispatchReceive row) s = .next (s.placeMoe row))

/-- R57, R58, R79, R94, R95: a run that reaches a Bell starts, or waits in its queue of 64, or waits on the Ridge; a descriptor is fetched with its references put in, and
a completed one leaves the run, which ends after the last.
The model's choices here are log entries 44, 53, 176, 203. -/
def Obligations.RunsGoThrough : Prop :=
  (∀ (s : State) (b : Fin 8) (stream seq : Nat) (p : Part), s.part? stream seq = some p → p.phase = .running → p.bells.contains b.val = true → s.bellRuns b.val = true →
      (s.bell b.val).runs.any (fun r => r.stream == stream && r.seq == seq) = false → (s.bell b.val).queue.contains (stream, seq) = false →
      (s.bell b.val).held.contains (stream, seq) = false → s.earlierRun b.val stream seq = false →
      exec (.runLaunchAtBell b stream seq) s = .next (
        if (s.bell b.val).runs.length < 16 ∧ (s.bell b.val).queue = [] ∧ (s.bell b.val).held = [] ∧ s.draining b.val = false then s.startRun b.val stream seq
        else if (s.bell b.val).queue.length < 64 ∧ (s.bell b.val).held = [] then s.onBell b.val (fun y => { y with queue := y.queue ++ [(stream, seq)] })
        else s.onBell b.val (fun y => { y with held := y.held ++ [(stream, seq)] }))) ∧
    (∀ (s : State) (b : Fin 8) (x : Nat × Nat) (l : List (Nat × Nat)), (s.bell b.val).held = x :: l → (s.bell b.val).queue.length < 64 → s.bellRuns b.val = true →
      exec (.runQueueEntryFree b) s = .next ((s.onBell b.val (fun y => { y with held := l, queue := y.queue ++ [x] })).pullRun b.val)) ∧
    (∀ (s s1 : State) (b : Fin 8) (run : Nat) (r : RunSt) (p : Part) (q : Pipe) (x : Sect) (d0 : Desc) (a : Bool × Desc), s.bellRuns b.val = true →
      (s.bell b.val).runs[run]? = some r → s.part? r.stream r.seq = some p → s.img.pipe? p.wo.pipe = some q → s.img.program b.val = some x → r.next ≠ 0xFFFF →
      p.wo.ntok ≤ p.input.length → d0 = Desc.decode (s.img.descBytes x r.next) → fetchable r d0 = true →
      s.sequencerRuns b.val d0.clusters = true → d0.crcOk = true →
      s1 = (if r.begun then s else s.runPrologue b.val p q.tokenOff) → a = applyRefs q p.wo b.val r.next d0 → (a.1 = true → s1.refOk b.val a.2 = true ∧ s1.refUseOk b.val q p.wo r.next a.2 = true) →
      exec (.descriptorFetch b run false) s = .next ((s1.putRun b.val { r with
        begun := true, next := d0.next, last := r.next, cur := r.cur ++ [⟨r.next, a.2, false⟩] }).wakeEngines b.val a.2.clusters)) ∧
    (∀ (s s1 : State) (b : Fin 8) (run : Nat) (r : RunSt) (a : Active), s.bellRuns b.val = true → (s.bell b.val).runs[run]? = some r → r.cur.find? (·.done) = some a →
      s.stagePending b.val r = false →
      s1 = (s.freshNat.2.addFld (R.BEL_CYC_BUSY b.val) whole s.freshNat.1).onBell b.val (fun x => x.used a.d.clusters s.now) →
      exec (.descriptorComplete b run) s = .next (
        if (r.cur.filter (fun y => y.idx != a.idx)) = [] ∧ r.next = 0xFFFF then s1.endRun b.val { r with cur := r.cur.filter (fun y => y.idx != a.idx) }
        else s1.putRun b.val { r with cur := r.cur.filter (fun y => y.idx != a.idx) })) ∧
    ∀ (s : State) (b : Fin 8),
      exec (.belDrain b true) s = .next (s.setFld (R.BEL_CTL b.val) F.BEL_CTL_DRAIN 1) ∧
        exec (.belDrain b false) s = .next ((s.setFld (R.BEL_CTL b.val) F.BEL_CTL_DRAIN 0).pullRuns b.val)

/-- R58, R75, R123: an operation whose descriptor waits in a run, with its clusters free and, where it sends to a collective, an engine that takes it, is carried out by its own rule on the state that marks its output
areas, and its end goes into the run: what it writes is what its rule's function gives.
The model's choices here are log entries 25, 26, 27, 28, 38, 39, 155, 161, 162, 166, 167, 168, 169, 171. -/
def Obligations.OperationsRun : Prop :=
  ∀ (s : State) (b : Fin 8) (run : Nat) (ups : List Upset) (r : RunSt) (a : Active) (p : Part) (i : Instr) (op : Nat) (f : Part → Desc → RunSt → State → Acc),
    s.bellRuns b.val = true → (s.bell b.val).runs[run]? = some r → r.cur.find? (fun a => !a.done && a.d.opcode == op) = some a → s.part? r.stream r.seq = some p →
    clustersFree (s.bell b.val).runs run a = true → s.canSend p a.d = true →
    (i = .opNop b run ∧ op = 0 ∧ f = (fun _ _ _ t => { s := t }) ∨ i = .opMatmul b run ups ∧ op = 1 ∧ f = matmulOp b ups ∨
      i = .opAttn b run ups ∧ op = 2 ∧ f = attnOp b ups ∨ i = .opSoftmax b run ups ∧ op = 3 ∧ f = softmaxOp b ups ∨
      i = .opNorm b run ups ∧ op = 4 ∧ f = normOp b ups ∨ i = .opRope b run ups ∧ op = 5 ∧ f = ropeOp b ups ∨
      i = .opEltwise b run ups ∧ op = 6 ∧ f = eltwiseOp b ups ∨ i = .opQuant b run ups ∧ op = 7 ∧ f = quantOp b ups ∨
      i = .opMoeGate b run ups ∧ op = 8 ∧ f = moeGateOp b ups ∨ i = .opMoeDispatch b run ups ∧ op = 9 ∧ f = moeDispatchOp b ups ∨
      i = .opSample b run ups ∧ op = 10 ∧ f = sampleOp b ups ∨ i = .opKvAppend b run ups ∧ op = 11 ∧ f = kvAppendOp b ups ∨
      i = .opStage b run ups ∧ op = 12 ∧ f = stageOp b ups ∨ i = .opExpmax b run ups ∧ op = 13 ∧ f = expmaxOp b ups) →
    exec i s = .next (s.opDone b.val op (s.opStart b.val p r a) a (f p a.d (s.opStart b.val p r a) (s.putRun b.val (s.opStart b.val p r a))))

/-- R32, R54, R113, R174, R179: an RD of Bell memory that passes the checks is answered with its data, or waits for the copy of a commit; one that a check refuses is counted, captured and
answered with the check's STATUS. A WR that passes and whose key is new writes its range, and its response is held and sent; a repeat of a held key is answered from what is held,
and writes nothing.
The model's choices here are log entries 13, 14, 16, 17, 20, 157, 160. -/
def Obligations.ServesBellMemory : Prop :=
  (
    (∀ (s : State) (src : Entry) (raw : List Byte) (ups : List Upset) (m : Msg) (addr n k : Nat), s.Takes src raw 2 m → rangeOf false m.body = some (addr, n) →
        s.accessCheck src addr n false = none → (s.whereIs (bits addr 43 39) (addr % 2 ^ 39) n = .region k ∨ s.whereIs (bits addr 43 39) (addr % 2 ^ 39) n = .buffer k) →
        exec (.rd src raw ups) s = .next ((match s.awaitedCopy (bits addr 43 39 - 1) (addr % 2 ^ 39) n with
          | some st => { s with trn := { s.trn with reads := s.trn.reads ++ [({ src := src, msg := m, stream := st } : WaitRead)] } }
          | none => s.answerRead m addr n ups).takeUp m)) ∧
      (∀ (s : State) (src : Entry) (raw : List Byte) (ups : List Upset) (m : Msg) (addr n c : Nat), s.Takes src raw 2 m → rangeOf false m.body = some (addr, n) →
        s.accessCheck src addr n false = some c →
        exec (.rd src raw ups) s = .next (((s.refuseAt src c (bits addr 43 39) (s.refusedAddr addr n)).respond m c []).takeUp m)) ∧
      ∀ (s : State) (node tid : Nat) (ups : List Upset) (r : WaitRead), s.trn.reads.find? (fun r => r.msg.srcNode == node && r.msg.tid == tid) = some r →
        s.copyFilled r.stream = true → exec (.commitSlotReadRelease node tid ups) s =
          .next (State.answerRead { s with trn := { s.trn with reads := s.trn.reads.erase r } } r.msg (leAt r.msg.body 0 8) (leAt r.msg.body 8 4) ups)) ∧
  (
    (∀ (s t : State) (src : Entry) (raw : List Byte) (ups : List Upset) (m : Msg) (addr n k : Nat) (e : Option RdErr), s.Takes src raw 4 m →
        rangeOf true m.body = some (addr, n) → s.accessCheck src addr n true = none → s.whereIs (bits addr 43 39) (addr % 2 ^ 39) n = .region k →
        s.dedupCheck m = .execute → s.writeRange (bits addr 43 39 - 1) (addr % 2 ^ 39) (m.body.drop 16) ups = (t, e) →
        exec (.wr src raw ups) s = .next (((t.holdKey m (t.response m (if e = none then 0 else 0x14) [])).switchIn .ridge
          (t.response m (if e = none then 0 else 0x14) [])).takeUp m)) ∧
      ∀ (s : State) (src : Entry) (raw : List Byte) (ups : List Upset) (m r : Msg) (addr n k : Nat), s.Takes src raw 4 m → rangeOf true m.body = some (addr, n) →
        s.whereIs (bits addr 43 39) (addr % 2 ^ 39) n = .region k → s.dedupCheck m = .held r →
        exec (.wr src raw ups) s = .next (((s.bump R.TRN_DUP_CNT).switchIn .ridge r).takeUp m))

/-- R32, R177, R403, R458: a register message reads or writes the register of its control address under that register's rules, and answers its STATUS; a write is executed
once per key.
The model's choices here are log entries 13, 60, 61, 139, 140. -/
def Obligations.RegisterMessagesServed : Prop :=
  (∀ (s : State) (src : Entry) (raw : List Byte) (m : Msg) (a : Nat), s.Takes src raw 6 m → m.body.length = 8 → s.regAddr (leAt m.body 0 8) = .inr a →
      exec (.regRd src raw) s = .next (((s.ctlRead src a).2.2.respond m (s.ctlRead src a).1 (if (s.ctlRead src a).1 = 0 then le 4 (s.ctlRead src a).2.1 else [])).takeUp m)) ∧
    (∀ (s : State) (src : Entry) (raw : List Byte) (m : Msg) (c : Nat), s.Takes src raw 6 m → m.body.length = 8 → s.regAddr (leAt m.body 0 8) = .inl c →
      exec (.regRd src raw) s = .next (((s.refuseAt src c (bits (leAt m.body 0 8) 43 39) (leAt m.body 0 8)).respond m c []).takeUp m)) ∧
    ∀ (s t : State) (src : Entry) (raw : List Byte) (m : Msg) (a st : Nat), s.Takes src raw 8 m → m.body.length = 16 → leAt m.body 12 4 = 0 →
      s.dedupCheck m = .execute → s.regAddr (leAt m.body 0 8) = .inr a → s.ctlWrite src (m.srcDie == 0) a (leAt m.body 8 4) = (st, t) →
      exec (.regWr src raw) s = .next (((if st = 0 then t.holdKey m (t.response m st []) else t).switchIn .ridge (t.response m st [])).takeUp m)

/-- R176, R178 to R180: a message that is not for this device goes on through the switch; a response ends or delays its request; a request whose timer has
expired is sent again while resends are left; a key held for 16 ms is forgotten.
The model's choices here are log entries 57, 58, 59, 158, 175. -/
def Obligations.RequestsEnd : Prop :=
  (∀ (s : State) (src : Entry) (raw : List Byte) (m : Msg), s.zfpFlows = true → Msg.parse raw = some m → s.partnerOk src m = true →
      ((∀ k, src = .slot k → m.resp = false) → exec (.zfpForward src raw) s = .next (s.switchIn src m)) ∧
        ∀ k, src = .slot k → m.resp = true → exec (.zfpForward src raw) s = .next (s.partnerAnswer k.val m)) ∧
    (∀ (s : State) (src : Entry) (raw : List Byte) (m : Msg) (r : Req), s.zfpFlows = true → Msg.parse raw = some m → s.partnerOk src m = true → m.resp = true →
      s.req? m.tid = some r → m.mtype = r.msg.mtype + 1 → m.dstNode = s.node → exec (.zfpResponse src raw) s = .next ((s.takeResponse r m).takeUp m)) ∧
    (∀ (s : State) (tid : Nat) (r : Req), s.req? tid = some r → r.deadline ≤ s.now → s.inStrike = false → r.wait = .none →
      (∀ a b, r.purpose = .completion a b → exec (.requestTimeout tid) s = .next (s.resendComps a b true)) ∧ ((∀ a b, r.purpose ≠ .completion a b) →
      (r.resends < s.retries → exec (.requestTimeout tid) s = .next (s.resend r true true)) ∧
        (s.retries ≤ r.resends → mclass r.msg.mtype = .selfDedup → exec (.requestTimeout tid) s = .next (s.renew r)) ∧
        (s.retries ≤ r.resends → mclass r.msg.mtype ≠ .selfDedup → exec (.requestTimeout tid) s = .next (s.timedOut r)))) ∧
    (∀ (s : State) (tid : Nat) (r : Req), s.req? tid = some r → r.waitUntil ≤ s.now → s.inStrike = false →
      (r.wait = .inReset → s.age r.msg.origTick < 10000000 → exec (.inResetResend tid) s = .next (s.resend r false false)) ∧
        (r.wait = .busy → s.age r.msg.origTick ≤ 12000000 → exec (.busyResend tid) s = .next (s.resend r false false))) ∧
    ∀ (s : State) (node die tid : Nat), exec (.dedupKeyExpire node die tid) s = .next { s with trn := { s.trn with dedup := s.trn.dedup.filter fun d =>
      !(d.node == node && d.die == die && d.tid == tid && d.resp.isSome && decide (16000000 + d.sentAt ≤ s.now)) } }

/-- R397 to R400, R405, R412: over the Guy line a register is read or written under its own rules, a block word by word until one is refused, each request answered with its command and
status; the Gaeth takes its bus and endpoint addresses, and answers MCTP control, PLDM and SPDM requests.
The model's choices here are log entries 121, 146, 147, 148, 149, 210. -/
def Obligations.GuyLineServes : Prop :=
  (
    (∀ (s : State) (addr : BitVec 32), s.guyUp = true →
        ((s.ctlRead .guy addr.toNat).1 = 0 → exec (.guyRegRead addr) s = .next ((s.ctlRead .guy addr.toNat).2.2.answer 1 0 (le 4 (s.ctlRead .guy addr.toNat).2.1))) ∧
          ((s.ctlRead .guy addr.toNat).1 ≠ 0 → exec (.guyRegRead addr) s = .next (((s.ctlRead .guy addr.toNat).2.2.freshBytes 4).2.answer 1 (s.ctlRead .guy addr.toNat).1
            ((s.ctlRead .guy addr.toNat).2.2.freshBytes 4).1))) ∧
      ∀ (s : State) (addr : BitVec 32), s.guyUp = true → s.recovery = false →
        (∀ data : BitVec 32, exec (.guyRegWrite addr data) s =
          .next ((s.ctlWrite .guy false addr.toNat data.toNat).2.answer 2 (s.ctlWrite .guy false addr.toNat data.toNat).1 [])) ∧
        (∀ words : List (BitVec 32), 1 ≤ words.length → words.length ≤ 256 → exec (.guyBlockWrite addr words) s =
          .next ((s.blockWrite addr.toNat words 0).2.2.answer 3 (s.blockWrite addr.toNat words 0).1 (le 2 (s.blockWrite addr.toNat words 0).2.1))) ∧
        (∀ n, 1 ≤ n → n ≤ 256 → exec (.guyBlockRead addr n) s =
          .next ((s.blockRead addr.toNat n []).2.2.answer 4 (s.blockRead addr.toNat n []).1 (s.blockRead addr.toNat n []).2.1)) ∧
        exec (.guyBlockRead addr 0) s = .next (s.answer 4 9 []) ∧ exec (.guyBlockWrite addr []) s = .next (s.answer 3 9 (le 2 0))) ∧
  (
    (∀ (s : State) (setdasa : Bool) (static dyn : BitVec 7), s.guyUp = true → s.fld R.SEC_GUY_STAT F.SEC_GUY_STAT_DYN_ADDR = 0 → dyn ≠ 0 →
        (setdasa = true → static.toNat = 0x58 + s.pins.gaddr % 8) → exec (.i3cAddressAssign setdasa static dyn) s = .next ((s.setFld R.SEC_GUY_STAT F.SEC_GUY_STAT_DYN_ADDR dyn.toNat).setFld R.SEC_GUY_STAT F.SEC_GUY_STAT_BUS 0)) ∧
      (∀ (s : State) (eid : Byte), s.guyUp = true → eid ≠ 0 → eid ≠ 0xFF → exec (.mctpControl (.setEid eid)) s =
        .next ((s.setFld R.SEC_GUY_STAT F.SEC_GUY_STAT_EID eid.toNat).guySend (le 1 0 ++ le 1 1 ++ le 1 0 ++ le 1 eid.toNat))) ∧
      (∀ s : State, s.guyUp = true → exec (.pldmPlatform .getTid) s = .next (s.pldm 0 2 0 [Config.pldmTid]) ∧
        (s.recovery = false → exec (.pldmPlatform .pollEvent) s = .next s.pollEvent)) ∧
      ∀ s : State, s.guyUp = true → exec (.spdmRequest .getVersion) s = .next (s.spdm 0x04 (le 1 0x12 ++ le 1 0x13)) ∧
        exec (.spdmRequest .getDigests) s = .next (s.spdm 0x01 (le 1 1 ++ sha384 s.certSlot)) ∧
        (∀ nonce, exec (.spdmRequest (.challenge 0 nonce)) s = .next (s.spdmSigned 0x03 (sha384 s.certSlot) nonce)))

/-- R202 to R205, R211 to R213, R219, R235, outside Strike: an arriving flit is taken by the receiver; markers are sent at their interval while no move is due; a negative acknowledgement is sent again,
and a replay starts, once a stream has stood still for its time, and the fifth stall retrains.
The model's choices here are log entries 72, 76, 77, 78, 190, 191, 193. -/
def Obligations.FlitsAndReplay : Prop :=
  (∀ (s : State) (p : Fin 40) (split : Nat) (flit : List Byte), s.inStrike = false → exec (.dataFlit p ⟨split, flit⟩) s = .next (s.flitArrives p.val split flit) ∧
      exec (.ctrlFlit p ⟨split, flit⟩) s = .next (s.flitArrives p.val split flit) ∧ exec (.idleFlit p ⟨split, flit⟩) s = .next (s.flitArrives p.val split flit)) ∧
    (∀ (s : State) (p : Fin 40), s.inStrike = false → s.lnk p.val = 5 → s.inWindowNow p.val = true → s.txW p.val ≠ 0 → (s.port p.val).resume ≠ 2 →
      (s.port p.val).marks.find? (fun m => decide (m.1 ≤ s.ftc)) = none → s.markDue p.val = true →
      exec (.markerInterval p) s = .next (s.sendMarkers p.val 0 (s.txW p.val) (s.litLanes p.val))) ∧
    (∀ (s : State) (p : Fin 40) (line : Fin 20) (marker : List Byte) (ringOn : Bool), s.inStrike = false → 2 ≤ s.lnk p.val → s.lnk p.val ≤ 5 → s.portDark p.val = false →
      s.hears p.val = true → (s.port p.val).inverted.contains line.val = false →
      (marker.take 4 ≠ markSyncInv → exec (.markerReceive p line marker ringOn) s = .next (s.markerOn p.val line.val marker ringOn)) ∧
        (marker.take 4 = markSyncInv → exec (.markerReceive p line marker ringOn) s = .next ((s.modPort p.val fun q => { q with
          inverted := (s.port p.val).inverted ++ [line.val] }).markerOn p.val line.val (flipMsb marker) ringOn))) ∧
    (∀ (s : State) (p : Fin 40) (t : Nat), s.inStrike = false → s.isActive p.val = true → t + s.rtt p.val + 500 ≤ s.linkNow p.val →
      ((s.port p.val).rxData.nakAt = some t → exec (.nakResendTimeout p false) s = .next (s.setPort p.val { (s.port p.val) with
        rxData := { (s.port p.val).rxData with nakDue := true } })) ∧
      ((s.port p.val).rxCtrl.nakAt = some t → exec (.nakResendTimeout p true) s = .next (s.setPort p.val { (s.port p.val) with
        rxCtrl := { (s.port p.val).rxCtrl with nakDue := true } }))) ∧
    ∀ (s : State) (p : Fin 40) (cbc : Bool) (x : TxSide), s.inStrike = false → s.isActive p.val = true →
      x = (if cbc then (s.port p.val).ctrl else (s.port p.val).data) → x.held ≠ [] → x.advAt + s.rtt p.val + 1000 ≤ s.linkNow p.val →
      x.nak x.oldest (if cbc then 256 else 65536) (s.rtt p.val) (s.linkNow p.val) = .back →
      (4 ≤ x.stalls → exec (.ackStallReplay p cbc) s = .next (s.retrain p.val 3)) ∧
      (x.stalls < 4 → exec (.ackStallReplay p cbc) s = .next (s.setPort p.val (
        if cbc then { (s.port p.val) with ctrl := { x with stalls := x.stalls + 1, advAt := s.linkNow p.val, replay := x.held.head?.map (·.seq) } }
        else { (s.port p.val) with data := { x with stalls := x.stalls + 1, advAt := s.linkNow p.val, replay := x.held.head?.map (·.seq) } })))

/-- R219, R221, R225, R228, R230 to R232, R235, R236, R238: a control message of an ACTIVE port, well formed, that arrived leaves the receiver and has the effect of its type; a malformed one is counted and
dropped.
The model's choices here are log entries 68, 69, 70, 77, 79. -/
def Obligations.LinkMessagesTaken : Prop :=
  (∀ (s t : State) (p : Fin 40) (msg : List Byte) (c : Nat) (i : Instr) (u : State), s.inStrike = false → s.isActive p.val = true → leAt msg 0 1 = c →
      cbcLen c = some (leAt msg 1 1) → msg.length = leAt msg 1 1 → leAt msg 2 2 = 0 →
      t = s.modPort p.val (fun q => { q with cbcIn := q.cbcIn.erase msg }) →
      (c = 3 ∧ i = .auditMsg p msg ∧ t.fld (R.LNK_STAT p.val) F.LNK_STAT_VER ≠ 1 ∧
          u = [0, 1, 2, 3].foldl (fun t v => t.auditCounter p.val v msg) (t.bump (R.LNK_AUDIT_CNT p.val)) ∨
        c = 4 ∧ i = .laneFailMsg p msg ∧ u = t.loseLane p.val (leAt msg 4 1) ∨
        c = 5 ∧ i = .wrongLockMsg p msg ∧ u = t.loseTxLine p.val (leAt msg 6 1) ∨
        c = 6 ∧ i = .calReqMsg p msg ∧ u = t.calMove p.val (leAt msg 4 1) ∨
        c = 7 ∧ i = .calDoneMsg p msg ∧ u = t.calBack p.val (leAt msg 4 1) ∨
        c = 8 ∧ i = .stopMsg p msg ∧ u = t.setStop p.val (leAt msg 4 1) true none ∨
        c = 9 ∧ i = .throttleMsg p msg ∧ leAt msg 5 1 ≠ 0 ∧ u = t.setStop p.val (leAt msg 4 1) false (some (leAt msg 5 1)) ∨
        c = 10 ∧ i = .resumeMsg p msg ∧ u = t.setStop p.val (leAt msg 4 1) false none ∨
        c = 11 ∧ i = .idleReqMsg p msg ∧ t.quiet p.val = true ∧ u = t.sendCbc p.val (cbc4 0x0C) ∨
        c = 12 ∧ i = .idleAckMsg p msg ∧ (t.portUse p.val = 2 ∨ t.portUse p.val = 4) ∧ p.val < 32 ∧ t.fld (R.LNK_IDLE p.val) F.LNK_IDLE_EN = 1 ∧ u = (t.abortWindows p.val).setLnk p.val 6 ∨
        c = 13 ∧ i = .retrainReqMsg p msg ∧ u = t.retrain p.val 7) →
      exec i s = .next u) ∧
    (∀ (s t : State) (p : Fin 40) (msg : List Byte), s.inStrike = false → s.isActive p.val = true → leAt msg 0 1 = 2 → cbcLen 2 = some (leAt msg 1 1) →
      msg.length = leAt msg 1 1 → leAt msg 2 2 = 0 →
      t = (s.modPort p.val (fun q => { q with cbcIn := q.cbcIn.erase msg })).modPort p.val (fun q => { q with peerInfo := some (ImgInfo.read msg) }) →
      exec (.imageInfo p msg) s = .next (State.refreshMismatch
        (if ((s.modPort p.val (fun q => { q with cbcIn := q.cbcIn.erase msg })).port p.val).lastInfo = some (ImgInfo.read msg) then t else t.sendInfo p.val) p.val)) ∧
    ∀ (s : State) (p : Fin 40) (msg : List Byte) (i : Instr), s.inStrike = false → s.isActive p.val = true → msg.length ≠ leAt msg 1 1 →
      (i = .auditMsg p msg ∨ i = .laneFailMsg p msg ∨ i = .wrongLockMsg p msg ∨ i = .calReqMsg p msg ∨ i = .calDoneMsg p msg ∨ i = .stopMsg p msg ∨ i = .throttleMsg p msg ∨
        i = .resumeMsg p msg ∨ i = .idleReqMsg p msg ∨ i = .idleAckMsg p msg ∨ i = .retrainReqMsg p msg ∨ i = .imageInfo p msg) →
      exec i s = .next (s.bump (R.LNK_CBC_DROP_CNT p.val))

/-- R214, R215, R224, R227, R236: a port that waits for the Stuff sack spills when no other port of its Bell does, and stops once its window has been low for 100 µs; the
credit audit goes out every million ticks; a lane failure that stays unanswered is sent again; a quiet port asks for IDLE, and a burst, or a control message to send, ends IDLE.
The model's choices here are log entries 78, 79, 189. -/
def Obligations.PortHousekeeping : Prop :=
  (∀ (s : State) (p : Fin 32), s.inStrike = false → s.spillq.find? (fun q => s.img.stuffBell q == s.img.stuffBell p.val) = some p.val →
      (List.range 32).any (fun q => s.img.stuffBell q == s.img.stuffBell p.val && s.fld (R.LNK_STAT q) F.LNK_STAT_SPILL == 1) = false →
      s.bellLive (s.img.stuffBell p.val) = true →
      exec (.spillGrant p) s = .next ((State.setFld { s with spillq := s.spillq.filter (· != p.val) } (R.LNK_STAT p.val) F.LNK_STAT_SPILL_WAIT 0).setFld
        (R.LNK_STAT p.val) F.LNK_STAT_SPILL 1)) ∧
    (∀ (s : State) (p : Fin 32) (t : Nat), s.inStrike = false → s.fld (R.LNK_STAT p.val) F.LNK_STAT_SPILL = 1 → (s.port p.val).spilled = 0 →
      (s.port p.val).lowAt = some t → 100000 + t ≤ s.now → exec (.spillRelease p) s = .next (s.setFld (R.LNK_STAT p.val) F.LNK_STAT_SPILL 0)) ∧
    (∀ (s : State) (p : Fin 40), s.inStrike = false → s.auditDue p.val = true → s.isActive p.val = true → s.fld (R.LNK_STAT p.val) F.LNK_STAT_VER ≠ 1 →
      exec (.creditAudit p) s = .next ((s.modPort p.val fun q => { q with audited := some s.auditTick }).sendCbc p.val (s.auditMsg p.val))) ∧
    (∀ (s : State) (p : Fin 40) (line : Fin 20) (f : LaneFail), s.inStrike = false → (s.port p.val).fails.find? (fun f => f.line == line.val) = some f →
      s.isActive p.val = true → f.sentAt + s.rtt p.val + 1000 ≤ s.linkNow p.val →
      exec (.laneFailResend p line) s = .next (if 3 ≤ f.sends then s.retrain p.val 4
        else (s.modPort p.val fun q => { q with fails := q.fails.map fun g =>
          if g = f then { g with sends := g.sends + 1, sentAt := s.linkNow p.val } else g }).sendCbc p.val (laneFailMsg f.lane f.cause f.line))) ∧
    (∀ (s : State) (p : Fin 32), s.inStrike = false → s.quiet p.val = true → exec (.idleQuietTimeout p) s = .next (s.sendCbc p.val (cbc4 0x0B))) ∧
    ∀ (s : State) (p : Fin 32) (burst : Bool), s.inStrike = false → s.lnk p.val = 6 → (burst = true ∨ (s.port p.val).cbcq ≠ []) →
      exec (.idleExit p burst) s = .next (((s.emit (.burst p.val)).setLnk p.val 5).modPort p.val fun q => { q with
        quietAt := s.now, chunks := [], scr := [], rxCount := 0 })

/-- R198, R204, R234, R235, R239, R241: a port that may train leaves OFF, locks its clock and aligns, and is trained by the PARAM message; a time-out fails the attempt, a held port is tried
again after 1 ms, and the register commands retrain, restart and reset the link.
The model's choices here are log entries 67, 74, 80, 81. -/
def Obligations.TrainingAdvances : Prop :=
  (∀ (s : State) (p : Fin 40), s.inStrike = false → s.lnk p.val = 0 → s.mayTrain p.val = true → p.val < 32 → exec (.linkEnable p) s = .next (s.restartLink p.val)) ∧
    (∀ (s : State) (p : Fin 40) (lines : List Nat), s.inStrike = false → s.lnk p.val = 2 →
      (if s.compat p.val then 4 else 8) ≤ ((s.lines p.val).filter fun k => lines.contains k).length →
      exec (.clockLock p lines) s = .next ((s.modPort p.val fun q => { q with
        rxOos := (s.lines p.val).filter (fun k => !((s.lines p.val).filter fun k => lines.contains k).contains k), far := none, rttSum := 0, rttN := 0 }).enter p.val 3)) ∧
    (∀ (s : State) (p : Fin 40) (lanes : List (Nat × Nat)) (skew : Nat), s.inStrike = false → s.lnk p.val = 3 →
      (64 < skew → exec (.alignDone p lanes skew) s = .next (s.trainFail p.val 0xB)) ∧
      (skew ≤ 64 → exec (.alignDone p lanes skew) s = .next (((((s.modPort p.val fun q => { q with rxMap := lanes }).setFld
        (R.LNK_STAT p.val) F.LNK_STAT_LANE_REV (b2n (reversed (lanes.filter (fun x => decide (x.1 < 16)))))).enter p.val 4).sendParam p.val)))) ∧
    (∀ (s : State) (p : Fin 40), s.inStrike = false → 2 ≤ s.lnk p.val → s.lnk p.val ≤ 4 →
      (s.port p.val).since + (if s.lnk p.val = 3 then 10000 else 100000) ≤ s.linkNow p.val → exec (.trainingTimeout p) s = .next (s.trainFail p.val 0xD)) ∧
    (∀ (s : State) (p : Fin 40), s.inStrike = false → s.lnk p.val = 1 → 8 ≤ s.fld (R.LNK_TRAIN_FAIL p.val) F.LNK_TRAIN_FAIL_CONSEC →
      1000000 + (s.port p.val).since ≤ s.linkNow p.val →
      exec (.trainingRetry p) s = .next (s.modPort p.val fun q => { q with retryOk := true, since := s.linkNow p.val })) ∧
    (∀ (s : State) (p : Fin 32) (t : Nat), s.inStrike = false → s.isActive p.val = false → (s.port p.val).retrainAt = some t → 50000 + t ≤ s.now →
      exec (.retrainPortDown p) s = .next (s.portDown p.val)) ∧
    ∀ (s : State) (p : Fin 32), s.inStrike = false → exec (.retrain p) s = .next (s.retrain p.val 6) ∧ exec (.restart p) s = .next (s.restartHeld p.val) ∧
      exec (.linkReset p) s = .next (s.commandReset p.val)

/-- R220, R227, R232, R234, R237, R239, outside Strike. The lines that see light are taken up, and on a port in DETECT that may try, enough of them start the clock lock: 16, or 8 for
50 µs (8 and 4 on a compatibility port). A lane failure on a line in service of an ACTIVE port takes the line out, is reported to the far end and recorded. Of the PARAM messages that
reach a port in PARAM: one that is not well formed is counted and dropped; on a ring, one that names another far end than before suspends the Canopy's ports and resets the link; one
whose versions do not meet this end's, or that leaves too few lanes, holds the port; one that says its sender has heard this end makes the port ACTIVE, after an answer; any
other is answered.
The model's choices here are log entries 69, 73, 80, 192, 193, 194. -/
def Obligations.LightAndParameters : Prop :=
  (∀ (s t : State) (p : Fin 40) (lit l : List Nat) (a n : Nat), s.inStrike = false → l = (List.range 19).filter (fun k => decide (1 ≤ k) && lit.contains k) →
      a = (if l = (s.port p.val).lit then (s.port p.val).litAt else s.linkNow p.val) → t = s.setPort p.val { (s.port p.val) with lit := l, litAt := a } →
      n = (if s.compat p.val then 8 else 16) →
      (s.lnk p.val ≠ 1 → exec (.lightDetect p lit) s = .next t) ∧
      (s.lnk p.val = 1 → (s.fld (R.LNK_TRAIN_FAIL p.val) F.LNK_TRAIN_FAIL_CONSEC < 8 ∨ (s.port p.val).retryOk = true) → s.mayTrain p.val = true →
        s.fld (R.OPT_STAT (basePort p.val / 4)) F.OPT_STAT_DARK = 0 → (n ≤ l.length ∨ n / 2 ≤ l.length ∧ 50000 + a ≤ s.linkNow p.val) →
        exec (.lightDetect p lit) s = .next (t.enter p.val 2))) ∧
    (∀ (s t : State) (p : Fin 40) (line : Fin 20) (cause : Fin 5) (lane : Nat) (ringOn : Bool), s.inStrike = false → cause.val ≠ 4 → s.isActive p.val = true →
      (s.port p.val).rxOos.contains line.val = false → (s.port p.val).rxMap.find? (fun x => x.2 == line.val) = some (lane, line.val) →
      t = (s.setPort p.val { (s.port p.val) with
        rxOos := (s.port p.val).rxOos ++ [line.val], rxMap := (s.port p.val).rxMap.filter (fun x => x.2 != line.val) }).modPort p.val (fun q => { q with
          fails := q.fails ++ [⟨line.val, lane, cause.val, s.linkNow p.val, 1⟩], rxLost := q.rxLost.filter (fun x => x.2 != line.val) ++ [(lane, line.val)] }) →
      exec (.laneFailureDetect p line cause ringOn) s =
        .next ((t.sendCbc p.val (cbc8 4 (le 1 lane ++ le 1 cause.val ++ le 1 line.val))).portFault p.val 0 (le 1 line.val ++ le 1 cause.val))) ∧
    (∀ (s : State) (p : Fin 40) (line : Fin 20) (ringOn : Bool), s.inStrike = false →
      exec (.laneFailureDetect p line 4 ringOn) s = .next (s.foreignLane p.val line.val ringOn)) ∧
    (∀ (s : State) (p : Fin 40) (sent : Nat) (msg : List Byte), s.inStrike = false → s.lnk p.val = 4 →
      (leAt msg 0 1 ≠ 1 ∨ leAt msg 1 1 ≠ 32 ∨ msg.length ≠ 32 ∨ leAt msg 2 2 ≠ 0) → exec (.paramMsg p ⟨sent, msg⟩) s = .next (s.bump (R.LNK_CBC_DROP_CNT p.val))) ∧
    ∀ (s t : State) (p : Fin 40) (sent ver : Nat) (msg : List Byte) (other : Bool), s.inStrike = false → s.lnk p.val = 4 →
      leAt msg 0 1 = 1 → leAt msg 1 1 = 32 → msg.length = 32 → leAt msg 2 2 = 0 →
      t = (s.setReg (R.LNK_PEER p.val) (BitVec.ofNat 32 (leAt msg 16 3 % 2 ^ 20 + leAt msg 15 1 % 32 * 2 ^ 20 + 2 ^ 31))).modPort p.val (fun q => { q with
        far := some msg, farAt := s.ftc, farSent := sent, txOos := q.txOos.filter (fun l => !bit (leAt msg 8 3) l),
        rttSum := if leAt msg 28 4 = 0 then q.rttSum else q.rttSum + (2 ^ 33 + s.ftc % 2 ^ 32 - leAt msg 28 4 - leAt msg 26 2) % 2 ^ 32 % 2 ^ 16,
        rttN := if leAt msg 28 4 = 0 then q.rttN else q.rttN + 1, cbcIn := q.cbcIn.erase msg }) →
      other = (decide (p.val < 32) && s.isRing p.val && fget (s.reg (R.LNK_PEER p.val)) F.LNK_PEER_VALID == 1 &&
        (fget (s.reg (R.LNK_PEER p.val)) F.LNK_PEER_NODE != leAt msg 16 3 % 2 ^ 20 || fget (s.reg (R.LNK_PEER p.val)) F.LNK_PEER_PORT != leAt msg 15 1 % 32)) →
      ver = min 2 (leAt msg 5 1) →
      (other = true → exec (.paramMsg p ⟨sent, msg⟩) s = .next ((t.modCanopy (basePort p.val / 4) fun x => { x with suspended := true }).linkReset p.val)) ∧
        (other = false → (ver < 1 ∨ ver < leAt msg 4 1) → exec (.paramMsg p ⟨sent, msg⟩) s = .next (t.holdPort p.val 9)) ∧
        (other = false → 1 ≤ ver → leAt msg 4 1 ≤ ver →
          ((t.laneLines p.val 16).length < (if s.compat p.val then 4 else 8) → exec (.paramMsg p ⟨sent, msg⟩) s = .next (t.holdPort p.val 0xA)) ∧
          ((if s.compat p.val then 4 else 8) ≤ (t.laneLines p.val 16).length →
            (bit (leAt msg 6 1) 2 = true → leAt msg 28 4 ≠ 0 → exec (.paramMsg p ⟨sent, msg⟩) s = .next ((t.sendParam p.val).enterActive p.val msg)) ∧
              ((bit (leAt msg 6 1) 2 = false ∨ leAt msg 28 4 = 0) → exec (.paramMsg p ⟨sent, msg⟩) s = .next (t.sendParam p.val))))

/-- R245 to R250, R255: the rings of a Canopy that runs are searched, named and assigned; the lock loop sets every requested heater from the request, the feed-forward and the
crosstalk, and gives up or relocks a ring that has lost lock; the matrix is saved at most once a minute, and restored to the factory's.
The model's choices here are log entries 85, 86, 87, 88, 89. -/
def Obligations.RingsAreLocked : Prop :=
  (∀ (s : State) (k : Fin 8) (l : Fin 2) (ok : Bool), s.inStrike = false → s.canopyRuns k.val = true →
      exec (.ringSearch k l ok) s = .next ((s.lanternsOn k.val l.val ok).searchRings k.val)) ∧
    (∀ (s : State) (k : Fin 8) (sw : List Sweep), s.inStrike = false → s.canopyRuns k.val = true → s.fld (R.OPT_STAT k.val) F.OPT_STAT_SEARCH_DONE = 0 →
      exec (.ringSearchDone k sw) s = .next ((allHeaters.foldl (fun t h => t.endSweep k.val sw h) s).assignAll k.val)) ∧
    (∀ (s : State) (k : Fin 8) (req : List (Nat × Int)) (lost : List Nat), s.inStrike = false → s.canopyRuns k.val = true →
      exec (.lockLoopUpdate k req lost) s =
        .next (lost.foldl (fun t h => t.lockLost k.val h) (s.setCanopy k.val { s.canopy k.val with heat := s.heatAfter k.val req }))) ∧
    (∀ (s : State) (k : Fin 8) (t : Nat), (s.canopy k.val).xtMoved.any (fun e => decide (82 ≤ e.2.natAbs)) = true →
      ((s.canopy k.val).xtAt = none ∨ (s.canopy k.val).xtAt = some t ∧ 60000000000 + t ≤ s.now) →
      exec (.xtMatrixSave k) s = .next ((s.saveXt k.val (s.canopy k.val).xt).setCanopy k.val { s.canopy k.val with xtMoved := [], xtAt := some s.now })) ∧
    (∀ (s : State) (k : Fin 8), exec (.xtFactory k) s = .next (s.xtFactory k.val)) ∧
    (∀ (s : State) (k : Fin 8) (h : Fin 144), s.inStrike = false → (s.ring k.val h.val).st = 4 → (s.ring k.val h.val).tries < 3 →
      s.portDark (heaterPort k.val h.val) = false → exec (.relockAttempt k h) s =
        .next (s.setRing k.val h.val { s.ring k.val h.val with tries := (s.ring k.val h.val).tries + 1, code := s.mapCode k.val h.val })) ∧
    ∀ (s : State) (k : Fin 8) (h : Fin 144) (c : Nat), s.inStrike = false → (s.ring k.val h.val).st = 4 → (s.ring k.val h.val).tries ≠ 0 →
      exec (.relockEnd k h true c) s = .next (((s.setRing k.val h.val { s.ring k.val h.val with st := 2, tries := 0, code := c % 16384, held := false }).returnLine
        k.val h.val).queueCal k.val h.val) ∧
      (3 ≤ (s.ring k.val h.val).tries → exec (.relockEnd k h false c) s = .next (s.retireRing k.val h.val))

/-- R257 to R260, R268, R296: a window opens on the first queued ring that may take one; at its end the ring is calibrated, and its line goes back; a ring that waits more than a second
is reported once; the hour's counts are summed, and the calibration commands queue rings.
The model's choices here are log entries 85, 89, 195, 197. -/
def Obligations.RingsAreCalibrated : Prop :=
  (∀ (s : State) (k : Fin 8) (h : Fin 144), s.inStrike = false → s.windowFree k.val h.val = true →
      exec (.calibrationWindow k h) s = .next (s.openWindow k.val h.val)) ∧
    (∀ (s t : State) (k : Fin 8) (h : Fin 144) (c : Nat) (sl : Nat × Nat × Nat) (mv : List (Nat × Int)), s.inStrike = false →
      (s.canopy k.val).wins.contains h.val = true → t = s.endCalibration k.val h.val c sl mv →
      (heaterDir h.val ≠ 0 → exec (.calibrationWindowDone k h c sl mv) s = .next (t.returnLine k.val h.val)) ∧
      ∀ u, heaterDir h.val = 0 → (t.port (heaterPort k.val h.val)).calUse.find? (fun u => u.home == (s.ring k.val h.val).line) = some u →
        exec (.calibrationWindowDone k h c sl mv) s = .next (t.calBack (heaterPort k.val h.val) u.lane)) ∧
    (∀ (s : State) (k : Fin 8) (h : Fin 144) (a : Nat), s.inStrike = false → (s.canopy k.val).queue.find? (fun e => e.1 == h.val) = some (h.val, a, false) →
      1000000000 + a < s.now → exec (.calOverdue k h) s = .next ((s.modCanopy k.val fun c => { c with
        queue := c.queue.map fun x => if x.1 = h.val then (x.1, x.2.1, true) else x }).canFault k.val 2 (le 1 h.val))) ∧
    (∀ (s : State) (k : Fin 8), 3600000000000 + (s.canopy k.val).hourAt ≤ s.now → exec (.calSummary k) s = .next ((s.canopySummary k.val).seamSummary k.val)) ∧
    ∀ (s : State) (k : Fin 8), s.inStrike = false → exec (.calAll k) s = .next (s.calAll k.val) ∧ exec (.laneCalReq k) s = .next (s.laneCal k.val)

/-- R261, R262: when lines of a port go dark it is noted whether most of them did, and if they stay dark for 10 µs they are reported; a receive power is recorded, and
below the warning level reported at most once an hour.
The model's choices here are log entries 83, 199, 212. -/
def Obligations.LightIsWatched : Prop :=
  (∀ (s t : State) (p : Fin 32) (lines ls : List Nat), s.inStrike = false → ls = lines.eraseDups.filter (s.port p.val).lit.contains → ls ≠ [] →
      t = (s.modPort p.val fun q => { q with lit := q.lit.filter (fun k => !ls.contains k) }).ethLoss p.val ls →
      (SMap.get (fun _ => none) (s.canopy (p.val / 4)).dark (p.val % 4) = none → exec (.lossOfSignal p lines) s = .next (
        if min 12 (s.port p.val).lit.length ≤ ls.length then
          (t.addFld (R.OPT_LOS_CNT (p.val / 4)) F.OPT_LOS_CNT_PORT 1).setPortDark p.val (some (ls, s.now))
        else t.reportLos p.val ls)) ∧
      ∀ d at_, SMap.get (fun _ => none) (s.canopy (p.val / 4)).dark (p.val % 4) = some (d, at_) →
        exec (.lossOfSignal p lines) s = .next (t.setPortDark p.val (some ((d ++ ls).eraseDups, at_)))) ∧
    (∀ (s : State) (p : Fin 32) (lines d : List Nat) (t : Nat), s.inStrike = false → 
      SMap.get (fun _ => none) (s.canopy (p.val / 4)).dark (p.val % 4) = some (d, t) →
      exec (.lossOfSignalEnd p lines) s = .next ((s.modPort p.val fun q => { q with lit := (List.range 19).filter fun k => decide (1 ≤ k) && (q.lit ++ lines).contains k }).setPortDark p.val
        (if d.filter (fun k => !lines.contains k) = [] then none else some (d.filter (fun k => !lines.contains k), t))) ∧
      (10000 + t ≤ s.now → exec (.portDarkTimeout p) s = .next ((s.setPortDark p.val none).reportLos p.val d))) ∧
    ∀ (s : State) (p : Fin 32) (line : Fin 20) (power h : Nat), s.inStrike = false → s.heaterOf p.val 1 line.val = some h →
      exec (.rxPowerCheck p line power false) s = .next (s.setRing (p.val / 4) h { s.ring (p.val / 4) h with pwr := power % 65536 }) ∧
      ((s.ring (p.val / 4) h).warnAt = none → s.underWarn (p.val / 4) power = true →
        exec (.rxPowerCheck p line power true) s = .next ((s.setRing (p.val / 4) h { s.ring (p.val / 4) h with pwr := power % 65536, warnAt := some s.now }).canFault
          (p.val / 4) 3 (le 1 p.val ++ le 1 line.val ++ le 2 power)))

/-- R244, R263 to R267, R283: an excess at a stage is reported; a Lantern's bias is recorded, and its wear reported once; a failing Lantern is switched over while the standby is good, and
without one the Canopy goes dark; a measurement on a monitor is selected and stored.
The model's choices here are log entries 88, 90. -/
def Obligations.LanternsAndMonitors : Prop :=
  (∀ (s : State) (k : Fin 8) (g : Fin 5) (port line : Nat), s.inStrike = false →
      exec (.stageCheck k g port line true) s = .next (s.canFault k.val 4 (le 1 g.val ++ le 1 port ++ le 1 line)) ∧ exec (.stageCheck k g port line false) s = .next s) ∧
    (∀ (s : State) (k : Fin 8) (l : Fin 2) (b : Fin 1001), s.inStrike = false →
      (b.val < 900 → exec (.lanternWear k l b) s = .next (s.setFld (R.OPT_LANT k.val l.val) F.OPT_LANT_BIAS b.val)) ∧
      (900 ≤ b.val → s.fld (R.OPT_LANT k.val l.val) F.OPT_LANT_WEAR = 0 → exec (.lanternWear k l b) s =
        .next (((s.setFld (R.OPT_LANT k.val l.val) F.OPT_LANT_BIAS b.val).setFld (R.OPT_LANT k.val l.val) F.OPT_LANT_WEAR 1).canFault k.val 5 (le 1 l.val ++ le 2 b.val)))) ∧
    (∀ (s : State) (k : Fin 8) (cause : Fin 4), s.inStrike = false → s.fld (R.OPT_STAT k.val) F.OPT_STAT_DARK = 0 →
      (s.fld (R.OPT_STAT k.val) F.OPT_STAT_STBY_OK = 1 → exec (.lanternSwitchOver k cause) s = .next (s.lantSwitch k.val (cause.val + 1))) ∧
      (s.fld (R.OPT_STAT k.val) F.OPT_STAT_STBY_OK = 0 → exec (.lanternSwitchOver k cause) s = .next (s.canopyDark k.val))) ∧
    (∀ (s : State) (k : Fin 8), s.inStrike = false → exec (.combReferenceFault k) s = .next ((s.setFld (R.OPT_STAT k.val) F.OPT_STAT_REF_LOCK 0).canFault k.val 9 []) ∧
      exec (.lantSwitch k) s = .next (s.lantCommand k.val) ∧
      (s.fld (R.OPT_STAT k.val) F.OPT_STAT_STBY_OK = 1 →
        exec (.standbyLanternLost k) s = .next ((s.setFld (R.OPT_STAT k.val) F.OPT_STAT_STBY_OK 0).canFault k.val 7 []))) ∧
    ∀ (s : State) (k : Fin 8) (sel : BitVec 32) (w : BitVec 16), s.inStrike = false → exec (.monitorMeasure k sel) s = .next (s.monSelect k.val sel) ∧
      exec (.monitorMeasureDone k w) s = .next (s.setReg (R.OPT_MON_DATA k.val) (BitVec.ofNat 32 (w.toNat + 2 ^ 31)))

/-- R314 to R318, R321, R322, outside Strike: while the FTC counts, a time port sends a SYNC message every 4,096 ticks, and every 1,048,576 ticks a DELAYS message where it is a ring
port and a WALL message where the wall time is valid. What a SYNC carries is kept for its port, and a device that is no root follows it; DELAYS are kept for a ring port; the WALL message
of its upstream port sets the wall time of a device that is no root.
The model's choices here are log entries 85, 102, 201. -/
def Obligations.TimeIsExchanged : Prop :=
  (∀ (s : State) (p : Fin 32) (x : TimePort) (fl tag : Nat), s.inStrike = false → s.time.counting = true → s.timePort p.val = true → s.fires 4096 = true → x = s.tport p.val →
      fl = b2n (s.ftcState == 2 || s.ftcState == 5) + 2 * b2n (s.ftcState == 5) + 4 * b2n (s.ftcState == 3) →
      tag = (if s.ftcState = 5 then s.fld R.FTC_CFG F.FTC_CFG_TAG else s.time.tag.getD 0) →
      exec (.timeSyncSend p) s = .next ((s.setTport p.val { x with txSeq := (x.txSeq + 1) % 256 }).sendCbc p.val (timeMsg (
        le 1 0 ++ le 1 x.txSeq ++ le 1 (x.rxSeq.getD 0) ++ le 1 fl ++ zeros 8 ++ le 8 (if x.rxSeq.isSome then x.rxAt else 0) ++
          le 4 (tag + s.fld R.FTC_STAT F.FTC_STAT_DIST % 32 * 2 ^ 20) ++ le 4 x.dIn)))) ∧
    (∀ (s t : State) (p : Fin 32), s.inStrike = false → s.time.counting = true → s.timePort p.val = true → s.fires 1048576 = true →
      t = (if s.isRing p.val then s.sendCbc p.val (timeMsg (
        le 1 1 ++ le 1 (pairOut p.val) ++ zeros 2 ++ le 2 (s.tport (partner p.val)).dIn ++ le 2 (s.tport (partner p.val)).d0)) else s) →
      exec (.timeDelaysWallSend p) s = .next (
        if s.fld R.FTC_STAT F.FTC_STAT_WALL_OK = 1 then t.sendCbc p.val (timeMsg (le 1 2 ++ zeros 3 ++ le 8 (s.getPair R.FTC_WALL_LO R.FTC_WALL_HI))) else t)) ∧
    (∀ (s t u : State) (p : Fin 32) (msg : List Byte) (rx : Nat) (v : Bool) (e : Int × Int), s.inStrike = false → s.isActive p.val = true → leAt msg 0 1 = 0x10 →
      cbcLen 0x10 = some (leAt msg 1 1) → msg.length = leAt msg 1 1 → leAt msg 2 2 = 0 → leAt msg 4 1 = 0 →
      t = s.modPort p.val (fun q => { q with cbcIn := q.cbcIn.erase msg }) → t.timePort p.val = true →
      v = (leAt msg 16 8 != 0 && SMap.get (fun _ => 0) (t.tport p.val).txAt (leAt msg 6 1) != 0) →
      e = exchange (leAt msg 8 8) rx (SMap.get (fun _ => 0) (t.tport p.val).txAt (leAt msg 6 1)) (leAt msg 16 8) (t.tport p.val).asymI →
      u = t.setTport p.val ((t.tport p.val).heard msg rx t.ftc e.2 v) →
      exec (.timeSync p msg rx) s = .next (if t.ftcState = 5 then u else u.followSync p.val e.1 v)) ∧
    ∀ (s t : State) (p : Fin 32) (msg : List Byte), s.inStrike = false → s.isActive p.val = true → leAt msg 0 1 = 0x10 →
      cbcLen 0x10 = some (leAt msg 1 1) → msg.length = leAt msg 1 1 → leAt msg 2 2 = 0 → t = s.modPort p.val (fun q => { q with cbcIn := q.cbcIn.erase msg }) →
      t.timePort p.val = true →
      (leAt msg 4 1 = 1 → t.isRing p.val = true →
        exec (.delaysMsg p msg) s = .next (t.setTport p.val { t.tport p.val with d0 := leAt msg 8 2, d1 := leAt msg 10 2 })) ∧
      (leAt msg 4 1 = 2 → t.ftcState ≠ 5 → p.val = t.upPort →
        exec (.wallMsg p msg) s = .next ((t.setPair R.FTC_WALL_LO R.FTC_WALL_HI (leAt msg 8 8)).setFld R.FTC_STAT F.FTC_STAT_WALL_OK 1))

/-- R319, R321, R329, R419: the servo acts every 65,536 ticks on its average; a lost upstream is left; HOLDOVER ends after ten seconds and ACQUIRE without an upstream after one; the FTC
starts at the first lock of the reference PLL.
The model's choices here are log entries 100, 101, 103, 164. -/
def Obligations.TimeStateMoves : Prop :=
  (∀ (s : State) (th : Int), s.inStrike = false → s.time.avg = some th → s.time.counting = true → s.ftc % 65536 = 0 → s.upPort ≠ 63 → s.ftcState ≠ 0 → s.ftcState ≠ 5 →
      exec .servoUpdate s = .next (s.servo th)) ∧
    (∀ s : State, s.inStrike = false → s.upPort < 32 → s.ftcState ≠ 5 → s.eligible s.upPort = false → exec .upstreamLoss s = .next s.upLost) ∧
    (∀ s : State, s.inStrike = false → s.ftcState = 3 → 10000000000 + s.time.holdAt ≤ s.now → exec .holdoverTimeout s = .next ((s.setFtcState 4).raise 18 [])) ∧
    (∀ s : State, s.inStrike = false → (s.ftcState = 1 ∨ s.ftcState = 4) → s.upPort = 63 → 1000000000 + s.time.noUpAt ≤ s.now →
      exec .noUpstreamTimeout s = .next (State.setFtcState { s with time := { s.time with tag := none, stepped := false } } 0)) ∧
    (∀ (s t : State) (sp : Bool), s.inStrike = false → s.time.counting = false → s.pins.resetN = true →
      t = ((s.setFld R.CLK_STAT F.CLK_STAT_RPLL_LOCK 1).setFld R.CLK_STAT F.CLK_STAT_SRC s.clk.src).setFld R.CLK_STAT F.CLK_STAT_SPREAD_SEEN (b2n sp) →
      exec (.referencePllLock sp) s = .next (
        if sp = true ∧ bit s.clk.cfg 4 = false then (State.becomeRoot { t with
            ftc := if s.time.loadDue && s.fld R.FTC_CFG F.FTC_CFG_ROOT == 1 then s.loadValue else 0,
            time := { t.time with counting := true, loadDue := false, noUpAt := s.now } }).referenceTrip 5 2
        else State.becomeRoot { t with
            ftc := if s.time.loadDue && s.fld R.FTC_CFG F.FTC_CFG_ROOT == 1 then s.loadValue else 0,
            time := { t.time with counting := true, loadDue := false, noUpAt := s.now } })) ∧
    ∀ s : State, exec .ftcLoad s = .next s.ftcLoad ∧ exec .ftcNowRead s = .next s.latchNow

/-- R272, R275, R278 to R280, R282, R283: the flaps of a pair open when both its loops are shut and nothing keeps them shut, and close when something does; a flap that is stuck for 5 ms is reported;
a transit window of the image's table starts and ends on its link.
The model's choices here are log entries 84, 85, 198. -/
def Obligations.FlapsAndWindows : Prop :=
  (∀ (s : State) (q : Fin 2), (s.flap q.val = 0 → s.flapShut q.val = false → s.loopback (pairPort q.val) = true → s.loopback (pairPort q.val + 1) = true → s.ftc % 128 = 0 →
        exec (.flapOpenStart q) s = .next (s.setFlap q.val 1 2)) ∧
      (s.flap q.val = 1 → exec (.flapOpened q) s = .next (((s.setFlap q.val 2 1).flapMoved q.val).retrainPair q.val)) ∧
      ((s.flap q.val = 1 ∨ s.flap q.val = 2) → s.flapShut q.val = true → exec (.flapClose q) s = .next (s.setFlap q.val 3 2)) ∧
      (s.flap q.val = 3 → exec (.flapClosed q) s = .next (((s.setFlap q.val 0 0).flapMoved q.val).retrainPair q.val)) ∧
      ((s.flap q.val = 1 ∨ s.flap q.val = 3) → 5000000 + (s.canopy (pairCan q.val)).flapAt ≤ s.now → ∃ t,
        t = (s.canFault (pairCan q.val) 10 (le 1 (s.flap q.val))).sparing (9 + pairCan q.val) (pairPort q.val) 0 0xFF 0xFF 0xFF 0 7 ∧
        exec (.flapStuck q) s = .next (if s.flap q.val = 1 then t.setFlap q.val 3 2 else (t.setFlap q.val 0 3).setFld (R.OPT_FLAP_STAT (pairCan q.val)) F.OPT_FLAP_STAT_STUCK 1))) ∧
    (∀ (s : State) (q : Fin 4) (n : Nat) (e : Entry3) (found : Bool), s.inStrike = false → s.img.entry n = some e → s.active = true → e.pair = q.val → s.windowNow e = true →
      exec (.transitWindow q n found) s = .next (s.windowStarts q.val n e found)) ∧
    ∀ (s : State) (q : Fin 4) (n l : Nat) (e : Entry3), s.inStrike = false → s.img.entry n = some e → e.pair = q.val → s.entryLink n e = some l →
      (s.port l).winUntil ≤ s.ftc → exec (.transitWindowEnd q n) s = .next (s.modPort l fun x => { x with winUntil := 0 })

/-- R358, R359, R364, R367, R369: a report is sampled from its pair of wires; an acknowledgement takes the source out of FLT_PEND while its pair is inactive, and changes nothing while it is
active.
The model's choices here are log entries 142, 143, 207. -/
def Obligations.ReportsAndAcknowledgements : Prop :=
  (∀ (s : State) (i : Fin 512) (eq : Bool), reservedSource i.val = false → (i.val ≠ 0 ∨ eq = true) → exec (.faultReport i eq false) s = .next (s.samplePair i.val eq)) ∧
    (∀ (s : State) (i : Fin 512), (s.pair i.val).active = true → exec (.faultAck i) s = .next s) ∧
    (∀ (s : State) (i : Fin 512), (s.pair i.val).pend = true → (s.pair i.val).active = false → (s.pair i.val).wire = false → (s.pair i.val).degr = false →
      (s.pair i.val).savedCap = none → exec (.faultAck i) s = .next (s.setPairSt i.val { s.pair i.val with pend := false, degr := false, savedCap := none })) ∧
    (∀ s : State, exec .ackAll s = .next s.ackAll) ∧ (∀ (s : State) (c : BitVec 16), exec (.collectorSelfFault c) s = .next (s.selfFault c.toNat)) ∧
    ∀ s : State, exec .faultInject s = .next (s.inject (s.fld R.FLT_INJ F.FLT_INJ_SOURCE) (s.fld R.FLT_INJ F.FLT_INJ_KIND))

/-- R213, R217, R286, R287, R289, R301, outside Strike: a flit interval of a port or of a Seam direction; a flit at an ACTIVE Seam receiver whose CRC fails is counted bad, one of a stale epoch
is discarded, any other is taken; flits left unanswered for 200 ns are sent again, and the ninth time the link retrains.
The model's choices here are log entries 91, 92. -/
def Obligations.SeamFlitsTaken : Prop :=
  (∀ (s : State) (p : Fin 40) (readErr : Bool), s.inStrike = false → exec (.flitInterval (.port p) readErr) s = .next (s.dataInterval p.val readErr)) ∧
    (∀ (s : State) (b : Fin 8) (fromBell readErr : Bool), s.inStrike = false →
      exec (.flitInterval (.seam b fromBell) readErr) s = .next (s.seamInterval b.val (b2n fromBell) readErr)) ∧
    (∀ (s t : State) (b : Fin 8) (toBell : Bool) (split : Nat) (raw flit : List Byte), s.inStrike = false → s.seamState b.val = 3 →
      flit = ((s.seamDir b.val (dirOf toBell)).collect (s.seamW b.val) split (fit 256 raw)).1 →
      t = s.setSeamDir b.val (dirOf toBell) ((s.seamDir b.val (dirOf toBell)).collect (s.seamW b.val) split (fit 256 raw)).2 →
      (leAt flit 248 8 ≠ crc64 (flit.take 248) → exec (.seamFlit b toBell ⟨split, raw⟩) s = .next (t.seamBadFlit b.val (dirOf toBell))) ∧
      (leAt flit 248 8 = crc64 (flit.take 248) → (t.crossing b.val).armed = true →
        bits (leAt flit 0 8) 39 32 ≠ t.sideEpoch b.val (dirOf toBell) → exec (.seamFlit b toBell ⟨split, raw⟩) s = .next t) ∧
      (leAt flit 248 8 = crc64 (flit.take 248) → ((t.crossing b.val).armed = false ∨ bits (leAt flit 0 8) 39 32 = t.sideEpoch b.val (dirOf toBell)) →
        exec (.seamFlit b toBell ⟨split, raw⟩) s = .next (t.seamTake b.val (dirOf toBell) (leAt flit 0 8) ((flit.drop 8).take 240)))) ∧
    ∀ (s : State) (b : Fin 8) (fromBell : Bool), s.inStrike = false → s.seamState b.val = 3 → (s.seamDir b.val (b2n fromBell)).tx.held ≠ [] →
      (s.seamDir b.val (b2n fromBell)).tx.advAt + 200 ≤ s.now →
      (s.seamDir b.val (b2n fromBell)).tx.replay ≠ some (s.seamDir b.val (b2n fromBell)).tx.oldest →
      (8 ≤ (s.seamDir b.val (b2n fromBell)).resends → exec (.seamReplayTimeout b fromBell) s = .next (s.seamRetrain b.val 1 (some (b2n fromBell)))) ∧
      ((s.seamDir b.val (b2n fromBell)).resends < 8 → exec (.seamReplayTimeout b fromBell) s = .next (s.setSeamDir b.val (b2n fromBell)
        { (s.seamDir b.val (b2n fromBell)) with
          tx := { (s.seamDir b.val (b2n fromBell)).tx with
            replay := (s.seamDir b.val (b2n fromBell)).tx.held.head?.map (·.seq), advAt := s.now } }))

/-- R288, R292 to R297: markers go out when due; a marker word whose pattern or CRC fails is counted against its lane, and one that holds is taken; a lane reported or found
failed is lost; a calibration asked for moves the lane, and one reported done ends with the lane calibrated and its flit lane planned back.
The model's choices here are log entry 93. -/
def Obligations.SeamLanesKept : Prop :=
  (∀ (s : State) (b : Fin 8) (fromBell : Bool), s.inStrike = false → s.seamMarkDue b.val (b2n fromBell) = true →
      exec (.seamMarker b fromBell) s = .next (s.seamMarkers b.val (b2n fromBell))) ∧
    (∀ (s : State) (b : Fin 8) (toBell : Bool) (lane : Fin 68) (word : BitVec 64), s.inStrike = false → s.seamState b.val = 2 ∨ s.seamState b.val = 3 →
      exec (.seamMarkerReceive b toBell lane word) s = .next (if markerWordOk word.toNat then s.seamMarkerGood b.val (dirOf toBell) lane.val word.toNat
        else s.seamMarkerBad b.val (dirOf toBell) lane.val)) ∧
    (∀ (s t : State) (b : Fin 8) (toBell : Bool) (msg : List Byte) (c : Nat), s.inStrike = false → s.seamState b.val = 3 → msg.length = 16 → leAt msg 0 1 = c →
      leAt msg 1 1 = 16 → t = s.modSeamDir b.val (dirOf toBell) (fun x => { x with cin := x.cin.erase msg }) →
      (c = 1 → leAt msg 2 1 ≤ 67 → exec (.seamLaneFail b toBell msg) s =
        .next ((t.seamBad b.val (1 - dirOf toBell) [leAt msg 2 1]).loseSeamLane b.val (1 - dirOf toBell) (leAt msg 2 1))) ∧
      (c = 2 → leAt msg 2 1 ≤ 67 → (t.seamDir b.val (1 - dirOf toBell)).calUse = none → exec (.seamCalReq b toBell msg) s =
        .next ((t.modSeamDir b.val (1 - dirOf toBell) fun x => { x with calAsk := some (leAt msg 2 1) }).moveForCal b.val (1 - dirOf toBell) (leAt msg 2 1))) ∧
      (∀ f sp, c = 3 → (t.seamDir b.val (1 - dirOf toBell)).calUse = some (f, leAt msg 2 1, sp) → exec (.seamCalDone b toBell msg) s = .next (
        let e := 1 - dirOf toBell
        let u := (t.calSeam b.val e (leAt msg 2 1) (leAt msg 4 2) (leAt msg 6 1) (t.seamLane b.val e (leAt msg 2 1)).swing).modSeamDir b.val e fun x =>
          { x with calUse := none, calAsk := none }
        (((if f < 64 ∧ ((u.seam b.val).bad e).contains (leAt msg 2 1) = false then u.planSeam b.val e f (leAt msg 2 1) else u).noteSpares b.val).askCal b.val e).retryCal
          b.val e)) ∧
      (c = 6 → exec (.seamRetrainReq b toBell msg) s = .next (t.seamRetrain b.val 5 none))) ∧
    (∀ (s : State) (b : Fin 8) (toBell : Bool) (lane : Fin 68) (cause : Fin 3), s.inStrike = false →
      (s.seamState b.val ≠ 2 → exec (.seamLaneFailureDetect b toBell lane cause) s = .next (s.seamLaneFails b.val (dirOf toBell) lane.val cause.val)) ∧
      (s.seamState b.val = 2 → (s.seamDir b.val (dirOf toBell)).map.contains lane.val = true →
        exec (.seamLaneFailureDetect b toBell lane cause) s = .next (s.widthFail b.val))) ∧
    ∀ (s : State) (b : Fin 8), s.inStrike = false → exec (.seamCalAll b) s = .next ([0, 1].foldl (fun t d => (List.range 68).foldl (fun u l => u.queueSeam b.val d l) t) s) ∧
      exec (.seamCalWaitTimeout b) s = .next ((s.calWaitLate b.val 0).calWaitLate b.val 1) ∧
      ∀ d t0, (s.seamDir b.val d).waitAt = some (t0, false) → 1000000000 + t0 ≤ s.now →
        s.calWaitLate b.val d = (s.modSeamDir b.val d fun x => { x with waitAt := some (t0, true) }).seamFault b.val 3 (le 1 d)

/-- R291, R293, R294, R297, R298, R301: a Seam link whose domains are on and whose Bell may run starts its lane test; 5 µs later the results choose its width; agreeing markers make it
ACTIVE, markers that disagree count a width failure, and none within 20 µs start the test over; a held link retires its Bell; the command retrains.
The model's choices here are log entries 93, 97. -/
def Obligations.SeamTrains : Prop :=
  (∀ (s : State) (b : Fin 8), s.inStrike = false → s.seamState b.val = 0 → s.dom (20 + b.val / 2) = 0 → s.dom (domBell b.val 1) = 0 →
      (s.bell b.val).inReset = false → (s.bell b.val).retired = false → (s.bell b.val).strapFail = false → s.fastClock = false →
      exec (.seamTrainStart b) s = .next ((s.setSeamState b.val 1).emit (.prbs b.val))) ∧
    (∀ (s : State) (b : Fin 8) (bad0 bad1 : List Nat), s.inStrike = false → s.seamState b.val = 1 → (s.seam b.val).since + 5000 ≤ s.now →
      exec (.seamTestDone b bad0 bad1) s = .next (s.seamTested b.val bad0 bad1)) ∧
    (∀ (s : State) (b : Fin 8), s.inStrike = false → s.seamState b.val = 2 → (s.seamAligned b.val = true → exec (.seamAlignDone b true) s = .next (s.seamUp b.val)) ∧
      exec (.seamAlignDone b false) s = .next (s.widthFail b.val)) ∧
    (∀ (s : State) (b : Fin 8), s.inStrike = false → s.seamState b.val = 2 → 20000 + (s.seam b.val).since ≤ s.now →
      exec (.seamAlignTimeout b) s = .next (s.setSeamState b.val 1)) ∧
    (∀ (s : State) (b : Fin 8), s.seamState b.val = 4 → (s.bell b.val).retired = false → exec (.seamHeld b) s =
      .next (((s.seamFault b.val 2 (le 1 (s.fld (R.SEAM_STAT b.val) F.SEAM_STAT_HELD_CAUSE))).retireBell b.val (srcSeam b.val 2)).setFld
        (R.SEAM_B_STAT b.val) F.SEAM_B_STAT_STATE 4)) ∧
    ∀ (s : State) (b : Fin 8), s.inStrike = false → exec (.seamRetrain b) s = .next (s.seamRetrain b.val 4 none) ∧
      exec (.seamLinkReset b) s = .next (s.seamLinkReset b.val)

/-- R298 to R301: a peer's reset indication drops the crossing on this side, and an indication whose epochs are equal is an error; the re-arm messages of a crossing that re-arms
store the peer's epoch and bring the side nearer to armed; a re-arm not finished 1 ms after ACTIVE is answered by a link reset, and the third retires.
The model's choices here are log entry 94. -/
def Obligations.CrossingsRearm : Prop :=
  (∀ (s : State) (c : Fin 16) (dieSide : Bool), exec (.peerResetIndication c dieSide false) s = .next (s.peerInReset c.val dieSide) ∧
      exec (.peerResetIndication c dieSide true) s = .next (s.pulse (srcCross c.val 1) (le 1 c.val))) ∧
    (∀ (s t : State) (c : Fin 16) (toDie : Bool) (msg : List Byte) (y : CrossSide), s.inStrike = false → s.rearming c.val = true → msg.length = 16 → leAt msg 1 1 = 16 →
      leAt msg 2 1 = s.epochOf c.val (!toDie) →
      t = (if c.val < 8 then s.modSeamDir c.val (dirOf toDie) (fun x => { x with cin := x.cin.erase msg }) else s).modSide c.val toDie (fun z => { z with peer := leAt msg 2 1 }) →
      y = (if toDie then (t.crossing c.val).die else (t.crossing c.val).ridge) →
      (leAt msg 0 1 = 4 → bit (leAt msg 4 1) 0 = true → y.drained = true → exec (.rearmReq c toDie msg) s = .next
        (((t.modSide c.val toDie fun z => { z with sentAck := true }).sendRearm c.val toDie
          (seamMsg 5 (le 1 ((t.modSide c.val toDie fun z => { z with sentAck := true }).epochOf c.val toDie) ++ le 1 y.peer ++ le 1 1))).armSide c.val toDie)) ∧
      (leAt msg 0 1 = 4 → (bit (leAt msg 4 1) 0 = false ∨ y.drained = false) → exec (.rearmReq c toDie msg) s = .next t) ∧
      (leAt msg 0 1 = 5 → exec (.rearmAck c toDie msg) s = .next ((t.modSide c.val toDie fun z => { z with gotAck := true }).armSide c.val toDie))) ∧
    (∀ (s : State) (c : Fin 16) (at_ : Nat), s.inStrike = false → (s.crossing c.val).armAt = some at_ → s.rearming c.val = true → 1000000 + at_ ≤ s.now →
      exec (.rearmTimeout c) s = .next (s.rearmLate c.val)) ∧
    ∀ (s : State) (k : Fin 8), exec (.slotLinkReset k) s = .next (s.slotLinkReset k.val)

/-- R304 to R306: a slot that is discovered shows what its training found, and is admitted when every check passes and refused with its cause otherwise; a module lost
in service leaves the others, and the last one refuses the slot; the commands retrain it and allow a third-party die; its fault is a source.
The model's choices here are log entries 95, 96, 159. -/
def Obligations.SlotsAreAdmitted : Prop :=
  (∀ (s : State) (k : Fin 8) (modules rate cause : Nat) (good : List Nat) (desc : Option (List Byte)), s.inStrike = false → s.slotOpen k.val = true →
      good = ((List.range 4).filter fun m => bit modules m) → cause = slotCause good (s.fld (R.UCI_ADMIT k.val) F.UCI_ADMIT_ALLOW == 1) desc →
      (cause ≠ 0 → exec (.slotDiscovery k modules rate desc) s = .next ((s.slotSeen k.val good rate cause (fit 64 (desc.getD []))).refuseSlot k.val cause)) ∧
      (cause = 0 → exec (.slotDiscovery k modules rate desc) s =
        .next ((s.slotSeen k.val good rate 0 (fit 64 (desc.getD []))).slotAdmit k.val (fit 64 (desc.getD []))))) ∧
    (∀ (s : State) (k : Fin 8) (m : Fin 4) (good : List Nat), s.inStrike = false → s.fld (R.UCI_STAT k.val) F.UCI_STAT_STATE = 3 ∨ s.fld (R.UCI_STAT k.val) F.UCI_STAT_STATE = 4 →
      bit (s.fld (R.UCI_REPAIR k.val) F.UCI_REPAIR_DISABLED) m.val = false →
      good = ((List.range 4).filter fun j => !bit (s.fld (R.UCI_REPAIR k.val) F.UCI_REPAIR_DISABLED) j && j != m.val) →
      exec (.slotModuleLoss k m) s = .next (if good.isEmpty then (s.setModules k.val good ((s.slot k.val).occ == .canopy)).refuseSlot k.val 6
        else s.setModules k.val good ((s.slot k.val).occ == .canopy))) ∧
    (∀ (s : State) (k : Fin 8), s.inStrike = false → s.fld (R.UCI_STAT k.val) F.UCI_STAT_STATE = 3 → exec (.slotRetrain k) s = .next (s.startRearm (8 + k.val))) ∧
    (∀ (s t : State) (k : Fin 8), t = s.setFld (R.UCI_ADMIT k.val) F.UCI_ADMIT_ALLOW 1 →
      exec (.admitAllow k) s = .next (if t.fld (R.UCI_STAT k.val) F.UCI_STAT_STATE = 5 ∧ t.fld (R.UCI_STAT k.val) F.UCI_STAT_CAUSE = 3 then
        (t.setFld (R.UCI_STAT k.val) F.UCI_STAT_STATE 1).setFld (R.UCI_STAT k.val) F.UCI_STAT_CAUSE 0 else t)) ∧
    ∀ (s : State) (k : Fin 8) (detail : List Byte), exec (.slotPartnerFault k detail) s = .next (s.pulse (srcSlot k.val 2) detail)

/-- R307, R308: the eight TAP instructions. The mission instructions leave the pins to the functions; the three that drive them do so only with the test lock open, and
otherwise the chain is in bypass. Beyond the chain, its output and the count of free values, nothing changes.
The model's choices here are log entries 9, 122. -/
def Obligations.TapInstructions : Prop :=
  (∀ (s : State), exec .tapBypass s = .next { s with tap := { s.tap with ir := .bypass, drive := none, hiz := false } } ∧
      exec .tapIdcode s = .next (State.emit { s with tap := { s.tap with ir := .idcode, drive := none, hiz := false, idcode := s.idcode } } (.tdo s.idcode)) ∧
      exec .tapReset s = .next { s with tap := { s.tap with ir := .idcode, drive := none, hiz := false, segs := [] } }) ∧
    (∀ (s : State) (preload : Nat), exec (.tapSamplePreload preload) s = .next (State.emit
      { s.freshNat.2 with tap := { s.tap with ir := .samplePreload, drive := none, hiz := false, boundary := preload } } (.tdo s.freshNat.1))) ∧
    (∀ (s : State) (unit : Fin 16),
      exec (.tapSegmentInsert unit) s = .next { s with
        tap := { s.tap with
          ir := .segmentInsert, drive := none, hiz := false,
          segs := if s.segOk unit.val then (List.range 16).filter (fun i => s.tap.segs.contains i || i == unit.val) else s.tap.segs } }) ∧
    ∀ (s : State) (levels : Nat),
      (s.pins.testMode = true → s.fld R.SEC_STAT F.SEC_STAT_UNLOCK = 1 →
        exec (.tapExtest levels) s = .next { s with tap := { s.tap with ir := .extest, boundary := levels, drive := some levels, hiz := false } } ∧
        exec (.tapClamp levels) s = .next { s with tap := { s.tap with ir := .clamp, boundary := levels, drive := some levels, hiz := false } } ∧
        exec .tapHighz s = .next { s with tap := { s.tap with ir := .highz, drive := none, hiz := true } }) ∧
      (s.pins.testMode = false ∨ s.fld R.SEC_STAT F.SEC_STAT_UNLOCK ≠ 1 →
        (∀ c, c = .tapExtest levels ∨ c = .tapClamp levels ∨ c = .tapHighz →
          exec c s = .next { s with tap := { s.tap with ir := .bypass, drive := none, hiz := false } }))

/-- R33, R328, R330, R332, R333: a trip of the reference in use enters Strike and moves to the fast oscillator, once ready within 5 ms; without it the device is clockless. A trip of the
fast oscillator in use is clockless at once; the slow oscillator only reports; a Bell's PLL trip resets the Bell, and the second within 1 s retires it.
The model's choices here are log entries 104, 119. -/
def Obligations.ClocksTrip : Prop :=
  (∀ (s : State) (code : Fin 8) (kind : Fin 4), s.fld R.CLK_STAT F.CLK_STAT_CLKLESS ≠ 1 → s.clk.onFast = false → s.clk.waitFast = none →
      s.clk.pend.any (fun e => e.1 == 0) = false → (code.val < 3 ∧ s.fld R.CLK_STAT F.CLK_STAT_SRC = code.val ∨ code.val = 5 ∨ code.val = 6) →
      exec (.referenceTrip code kind) s = .next (s.referenceTrip code.val kind.val)) ∧
    (∀ (s t : State), t = ((s.setFld R.CLK_STAT F.CLK_STAT_FAST_READY 0).clockTrip 3 2).pulse 15 [] →
      (s.clk.onFast = true → exec .fastOscTrip s = .next (t.clockless 3 2)) ∧ (s.clk.onFast = false → exec .fastOscTrip s = .next t)) ∧
    (∀ (s : State), exec .slowOscTrip s = .next (((s.setFld R.CLK_STAT F.CLK_STAT_SLOW_OK 0).clockTrip 4 2).pulse 16 [])) ∧
    (∀ (s u : State) (b : Fin 8) (kind : Fin 4), (s.bell b.val).inReset = false →
      u = (let t := (s.clockTrip (8 + b.val) kind.val).pulse (srcBell b.val 6) (le 1 kind.val)
        { t with clk := { t.clk with bellTrip := SMap.set (fun _ => none) t.clk.bellTrip b.val (some s.now) } }) →
      (SMap.get (fun _ => none) s.clk.bellTrip b.val = none → exec (.bellPllTrip b kind) s = .next (u.bellReset b.val)) ∧
      ∀ t0, SMap.get (fun _ => none) s.clk.bellTrip b.val = some t0 →
        (s.now < 1000000000 + t0 → exec (.bellPllTrip b kind) s = .next (u.retireBell b.val (srcBell b.val 6))) ∧
        (1000000000 + t0 ≤ s.now → exec (.bellPllTrip b kind) s = .next (u.bellReset b.val))) ∧
    (∀ (s t : State), t = s.setFld R.CLK_STAT F.CLK_STAT_FAST_READY 1 → (s.clk.waitFast = none → exec .fastReady s = .next t) ∧
      ∀ t0, s.clk.waitFast = some t0 → s.now ≤ 5000000 + t0 → exec .fastReady s = .next ({ t with clk := { t.clk with waitFast := none } }.requestMux 0)) ∧
    (∀ (s : State) (t0 : Nat), s.clk.waitFast = some t0 → 5000000 + t0 < s.now →
      exec .fallbackTimeout s = .next (s.clockless (s.fld R.CLK_TRIP F.CLK_TRIP_CLOCK) (s.fld R.CLK_TRIP F.CLK_TRIP_KIND))) ∧
    (∀ (s : State) (m : Fin 10), s.clk.pend.any (fun e => e.1 == m.val && decide (e.2 + 160 ≤ s.now)) = true →
      exec (.muxSwitchTimeout m) s = .next (s.forceMux m.val)) ∧
    ∀ (s : State) (muxes : BitVec 10), exec (.clkMuxForce muxes) s = .next ((List.range 10).foldl (fun t m => if bit muxes.toNat m then t.forceMux m else t) s)

/-- R193, R194, R446: a frame at a port's Ethernet instance that is up is dropped unless it is a whole IPv6 frame; a solicitation of this port's address is answered by an
advertisement, an echo request by a reply, an advertisement resolves its neighbour, and anything else goes to the host's datagrams; the PCS of a bridge port comes and goes.
The model's choices here are log entries 62, 63, 64. -/
def Obligations.FramesAreTaken : Prop :=
  (∀ (s : State) (p : Fin 32) (inst : Fin 2) (frame : List Byte) (i : Instr), s.inStrike = false → s.ethUp p.val inst.val = true →
      (i = .ethFrame p inst frame ∨ i = .neighborSolicitation p inst frame ∨ i = .echoRequest p inst frame) →
      ((Frame.parse frame).whole = false ∨ (Frame.parse frame).etype ≠ 0x86DD ∨ (Frame.parse frame).ver ≠ 6 → exec i s = .next s.ethDrop) ∧
      ((Frame.parse frame).whole = true → (Frame.parse frame).etype = 0x86DD → (Frame.parse frame).ver = 6 →
        (s.isSolicitation p.val (Frame.parse frame) = true → exec i s = .next (s.advertise p.val inst.val (Frame.parse frame))) ∧
        (s.isSolicitation p.val (Frame.parse frame) = false → s.isEcho p.val (Frame.parse frame) = true →
          exec i s = .next (s.echo p.val inst.val (Frame.parse frame))) ∧
        (s.isSolicitation p.val (Frame.parse frame) = false → s.isEcho p.val (Frame.parse frame) = false →
          (∀ e, s.advertised? p.val (Frame.parse frame) = some e → exec i s = .next (s.resolved p.val inst.val e.1 e.2)) ∧
          (s.advertised? p.val (Frame.parse frame) = none → exec i s = .next (s.udpFrame p (Frame.parse frame)))))) ∧
    ∀ (s : State) (p : Fin 32) (inst : Fin 2), s.inStrike = false → s.active = true → s.img.bridge = true → s.img.portUse p.val = 3 →
      exec (.ethernetPcsLock p inst true) s = .next (s.modPort p.val fun q => { q with pcs := (q.pcs ++ [inst.val]).eraseDups }) ∧
      exec (.ethernetPcsLock p inst false) s = .next (s.modPort p.val fun q => { q with pcs := q.pcs.filter (· != inst.val) })

/-- R337, R338, R340, R435, with power on the always-on domain: an input below 38.0 V, above 63.0 V or drawing more than 55.0 A, and a converter's loss, fail the power; an input
outside its working range raises the warning and one inside lowers it, unless the power has failed; a restored input ends the fail; above 72.0 V the device is past its absolute maximum.
The model's choices here are log entries 106, 107, 108. -/
def Obligations.InputIsWatched : Prop :=
  (∀ (s t : State) (cv : Nat), s.pwr.aon = true → cv < 3800 → t = (s.powerFail 1 cv 0).setFld R.PWR_IN F.PWR_IN_VIN cv →
      (cv ≠ 0 ∨ s.fld R.PWR_STAT F.PWR_STAT_AUX ≠ 0 → exec (.inputUndervoltage cv) s = .next t) ∧
      (cv = 0 → s.fld R.PWR_STAT F.PWR_STAT_AUX = 0 → exec (.inputUndervoltage cv) s = .next t.aonLost)) ∧
    (∀ (s : State) (cv : Nat), s.pwr.aon = true → (6300 < cv → cv ≤ 7200 → exec (.inputOvervoltage cv) s = .next ((s.powerFail 2 cv 0).setFld R.PWR_IN F.PWR_IN_VIN cv)) ∧
      (7200 < cv → exec (.inputOvervoltage cv) s = .fault .absoluteMaximum)) ∧
    (∀ (s : State) (cv : Nat) (t : Nat → Nat → State), s.pwr.aon = true → s.pwr.failed = false →
      t = (fun lo hi => ((s.setFld R.PWR_IN F.PWR_IN_VIN cv).setFld R.PWR_STAT F.PWR_STAT_VIN_LOW lo).setFld R.PWR_STAT F.PWR_STAT_VIN_HIGH hi) →
      (3800 ≤ cv → cv < 4000 → exec (.inputOutOfRange cv) s = .next ((t 1 0).raise 7 (le 2 cv))) ∧
      (6000 < cv → cv ≤ 6300 → exec (.inputOutOfRange cv) s = .next ((t 0 1).raise 7 (le 2 cv))) ∧
      (4000 ≤ cv → cv ≤ 6000 → exec (.inputOutOfRange cv) s = .next ((t 0 0).lower 7))) ∧
    (∀ (s : State) (cv : Nat), s.pwr.aon = true → s.pwr.failed = true → exec (.inputOutOfRange cv) s = .next (s.setFld R.PWR_IN F.PWR_IN_VIN cv)) ∧
    (∀ (s : State) (cv ca : Nat), s.pwr.aon = true → 5500 < ca → exec (.inputOvercurrent cv ca) s = .next (s.powerFail 3 cv ca)) ∧
    (∀ (s : State) (cause : Fin 8) (cv ca : Nat), s.pwr.aon = true → 1 ≤ cause.val → cause.val ≤ 4 →
      exec (.powerFail cause cv ca) s = .next (s.powerFail cause.val cv ca)) ∧
    (∀ (s t : State) (cv : Nat), s.pwr.aon = true → s.pwr.failed = true → 4050 ≤ cv → cv ≤ 5950 →
      t = ((s.setFld R.PWR_IN F.PWR_IN_VIN cv).setFld R.PWR_STAT F.PWR_STAT_VIN_LOW 0).setFld R.PWR_STAT F.PWR_STAT_VIN_HIGH 0 →
      exec (.inputQualified cv) s = .next ({ t with pwr := { t.pwr with failed := false } }.powerOnReset 4)) ∧
    ∀ (s : State) (on : Bool), s.pwr.aon = true →
      ((on = true ∨ s.pwr.failed = false ∨ s.fld R.PWR_IN F.PWR_IN_VIN ≠ 0) →
        exec (.auxPowerChange on) s = .next (s.setFld R.PWR_STAT F.PWR_STAT_AUX (b2n on))) ∧
      (on = false → s.pwr.failed = true → s.fld R.PWR_IN F.PWR_IN_VIN = 0 → exec (.auxPowerChange on) s = .next (s.setFld R.PWR_STAT F.PWR_STAT_AUX 0).aonLost)

/-- R250, R342, R343, R345 to R347: a domain takes the state asked for or records the refusal; an idle engine group sleeps; a domain whose power-good is lost takes its die out of service;
an operating point moves one step at a time, and a late step falls back; the power manager limits and feeds forward.
The model's choices here are log entries 109, 110, 114, 156, 202, 204, 205. -/
def Obligations.DomainsAndPower : Prop :=
  (∀ (s : State) (dom : Fin 148) (req : Fin 4), s.pwr.failed = false → s.dom 7 ≠ 3 → exec (.domainStateRequest dom req) s = .next (s.domRequest dom.val req.val)) ∧
    (∀ (s : State) (b : Fin 8) (g : Fin 4), s.inStrike = false → s.fld R.PWR_AUTO F.PWR_AUTO_ENG_EN = 1 → s.dom (domBell b.val (7 + g.val)) = 0 →
      (s.bell b.val).runs.any (fun r => r.cur.any fun a => bits a.d.clusterMask (4 * g.val + 3) (4 * g.val) != 0) = false →
      SMap.get (fun _ => 0) (s.bell b.val).engAt g.val + 1000 * s.fld R.PWR_AUTO F.PWR_AUTO_IDLE_US ≤ s.now →
      exec (.engineGroupIdle b g) s = .next (s.setDom (domBell b.val (7 + g.val)) 1)) ∧
    (∀ (s : State) (dom : Fin 148), s.pwr.failed = false → (28 ≤ dom.val → dom.val < 124 → s.fitted (bellOfDom dom.val) = true) →
      exec (.powerGoodFail dom) s = .next (s.poleFails dom.val)) ∧
    (∀ (s : State) (b : Fin 8), s.inStrike = false → s.oppRuns b.val = true → SMap.get (fun _ => none) s.pwr.step b.val = none → s.opp b.val ≠ s.oppTarget b.val →
      exec (.dvfsStep b) s = .next { s with pwr := { s.pwr with
        step := SMap.set (fun _ => none) s.pwr.step b.val (some (if s.opp b.val < s.oppTarget b.val then s.opp b.val + 1 else s.opp b.val - 1)) } }) ∧
    (∀ (s t : State) (b : Fin 8) (v : Nat), s.inStrike = false → SMap.get (fun _ => none) s.pwr.step b.val = some v →
      t = { s with pwr := { s.pwr with step := SMap.set (fun _ => none) s.pwr.step b.val none } } →
      exec (.dvfsStepEnd b false) s = .next (t.setOpp b.val v) ∧
      exec (.dvfsStepEnd b true) s = .next ((t.setOpp b.val (min v (s.opp b.val))).pulse (srcBell b.val 7) (le 1 (s.opp b.val) ++ le 1 v))) ∧
    (∀ (s : State) (peak avg : Nat), s.inStrike = false → exec (.powerLimitCheck peak avg) s = .next (s.limitPower peak avg)) ∧
    ∀ (s : State) (b : Fin 8) (power fine : Nat), s.inStrike = false → s.dom (domBell b.val 0) ≠ 3 →
      exec (.bellPowerSample b power fine) s = .next (s.powerSample b.val power (s.filtered b.val power fine))

/-- R348 to R353: a sensor's reading in range is kept and a broken sensor is marked bad; a region that is throttled steps its limit down and, once cool for 10 ms, leaves; the
cross-check runs for a die; a release request gives its result and, granted, resets the device with its latch cleared.
The model's choices here are log entries 111, 112, 113, 115. -/
def Obligations.ThermalsAreWatched : Prop :=
  (∀ (s : State) (i : Fin 608) (reading : Int) (fail : Fin 3), s.dieRead (sensorDie i.val) = true →
      (fail.val ≠ 0 ∨ reading < -80 ∨ 560 < reading → exec (.sensorSample i reading fail) s = .next (s.badSample i.val fail.val)) ∧
      (fail.val = 0 → -80 ≤ reading → reading ≤ 560 → exec (.sensorSample i reading fail) s = .next (s.goodSample i.val reading))) ∧
    (∀ (s : State) (region : Fin 17), s.inStrike = false →
      (∀ t, (s.region region.val).on = true → (s.region region.val).coolAt = some t → 10000000 + t ≤ s.now →
        exec (.throttleStep region) s = .next (s.leaveThrottle region.val)) ∧
      ((s.region region.val).on = true → (s.region region.val).coolAt = none → region.val ≠ 0 → 1000000 + (s.region region.val).stepAt ≤ s.now →
        exec (.throttleStep region) s = .next ((s.setRegionLim region.val (s.regionLim region.val - 1)).setRegion region.val { (s.region region.val) with
          stepAt := s.now, zeroAt := if s.regionLim region.val - 1 = 0 then some ((s.region region.val).zeroAt.getD s.now) else none })) ∧
      ((s.region region.val).on = false → s.regionLim region.val < 5 → 10000000 + (s.region region.val).stepAt ≤ s.now →
        exec (.throttleStep region) s = .next ((s.setRegionLim region.val (s.regionLim region.val + 1)).setRegion region.val
          { (s.region region.val) with stepAt := s.now }))) ∧
    (∀ (s : State) (die : Fin 17), s.pwr.aon = true → exec (.thmXcheck die) s = .next ((s.setFld R.THM_XCHECK F.THM_XCHECK_DIE die.val).thmXcheck die.val)) ∧
    ∀ (s : State), s.pwr.aon = true →
      (s.releaseResult ≠ 1 → exec .thmRelease s = .next (s.setFld R.THM_RELEASE F.THM_RELEASE_RESULT s.releaseResult)) ∧
      (s.releaseResult = 1 → exec .thmRelease s = .next (((s.setFld R.THM_RELEASE F.THM_RELEASE_RESULT 1).setReg R.THM_LATCH 0).pinReset 2))

/-- R17, R24, R25, R415, R416, R420: the resets. The pin, a command and the fall of TEST_MODE reset the device and start it up; releasing RESET_N starts it; always-on power
brings the state back with nothing converted; a Bell leaving reset has its straps checked.
The model's choices here are log entries 116, 117, 118, 119, 120, 121, 122, 206, 213. -/
def Obligations.ResetsAreTaken : Prop :=
  (∀ (s : State), s.pins.resetN = true →
      (s.pwr.aon = true → exec .pinReset s = .next ({ s with pins := { s.pins with resetN := false } }.pinReset 0)) ∧
      (s.pwr.aon = false → exec .pinReset s = .next { s with pins := { s.pins with resetN := false } })) ∧
    (∀ (s : State), s.pins.resetN = false → exec .resetNRelease s = .next (State.startUp { s with pins := { s.pins with resetN := true } })) ∧
    (∀ (s : State), s.pwr.aon = true → exec .powerOnReset s = .next (State.powerOnReset { s with pwr := { s.pwr with failed := false } } 4) ∧
      exec .secPinReset s = .next (s.pinReset 1) ∧ exec .secPowerOnReset s = .next (s.powerOnReset 1)) ∧
    (∀ (s t : State), t = { s with pins := { s.pins with testMode := false } } →
      (s.pwr.aon = true → s.fld R.SEC_STAT F.SEC_STAT_UNLOCK = 1 → exec .testModeFall s = .next (t.pinReset 3)) ∧
      (s.fld R.SEC_STAT F.SEC_STAT_UNLOCK ≠ 1 → exec .testModeFall s = .next t)) ∧
    (∀ (s : State) (gaddr : Fin 8), s.pwr.aon = false → exec (.alwaysOnPowerUp gaddr) s = .next (State.setFld { s with
      pwr := { s.pwr with aon := true, failed := true }, pins := { s.pins with gaddr := gaddr.val } } R.CLK_STAT F.CLK_STAT_SLOW_OK 1)) ∧
    ∀ (s : State) (b : Fin 8) (bstrap : Fin 16) (form : Bool), s.inStrike = false → (s.bell b.val).inReset = true → (s.bell b.val).retired = false →
      (s.bell b.val).dead = false → s.pins.resetN = true → s.dom (domBell b.val 0) = 0 → s.dom (domBell b.val 1) = 0 →
      (strapParity bstrap.val = true → strapForm bstrap.val form = true → strapPort bstrap.val b.val = true →
        exec (.bellResetRelease b bstrap form) s = .next ((s.strapRead b.val bstrap.val form).bellReleased b.val (s.bell b.val))) ∧
      (strapParity bstrap.val = false ∨ strapForm bstrap.val form = false ∨ strapPort bstrap.val b.val = false →
        exec (.bellResetRelease b bstrap form) s = .next (((((s.strapRead b.val bstrap.val form).setBell b.val { (s.bell b.val) with strapFail := true }).pulse
          (srcBell b.val 0) (le 1 b.val ++ le 1 bstrap.val)).bellOff b.val).pairOff b.val))

/-- R410: the result of a commit of a level by the table: the bar of its key, NOT_HIGHER, RANGE, FUSE_FAIL where the fuses do not read back, and the level's new value
otherwise; each commit reports its result and writes its record.
The model's choices here are log entry 126. -/
def Obligations.CommitsFollowTheTable : Prop :=
  (∀ (s : State) (fails : Bool), s.pwr.aon = true → exec (.fwLvlCommit fails) s = .next (s.commit .fw fails) ∧
      exec (.pitLvlCommit fails) s = .next (s.commit .pit fails) ∧ exec (.certLvlCommit fails) s = .next (s.commit .cert fails)) ∧
    (∀ (s : State) (k : Level) (fails : Bool),
      (s.levelBar k ≠ 0 → s.commitRes k fails = s.levelBar k ∧ (s.commit k fails).fuses = s.fuses) ∧
      (s.levelBar k = 0 → s.nextLevel k ≤ s.level k → s.commitRes k fails = 2 ∧ (s.commit k fails).fuses = s.fuses) ∧
      (s.levelBar k = 0 → s.level k < s.nextLevel k → 64 < s.nextLevel k → s.commitRes k fails = 3 ∧ (s.commit k fails).fuses = s.fuses) ∧
      (s.levelBar k = 0 → s.level k < s.nextLevel k → s.nextLevel k ≤ 64 → fails = false →
        (s.commit k fails).level k = s.nextLevel k ∧ (s.commit k fails).fld R.SEC_STAT F.SEC_STAT_COMMIT_RES = 1) ∧
      (s.levelBar k = 0 → s.level k < s.nextLevel k → s.nextLevel k ≤ 64 → fails = true →
        s.level k ≤ (s.commit k fails).level k ∧ (s.commit k fails).level k < s.nextLevel k)) ∧
    ∀ (s : State), (s.levelBar .fw = 0 ↔ ∃ b, s.sec.running = some b ∧ s.fwSlot b = .confirmed) ∧ (s.levelBar .pit = 0 ↔ s.active = true)

/-- R396, R406, R408, R414, R415: the firmware update is started, filled in order, and completed or abandoned; the running trial is confirmed; binding, the test-lock
nonce and token are answered; the Dry bag is read and erased.
The model's choices here are log entries 123, 124, 125, 126, 127, 210, 211. -/
def Obligations.FirmwareAndLocks : Prop :=
  (∀ (s : State), s.pwr.aon = true → exec .confirm s = .next s.confirmFw ∧ exec .abandon s = .next s.abandonFw ∧ exec .erasePinned s = .next s.erasePinned ∧
      exec .eraseRing s = .next s.eraseRing ∧ exec .dryDataRead s = .next (s.readDry.2.emit (.word s.readDry.1))) ∧
    (∀ (s : State) (len : Nat), s.pwr.aon = true → s.sec.upd = none → len ≤ 0xF00000 → exec (.firmwareUpdate (.start len)) s =
      .next (State.fwRequest { (s.setFwSlot s.updateSlot .invalid) with
        sec := { (s.setFwSlot s.updateSlot .invalid).sec with upd := some { slotB := s.updateSlot, len := len, got := 0 } } })) ∧
    (∀ (s : State) (u : FwUpd) (off : Nat) (bytes : List Byte), s.pwr.aon = true → s.sec.upd = some u →
      (off = u.got → off + bytes.length ≤ u.len → exec (.firmwareUpdate (.data off bytes)) s = .next (State.fwRequest { (s.writeRaw (fwBase u.slotB + off) bytes) with
        sec := { (s.writeRaw (fwBase u.slotB + off) bytes).sec with upd := some { u with got := off + bytes.length } } })) ∧
      (off ≠ u.got ∨ u.len < off + bytes.length → exec (.firmwareUpdate (.data off bytes)) s = .next s) ∧
      exec (.firmwareUpdate .complete) s = .next (if u.got = u.len ∧ s.fwCheck u.slotB false = none then
        ((State.setFwSlot { s with sec := { s.sec with upd := none } } u.slotB .pending).updateRecord u.slotB 0).fwSend 0x17 (le 1 0)
        else s.updateFails.fwSend 0x17 (le 1 1)) ∧
      exec (.firmwareUpdate .cancel) s = .next s.updateFails) ∧
    (∀ (s : State) (cert : List Byte), s.pwr.aon = true → s.recovery = false →
      (cert.length ≠ 224 → exec (.guyBind cert) s = .next (s.answer 5 9 [])) ∧
      (∀ u : State, cert.length = 224 → s.fuses.bound = false → u = (s.pulse 31 (le 1 5)).dryEvent 0x0103 0 (le 8 (certKey cert) ++ le 1 0) →
        exec (.guyBind cert) s = .next (
          if bit (leAt cert 4 1) 0 = true ∧ leAt cert 16 8 = Config.rootKeyId ∧ certOk Config.rootKey cert = true then
            (State.dryEvent { s with fuses := { s.fuses with bound := true, bindId := certKey cert } } 0x0103 0 (le 8 (certKey cert) ++ le 1 1)).answer 5 0 []
          else (u.freshBytes 1).2.answer 5 (leNat (u.freshBytes 1).1) [])) ∧
      ∀ u : State, cert.length = 224 → s.fuses.bound = true → u = (s.pulse 31 (le 1 5)).dryEvent 0x0103 0 (le 8 (certKey cert) ++ le 1 0) →
        exec (.guyBind cert) s = .next ((u.freshBytes 1).2.answer 5 (leNat (u.freshBytes 1).1) [])) ∧
    (∀ (s : State), s.pwr.aon = true → s.recovery = false →
      exec .guyUnlockNonce s = .next (State.answer { (s.freshBytes 32).2 with sec := { (s.freshBytes 32).2.sec with nonce := some (s.freshBytes 32).1 } } 6 0 (s.freshBytes 32).1)) ∧
    ∀ (s t u : State) (token : List Byte) (testMode : Bool), s.pwr.aon = true → s.recovery = false → token.length = 200 →
      t = { s with pins := { s.pins with testMode := testMode } } →
      u = State.dryEvent { t with sec := { t.sec with nonce := none } } 0x0104 0 (le 1 (b2n (t.tokenOk token)) ++ le 1 (b2n testMode)) →
      exec (.guyUnlock token testMode) s = .next (
        if t.tokenOk token = true then ((u.setFld R.SEC_STAT F.SEC_STAT_UNLOCK 1).setFld R.FLT_STAT F.FLT_STAT_TEST 1).answer 7 0 []
        else ((u.pulse 31 (le 1 7)).freshBytes 1).2.answer 7 (leNat ((u.pulse 31 (le 1 7)).freshBytes 1).1) [])

/-- R159, R160, R161: a write to the shadow's port by its owner, or with no owner, has its effect in the state that allows it and leaves the code of the refusal otherwise; a
write by the other master is SHADOW_BUSY; verification ends with its result or, with a peer that never became ready, PEER_NOT_READY.
The model's choices here are log entries 128, 129, 130, 131, 138, 178, 179, 180, 181, 183, 184, 185. -/
def Obligations.ShadowIsLoaded : Prop :=
  (∀ (s : State) (guy : Bool) (data : BitVec 32) (c : Instr), s.sec.running ≠ none → s.fld R.PIT_STAT F.PIT_STAT_OWNER ≠ 0 →
      s.fld R.PIT_STAT F.PIT_STAT_OWNER ≠ ownerOf guy →
      (c = .openShadow guy ∨ c = .shadowDataWrite guy data ∨ c = .verify guy ∨ c = .drop guy ∨ c = .arm guy ∨ c = .disarm guy) →
      exec c s = .next (s.pitCode 0x18)) ∧
    (∀ (s : State) (guy : Bool) (c : Instr), s.sec.running ≠ none → (s.fld R.PIT_STAT F.PIT_STAT_OWNER = 0 ∨ s.fld R.PIT_STAT F.PIT_STAT_OWNER = ownerOf guy) →
      (s.pit.shState ≠ .armed →
        exec (.openShadow guy) s = .next (((((State.setShadow { s.dropVerify with pit := { s.dropVerify.pit with shadow := {}, isSealed := false } } .loading).setFld
          R.PIT_STAT F.PIT_STAT_OWNER (ownerOf guy)).setFld R.PIT_SHD_LEN F.PIT_SHD_LEN_LEN 0).pitCode 0)) ∧
        exec (.drop guy) s = .next (((((State.setShadow { s.dropVerify with pit := { s.dropVerify.pit with shadow := {}, isSealed := false } } .empty).setFld
          R.PIT_STAT F.PIT_STAT_OWNER 0).setFld R.PIT_SHD_LEN F.PIT_SHD_LEN_LEN 0).pitCode 0))) ∧
      (s.pit.shState = .armed → (c = .openShadow guy ∨ c = .drop guy) → exec c s = .next (s.pitCode 0x1A)) ∧
      (s.pit.shState ≠ .loading → exec (.verify guy) s = .next (s.pitCode 0x1A)) ∧
      (∀ r, s.pit.shState = .loading → s.verifyImage s.pit.shadow = some r →
        exec (.verify guy) s = .next { s.setShadow .verifying with pit := { (s.setShadow .verifying).pit with res := some r } })) ∧
    (∀ (s : State) (guy : Bool) (data : BitVec 32) (o : Nat), s.sec.running ≠ none →
      (s.fld R.PIT_STAT F.PIT_STAT_OWNER = 0 ∨ s.fld R.PIT_STAT F.PIT_STAT_OWNER = ownerOf guy) → o = s.fld R.PIT_SHD_OFF F.PIT_SHD_OFF_OFF →
      (s.pit.shState ≠ .loading ∨ s.pit.isSealed = true → exec (.shadowDataWrite guy data) s = .next (s.pitCode 0x19)) ∧
      (s.pit.shState = .loading → s.pit.isSealed = false → o < 16777216 → exec (.shadowDataWrite guy data) s = .next (
        let st := s.pit.shadow.write o (le 4 data.toNat)
        ((State.setFld { s with pit := { s.pit with shadow := { st with len := max st.len (o + 4) } } } R.PIT_SHD_OFF F.PIT_SHD_OFF_OFF (o + 4)).setFld
          R.PIT_SHD_LEN F.PIT_SHD_LEN_LEN (max st.len (o + 4))).pitCode 0))) ∧
    (∀ (s : State) (r : VerRes), s.pit.res = some r → s.pit.shState = .verifying → exec .verifyDone s = .next (s.endVerify r) ∧
      (r.code = 0 → exec .verifyDone s = .next (((s.dropVerify.pitCode 0).setShadow .verified).setFld R.PIT_STAT F.PIT_STAT_DELTA 0))) ∧
    ∀ (s : State) (ext place : Nat), s.pit.shState = .verifying → s.pit.res = none → s.pit.peers.any (fun e => e.1 == ext) = true → s.pit.peerBy ≤ s.now →
      place = (s.pit.shadow.find 5).elim 0 (fun x => x.off + 8 + 32 * ext) →
      exec (.peerWaitTimeout ext) s = .next { s with pit := { s.pit with res := some { code := 0x12, sect := (s.pit.shadow.find 5).elim 0xFE (·.idx), off := place } } }

/-- R162, R163: a verified shadow is armed for a tick that is far enough ahead and a multiple of 128 with no REMAP pending; it is disarmed more than 128 ticks before; at its tick
it takes force when the units and capacity are there and no stream is open and no completion waits, and otherwise returns to VERIFIED with the code.
The model's choices here are log entries 132, 134, 182. -/
def Obligations.FullActivates : Prop :=
  (∀ (s : State) (guy : Bool), s.sec.running ≠ none → (s.fld R.PIT_STAT F.PIT_STAT_OWNER = 0 ∨ s.fld R.PIT_STAT F.PIT_STAT_OWNER = ownerOf guy) →
      (s.pit.shState ≠ .verified → exec (.arm guy) s = .next (s.pitCode 0x1A)) ∧
      (s.pit.shState = .verified → (s.actTick % 128 ≠ 0 ∨ s.actTick < s.ftc + 1024) → exec (.arm guy) s = .next (s.pitCode 0x14)) ∧
      (s.pit.shState = .verified → s.actTick % 128 = 0 → s.ftc + 1024 ≤ s.actTick → s.pit.remap ≠ none → exec (.arm guy) s = .next (s.pitCode 0x15)) ∧
      (s.pit.shState = .verified → s.actTick % 128 = 0 → s.ftc + 1024 ≤ s.actTick → s.pit.remap = none → exec (.arm guy) s = .next ((s.setShadow .armed).pitCode 0)) ∧
      (s.pit.shState = .armed → s.ftc + 128 < s.actTick → exec (.disarm guy) s = .next ((s.setShadow .verified).pitCode 0)) ∧
      (s.pit.shState = .armed → s.actTick ≤ s.ftc + 128 → exec (.disarm guy) s = .next s)) ∧
    ∀ (s : State), s.inStrike = false → s.pit.shState = .armed → s.actTick ≤ s.ftc →
      (∀ r, s.placeCheck s.pit.shadow = some r → exec .fullActivation s = .next (((s.setShadow .verified).noteShort r).pitCode r.code)) ∧
      (s.placeCheck s.pit.shadow = none → s.jrn.streams ≠ [] ∨ s.jrn.comps ≠ [] → exec .fullActivation s = .next ((s.setShadow .verified).pitCode 0x13)) ∧
      (s.placeCheck s.pit.shadow = none → s.jrn.streams = [] → s.jrn.comps = [] → exec .fullActivation s = .next s.swapImage)

/-- R161, R164, R166, R167: a REMAP is armed for a delta that fits and a tick far enough ahead, is disarmed, and is applied at its tick or ends with its code; a write to a live
word waits for the slot, one to any other word is denied; at the slot boundary the waiting words take effect; a peer's query is answered.
The model's choices here are log entries 131, 133. -/
def Obligations.RemapAndLive : Prop :=
  (∀ (s t : State) (guy : Bool) (delta : Fin 16), s.sec.running ≠ none → t = s.setFld R.PIT_REMAP F.PIT_REMAP_DELTA delta.val →
      (t.delta? delta.val = none → exec (.remapArm guy delta) s = .next (t.pitCode 0x1A)) ∧
      (∀ d u, t.delta? delta.val = some d → t.deltaFits d = true → t.tickPast t.remapTick = false →
        u = State.setFld { t with pit := { t.pit with remap := some (t.remapTick, delta.val) } } R.PIT_STAT F.PIT_STAT_REMAP_PEND 1 →
        exec (.remapArm guy delta) s = .next (if u.pit.shState = .armed then (u.setShadow .verified).pitCode 0x16 else u.pitCode 0)) ∧
      (∀ r, t.pit.remap = some r → t.ftc + 128 < r.1 → exec (.remapDisarm guy delta) s = .next (t.clearRemap.pitCode 0)) ∧
      (t.pit.remap = none → exec (.remapDisarm guy delta) s = .next (t.pitCode 0x1A))) ∧
    (∀ (s : State) (tick n : Nat) (d : Delta), s.inStrike = false → s.pit.remap = some (tick, n) → tick ≤ s.ftc → s.delta? n = some d →
      (s.placeCheck (s.img.applyDelta d) = none → exec .remapActivation s = .next (s.applyRemap d (s.img.applyDelta d) tick)) ∧
      ∀ r, s.placeCheck (s.img.applyDelta d) = some r → exec .remapActivation s = .next (((s.clearRemap.noteShort r).pitCode r.code).pulse 29 (le 1 n))) ∧
    (∀ (s : State) (data : BitVec 32) (x : Sect) (o : Nat), s.cfgWord? = some (x, o) →
      ((s.img.liveWords.contains (x.type, o) && liveScope x.type o) = false → exec (.liveWrite data) s = .next ((s.pitCode 0x17).bump R.PIT_DENY_CNT)) ∧
      ((s.img.liveWords.contains (x.type, o) && liveScope x.type o) = true →
        (if x.type = 10 then (s.img.write (x.off + o) (le 4 data.toNat)).badPolicy x else if x.type = 9 then (s.img.write (x.off + o) (le 4 data.toNat)).badSeverity x
          else (s.img.write (x.off + o) (le 4 data.toNat)).badRole x) = none →
        exec (.liveWrite data) s = .next ((State.setFld { s with pit := { s.pit with
          live := (s.pit.live.filter fun e => !(e.1 == x.idx && e.2.1 == o)) ++ [(x.idx, o, data.toNat)] } } R.PIT_LIVE_PEND F.PIT_LIVE_PEND_PEND 1).pitCode 0))) ∧
    (∀ (s t : State) (f : Store), s.liveDue = true → s.activationDue = false →
      t = (s.addFld R.PIT_LIVE_CNT whole s.pit.live.length).setFld R.PIT_LIVE_PEND F.PIT_LIVE_PEND_PEND 0 →
      f = s.pit.live.foldl (fun (t : Store) e => match t.sects[e.1]? with
        | some x => t.write (x.off + e.2.1) (le 4 e.2.2)
        | none => t) s.pit.force →
      exec .liveApply s = .next { t with pit := { t.pit with force := f, live := [] } }) ∧
    ∀ (s : State) (src : Entry) (raw : List Byte) (m : Msg), s.Takes src raw 0x2A m → exec (.pitchQueryMsg src raw) s = .next ((s.respond m 0 (s.queryBody m.srcNode m.body)).takeUp m)

/-- R380 to R384: outside Strike the probe of the buddies is sent every 100 µs, and no answer for 1.5 ms isolates the device; a die's loss is declared and a Pole's write of
a lost unit is taken; a reload that has finished arms its delta; without a delta the predecessor's streams are adopted at the slot after the lead.
The model's choices here are log entries 51, 135, 136, 137, 209. -/
def Obligations.LossIsHandled : Prop :=
  (∀ (s : State), s.inStrike = false → s.probes = true →
      (s.loss.probeAt.all (fun t => decide (100000 + t ≤ s.now)) = true →
        exec .buddyProbe s = .next (s.probed.foldl State.probe { s with loss := { s.loss with probeAt := some s.now } })) ∧
      (s.loss.armed = true → 1500000 + max s.loss.lastProbe s.loss.countFrom ≤ s.now → exec .ringIsolation s = .next ((s.pulse 28 []).enterStrike 28 0xFFFF))) ∧
    (∀ (s : State) (src : Entry) (data : BitVec 32), s.inStrike = false → exec (.lostUnitWrite src true data) s = .next (s.lostUnit data.toNat) ∧
      exec (.lostUnitWrite src false data) s = .next s) ∧
    (∀ (s : State) (x : Nat), s.inStrike = false → s.active = true →
      (∀ t, s.shownLost x 0 = false → s.loss.lost = none → x = s.fld R.WSQ_PRED F.WSQ_PRED_NODE → x ≠ s.node → s.jrn.adopted.contains x = false → s.downFor x 2000000 = true →
        SMap.get (fun _ => none) s.loss.probeSent x = some t → 100000 + t ≤ s.now → exec (.unitLostDeclare 0) s = .next (s.declareLost x 0)) ∧
      ∀ (b : Fin 8) (die : Fin 9), die.val = b.val + 1 → s.fitted b.val = true → s.shownLost s.node die.val = false →
        ((s.bell b.val).retired = true ∨ (s.bell b.val).inReset = true ∧ s.hasDelta b.val = true) →
        exec (.unitLostDeclare die) s = .next (s.declareLost s.node die.val)) ∧
    (∀ (s : State), s.fld R.WSQ_RELOAD_STAT F.WSQ_RELOAD_STAT_STATE = 2 → exec .reloadDone s = .next
      { (s.setFld R.WSQ_RELOAD_STAT F.WSQ_RELOAD_STAT_STATE 3).setFld R.WSQ_RELOAD_STAT F.WSQ_RELOAD_STAT_LEFT 0 with
        loss := { s.loss with cursor := [] } }) ∧
    (∀ (s t : State) (n k : Nat), s.inStrike = false → s.fld R.WSQ_RELOAD_STAT F.WSQ_RELOAD_STAT_STATE = 3 → s.pit.remap = none →
      n = s.fld R.WSQ_RELOAD_STAT F.WSQ_RELOAD_STAT_DELTA → k = slotAt (s.ftc + s.fld R.WSQ_AGENT_CFG F.WSQ_AGENT_CFG_LEAD) →
      t = ((s.castReg R.PIT_REMAP_TICK_LO (k % 2 ^ 32)).castReg R.PIT_REMAP_TICK_HI (k / 2 ^ 32)).castReg R.PIT_REMAP (n + 16) →
      exec .reloadComplete s = .next (((t.setPair R.PIT_REMAP_TICK_LO R.PIT_REMAP_TICK_HI k).armRemap n).setFld R.WSQ_RELOAD_STAT F.WSQ_RELOAD_STAT_STATE 0)) ∧
    ∀ (s : State) (x t : Nat), s.inStrike = false → s.loss.lost = some (x, 0, t) → x = s.fld R.WSQ_PRED F.WSQ_PRED_NODE →
      s.img.deltas.any (fun d => d.node == x && d.die == 0) = false → slotAt (t + s.fld R.WSQ_AGENT_CFG F.WSQ_AGENT_CFG_LEAD) ≤ s.ftc →
      exec .adoptWithoutRemap s = .next ((State.setFld { s with loss := { s.loss with lost := none } } R.WSQ_LOST_UNIT F.WSQ_LOST_UNIT_VALID 0).adopt x false)

/-- R16, R18, R19, R403: a write to a register of the control window has the register's effect; one to an offset that its check refuses is counted with its cause; one that only a Pole or
only the Guy line may make is refused for the others, and a refused Guy-line register is counted and not changed.
The model's choices here are log entries 138, 139, 140. -/
def Obligations.RegistersAreWritten : Prop :=
  ∀ (s : State) (src : Entry) (addr data : BitVec 32), s.pwr.aon = true →
    (∀ c, s.ctlCheck addr.toNat = some c → exec (.registerWrite src addr data) s = .next (s.refuseAt src c 0 addr.toNat)) ∧
    (s.ctlCheck addr.toNat = none → addr.toNat = R.WSQ_LOST_UNIT → src ≠ .ridge → exec (.registerWrite src addr data) s = .next (s.refuseAt src 4 0 addr.toNat)) ∧
    (s.ctlCheck addr.toNat = none → addr.toNat ≠ R.WSQ_LOST_UNIT → guyReg addr.toNat = true → src ≠ .guy →
      exec (.registerWrite src addr data) s = .next (s.bump R.SEC_GUY_DENY_CNT)) ∧
    (s.ctlCheck addr.toNat = none → (addr.toNat = R.WSQ_LOST_UNIT → src = .ridge) → (guyReg addr.toNat = true → src = .guy) →
      exec (.registerWrite src addr data) s = .next (s.writeReg (src == .guy) addr.toNat data.toNat))

/-- A step with a command in front runs exactly that command on the rest of the queue.
The model's choices here are log entry 2. -/
def Obligations.StepRunsTheFront : Prop :=
  ∀ (s : State) (c : Instr) (rest : List Instr), step { s with pending := c :: rest } = exec c { s with pending := rest }

/-- R312, R319: with no command waiting, a step is one tick of the clocks (the model's choice, log entry 2): the queue stays empty, and where the FTC counts with no tick to
gain or lose and no load due, local time and the FTC each advance by one.
The model's choices here are log entry 100. -/
def Obligations.IdleStepTicks : Prop :=
  ∀ (s : State), s.pending = [] → step s = .next s.tick ∧ s.tick.pending = [] ∧
    (s.time.counting = true → s.time.skew = 0 → s.time.loadDue = false → s.tick.now = s.now + 1 ∧ s.tick.ftc = s.ftc + 1) ∧
    (s.time.counting = false → s.tick.now = s.now + 1 ∧ s.tick.ftc = s.ftc)

/-- The state right after reset is sound, nothing waits in its queue, RESET_N is low, memory lists nothing, no image is in force, the FTC is FREE, every port and Seam link
is OFF, and every register reads its reset value.
The model's choices here are log entries 6, 8. -/
def Obligations.ResetIsSound : Prop :=
  State.reset.Sound ∧ State.reset.pending = [] ∧ State.reset.mem = [] ∧ State.reset.pins.resetN = false ∧ State.reset.active = false ∧ State.reset.ftcState = 0 ∧
    State.reset.inStrike = false ∧ (∀ p, State.reset.lnk p = 0) ∧ (∀ b, State.reset.seamState b = 0) ∧ ∀ a, State.reset.reg a = resetWord a

/-- From every sound state, a step that answers a next state answers a sound one: memory and registers in canonical form, at most 256 pinned records (R392), at most 64 unread
events (R405) and levels within 64 fuses (R410). -/
def Obligations.EveryStepKeepsSound : Prop :=
  ∀ (s t : State), s.Sound → step s = .next t → t.Sound

/-- R410, R414: in every state, a step lowers no fused level, undoes no binding and changes no value of manufacture. -/
def Obligations.LevelsNeverFall : Prop :=
  ∀ (s t : State), step s = .next t → Fuses.NotBelow s.fuses t.fuses

/-- The frame of every command: it leaves the queue and the time as they are, and every piece of the state that the table of mayChange does not give it.
The model's choices here are log entries 3, 9. -/
def Obligations.CommandsKeepTheirFrame : Prop :=
  ∀ (c : Instr) (s t : State), exec c s = .next t → t.pending = s.pending ∧ t.now = s.now ∧ ∀ p, p ∉ mayChange c → p.Same s t

/-- R337, R432: every command answers a next state in every state; only an input above 72 V stops the model, beyond the absolute maximum ratings.
The model's choices here are log entries 3, 107. -/
def Obligations.OnlyRatingsStop : Prop :=
  ∀ (c : Instr) (s : State), (∃ t, exec c s = .next t) ∨ ∃ cv, c = .inputOvervoltage cv ∧ 7200 < cv ∧ exec c s = .fault .absoluteMaximum

/-- R81, R171, R172, R182: a message whose fields fit the header reads back from its own bytes, field for field, and bytes with another MCRC, a reserved bit or a length that is not LEN's
are no message; the 128 bytes of a work order whose reserved bits are zero are the bytes that LAUNCH and JRN_MIRROR carry for it. -/
def Obligations.EncodingsRoundTrip : Prop :=
  (
    (∀ (m : Msg), m.ver = 1 ∨ m.ver = 2 → m.mtype < 2 ^ 8 → m.ttl < 2 ^ 8 → m.dstNode < 2 ^ 20 → m.dstDie < 2 ^ 5 → m.srcNode < 2 ^ 20 → m.srcDie < 2 ^ 5 → m.epoch < 2 ^ 16 →
        m.tid < 2 ^ 64 → m.origTick < 2 ^ 32 → m.status < 2 ^ 8 → m.body.length ≤ 8192 → Msg.parse m.encode = some m) ∧
      (∀ (l : List Byte) (c : Nat), 36 ≤ l.length → c < 2 ^ 32 → c ≠ crc32 (l.take (l.length - 4)) → Msg.parse (l.take (l.length - 4) ++ le 4 c) = none) ∧
      ∀ (l : List Byte), l.length ≠ 36 + leAt l 14 2 ∨ 8 ≤ leAt l 2 1 ∨ (leAt l 0 1 ≠ 1 ∧ leAt l 0 1 ≠ 2) → Msg.parse l = none) ∧
  (
    ∀ (l : List Byte), l.length = 128 → reservedZero l = true → (WorkOrder.decode l).encode = l)

/-- R48, R54, R56: a register or byte of memory reads as the last value written there, and what is not written keeps its value; a write to a Bell that reports no error, with no upset, leaves
its bytes in their place and every other byte of every Bell as it was, and to a cluster buffer it never errs.
The model's choices here are log entry 7. -/
def Obligations.WritesAreRead : Prop :=
  (
    (∀ (s : State) (a b : Nat) (w : Word), s.Canonical → (s.setReg a w).reg b = if b = a then w else s.reg b) ∧
      (∀ (s : State) (b b' off o : Nat) (l : List Byte), s.Canonical → off + l.length ≤ 2 ^ 39 → o < 2 ^ 39 →
        (s.writeMem b off l).memByte b' o = if b' = b ∧ off ≤ o ∧ o < off + l.length then l.getD (o - off) 0 else s.memByte b' o) ∧
      ∀ (s : State) (b off : Nat) (l : List Byte), s.Canonical → off + l.length ≤ 2 ^ 39 → (s.writeMem b off l).memBytes b off l.length = l) ∧
  (
    ∀ (s : State) (b o : Nat) (bytes : List Byte), s.Canonical → o + bytes.length ≤ 2 ^ 39 →
      (inDram o = false → (s.writeRange b o bytes []).2 = none) ∧
      ((s.writeRange b o bytes []).2 = none → ∀ b' a, a < 2 ^ 39 → (s.writeRange b o bytes []).1.memByte b' a =
        if b' = b ∧ o ≤ a ∧ a < o + bytes.length then bytes.getD (a - o) 0 else s.memByte b' a))

/-- R67: each finite term enters the sum truncated toward zero to a multiple of 2^(A − 95), INEXACT is set exactly when a non-zero bit of a term is lost, the truncated terms are added
exactly, and a NaN or infinite term makes the result the NaN marker and sets NONFINITE. -/
def Obligations.ExactSums : Prop :=
  (∀ (neg : Bool) (m : Nat) (e a : Int), ∃ (i : Int) (inexact : Bool), esfTerm (.fin neg m e) a = some (i, inexact) ∧
      (a - 95 ≤ e → i = sgn neg (m * 2 ^ (e - (a - 95)).toNat) ∧ inexact = false) ∧
      (e < a - 95 → ∃ k, i = sgn neg k ∧ k * 2 ^ (a - 95 - e).toNat ≤ m ∧ m < (k + 1) * 2 ^ (a - 95 - e).toNat ∧
        (inexact = true ↔ k * 2 ^ (a - 95 - e).toNat ≠ m))) ∧
    (∀ (ts : List Machine.Num) (a : Int), (esfSum ts a).2 = flagIf (ts.any fun t => !t.isFin) flNonfinite |||
      flagIf (ts.any fun t => ((esfTerm t a).map (·.2)).getD false) flInexact) ∧
    (∀ (ts : List Machine.Num) (a : Int), (∃ t ∈ ts, t.isFin = false) → (esfSum ts a).1 = esfNan) ∧
    ∀ (ts : List Machine.Num) (a : Int) (is : List (Int × Bool)), ts.length < 2 ^ 32 → ts.map (fun t => esfTerm t a) = is.map some → (∀ x ∈ is, x.1.natAbs < 2 ^ 95) →
      (esfSum ts a).1 = (is.map (·.1)).sum

/-- R60: element i of a row in an MX format is its element times 2^(s − 127) for the scale byte s of its block of 32, and NaN where s is 255; BF16, FP16 and FP32 have scale 1. -/
def Obligations.RowsCarryBlockScales : Prop :=
  ∀ (c k i : Nat) (l : List Byte) (x : Machine.Num), i < k → x = decodeElem c ((unpackCodes c k l).getD i 0) →
    (isMx c = false → (readRow c k l).values[i]? = some x) ∧
    (isMx c = true → ∀ sc, sc = leAt l (dataLen c k + i / 32) 1 →
      (sc = 255 → (readRow c k l).values[i]? = some .nan) ∧ (sc ≠ 255 → (readRow c k l).values[i]? = some (x.shift ((sc : Int) - 127))))

/-- R68: within its count of terms an exact sum, its flags and its NaN marker do not depend on the order of the terms, nor on their grouping over contributors. -/
def Obligations.ExactSumsAreOrderFree : Prop :=
  (∀ (ts us : List Machine.Num) (a : Int), ts.Perm us → ts.length < 2 ^ 32 → (∀ t ∈ ts, ∀ i x, esfTerm t a = some (i, x) → i.natAbs < 2 ^ 95) → esfSum ts a = esfSum us a) ∧
    ∀ (ts us : List Machine.Num) (a : Int), (ts ++ us).length < 2 ^ 32 → (∀ t ∈ ts ++ us, ∀ i x, esfTerm t a = some (i, x) → i.natAbs < 2 ^ 95) →
      esfSum (ts ++ us) a = (esfAdd (esfSum ts a).1 (esfSum us a).1, (esfSum ts a).2 ||| (esfSum us a).2)

/-- R59, R63, R71: rounding to a multiple of 2^q is to nearest, and a tie goes to the even multiple; a code of an element format of at most 8 bits that is no NaN converts back to itself,
saturating or not, but for the code 0x80 of MXINT8, which saturates to −127. -/
def Obligations.ConversionsRoundOnce : Prop :=
  (
    ∀ (m : Nat) (e q : Int), (q ≤ e → roundUnit m e q = m * 2 ^ (e - q).toNat) ∧
      (e < q → 2 * m ≤ (2 * roundUnit m e q + 1) * 2 ^ (q - e).toNat ∧ 2 * roundUnit m e q * 2 ^ (q - e).toNat ≤ 2 * m + 2 ^ (q - e).toNat ∧
        (2 * m = (2 * roundUnit m e q + 1) * 2 ^ (q - e).toNat ∨ 2 * roundUnit m e q * 2 ^ (q - e).toNat = 2 * m + 2 ^ (q - e).toNat → roundUnit m e q % 2 = 0))) ∧
  (
    ∀ (c code : Nat) (sat : Bool), c ≤ 5 → code < 2 ^ elemBits c → (decodeElem c code).isNan = false →
      ((c = 5 ∧ code = 0x80) → encodeElem c sat (decodeElem c code) = (0x81, true)) ∧ (¬ (c = 5 ∧ code = 0x80) → encodeElem c sat (decodeElem c code) = (code, false)))

/-- R74: ranked values keep their indices, each stands once, no value stands before a greater one, equal values stand by ascending index, and every NaN stands last. -/
def Obligations.RanksDescend : Prop :=
  ∀ (vs : List Machine.Num), (rankAll vs).Perm ((List.range vs.length).zip vs) ∧
    (rankAll vs).Pairwise fun a b => (b.2.isNan = true ∨ (a.2.isNan = false ∧ a.2.lt b.2 = false)) ∧
      (a.2.isNan = b.2.isNan → a.2.lt b.2 = false → b.2.lt a.2 = false → a.1 < b.1)

/-- R361: the configured severity of a source is its SEVERITY byte in the image in force, and 1 before any image is in force; sources 0, 6, 10, 14, 28 and 30 are always at effective
severity 4. -/
def Obligations.SeveritiesAreConfigured : Prop :=
  ∀ (s : State) (i : Nat), (s.active = true → s.sevCfg i = s.img.severity i) ∧ (s.active = false → s.sevCfg i = 1) ∧
    (i = 0 ∨ i = 6 ∨ i = 10 ∨ i = 14 ∨ i = 28 ∨ i = 30 → s.sevOf i = 4)
end

