-- ==== Sys2Proof/Laws/Map.lean ====
section
/-!
SUPPORT. The finite maps of the state: what a read gives after a write, and that every operation keeps the canonical form.
-/

namespace Sys2Proof.Machine

open Sys2Proof

/-- Every key of a map lies above k. -/
def SMap.above {α : Type} (k : Nat) (m : SMap α) : Prop := ∀ e ∈ m, k < e.1

/-- The canonical form of a longer map, by its head and its tail. -/
theorem SMap.wf_cons {α : Type} [DecidableEq α] (d : Nat → α) (k : Nat) (v : α) (t : SMap α) :
    SMap.wf d ((k, v) :: t) = true ↔ v ≠ d k ∧ SMap.above k t ∧ SMap.wf d t = true := by
  induction t generalizing k v with
  | nil => simp [SMap.wf, SMap.above]
  | cons e t ih =>
    obtain ⟨j, w⟩ := e
    simp only [SMap.wf, Bool.and_eq_true, decide_eq_true_eq]
    constructor
    · rintro ⟨⟨hkj, hv⟩, hw⟩
      refine ⟨hv, ?_, hw⟩
      intro e he
      rcases List.mem_cons.1 he with rfl | he
      · exact hkj
      · exact Nat.lt_trans hkj (((ih j w).1 hw).2.1 e he)
    · rintro ⟨hv, ha, hw⟩
      exact ⟨⟨ha (j, w) (by simp), hv⟩, hw⟩

/-- The empty map is canonical. -/
@[simp] theorem SMap.wf_nil {α : Type} [DecidableEq α] (d : Nat → α) : SMap.wf d ([] : SMap α) = true := rfl

/-- A key below every key of a map reads its default. -/
theorem SMap.get_above {α : Type} (d : Nat → α) (k : Nat) (m : SMap α) (h : SMap.above k m) : SMap.get d m k = d k := by
  induction m with
  | nil => rfl
  | cons e t ih =>
    obtain ⟨j, w⟩ := e
    have hk : k < j := h (j, w) (by simp)
    have hj : j ≠ k := by omega
    simp only [SMap.get, hj, if_false]
    exact ih fun e he => h e (by simp [he])

/-- The keys of a map with an entry put in. -/
theorem SMap.above_ins {α : Type} (j k : Nat) (m : SMap α) (o : Option α) (hm : SMap.above j m) (hk : j < k) :
    SMap.above j (SMap.ins m k o) := by
  induction m with
  | nil => cases o <;> simp [SMap.ins, SMap.above, hk]
  | cons e t ih =>
    obtain ⟨i, w⟩ := e
    have hi : j < i := hm (i, w) (by simp)
    have ht : SMap.above j t := fun e he => hm e (by simp [he])
    simp only [SMap.ins]
    split
    · cases o <;> intro e he <;> simp at he
      · rcases he with rfl | he
        · exact hi
        · exact ht e he
      · rcases he with rfl | rfl | he
        · exact hk
        · exact hi
        · exact ht e he
    · split
      · cases o <;> intro e he <;> simp at he
        · exact ht e he
        · rcases he with rfl | he
          · exact hk
          · exact ht e he
      · intro e he
        rcases List.mem_cons.1 he with rfl | he
        · exact hi
        · exact ih ht e he

/-- A canonical map with an entry put in or taken out is canonical. -/
theorem SMap.wf_ins {α : Type} [DecidableEq α] (d : Nat → α) (m : SMap α) (k : Nat) (o : Option α)
    (hm : SMap.wf d m = true) (ho : ∀ v, o = some v → v ≠ d k) : SMap.wf d (SMap.ins m k o) = true := by
  induction m with
  | nil => cases o <;> simp_all [SMap.ins, SMap.wf]
  | cons e t ih =>
    obtain ⟨i, w⟩ := e
    obtain ⟨hw, ha, ht⟩ := (SMap.wf_cons d i w t).1 hm
    simp only [SMap.ins]
    split
    · rename_i hki
      cases o with
      | none => exact hm
      | some v =>
        refine (SMap.wf_cons d k v _).2 ⟨ho v rfl, ?_, hm⟩
        intro e he
        rcases List.mem_cons.1 he with rfl | he
        · exact hki
        · exact Nat.lt_trans hki (ha e he)
    · split
      · rename_i hki
        subst hki
        cases o with
        | none => exact ht
        | some v => exact (SMap.wf_cons d k v _).2 ⟨ho v rfl, ha, ht⟩
      · exact (SMap.wf_cons d i w _).2 ⟨hw, SMap.above_ins i k t o ha (by omega), ih ht⟩

/-- A write keeps the canonical form. -/
@[simp] theorem SMap.wf_set {α : Type} [DecidableEq α] (d : Nat → α) (m : SMap α) (k : Nat) (v : α)
    (hm : SMap.wf d m = true) : SMap.wf d (SMap.set d m k v) = true := by
  refine SMap.wf_ins d m k _ hm ?_
  intro u hu
  split at hu
  · cases hu
  · cases hu; assumption

/-- Entries taken out of a canonical map leave a canonical map. -/
@[simp] theorem SMap.wf_filter {α : Type} [DecidableEq α] (d : Nat → α) (m : SMap α) (p : Nat × α → Bool)
    (hm : SMap.wf d m = true) : SMap.wf d (m.filter p) = true := by
  induction m with
  | nil => rfl
  | cons e t ih =>
    obtain ⟨i, w⟩ := e
    obtain ⟨hw, ha, ht⟩ := (SMap.wf_cons d i w t).1 hm
    simp only [List.filter]
    split
    · exact (SMap.wf_cons d i w _).2 ⟨hw, fun e he => ha e (List.mem_filter.1 he).1, ih ht⟩
    · exact ih ht

/-- A read of another key is not touched by a write. -/
theorem SMap.get_ins_ne {α : Type} (d : Nat → α) (m : SMap α) (j k : Nat) (o : Option α) (h : j ≠ k) :
    SMap.get d (SMap.ins m k o) j = SMap.get d m j := by
  induction m with
  | nil => cases o <;> simp [SMap.ins, SMap.get, Ne.symm h]
  | cons e t ih =>
    obtain ⟨i, w⟩ := e
    simp only [SMap.ins]
    split
    · cases o <;> simp [SMap.get, Ne.symm h]
    · split
      · rename_i hki
        subst hki
        cases o <;> simp [SMap.get, Ne.symm h]
      · simp [SMap.get, ih]

/-- A canonical map reads back what was put in, or the default of what was taken out. -/
theorem SMap.get_ins {α : Type} [DecidableEq α] (d : Nat → α) (m : SMap α) (k : Nat) (o : Option α)
    (hm : SMap.wf d m = true) : SMap.get d (SMap.ins m k o) k = o.getD (d k) := by
  induction m with
  | nil => cases o <;> simp [SMap.ins, SMap.get]
  | cons e t ih =>
    obtain ⟨i, w⟩ := e
    obtain ⟨_, ha, ht⟩ := (SMap.wf_cons d i w t).1 hm
    simp only [SMap.ins]
    split
    · rename_i hki
      cases o with
      | none =>
        have hik : i ≠ k := by omega
        simp only [SMap.get, hik, if_false, Option.getD_none]
        exact SMap.get_above d k t fun e he => Nat.lt_trans hki (ha e he)
      | some v => simp [SMap.get]
    · split
      · rename_i hki
        subst hki
        cases o with
        | none => simpa using SMap.get_above d k t ha
        | some v => simp [SMap.get]
      · rename_i _ hki
        simp [SMap.get, Ne.symm hki, ih ht]

/-- A write reads back at its key. -/
theorem SMap.get_set {α : Type} [DecidableEq α] (d : Nat → α) (m : SMap α) (k : Nat) (v : α) (hm : SMap.wf d m = true) :
    SMap.get d (SMap.set d m k v) k = v := by
  rw [SMap.set, SMap.get_ins d m k _ hm]
  split <;> simp_all

/-- A write leaves every other key as it was. -/
theorem SMap.get_set_ne {α : Type} [DecidableEq α] (d : Nat → α) (m : SMap α) (j k : Nat) (v : α) (h : j ≠ k) :
    SMap.get d (SMap.set d m k v) j = SMap.get d m j := SMap.get_ins_ne d m j k _ h

/-- The bytes of Bell memory keep their canonical form when one is written. -/
theorem State.setMem_wf (s : State) (b off : Nat) (v : Byte) (h : Memory.wf s.mem = true) : Memory.wf (s.setMem b off v).mem = true :=
  SMap.wf_set _ _ _ _ h

/-- A byte string written keeps the canonical form. -/
theorem State.writeMem_wf (s : State) (b off : Nat) (l : List Byte) (h : Memory.wf s.mem = true) : Memory.wf (s.writeMem b off l).mem = true := by
  induction l generalizing s off with
  | nil => exact h
  | cons v t ih => exact ih _ _ (s.setMem_wf b off v h)

/-- The memory of the reset state is canonical. -/
theorem State.reset_mem_wf : Memory.wf State.reset.mem = true := rfl

/-- A byte written reads back. -/
theorem State.memByte_setMem (s : State) (b off : Nat) (v : Byte) (h : Memory.wf s.mem = true) : (s.setMem b off v).memByte b off = v :=
  SMap.get_set _ _ _ _ h

/-- A byte written leaves the others. -/
theorem State.memByte_setMem_ne (s : State) (b off b' off' : Nat) (v : Byte) (h : cell b' off' ≠ cell b off) :
    (s.setMem b off v).memByte b' off' = s.memByte b' off' := SMap.get_set_ne _ _ _ _ _ h

/-- A register written reads back. -/
theorem State.reg_setReg (s : State) (a : Nat) (w : Word) (h : SMap.wf resetWord s.regs = true) : (s.setReg a w).reg a = w :=
  SMap.get_set _ _ _ _ h

/-- A register written leaves the others. -/
theorem State.reg_setReg_ne (s : State) (a b : Nat) (w : Word) (h : b ≠ a) : (s.setReg a w).reg b = s.reg b := SMap.get_set_ne _ _ _ _ _ h

end Sys2Proof.Machine
end

