-- ==== Sys2Proof/Laws/Follows.lean ====
section
/-!
SUPPORT. What every operation of the model keeps, said once as a relation between two states: the queue of commands and the time stay, a canonical memory and
register file stay canonical, fused levels never fall, the Dry bag's pinned area and the events of the Guy line keep their bounds, and the pieces of the state that
K names stay as they are.
-/

namespace Sys2Proof.Machine

open Sys2Proof

variable {K : Piece → Bool}

/-- The parts of a state that the relation speaks of, after a state s0. -/
def FollowsC (K : Piece → Bool) (s0 : State) (pending : List Instr) (now : Nat) (ftc : Nat) (regs : SMap Word) (fuses : Fuses) (mem : List Host.Cell) (trn : TrnSt) (jrn : JrnSt) (pit : PitSt) (flt : FltSt) (pole : PoleSt) (loss : LossSt) (dry : DrySt) (sec : SecSt) (pins : Pins) (bells : SMap BellSt) (col : ColSt) (ports : SMap PortSt) (slots : SMap SlotSt) (canopies : SMap CanopySt) (seams : SMap SeamSt) (cross : SMap CrossSt) (tap : TapSt) (time : TimeSt) (clk : ClkSt) (pwr : PwrSt) (spillq : List Nat) : Prop :=
  ((pending, now) = (s0.pending, s0.now) ∧ Fuses.NotBelow s0.fuses fuses ∧ (s0.fuses.InRange → fuses.InRange) ∧ (SMap.wf resetWord s0.regs = true → SMap.wf resetWord regs = true) ∧
    (Memory.wf s0.mem = true → Memory.wf mem = true) ∧ (s0.flt.events.length ≤ 64 → flt.events.length ≤ 64) ∧
    (s0.dry.pinned.length ≤ 256 → dry.pinned.length ≤ 256)) ∧
    ((K .ftc = true → ftc = s0.ftc) ∧ (K .regs = true → regs = s0.regs) ∧ (K .fuses = true → fuses = s0.fuses) ∧ (K .mem = true → mem = s0.mem) ∧ (K .trn = true → trn = s0.trn) ∧ (K .jrn = true → jrn = s0.jrn) ∧ (K .pit = true → pit = s0.pit) ∧ (K .flt = true → flt = s0.flt) ∧ (K .pole = true → pole = s0.pole) ∧ (K .loss = true → loss = s0.loss) ∧ (K .dry = true → dry = s0.dry) ∧ (K .sec = true → sec = s0.sec) ∧ (K .pins = true → pins = s0.pins) ∧ (K .bells = true → bells = s0.bells) ∧ (K .col = true → col = s0.col) ∧ (K .ports = true → ports = s0.ports) ∧ (K .slots = true → slots = s0.slots) ∧ (K .canopies = true → canopies = s0.canopies) ∧ (K .seams = true → seams = s0.seams) ∧ (K .cross = true → cross = s0.cross) ∧ (K .tap = true → tap = s0.tap) ∧ (K .time = true → time = s0.time) ∧ (K .clk = true → clk = s0.clk) ∧ (K .pwr = true → pwr = s0.pwr) ∧ (K .spillq = true → spillq = s0.spillq))

/-- State t comes after s0 by operations of the model. -/
def Follows (K : Piece → Bool) (s0 t : State) : Prop := FollowsC K s0 t.pending t.now t.ftc t.regs t.fuses t.mem t.trn t.jrn t.pit t.flt t.pole t.loss t.dry t.sec t.pins t.bells t.col t.ports t.slots t.canopies t.seams t.cross t.tap t.time t.clk t.pwr t.spillq

/-- What the relation says beside the pieces kept. -/
theorem Follows.iff {s0 t : State} : Follows K s0 t ↔ ((t.pending, t.now) = (s0.pending, s0.now) ∧ Fuses.NotBelow s0.fuses t.fuses ∧ (s0.fuses.InRange → t.fuses.InRange) ∧
    (SMap.wf resetWord s0.regs = true → SMap.wf resetWord t.regs = true) ∧ (Memory.wf s0.mem = true → Memory.wf t.mem = true) ∧
    (s0.flt.events.length ≤ 64 → t.flt.events.length ≤ 64) ∧ (s0.dry.pinned.length ≤ 256 → t.dry.pinned.length ≤ 256)) ∧ ∀ p, K p = true → p.Same s0 t := by
  refine and_congr Iff.rfl ⟨fun h p hp => ?_, fun h => ?_⟩
  · obtain ⟨hftc, hregs, hfuses, hmem, htrn, hjrn, hpit, hflt, hpole, hloss, hdry, hsec, hpins, hbells, hcol, hports, hslots, hcanopies, hseams, hcross, htap, htime, hclk, hpwr, hspillq⟩ := h
    cases p <;> simp_all [Piece.Same]
  · exact ⟨h .ftc, h .regs, h .fuses, h .mem, h .trn, h .jrn, h .pit, h .flt, h .pole, h .loss, h .dry, h .sec, h .pins, h .bells, h .col, h .ports, h .slots, h .canopies, h .seams, h .cross, h .tap, h .time, h .clk, h .pwr, h .spillq⟩

/-- An outcome is a fault, a refusal, or a state that comes after s0. -/
def OutFollows (K : Piece → Bool) (s0 : State) : Host.Outcome State Fault Refusal → Prop
  | .next t => Follows K s0 t
  | _ => True

theorem Fuses.NotBelow.refl (a : Fuses) : Fuses.NotBelow a a := by simp [Fuses.NotBelow]

theorem Fuses.NotBelow.trans {a b c : Fuses} (h : Fuses.NotBelow a b) (k : Fuses.NotBelow b c) : Fuses.NotBelow a c := by
  obtain ⟨h1, h2, h3, h4, h5, h6, h7, h8, h9, h10, h11, h12⟩ := h
  obtain ⟨k1, k2, k3, k4, k5, k6, k7, k8, k9, k10, k11, k12⟩ := k
  refine ⟨Nat.le_trans h1 k1, Nat.le_trans h2 k2, Nat.le_trans h3 k3, fun hb => ?_, k5.trans h5, k6.trans h6, k7.trans h7, k8.trans h8, k9.trans h9, k10.trans h10,
    k11.trans h11, k12.trans h12⟩
  obtain ⟨x, y⟩ := h4 hb
  obtain ⟨z, w⟩ := k4 x
  exact ⟨z, w.trans y⟩

theorem Piece.Same.refl (p : Piece) (s : State) : p.Same s s := by cases p <;> rfl

theorem Piece.Same.trans {p : Piece} {s t u : State} (h : p.Same s t) (k : p.Same t u) : p.Same s u := by cases p <;> exact Eq.trans k h

@[simp] theorem Follows.refl (s : State) : Follows K s s :=
  Follows.iff.2 ⟨⟨rfl, Fuses.NotBelow.refl _, fun h => h, fun h => h, fun h => h, fun h => h, fun h => h⟩, fun p _ => Piece.Same.refl p s⟩

theorem Follows.trans {s t u : State} (h : Follows K s t) (k : Follows K t u) : Follows K s u := by
  obtain ⟨⟨h1, h2, h3, h4, h5, h6, h7⟩, h8⟩ := Follows.iff.1 h
  obtain ⟨⟨k1, k2, k3, k4, k5, k6, k7⟩, k8⟩ := Follows.iff.1 k
  exact Follows.iff.2 ⟨⟨k1.trans h1, h2.trans k2, fun x => k3 (h3 x), fun x => k4 (h4 x), fun x => k5 (h5 x), fun x => k6 (h6 x), fun x => k7 (h7 x)⟩,
    fun p hp => (h8 p hp).trans (k8 p hp)⟩

/-- One operation on a state: what it does to the parts with a bound, and the pieces it keeps. -/
theorem Follows.step {s0 s t : State} (h : Follows K s0 s) (h1 : t.pending = s.pending) (h2 : t.now = s.now) (h3 : Fuses.NotBelow s.fuses t.fuses)
    (h4 : s.fuses.InRange → t.fuses.InRange) (h5 : SMap.wf resetWord s.regs = true → SMap.wf resetWord t.regs = true)
    (h6 : Memory.wf s.mem = true → Memory.wf t.mem = true) (h7 : s.flt.events.length ≤ 64 → t.flt.events.length ≤ 64)
    (h8 : s.dry.pinned.length ≤ 256 → t.dry.pinned.length ≤ 256) (h9 : ∀ p, K p = true → p.Same s t) : Follows K s0 t :=
  h.trans (Follows.iff.2 ⟨⟨by rw [h1, h2], h3, h4, h5, h6, h7, h8⟩, h9⟩)

@[simp] theorem OutFollows.next {s0 t : State} : OutFollows K s0 (.next t) ↔ Follows K s0 t := ⟨fun h => h, fun h => h⟩

@[simp] theorem OutFollows.fault {s0 : State} (r : Fault) : OutFollows K s0 (.fault r) := trivial

/-- The parts of a state put together again, some of them changed where K does not ask for them. -/
@[simp] theorem FollowsC.ofState {s0 t : State} {now : Nat} {ftc : Nat} {regs : SMap Word} {fuses : Fuses} {mem : List Host.Cell} {trn : TrnSt} {jrn : JrnSt} {pit : PitSt} {flt : FltSt} {pole : PoleSt} {loss : LossSt} {dry : DrySt} {sec : SecSt} {pins : Pins} {bells : SMap BellSt} {col : ColSt} {ports : SMap PortSt} {slots : SMap SlotSt} {canopies : SMap CanopySt} {seams : SMap SeamSt} {cross : SMap CrossSt} {tap : TapSt} {time : TimeSt} {clk : ClkSt} {pwr : PwrSt} {spillq : List Nat}
    (hnow : now = t.now) (hfuses : fuses = t.fuses) (hregs : regs = t.regs) (hmem : mem = t.mem) (hev : flt.events = t.flt.events) (hpin : dry.pinned = t.dry.pinned)
    (kftc : K .ftc = true → ftc = t.ftc) (ktrn : K .trn = true → trn = t.trn) (kjrn : K .jrn = true → jrn = t.jrn) (kpit : K .pit = true → pit = t.pit) (kflt : K .flt = true → flt = t.flt) (kpole : K .pole = true → pole = t.pole) (kloss : K .loss = true → loss = t.loss) (kdry : K .dry = true → dry = t.dry) (ksec : K .sec = true → sec = t.sec) (kpins : K .pins = true → pins = t.pins) (kbells : K .bells = true → bells = t.bells) (kcol : K .col = true → col = t.col) (kports : K .ports = true → ports = t.ports) (kslots : K .slots = true → slots = t.slots) (kcanopies : K .canopies = true → canopies = t.canopies) (kseams : K .seams = true → seams = t.seams) (kcross : K .cross = true → cross = t.cross) (ktap : K .tap = true → tap = t.tap) (ktime : K .time = true → time = t.time) (kclk : K .clk = true → clk = t.clk) (kpwr : K .pwr = true → pwr = t.pwr) (kspillq : K .spillq = true → spillq = t.spillq) (h : Follows K s0 t) :
    FollowsC K s0 t.pending now ftc regs fuses mem trn jrn pit flt pole loss dry sec pins bells col ports slots canopies seams cross tap time clk pwr spillq := by
  subst hnow hfuses hregs hmem
  obtain ⟨⟨h1, h2, h3, h4, h5, h6, h7⟩, hftc, hregs, hfuses, hmem, htrn, hjrn, hpit, hflt, hpole, hloss, hdry, hsec, hpins, hbells, hcol, hports, hslots, hcanopies, hseams, hcross, htap, htime, hclk, hpwr, hspillq⟩ := h
  exact ⟨⟨h1, h2, h3, h4, h5, by rwa [hev], by rwa [hpin]⟩, fun x => (kftc x).trans (hftc x), hregs, hfuses, hmem, fun x => (ktrn x).trans (htrn x), fun x => (kjrn x).trans (hjrn x), fun x => (kpit x).trans (hpit x), fun x => (kflt x).trans (hflt x), fun x => (kpole x).trans (hpole x), fun x => (kloss x).trans (hloss x), fun x => (kdry x).trans (hdry x), fun x => (ksec x).trans (hsec x), fun x => (kpins x).trans (hpins x), fun x => (kbells x).trans (hbells x), fun x => (kcol x).trans (hcol x), fun x => (kports x).trans (hports x), fun x => (kslots x).trans (hslots x), fun x => (kcanopies x).trans (hcanopies x), fun x => (kseams x).trans (hseams x), fun x => (kcross x).trans (hcross x), fun x => (ktap x).trans (htap x), fun x => (ktime x).trans (htime x), fun x => (kclk x).trans (hclk x), fun x => (kpwr x).trans (hpwr x), fun x => (kspillq x).trans (hspillq x)⟩

/-- A state written field by field. -/
@[simp] theorem Follows.ofMk {s0 : State} {pending : List Instr} {free : Nat} {now : Nat} {ftc : Nat} {regs : SMap Word} {fuses : Fuses} {mem : List Host.Cell} {out : List Out} {trn : TrnSt} {jrn : JrnSt} {pit : PitSt} {flt : FltSt} {pole : PoleSt} {loss : LossSt} {dry : DrySt} {sec : SecSt} {pins : Pins} {bells : SMap BellSt} {col : ColSt} {ports : SMap PortSt} {slots : SMap SlotSt} {canopies : SMap CanopySt} {seams : SMap SeamSt} {cross : SMap CrossSt} {tap : TapSt} {time : TimeSt} {clk : ClkSt} {pwr : PwrSt} {spillq : List Nat} :
    Follows K s0 (State.mk pending free now ftc regs fuses mem out trn jrn pit flt pole loss dry sec pins bells col ports slots canopies seams cross tap time clk pwr spillq) ↔ FollowsC K s0 pending now ftc regs fuses mem trn jrn pit flt pole loss dry sec pins bells col ports slots canopies seams cross tap time clk pwr spillq :=
  ⟨fun h => h, fun h => h⟩

/-! One piece of the state replaced. -/

theorem Follows.withJrn {s0 s : State} {v : JrnSt} (hK : K .jrn = false) (h : Follows K s0 s) : Follows K s0 { s with jrn := v } := by
  refine h.step rfl rfl (Fuses.NotBelow.refl _) id id id id id fun p hp => ?_
  cases p <;> first | rfl | simp_all

theorem Follows.withTrn {s0 s : State} {v : TrnSt} (hK : K .trn = false) (h : Follows K s0 s) : Follows K s0 { s with trn := v } := by
  refine h.step rfl rfl (Fuses.NotBelow.refl _) id id id id id fun p hp => ?_
  cases p <;> first | rfl | simp_all

theorem Follows.withLoss {s0 s : State} {v : LossSt} (hK : K .loss = false) (h : Follows K s0 s) : Follows K s0 { s with loss := v } := by
  refine h.step rfl rfl (Fuses.NotBelow.refl _) id id id id id fun p hp => ?_
  cases p <;> first | rfl | simp_all

theorem Follows.withSec {s0 s : State} {v : SecSt} (hK : K .sec = false) (h : Follows K s0 s) : Follows K s0 { s with sec := v } := by
  refine h.step rfl rfl (Fuses.NotBelow.refl _) id id id id id fun p hp => ?_
  cases p <;> first | rfl | simp_all

theorem Follows.withPit {s0 s : State} {v : PitSt} (hK : K .pit = false) (h : Follows K s0 s) : Follows K s0 { s with pit := v } := by
  refine h.step rfl rfl (Fuses.NotBelow.refl _) id id id id id fun p hp => ?_
  cases p <;> first | rfl | simp_all

theorem Follows.withPwr {s0 s : State} {v : PwrSt} (hK : K .pwr = false) (h : Follows K s0 s) : Follows K s0 { s with pwr := v } := by
  refine h.step rfl rfl (Fuses.NotBelow.refl _) id id id id id fun p hp => ?_
  cases p <;> first | rfl | simp_all

theorem Follows.withTime {s0 s : State} {v : TimeSt} (hK : K .time = false) (h : Follows K s0 s) : Follows K s0 { s with time := v } := by
  refine h.step rfl rfl (Fuses.NotBelow.refl _) id id id id id fun p hp => ?_
  cases p <;> first | rfl | simp_all

/-- Either branch of a choice. -/
@[simp] theorem Follows.ite {s0 a b : State} {c : Prop} [Decidable c] (ha : Follows K s0 a) (hb : Follows K s0 b) : Follows K s0 (if c then a else b) := by
  split <;> assumption

/-- A choice on an optional value. -/
@[simp] theorem elim_follows {α : Type} {s0 a : State} {o : Option α} {f : α → State} (ha : Follows K s0 a) (hf : ∀ x, Follows K s0 (f x)) :
    Follows K s0 (o.elim a f) := by
  cases o
  · exact ha
  · exact hf _

/-- A fold of operations, each of which keeps what the relation keeps. -/
@[simp] theorem foldl_follows {α : Type} {s0 : State} {f : State → α → State} {a : State} {l : List α} (h : Follows K s0 a)
    (hf : ∀ t x, Follows K t (f t x)) : Follows K s0 (l.foldl f a) := by
  induction l generalizing a with
  | nil => exact h
  | cons x t ih => exact ih (h.trans (hf _ _))

/-- The same for a fold that carries a value beside the state. -/
@[simp] theorem foldl_follows_fst {α β : Type} {s0 : State} {f : State × β → α → State × β} {a : State × β} {l : List α} (h : Follows K s0 a.1)
    (hf : ∀ (t : State × β) x, Follows K t.1 (f t x).1) : Follows K s0 (l.foldl f a).1 := by
  induction l generalizing a with
  | nil => exact h
  | cons x t ih => exact ih (h.trans (hf _ _))

@[simp] theorem foldl_follows_snd {α β : Type} {s0 : State} {f : β × State → α → β × State} {a : β × State} {l : List α} (h : Follows K s0 a.2)
    (hf : ∀ (t : β × State) x, Follows K t.2 (f t x).2) : Follows K s0 (l.foldl f a).2 := by
  induction l generalizing a with
  | nil => exact h
  | cons x t ih => exact ih (h.trans (hf _ _))

@[simp] theorem foldl_follows_acc {α : Type} {s0 : State} {f : Acc → α → Acc} {a : Acc} {l : List α} (h : Follows K s0 a.s)
    (hf : ∀ t x, Follows K t.s (f t x).s) : Follows K s0 (l.foldl f a).s := by
  induction l generalizing a with
  | nil => exact h
  | cons x t ih => exact ih (h.trans (hf _ _))

@[simp] theorem foldl_follows_acc_fst {α β : Type} {s0 : State} {f : Acc × β → α → Acc × β} {a : Acc × β} {l : List α} (h : Follows K s0 a.1.s)
    (hf : ∀ (t : Acc × β) x, Follows K t.1.s (f t x).1.s) : Follows K s0 (l.foldl f a).1.s := by
  induction l generalizing a with
  | nil => exact h
  | cons x t ih => exact ih (h.trans (hf _ _))

/-- A register written. -/
@[simp] theorem State.setReg_follows {s0 s : State} {a : Nat} {w : Word} (hK : K .regs = false) (h : Follows K s0 s) : Follows K s0 (s.setReg a w) := by
  refine h.step rfl rfl (Fuses.NotBelow.refl _) (fun x => x) (fun x => SMap.wf_set _ _ _ _ x) (fun x => x) (fun x => x) (fun x => x) fun p hp => ?_
  cases p <;> first | rfl | simp_all

/-- A byte of memory written. -/
@[simp] theorem State.setMem_follows {s0 s : State} {b off : Nat} {v : Byte} (hK : K .mem = false) (h : Follows K s0 s) : Follows K s0 (s.setMem b off v) := by
  refine h.step rfl rfl (Fuses.NotBelow.refl _) (fun x => x) (fun x => x) (fun x => SMap.wf_set _ _ _ _ x) (fun x => x) (fun x => x) fun p hp => ?_
  cases p <;> first | rfl | simp_all

/-- A fault pair changed: the events stay. -/
@[simp] theorem State.setPairSt_follows {s0 s : State} {i : Nat} {p : Pair} (hK : K .flt = false) (h : Follows K s0 s) : Follows K s0 (s.setPairSt i p) := by
  refine h.step rfl rfl (Fuses.NotBelow.refl _) (fun x => x) (fun x => x) (fun x => x) (fun x => x) (fun x => x) fun p hp => ?_
  cases p <;> first | rfl | simp_all

/-- A byte string written to memory. -/
@[simp] theorem State.writeMem_follows {s0 s : State} {b off : Nat} {l : List Byte} (hK : K .mem = false) (h : Follows K s0 s) : Follows K s0 (s.writeMem b off l) := by
  induction l generalizing s off with
  | nil => exact h
  | cons v t ih => exact ih (State.setMem_follows hK h)

/-- Some registers dropped. -/
theorem Follows.dropRegs {s0 t u : State} {p : Nat × Word → Bool} (hK : K .regs = false) (h : Follows K s0 t) (h1 : u = { t with regs := t.regs.filter p }) :
    Follows K s0 u := by
  subst h1
  refine h.step rfl rfl (Fuses.NotBelow.refl _) (fun x => x) (fun x => SMap.wf_filter _ _ _ x) (fun x => x) (fun x => x) (fun x => x) fun p hp => ?_
  cases p <;> first | rfl | simp_all

/-- Some registers returned to their reset values. -/
@[simp] theorem State.resetRegs_follows {s0 s : State} {d : Dom} {held : Nat → Bool} (hK : K .regs = false) (h : Follows K s0 s) : Follows K s0 (s.resetRegs d held) :=
  Follows.dropRegs hK h rfl

end Sys2Proof.Machine
end

