-- ==== Sys2Proof/Laws/FollowsFabric.lean ====
section
/-!
SUPPORT. What the relation of Laws/Follows.lean says of operations over the state, messages and the transport.
-/

set_option linter.all false
set_option Elab.async false

namespace Sys2Proof.Machine

open Sys2Proof

variable {K : Piece → Bool}

@[simp] theorem State.setFld_follows {s0 : State} {s : State} {a : Nat} {f : Fld} {v : Nat} (hK : K .regs = false) (hs : Follows K s0 s) :
    Follows K s0 (s.setFld a f v) := by
  simp (maxDischargeDepth := 30) [State.setFld, hK, hs]

@[simp] theorem State.addFld_follows {s0 : State} {s : State} {a : Nat} {f : Fld} {n : Nat} (hK : K .regs = false) (hs : Follows K s0 s) :
    Follows K s0 (s.addFld a f n) := by
  simp (maxDischargeDepth := 30) [State.addFld, hK, hs]

@[simp] theorem State.bump_follows {s0 : State} {s : State} {a : Nat} (hK : K .regs = false) (hs : Follows K s0 s) :
    Follows K s0 (s.bump a) := by
  simp (maxDischargeDepth := 30) [State.bump, hK, hs]

@[simp] theorem State.capture_follows {s0 : State} {s : State} {a : Nat} {v : Nat} (hK : K .regs = false) (hs : Follows K s0 s) :
    Follows K s0 (s.capture a v) := by
  simp (maxDischargeDepth := 30) [State.capture, hK, hs]

@[simp] theorem State.setPair_follows {s0 : State} {s : State} {lo hi v : Nat} (hK : K .regs = false) (hs : Follows K s0 s) :
    Follows K s0 (s.setPair lo hi v) := by
  simp (maxDischargeDepth := 30) [State.setPair, hK, hs]

@[simp] theorem State.freshNat_follows {s0 : State} {s : State} (hs : Follows K s0 s) :
    Follows K s0 (s.freshNat).2 := by
  simp (maxDischargeDepth := 30) [State.freshNat, hs]

@[simp] theorem State.freshBool_follows {s0 : State} {s : State} (hs : Follows K s0 s) :
    Follows K s0 (s.freshBool).2 := by
  simp (maxDischargeDepth := 30) [State.freshBool, hs]

@[simp] theorem State.freshBytes_follows {s0 : State} {s : State} {n : Nat} (hs : Follows K s0 s) :
    Follows K s0 (s.freshBytes n).2 := by
  simp (maxDischargeDepth := 30) [State.freshBytes, hs]

@[simp] theorem State.emit_follows {s0 : State} {s : State} {o : Out} (hs : Follows K s0 s) :
    Follows K s0 (s.emit o) := by
  simp (maxDischargeDepth := 30) [State.emit, hs]

@[simp] theorem State.setBellLive_follows {s0 : State} {s : State} {b : Nat} {v : Bool} (hK : K .regs = false) (hs : Follows K s0 s) :
    Follows K s0 (s.setBellLive b v) := by
  simp (maxDischargeDepth := 30) [State.setBellLive, hK, hs]

@[simp] theorem State.setSlotLive_follows {s0 : State} {s : State} {k : Nat} {v : Bool} (hK : K .regs = false) (hs : Follows K s0 s) :
    Follows K s0 (s.setSlotLive k v) := by
  simp (maxDischargeDepth := 30) [State.setSlotLive, hK, hs]

@[simp] theorem State.raise_follows {s0 : State} {s : State} {i : Nat} {detail : List Byte} (hK : K .flt = false) (hs : Follows K s0 s) :
    Follows K s0 (s.raise i detail) := by
  simp (maxDischargeDepth := 30) [State.raise, hK, hs]

@[simp] theorem State.pulse_follows {s0 : State} {s : State} {i : Nat} {detail : List Byte} (hK : K .flt = false) (hs : Follows K s0 s) :
    Follows K s0 (s.pulse i detail) := by
  simp (maxDischargeDepth := 30) [State.pulse, hK, hs]

@[simp] theorem State.lower_follows {s0 : State} {s : State} {i : Nat} (hK : K .flt = false) (hs : Follows K s0 s) :
    Follows K s0 (s.lower i) := by
  simp (maxDischargeDepth := 30) [State.lower, hK, hs]

/-- A record placed: the pinned area takes one only while it has room. -/
@[simp] theorem State.dryPlace_follows {s0 : State} {s : State} {r : DryRec} (hK : K .regs = false ∧ K .dry = false) (hs : Follows K s0 s) : Follows K s0 (s.dryPlace r) := by
  unfold State.dryPlace
  dsimp only
  split
  · have h1 : Follows K s0 { s with dry := { s.dry with pinned := s.dry.pinned ++ [r] } } := by
      refine hs.step rfl rfl (Fuses.NotBelow.refl _) (fun x => x) (fun x => x) (fun x => x) (fun x => x) (fun _ => ?_) fun p hp => ?_
      · simp only [List.length_append, List.length_singleton]
        omega
      · cases p <;> first | rfl | simp_all
    split <;> simp (maxDischargeDepth := 30) [h1, hK]
  · split <;> simp (maxDischargeDepth := 30) [hs, hK]

@[simp] theorem State.dryWrite_follows {s0 : State} {s : State} {r : DryRec} (hK : K .regs = false ∧ K .dry = false) (hs : Follows K s0 s) :
    Follows K s0 (s.dryWrite r) := by
  simp (maxDischargeDepth := 30) [State.dryWrite, hK, hs]

@[simp] theorem State.dryFlush_follows {s0 : State} {s : State} {flags : Nat} (hK : K .regs = false ∧ K .dry = false) (hs : Follows K s0 s) :
    Follows K s0 (s.dryFlush flags) := by
  simp (maxDischargeDepth := 30) [State.dryFlush, hK, hs]

@[simp] theorem State.dryEvent_follows {s0 : State} {s : State} {type die : Nat} {detail : List Byte} (hK : K .regs = false ∧ K .dry = false) (hs : Follows K s0 s) :
    Follows K s0 (s.dryEvent type die detail) := by
  simp (maxDischargeDepth := 30) [State.dryEvent, hK, hs]

@[simp] theorem State.resetRecord_follows {s0 : State} {s : State} {type req die : Nat} (hK : K .regs = false ∧ K .trn = false ∧ K .dry = false ∧ K .sec = false) (hs : Follows K s0 s) :
    Follows K s0 (s.resetRecord type req die) := by
  simp (maxDischargeDepth := 30) [State.resetRecord, hK, hs]

@[simp] theorem State.setBell_follows {s0 : State} {s : State} {b : Nat} {v : BellSt} (hK : K .bells = false) (hs : Follows K s0 s) :
    Follows K s0 (s.setBell b v) := by
  simp (maxDischargeDepth := 30) [State.setBell, hK, hs]

@[simp] theorem State.onBell_follows {s0 : State} {s : State} {b : Nat} {f : BellSt → BellSt} (hK : K .bells = false) (hs : Follows K s0 s) :
    Follows K s0 (s.onBell b f) := by
  simp (maxDischargeDepth := 30) [State.onBell, hK, hs]

@[simp] theorem State.setPort_follows {s0 : State} {s : State} {p : Nat} {v : PortSt} (hK : K .ports = false) (hs : Follows K s0 s) :
    Follows K s0 (s.setPort p v) := by
  simp (maxDischargeDepth := 30) [State.setPort, hK, hs]

@[simp] theorem State.setSlot_follows {s0 : State} {s : State} {k : Nat} {v : SlotSt} (hK : K .slots = false) (hs : Follows K s0 s) :
    Follows K s0 (s.setSlot k v) := by
  simp (maxDischargeDepth := 30) [State.setSlot, hK, hs]

@[simp] theorem State.setSeam_follows {s0 : State} {s : State} {b : Nat} {v : SeamSt} (hK : K .seams = false) (hs : Follows K s0 s) :
    Follows K s0 (s.setSeam b v) := by
  simp (maxDischargeDepth := 30) [State.setSeam, hK, hs]

@[simp] theorem State.setCrossing_follows {s0 : State} {s : State} {c : Nat} {v : CrossSt} (hK : K .cross = false) (hs : Follows K s0 s) :
    Follows K s0 (s.setCrossing c v) := by
  simp (maxDischargeDepth := 30) [State.setCrossing, hK, hs]

@[simp] theorem State.setDom_follows {s0 : State} {s : State} {d v : Nat} (hK : K .pwr = false) (hs : Follows K s0 s) :
    Follows K s0 (s.setDom d v) := by
  simp (maxDischargeDepth := 30) [State.setDom, hK, hs]

@[simp] theorem State.setLnk_follows {s0 : State} {s : State} {p v : Nat} (hK : K .regs = false) (hs : Follows K s0 s) :
    Follows K s0 (s.setLnk p v) := by
  simp (maxDischargeDepth := 30) [State.setLnk, hK, hs]

@[simp] theorem State.modPort_follows {s0 : State} {s : State} {p : Nat} {f : PortSt → PortSt} (hK : K .ports = false) (hs : Follows K s0 s) :
    Follows K s0 (s.modPort p f) := by
  simp (maxDischargeDepth := 30) [State.modPort, hK, hs]

@[simp] theorem State.enqueue_follows {s0 : State} {s : State} {p : Nat} {m : Msg} (hK : K .ports = false) (hs : Follows K s0 s) :
    Follows K s0 (s.enqueue p m) := by
  simp (maxDischargeDepth := 30) [State.enqueue, hK, hs]

@[simp] theorem State.sendCbc_follows {s0 : State} {s : State} {p : Nat} {m : List Byte} (hK : K .ports = false) (hs : Follows K s0 s) :
    Follows K s0 (s.sendCbc p m) := by
  simp (maxDischargeDepth := 30) [State.sendCbc, hK, hs]

@[simp] theorem State.sendThrottle_follows {s0 : State} {s : State} {p : Nat} (hK : K .ports = false) (hs : Follows K s0 s) :
    Follows K s0 (s.sendThrottle p) := by
  simp (maxDischargeDepth := 30) [State.sendThrottle, hK, hs]

@[simp] theorem State.sendResume_follows {s0 : State} {s : State} {p : Nat} (hK : K .ports = false) (hs : Follows K s0 s) :
    Follows K s0 (s.sendResume p) := by
  simp (maxDischargeDepth := 30) [State.sendResume, hK, hs]

@[simp] theorem State.liftThrottle_follows {s0 : State} {s : State} {p : Nat} (hK : K .ports = false) (hs : Follows K s0 s) :
    Follows K s0 (s.liftThrottle p) := by
  simp (maxDischargeDepth := 30) [State.liftThrottle, hK, hs]

@[simp] theorem State.ethSend_follows {s0 : State} {s : State} {p i addr : Nat} {packet : List Byte} (hK : K .trn = false) (hs : Follows K s0 s) :
    Follows K s0 (s.ethSend p i addr packet) := by
  simp only [State.ethSend]
  repeat' split
  all_goals simp (maxDischargeDepth := 30) [*]

@[simp] theorem State.refuseAt_follows {s0 : State} {s : State} {src : Entry} {cause die addr : Nat} (hK : K .regs = false) (hs : Follows K s0 s) :
    Follows K s0 (s.refuseAt src cause die addr) := by
  simp (maxDischargeDepth := 30) [State.refuseAt, hK, hs]

@[simp] theorem State.place_follows {s0 : State} {s : State} {src : Entry} {m : Msg} (hK : K .trn = false) (hs : Follows K s0 s) :
    Follows K s0 (s.place src m) := by
  simp only [State.place]
  repeat' split
  all_goals simp (maxDischargeDepth := 30) [*]

@[simp] theorem State.sendOn_follows {s0 : State} {s : State} {p : Nat} {m : Msg} (hK : K .ports = false) (hs : Follows K s0 s) :
    Follows K s0 (s.sendOn p m) := by
  simp (maxDischargeDepth := 30) [State.sendOn, hK, hs]

@[simp] theorem State.sendBack_follows {s0 : State} {s : State} {u : Msg} (hK : K .regs = false ∧ K .trn = false ∧ K .ports = false) (hs : Follows K s0 s) :
    Follows K s0 (s.sendBack u) := by
  simp only [State.sendBack]
  repeat' split
  all_goals simp (maxDischargeDepth := 30) [*]

@[simp] theorem State.refuseIn_follows {s0 : State} {s : State} {src : Entry} {m : Msg} {cause : Nat} (hK : K .regs = false ∧ K .trn = false ∧ K .ports = false) (hs : Follows K s0 s) :
    Follows K s0 (s.refuseIn src m cause) := by
  simp (maxDischargeDepth := 30) [State.refuseIn, hK, hs]

@[simp] theorem State.deliver_follows {s0 : State} {s : State} {src : Entry} {m : Msg} (hK : K .regs = false ∧ K .trn = false ∧ K .ports = false) (hs : Follows K s0 s) :
    Follows K s0 (s.deliver src m) := by
  simp only [State.deliver]
  repeat' split
  all_goals simp (maxDischargeDepth := 30) [*]

@[simp] theorem State.forward_follows {s0 : State} {s : State} {src : Entry} {m : Msg} (hK : K .regs = false ∧ K .trn = false ∧ K .flt = false ∧ K .ports = false) (hs : Follows K s0 s) :
    Follows K s0 (s.forward src m) := by
  simp only [State.forward]
  repeat' split
  all_goals simp (maxDischargeDepth := 30) [*]

@[simp] theorem State.broadcast_follows {s0 : State} {s : State} {src : Entry} {m : Msg} (hK : K .regs = false ∧ K .trn = false ∧ K .ports = false) (hs : Follows K s0 s) :
    Follows K s0 (s.broadcast src m) := by
  simp (maxDischargeDepth := 30) [State.broadcast, hK, hs]

@[simp] theorem State.switchIn_follows {s0 : State} {s : State} {src : Entry} {m : Msg} (hK : K .regs = false ∧ K .trn = false ∧ K .flt = false ∧ K .ports = false) (hs : Follows K s0 s) :
    Follows K s0 (s.switchIn src m) := by
  simp (maxDischargeDepth := 30) [State.switchIn, hK, hs]

@[simp] theorem State.respond_follows {s0 : State} {s : State} {m : Msg} {status : Nat} {body : List Byte} (hK : K .regs = false ∧ K .trn = false ∧ K .flt = false ∧ K .ports = false) (hs : Follows K s0 s) :
    Follows K s0 (s.respond m status body) := by
  simp (maxDischargeDepth := 30) [State.respond, hK, hs]

@[simp] theorem State.request_follows {s0 : State} {s : State} {m0 : Msg} {purpose : Purpose} (hK : K .regs = false ∧ K .trn = false ∧ K .flt = false ∧ K .ports = false) (hs : Follows K s0 s) :
    Follows K s0 (s.request m0 purpose) := by
  simp (maxDischargeDepth := 30) [State.request, hK, hs]

@[simp] theorem State.dropReq_follows {s0 : State} {s : State} {tid : Nat} (hK : K .trn = false) (hs : Follows K s0 s) :
    Follows K s0 (s.dropReq tid) := by
  simp (maxDischargeDepth := 30) [State.dropReq, hK, hs]

@[simp] theorem State.putReq_follows {s0 : State} {s : State} {r : Req} {tid : Nat} (hK : K .trn = false) (hs : Follows K s0 s) :
    Follows K s0 (s.putReq r tid) := by
  simp (maxDischargeDepth := 30) [State.putReq, hK, hs]

@[simp] theorem State.resend_follows {s0 : State} {s : State} {r : Req} {alt counted : Bool} (hK : K .regs = false ∧ K .trn = false ∧ K .flt = false ∧ K .ports = false) (hs : Follows K s0 s) :
    Follows K s0 (s.resend r alt counted) := by
  simp (maxDischargeDepth := 30) [State.resend, hK, hs]

@[simp] theorem State.giveUp_follows {s0 : State} {s : State} {r : Req} (hK : K .regs = false ∧ K .trn = false ∧ K .flt = false) (hs : Follows K s0 s) :
    Follows K s0 (s.giveUp r) := by
  simp (maxDischargeDepth := 30) [State.giveUp, hK, hs]

@[simp] theorem State.renew_follows {s0 : State} {s : State} {r : Req} (hK : K .regs = false ∧ K .trn = false ∧ K .flt = false ∧ K .ports = false) (hs : Follows K s0 s) :
    Follows K s0 (s.renew r) := by
  simp (maxDischargeDepth := 30) [State.renew, hK, hs]

@[simp] theorem State.resendPort_follows {s0 : State} {s : State} {p : Nat} (hK : K .regs = false ∧ K .trn = false ∧ K .flt = false ∧ K .ports = false) (hs : Follows K s0 s) :
    Follows K s0 (s.resendPort p) := by
  simp (maxDischargeDepth := 30) [State.resendPort, hK, hs]

@[simp] theorem State.noteFull_follows {s0 : State} {s : State} (hK : K .regs = false) (hs : Follows K s0 s) :
    Follows K s0 (s.noteFull) := by
  simp (maxDischargeDepth := 30) [State.noteFull, hK, hs]

@[simp] theorem State.holdKey_follows {s0 : State} {s : State} {m resp : Msg} (hK : K .regs = false ∧ K .trn = false) (hs : Follows K s0 s) :
    Follows K s0 (s.holdKey m resp) := by
  simp (maxDischargeDepth := 30) [State.holdKey, hK, hs]

@[simp] theorem State.takeUp_follows {s0 : State} {s : State} {m : Msg} (hK : K .trn = false) (hs : Follows K s0 s) :
    Follows K s0 (s.takeUp m) := by
  simp (maxDischargeDepth := 30) [State.takeUp, hK, hs]

@[simp] theorem State.partnerDrop_follows {s0 : State} {s : State} {src : Entry} (hK : K .regs = false) (hs : Follows K s0 s) :
    Follows K s0 (s.partnerDrop src) := by
  simp only [State.partnerDrop]
  repeat' split
  all_goals simp (maxDischargeDepth := 30) [*]

@[simp] theorem State.receive_follows {s0 : State} {s : State} {src : Entry} {raw : List Byte} {k : Msg → State} (hK : K .regs = false) (hs : Follows K s0 s) (hk : ∀ x0, Follows K s0 (k x0)) :
    Follows K s0 (s.receive src raw k) := by
  simp only [State.receive]
  repeat' split
  all_goals simp (maxDischargeDepth := 30) [*]

@[simp] theorem State.receiveReq_follows {s0 : State} {s : State} {src : Entry} {raw : List Byte} {mtype : Nat} {k : Msg → State} (hK : K .regs = false ∧ K .trn = false ∧ K .flt = false ∧ K .ports = false) (hs : Follows K s0 s) (hk : ∀ x0, Follows K s0 (k x0)) :
    Follows K s0 (s.receiveReq src raw mtype k) := by
  simp (maxDischargeDepth := 30) [State.receiveReq, hK, hs, hk]

/-- A class W request: what serves it keeps what the relation keeps. -/
@[simp] theorem State.window_follows {s0 : State} {s : State} {m : Msg} {serve : State → State × Nat × List Byte × Bool} (hK : K .regs = false ∧ K .trn = false ∧ K .flt = false ∧ K .ports = false) (hs : Follows K s0 s)
    (hserve : ∀ x0, Follows K x0 (serve x0).1) : Follows K s0 (s.window m serve) := by
  have h1 : Follows K s0 (serve s).1 := hs.trans (hserve s)
  unfold State.window
  rcases hv : serve s with ⟨s1, st, body, done⟩
  rw [hv] at h1
  cases s.dedupCheck m
  case execute => exact State.switchIn_follows (hK := by simp [hK]) (Follows.ite (State.holdKey_follows (hK := by simp [hK]) h1) h1)
  case held r => exact State.switchIn_follows (hK := by simp [hK]) (State.bump_follows (hK := by simp [hK]) hs)
  case discard => exact State.bump_follows (hK := by simp [hK]) hs
  case stale => exact State.respond_follows (hK := by simp [hK]) (State.bump_follows (hK := by simp [hK]) hs)
  case busy => exact State.respond_follows (hK := by simp [hK]) (State.setFld_follows (hK := by simp [hK]) hs)

@[simp] theorem State.settle_follows {s0 : State} {s : State} {m : Msg} (hK : K .trn = false) (hs : Follows K s0 s) :
    Follows K s0 (s.settle m) := by
  simp only [State.settle]
  repeat' split
  all_goals simp (maxDischargeDepth := 30) [*]

@[simp] theorem State.partnerAnswer_follows {s0 : State} {s : State} {k : Nat} {m : Msg} (hK : K .regs = false ∧ K .trn = false ∧ K .flt = false ∧ K .ports = false) (hs : Follows K s0 s) :
    Follows K s0 (s.partnerAnswer k m) := by
  simp only [State.partnerAnswer]
  repeat' split
  all_goals simp (maxDischargeDepth := 30) [*]

@[simp] theorem execZfpForward_follows {s0 : State} {src : Entry} {raw : List Byte} {s : State} (hK : K .regs = false ∧ K .trn = false ∧ K .flt = false ∧ K .ports = false) (hs : Follows K s0 s) :
    OutFollows K s0 (execZfpForward src raw s) := by
  simp only [execZfpForward]
  repeat' split
  all_goals simp (maxDischargeDepth := 30) [*]

@[simp] theorem execDedupKeyExpire_follows {s0 : State} {node die tid : Nat} {s : State} (hK : K .trn = false) (hs : Follows K s0 s) :
    OutFollows K s0 (execDedupKeyExpire node die tid s) := by
  simp (maxDischargeDepth := 30) [execDedupKeyExpire, hK, hs]

@[simp] theorem State.putStream_follows {s0 : State} {s : State} {st : Stream} (hK : K .jrn = false) (hs : Follows K s0 s) :
    Follows K s0 (s.putStream st) := by
  simp (maxDischargeDepth := 30) [State.putStream, hK, hs]

@[simp] theorem State.undefine_follows {s0 : State} {s : State} {b : Nat} {areas : List (Nat × Nat)} (hK : K .mem = false) (hs : Follows K s0 s) :
    Follows K s0 (s.undefine b areas) := by
  simp (maxDischargeDepth := 30) [State.undefine, hK, hs]

@[simp] theorem State.dropStream_follows {s0 : State} {s : State} {id : Nat} (hK : K .jrn = false) (hs : Follows K s0 s) :
    Follows K s0 (s.dropStream id) := by
  simp (maxDischargeDepth := 30) [State.dropStream, hK, hs]

@[simp] theorem State.allocPages_follows {s0 : State} {s : State} {id : Nat} {p : Pool} {n : Nat} (hK : K .jrn = false) (hs : Follows K s0 s) :
    Follows K s0 (s.allocPages id p n) := by
  simp only [State.allocPages]
  repeat' split
  all_goals simp (maxDischargeDepth := 30) [*]

@[simp] theorem State.allocSlab_follows {s0 : State} {s : State} {id br : Nat} {p : Pool} (hK : K .jrn = false) (hs : Follows K s0 s) :
    Follows K s0 (s.allocSlab id br p) := by
  simp only [State.allocSlab]
  repeat' split
  all_goals simp (maxDischargeDepth := 30) [*]

@[simp] theorem State.copyRow_follows {s0 : State} {s : State} {p : Pool} {slab srow page prow : Nat} (hK : K .mem = false) (hs : Follows K s0 s) :
    Follows K s0 (s.copyRow p slab srow page prow) := by
  simp (maxDischargeDepth := 30) [State.copyRow, hK, hs]

@[simp] theorem State.commitCopy_follows {s0 : State} {s : State} {id : Nat} (hK : K .mem = false) (hs : Follows K s0 s) : Follows K s0 (s.commitCopy id) := by
  unfold State.commitCopy
  split
  · exact hs
  split
  · exact hs
  refine foldl_follows hs fun t x => ?_
  split
  · exact Follows.refl t
  · exact foldl_follows (Follows.refl t) fun t i => State.copyRow_follows (hK := by simp [hK]) (Follows.refl t)

end Sys2Proof.Machine
end

