-- ==== Sys2Proof/Laws/FollowsOrders.lean ====
section
/-!
SUPPORT. What the relation of Laws/Follows.lean says of accepted work, the Strike state and the poles.
-/

set_option linter.all false
set_option Elab.async false

namespace Sys2Proof.Machine

open Sys2Proof

variable {K : Piece → Bool}

@[simp] theorem State.putEntry_follows {s0 : State} {s : State} {i : Nat} {e : JEntry} (hK : K .jrn = false) (hs : Follows K s0 s) :
    Follows K s0 (s.putEntry i e) := by
  simp (maxDischargeDepth := 30) [State.putEntry, hK, hs]

@[simp] theorem State.dropEntry_follows {s0 : State} {s : State} {i : Nat} (hK : K .jrn = false) (hs : Follows K s0 s) :
    Follows K s0 (s.dropEntry i) := by
  simp (maxDischargeDepth := 30) [State.dropEntry, hK, hs]

@[simp] theorem State.notAccepted_follows {s0 : State} {s : State} {m : Msg} {w : WorkOrder} {reason : Nat} (hK : K .regs = false ∧ K .trn = false ∧ K .flt = false ∧ K .ports = false) (hs : Follows K s0 s) :
    Follows K s0 (s.notAccepted m w reason) := by
  simp (maxDischargeDepth := 30) [State.notAccepted, hK, hs]

@[simp] theorem State.mirrorMsg_follows {s0 : State} {s : State} {body : List Byte} {why : Purpose} (hK : K .regs = false ∧ K .trn = false ∧ K .flt = false ∧ K .ports = false) (hs : Follows K s0 s) :
    Follows K s0 (s.mirrorMsg body why) := by
  simp (maxDischargeDepth := 30) [State.mirrorMsg, hK, hs]

@[simp] theorem State.mirrorEntry_follows {s0 : State} {s : State} {i target : Nat} {e : JEntry} (hK : K .regs = false ∧ K .trn = false ∧ K .flt = false ∧ K .ports = false) (hs : Follows K s0 s) :
    Follows K s0 (s.mirrorEntry i target e) := by
  simp (maxDischargeDepth := 30) [State.mirrorEntry, hK, hs]

@[simp] theorem State.journalOrder_follows {s0 : State} {s : State} {m : Msg} {w : WorkOrder} (hK : K .regs = false ∧ K .trn = false ∧ K .jrn = false ∧ K .flt = false ∧ K .ports = false) (hs : Follows K s0 s) :
    Follows K s0 (s.journalOrder m w) := by
  simp only [State.journalOrder]
  repeat' split
  all_goals simp (maxDischargeDepth := 30) [*]

@[simp] theorem State.submit_follows {s0 : State} {s : State} {src : Entry} {ty : Nat → Bool} {raw : List Byte} (hK : K .regs = false ∧ K .trn = false ∧ K .jrn = false ∧ K .flt = false ∧ K .ports = false) (hs : Follows K s0 s) :
    Follows K s0 (s.submit src ty raw) := by
  unfold State.submit
  refine State.receiveReq_follows (hK := by simp [hK]) hs fun m => ?_
  dsimp only
  repeat' split
  all_goals simp (maxDischargeDepth := 30) [hK, hs]

@[simp] theorem State.armPart_follows {s0 : State} {s : State} {home gen tick : Nat} {w : WorkOrder} (hK : K .jrn = false) (hs : Follows K s0 s) :
    Follows K s0 (s.armPart home gen tick w) := by
  simp only [State.armPart]
  repeat' split
  all_goals simp (maxDischargeDepth := 30) [*]

@[simp] theorem State.schedule_follows {s0 : State} {s : State} {i : Nat} {e : JEntry} {held : Bool} (hK : K .regs = false ∧ K .trn = false ∧ K .jrn = false ∧ K .flt = false ∧ K .ports = false) (hs : Follows K s0 s) :
    Follows K s0 (s.schedule i e held) := by
  simp (maxDischargeDepth := 30) [State.schedule, hK, hs]

@[simp] theorem State.scheduleStream_follows {s0 : State} {s : State} {stream : Nat} {held : Bool} (hK : K .regs = false ∧ K .trn = false ∧ K .jrn = false ∧ K .flt = false ∧ K .ports = false) (hs : Follows K s0 s) :
    Follows K s0 (s.scheduleStream stream held) := by
  simp (maxDischargeDepth := 30) [State.scheduleStream, hK, hs]

@[simp] theorem State.acceptEntry_follows {s0 : State} {s : State} {i : Nat} (hK : K .regs = false ∧ K .trn = false ∧ K .jrn = false ∧ K .flt = false ∧ K .ports = false) (hs : Follows K s0 s) :
    Follows K s0 (s.acceptEntry i) := by
  simp only [State.acceptEntry]
  repeat' split
  all_goals simp (maxDischargeDepth := 30) [*]

@[simp] theorem State.putPart_follows {s0 : State} {s : State} {p : Part} (hK : K .jrn = false) (hs : Follows K s0 s) :
    Follows K s0 (s.putPart p) := by
  simp (maxDischargeDepth := 30) [State.putPart, hK, hs]

@[simp] theorem State.admitRun_follows {s0 : State} {s : State} {st : Stream} {w : WorkOrder} {p : Pipe} (hK : K .jrn = false) (hs : Follows K s0 s) :
    Follows K s0 (s.admitRun st w p).2 := by
  simp only [State.admitRun]
  repeat' split
  all_goals simp (maxDischargeDepth := 30) [*]

@[simp] theorem State.admitCommit_follows {s0 : State} {s : State} {st : Stream} {w : WorkOrder} (hK : K .jrn = false) (hs : Follows K s0 s) :
    Follows K s0 (s.admitCommit st w).2 := by
  simp only [State.admitCommit]
  repeat' split
  all_goals simp (maxDischargeDepth := 30) [*]

@[simp] theorem State.admitOpen_follows {s0 : State} {s : State} {w : WorkOrder} (hK : K .jrn = false) (hs : Follows K s0 s) :
    Follows K s0 (s.admitOpen w).2 := by
  simp only [State.admitOpen]
  repeat' split
  all_goals simp (maxDischargeDepth := 30) [*]

@[simp] theorem State.endLaunch_follows {s0 : State} {s : State} {p : Part} {r : Nat × State} (hK : K .jrn = false) (hs : Follows K s0 s) (hr : Follows K s0 r.2) :
    Follows K s0 (s.endLaunch p r) := by
  simp (maxDischargeDepth := 30) [State.endLaunch, hK, hs, hr]

@[simp] theorem State.launchPart_follows {s0 : State} {s : State} {p : Part} (hK : K .regs = false ∧ K .trn = false ∧ K .jrn = false ∧ K .flt = false ∧ K .ports = false) (hs : Follows K s0 s) :
    Follows K s0 (s.launchPart p) := by
  simp only [State.launchPart]
  repeat' split
  all_goals simp (maxDischargeDepth := 30) [*]

@[simp] theorem State.partDue_follows {s0 : State} {s : State} {p : Part} {peers : Nat} (hK : K .regs = false ∧ K .trn = false ∧ K .jrn = false ∧ K .flt = false ∧ K .ports = false) (hs : Follows K s0 s) :
    Follows K s0 (s.partDue p peers) := by
  simp (maxDischargeDepth := 30) [State.partDue, hK, hs]

@[simp] theorem State.launchNext_follows {s0 : State} {s : State} {stream : Nat} (hK : K .regs = false ∧ K .trn = false ∧ K .jrn = false ∧ K .flt = false ∧ K .ports = false) (hs : Follows K s0 s) :
    Follows K s0 (s.launchNext stream) := by
  simp only [State.launchNext]
  repeat' split
  all_goals simp (maxDischargeDepth := 30) [*]

@[simp] theorem State.partDone_follows {s0 : State} {s : State} {p : Part} (hK : K .jrn = false) (hs : Follows K s0 s) :
    Follows K s0 (s.partDone p) := by
  simp only [State.partDone]
  repeat' split
  all_goals simp (maxDischargeDepth := 30) [*]

@[simp] theorem State.partClosed_follows {s0 : State} {s : State} {p : Part} (hK : K .jrn = false) (hs : Follows K s0 s) :
    Follows K s0 (s.partClosed p) := by
  simp (maxDischargeDepth := 30) [State.partClosed, hK, hs]

@[simp] theorem State.reportPart_follows {s0 : State} {s : State} {p : Part} (hK : K .regs = false ∧ K .trn = false ∧ K .jrn = false ∧ K .flt = false ∧ K .ports = false) (hs : Follows K s0 s) :
    Follows K s0 (s.reportPart p) := by
  simp only [State.reportPart]
  repeat' split
  all_goals simp (maxDischargeDepth := 30) [*]

@[simp] theorem State.assignDseq_follows {s0 : State} {s : State} {i : Nat} {e : JEntry} (hK : K .regs = false ∧ K .trn = false ∧ K .jrn = false ∧ K .flt = false ∧ K .ports = false) (hs : Follows K s0 s) :
    Follows K s0 (s.assignDseq i e) := by
  simp only [State.assignDseq]
  repeat' split
  all_goals simp (maxDischargeDepth := 30) [*]

@[simp] theorem State.assignStream_follows {s0 : State} {s : State} {stream : Nat} (hK : K .regs = false ∧ K .trn = false ∧ K .jrn = false ∧ K .flt = false ∧ K .ports = false) (hs : Follows K s0 s) :
    Follows K s0 (s.assignStream stream) := by
  unfold State.assignStream
  refine foldl_follows_fst (by exact hs) fun t x => ?_
  repeat' split
  all_goals simp (maxDischargeDepth := 30) [hK] 

@[simp] theorem State.doneEntry_follows {s0 : State} {s : State} {i : Nat} (hK : K .jrn = false) (hs : Follows K s0 s) :
    Follows K s0 (s.doneEntry i) := by
  simp only [State.doneEntry]
  repeat' split
  all_goals simp (maxDischargeDepth := 30) [*]

@[simp] theorem State.sendComp_follows {s0 : State} {s : State} {c : Comp} {resend : Bool} {bridge : Nat} (hK : K .regs = false ∧ K .trn = false ∧ K .flt = false ∧ K .ports = false) (hs : Follows K s0 s) :
    Follows K s0 (s.sendComp c resend bridge) := by
  simp (maxDischargeDepth := 30) [State.sendComp, hK, hs]

@[simp] theorem State.resendComp_follows {s0 : State} {s : State} {c : Comp} {bridge : Nat} {timed : Bool} (hK : K .regs = false ∧ K .trn = false ∧ K .flt = false ∧ K .ports = false) (hs : Follows K s0 s) :
    Follows K s0 (s.resendComp c bridge timed) := by
  simp only [State.resendComp]
  repeat' split
  all_goals simp (maxDischargeDepth := 30) [*]

@[simp] theorem State.resendComps_follows {s0 : State} {s : State} {stream hctx : Nat} {timed : Bool} (hK : K .regs = false ∧ K .trn = false ∧ K .flt = false ∧ K .ports = false) (hs : Follows K s0 s) :
    Follows K s0 (s.resendComps stream hctx timed) := by
  simp only [State.resendComps]
  repeat' split
  all_goals simp (maxDischargeDepth := 30) [*]

@[simp] theorem State.checkBuddy_follows {s0 : State} {s : State} (hK : K .regs = false ∧ K .jrn = false) (hs : Follows K s0 s) :
    Follows K s0 (s.checkBuddy) := by
  simp (maxDischargeDepth := 30) [State.checkBuddy, hK, hs]

@[simp] theorem State.finishAdopt_follows {s0 : State} {s : State} {x : Nat} (hK : K .regs = false ∧ K .trn = false ∧ K .jrn = false ∧ K .flt = false ∧ K .ports = false) (hs : Follows K s0 s) :
    Follows K s0 (s.finishAdopt x) := by
  simp (maxDischargeDepth := 30) [State.finishAdopt, hK, hs]

@[simp] theorem State.checkAdopt_follows {s0 : State} {s : State} (hK : K .regs = false ∧ K .trn = false ∧ K .jrn = false ∧ K .flt = false ∧ K .ports = false) (hs : Follows K s0 s) :
    Follows K s0 (s.checkAdopt) := by
  simp (maxDischargeDepth := 30) [State.checkAdopt, hK, hs]

@[simp] theorem State.mirrorAnswered_follows {s0 : State} {s : State} {i target : Nat} (hK : K .regs = false ∧ K .trn = false ∧ K .jrn = false ∧ K .flt = false ∧ K .ports = false) (hs : Follows K s0 s) :
    Follows K s0 (s.mirrorAnswered i target) := by
  simp only [State.mirrorAnswered]
  repeat' split
  all_goals simp (maxDischargeDepth := 30) [*]

@[simp] theorem execWoRun_follows {s0 : State} {src : Entry} {raw : List Byte} {s : State} (hK : K .regs = false ∧ K .trn = false ∧ K .jrn = false ∧ K .flt = false ∧ K .ports = false) (hs : Follows K s0 s) :
    OutFollows K s0 (execWoRun src raw s) := by
  simp (maxDischargeDepth := 30) [execWoRun, hK, hs]

@[simp] theorem execWoCommit_follows {s0 : State} {src : Entry} {raw : List Byte} {s : State} (hK : K .regs = false ∧ K .trn = false ∧ K .jrn = false ∧ K .flt = false ∧ K .ports = false) (hs : Follows K s0 s) :
    OutFollows K s0 (execWoCommit src raw s) := by
  simp (maxDischargeDepth := 30) [execWoCommit, hK, hs]

@[simp] theorem execWoDiscard_follows {s0 : State} {src : Entry} {raw : List Byte} {s : State} (hK : K .regs = false ∧ K .trn = false ∧ K .jrn = false ∧ K .flt = false ∧ K .ports = false) (hs : Follows K s0 s) :
    OutFollows K s0 (execWoDiscard src raw s) := by
  simp (maxDischargeDepth := 30) [execWoDiscard, hK, hs]

@[simp] theorem execWoOpen_follows {s0 : State} {src : Entry} {raw : List Byte} {s : State} (hK : K .regs = false ∧ K .trn = false ∧ K .jrn = false ∧ K .flt = false ∧ K .ports = false) (hs : Follows K s0 s) :
    OutFollows K s0 (execWoOpen src raw s) := by
  simp (maxDischargeDepth := 30) [execWoOpen, hK, hs]

@[simp] theorem execWoClose_follows {s0 : State} {src : Entry} {raw : List Byte} {s : State} (hK : K .regs = false ∧ K .trn = false ∧ K .jrn = false ∧ K .flt = false ∧ K .ports = false) (hs : Follows K s0 s) :
    OutFollows K s0 (execWoClose src raw s) := by
  simp (maxDischargeDepth := 30) [execWoClose, hK, hs]

@[simp] theorem State.adoptShard_follows {s0 : State} {s : State} {w : WorkOrder} (hK : K .jrn = false) (hs : Follows K s0 s) :
    Follows K s0 (s.adoptShard w) := by
  simp (maxDischargeDepth := 30) [State.adoptShard, hK, hs]

@[simp] theorem execLaunchTickReached_follows {s0 : State} {stream : Nat} {o : DueOrder} {s : State} (hK : K .regs = false ∧ K .trn = false ∧ K .jrn = false ∧ K .flt = false ∧ K .ports = false) (hs : Follows K s0 s) :
    OutFollows K s0 (execLaunchTickReached stream o s) := by
  simp only [execLaunchTickReached]
  repeat' split
  all_goals simp (maxDischargeDepth := 30) [*]

@[simp] theorem execLaunch_follows {s0 : State} {src : Entry} {msg : LaunchMsg} {s : State} (hK : K .regs = false ∧ K .trn = false ∧ K .jrn = false ∧ K .flt = false ∧ K .ports = false) (hs : Follows K s0 s) :
    OutFollows K s0 (execLaunch src msg s) := by
  unfold execLaunch
  refine OutFollows.next.2 (State.receiveReq_follows (hK := by simp [hK]) hs fun m => ?_)
  dsimp only
  repeat' split
  all_goals simp (maxDischargeDepth := 30) [hK, hs]

@[simp] theorem State.orderFailed_follows {s0 : State} {s : State} {e : JEntry} (hK : K .jrn = false) (hs : Follows K s0 s) :
    Follows K s0 (s.orderFailed e) := by
  simp only [State.orderFailed]
  repeat' split
  all_goals simp (maxDischargeDepth := 30) [*]

@[simp] theorem execRunComplete_follows {s0 : State} {stream seq : Nat} {s : State} (hK : K .regs = false ∧ K .trn = false ∧ K .jrn = false ∧ K .flt = false ∧ K .ports = false) (hs : Follows K s0 s) :
    OutFollows K s0 (execRunComplete stream seq s) := by
  simp only [execRunComplete]
  repeat' split
  all_goals simp (maxDischargeDepth := 30) [*]

@[simp] theorem State.mirrorRow_follows {s0 : State} {s : State} {stream seq : Nat} {p : Pool} {pos page : Nat} (hK : K .regs = false ∧ K .trn = false ∧ K .jrn = false ∧ K .flt = false ∧ K .ports = false) (hs : Follows K s0 s) :
    Follows K s0 (s.mirrorRow stream seq p pos page) := by
  simp only [State.mirrorRow]
  repeat' split
  all_goals simp (maxDischargeDepth := 30) [*]

@[simp] theorem State.mirrorCopied_follows {s0 : State} {s : State} {st : Stream} {p : Part} (hK : K .regs = false ∧ K .trn = false ∧ K .jrn = false ∧ K .flt = false ∧ K .ports = false) (hs : Follows K s0 s) :
    Follows K s0 (s.mirrorCopied st p) := by
  simp (maxDischargeDepth := 30) [State.mirrorCopied, hK, hs]

@[simp] theorem State.endCopy_follows {s0 : State} {s : State} {stream : Nat} {st : Stream} {p : Part} (hK : K .regs = false ∧ K .mem = false ∧ K .trn = false ∧ K .jrn = false ∧ K .flt = false ∧ K .ports = false) (hs : Follows K s0 s) :
    Follows K s0 (s.endCopy stream st p) := by
  simp (maxDischargeDepth := 30) [State.endCopy, hK, hs]

@[simp] theorem execCommitCopyDone_follows {s0 : State} {stream : Nat} {s : State} (hK : K .regs = false ∧ K .mem = false ∧ K .trn = false ∧ K .jrn = false ∧ K .flt = false ∧ K .ports = false) (hs : Follows K s0 s) :
    OutFollows K s0 (execCommitCopyDone stream s) := by
  simp only [execCommitCopyDone]
  repeat' split
  all_goals simp (maxDischargeDepth := 30) [*]

@[simp] theorem State.orderEnds_follows {s0 : State} {s : State} {i : Nat} {e : JEntry} (hK : K .regs = false ∧ K .trn = false ∧ K .jrn = false ∧ K .flt = false ∧ K .ports = false) (hs : Follows K s0 s) :
    Follows K s0 (s.orderEnds i e) := by
  simp (maxDischargeDepth := 30) [State.orderEnds, hK, hs]

@[simp] theorem execPartReport_follows {s0 : State} {src : Entry} {raw : List Byte} {s : State} (hK : K .regs = false ∧ K .trn = false ∧ K .jrn = false ∧ K .flt = false ∧ K .ports = false) (hs : Follows K s0 s) :
    OutFollows K s0 (execPartReport src raw s) := by
  unfold execPartReport
  refine OutFollows.next.2 (State.receiveReq_follows (hK := by simp [hK]) hs fun m => ?_)
  dsimp only
  repeat' split
  all_goals simp (maxDischargeDepth := 30) [hK, hs]

@[simp] theorem State.putRowBytes_follows {s0 : State} {s : State} {p : Pool} {page row : Nat} {bytes : List Byte} (hK : K .mem = false) (hs : Follows K s0 s) :
    Follows K s0 (s.putRowBytes p page row bytes) := by
  simp (maxDischargeDepth := 30) [State.putRowBytes, hK, hs]

@[simp] theorem State.storeMirror_follows {s0 : State} {s : State} {stream bell pool pos : Nat} {row : List Byte} (hK : K .mem = false ∧ K .jrn = false) (hs : Follows K s0 s) :
    Follows K s0 (s.storeMirror stream bell pool pos row) := by
  simp only [State.storeMirror]
  repeat' split
  all_goals simp (maxDischargeDepth := 30) [*]

@[simp] theorem State.restoreRow_follows {s0 : State} {s : State} {stream bell pool pos : Nat} {row : List Byte} (hK : K .mem = false ∧ K .jrn = false) (hs : Follows K s0 s) :
    Follows K s0 (s.restoreRow stream bell pool pos row) := by
  simp only [State.restoreRow]
  repeat' split
  all_goals simp (maxDischargeDepth := 30) [*]

@[simp] theorem execKvMirrorMsg_follows {s0 : State} {src : Entry} {raw : List Byte} {s : State} (hK : K .regs = false ∧ K .mem = false ∧ K .trn = false ∧ K .jrn = false ∧ K .flt = false ∧ K .ports = false) (hs : Follows K s0 s) :
    OutFollows K s0 (execKvMirrorMsg src raw s) := by
  simp (maxDischargeDepth := 30) [execKvMirrorMsg, hK, hs]

@[simp] theorem State.restoreShards_follows {s0 : State} {s : State} {old : Store} {node die : Nat} (hK : K .regs = false ∧ K .trn = false ∧ K .jrn = false ∧ K .flt = false ∧ K .ports = false) (hs : Follows K s0 s) :
    Follows K s0 (s.restoreShards old node die) := by
  simp only [State.restoreShards]
  repeat' split
  all_goals simp (maxDischargeDepth := 30) [*]

@[simp] theorem State.noteStream_follows {s0 : State} {s : State} {e : JEntry} (hK : K .jrn = false) (hs : Follows K s0 s) :
    Follows K s0 (s.noteStream e) := by
  simp only [State.noteStream]
  repeat' split
  all_goals simp (maxDischargeDepth := 30) [*]

@[simp] theorem State.mirrorWrite_follows {s0 : State} {s : State} {body : List Byte} {m : Msg} (hK : K .jrn = false) (hs : Follows K s0 s) :
    Follows K s0 (s.mirrorWrite body m) := by
  simp (maxDischargeDepth := 30) [State.mirrorWrite, hK, hs]

@[simp] theorem execJrnMirrorMsg_follows {s0 : State} {src : Entry} {raw : List Byte} {s : State} (hK : K .regs = false ∧ K .trn = false ∧ K .jrn = false ∧ K .flt = false ∧ K .ports = false) (hs : Follows K s0 s) :
    OutFollows K s0 (execJrnMirrorMsg src raw s) := by
  simp (maxDischargeDepth := 30) [execJrnMirrorMsg, hK, hs]

@[simp] theorem State.undoOrder_follows {s0 : State} {s : State} {idx : Nat} {e : JEntry} (hK : K .regs = false ∧ K .trn = false ∧ K .jrn = false) (hs : Follows K s0 s) :
    Follows K s0 (s.undoOrder idx e) := by
  simp only [State.undoOrder]
  repeat' split
  all_goals simp (maxDischargeDepth := 30) [*]

@[simp] theorem execMirrorTimeout_follows {s0 : State} {idx : Nat} {s : State} (hK : K .regs = false ∧ K .trn = false ∧ K .jrn = false ∧ K .flt = false ∧ K .ports = false) (hs : Follows K s0 s) :
    OutFollows K s0 (execMirrorTimeout idx s) := by
  simp only [execMirrorTimeout]
  repeat' split
  all_goals simp (maxDischargeDepth := 30) [*]

@[simp] theorem execJournalRelease_follows {s0 : State} {idx : Nat} {s : State} (hK : K .regs = false ∧ K .trn = false ∧ K .flt = false ∧ K .ports = false) (hs : Follows K s0 s) :
    OutFollows K s0 (execJournalRelease idx s) := by
  simp only [execJournalRelease]
  repeat' split
  all_goals simp (maxDischargeDepth := 30) [*]

@[simp] theorem execCompletionSend_follows {s0 : State} {stream hctx : Nat} {s : State} (hK : K .regs = false ∧ K .trn = false ∧ K .jrn = false ∧ K .flt = false ∧ K .ports = false) (hs : Follows K s0 s) :
    OutFollows K s0 (execCompletionSend stream hctx s) := by
  simp only [execCompletionSend]
  repeat' split
  all_goals simp (maxDischargeDepth := 30) [*]

@[simp] theorem State.commitDelivered_follows {s0 : State} {s : State} {stream : Nat} (hK : K .jrn = false) (hs : Follows K s0 s) :
    Follows K s0 (s.commitDelivered stream) := by
  simp only [State.commitDelivered]
  repeat' split
  all_goals simp (maxDischargeDepth := 30) [*]

@[simp] theorem State.ackComps_follows {s0 : State} {s : State} {stream hctx dseq : Nat} (hK : K .regs = false ∧ K .trn = false ∧ K .jrn = false ∧ K .flt = false ∧ K .ports = false) (hs : Follows K s0 s) :
    Follows K s0 (s.ackComps stream hctx dseq) := by
  simp (maxDischargeDepth := 30) [State.ackComps, hK, hs]

@[simp] theorem execCompAck_follows {s0 : State} {src : Entry} {raw : List Byte} {s : State} (hK : K .regs = false ∧ K .trn = false ∧ K .jrn = false ∧ K .flt = false ∧ K .ports = false) (hs : Follows K s0 s) :
    OutFollows K s0 (execCompAck src raw s) := by
  simp (maxDischargeDepth := 30) [execCompAck, hK, hs]

@[simp] theorem State.bindHome_follows {s0 : State} {s : State} {hctx bridge : Nat} (hK : K .regs = false ∧ K .trn = false ∧ K .flt = false ∧ K .ports = false) (hs : Follows K s0 s) :
    Follows K s0 (s.bindHome hctx bridge) := by
  simp (maxDischargeDepth := 30) [State.bindHome, hK, hs]

@[simp] theorem execHostBind_follows {s0 : State} {src : Entry} {raw : List Byte} {s : State} (hK : K .regs = false ∧ K .trn = false ∧ K .flt = false ∧ K .ports = false) (hs : Follows K s0 s) :
    OutFollows K s0 (execHostBind src raw s) := by
  simp (maxDischargeDepth := 30) [execHostBind, hK, hs]

@[simp] theorem State.dropRuns_follows {s0 : State} {s : State} (hK : K .mem = false ∧ K .bells = false) (hs : Follows K s0 s) :
    Follows K s0 (s.dropRuns) := by
  simp (maxDischargeDepth := 30) [State.dropRuns, hK, hs]

@[simp] theorem State.relaunch_follows {s0 : State} {s : State} (hK : K .regs = false ∧ K .mem = false ∧ K .trn = false ∧ K .jrn = false ∧ K .flt = false ∧ K .bells = false ∧ K .ports = false) (hs : Follows K s0 s) :
    Follows K s0 (s.relaunch) := by
  unfold State.relaunch
  refine foldl_follows (Follows.withJrn (by simp [hK]) ?_) fun t x => by simp (maxDischargeDepth := 30) [hK]
  refine foldl_follows (foldl_follows (by simp [hK, hs]) fun t x => by simp (maxDischargeDepth := 30) [hK]) fun t x => ?_
  repeat' split
  all_goals simp (maxDischargeDepth := 30) [hK]

@[simp] theorem State.remirror_follows {s0 : State} {s : State} {buddy : Nat} (hK : K .regs = false ∧ K .trn = false ∧ K .jrn = false ∧ K .flt = false ∧ K .ports = false) (hs : Follows K s0 s) :
    Follows K s0 (s.remirror buddy) := by
  unfold State.remirror
  refine State.checkBuddy_follows (hK := by simp [hK]) (foldl_follows (foldl_follows (foldl_follows (foldl_follows (Follows.withJrn (by simp [hK]) ?_)
    fun t x => ?_) fun t x => ?_) fun t x => ?_) fun t x => ?_)
  · simp (maxDischargeDepth := 30) [hK, hs]
  all_goals repeat' split
  all_goals simp (maxDischargeDepth := 30) [hK]

@[simp] theorem State.adoptStream_follows {s0 : State} {s : State} {r : Stream} (hK : K .jrn = false) (hs : Follows K s0 s) :
    Follows K s0 (s.adoptStream r) := by
  simp (maxDischargeDepth := 30) [State.adoptStream, hK, hs]

@[simp] theorem State.adoptEntry_follows {s0 : State} {s : State} {x : Nat} {e : JEntry} {remap : Bool} (hK : K .regs = false ∧ K .trn = false ∧ K .jrn = false ∧ K .flt = false ∧ K .ports = false) (hs : Follows K s0 s) :
    Follows K s0 (s.adoptEntry x e remap) := by
  simp (maxDischargeDepth := 30) [State.adoptEntry, hK, hs]

@[simp] theorem State.adopt_follows {s0 : State} {s : State} {x : Nat} {remap : Bool} (hK : K .regs = false ∧ K .trn = false ∧ K .jrn = false ∧ K .flt = false ∧ K .ports = false) (hs : Follows K s0 s) :
    Follows K s0 (s.adopt x remap) := by
  simp (maxDischargeDepth := 30) [State.adopt, hK, hs]

@[simp] theorem State.mirrorGap_follows {s0 : State} {s : State} {homes : Nat → Bool} (hK : K .regs = false ∧ K .flt = false ∧ K .dry = false) (hs : Follows K s0 s) :
    Follows K s0 (s.mirrorGap homes) := by
  simp (maxDischargeDepth := 30) [State.mirrorGap, hK, hs]

@[simp] theorem State.enterStrike_follows {s0 : State} {s : State} {cause check : Nat} (hK : K .regs = false ∧ K .flt = false ∧ K .dry = false ∧ K .ports = false) (hs : Follows K s0 s) :
    Follows K s0 (s.enterStrike cause check) := by
  simp (maxDischargeDepth := 30) [State.enterStrike, hK, hs]

@[simp] theorem State.live_follows {s0 : State} {s : State} {k : State → State} (hs : Follows K s0 s) (hk : ∀ x0, Follows K x0 (k x0)) :
    Follows K s0 (s.live k) := by
  unfold State.live
  split
  · exact hs
  · exact hs.trans (hk s)

@[simp] theorem State.strikeRecord_follows {s0 : State} {s : State} (hK : K .regs = false ∧ K .flt = false ∧ K .dry = false) (hs : Follows K s0 s) :
    Follows K s0 (s.strikeRecord) := by
  simp only [State.strikeRecord]
  repeat' split
  all_goals simp (maxDischargeDepth := 30) [*]

@[simp] theorem execStrikeRecordWrite_follows {s0 : State} {faultN outputs dark flaps : Option Nat} {s : State} (hK : K .regs = false ∧ K .flt = false ∧ K .dry = false) (hs : Follows K s0 s) :
    OutFollows K s0 (execStrikeRecordWrite faultN outputs dark flaps s) := by
  simp only [execStrikeRecordWrite]
  repeat' split
  all_goals simp (maxDischargeDepth := 30) [*]

@[simp] theorem execStrikeCommand_follows {s0 : State} {key : BitVec 32} {s : State} (hK : K .regs = false ∧ K .flt = false ∧ K .dry = false ∧ K .ports = false) (hs : Follows K s0 s) :
    OutFollows K s0 (execStrikeCommand key s) := by
  simp only [execStrikeCommand]
  repeat' split
  all_goals simp (maxDischargeDepth := 30) [*]

@[simp] theorem State.setPole_follows {s0 : State} {s : State} {b : Bool} {v : PoleState} (hK : K .pole = false) (hs : Follows K s0 s) :
    Follows K s0 (s.setPole b v) := by
  simp (maxDischargeDepth := 30) [State.setPole, hK, hs]

@[simp] theorem State.switchPole_follows {s0 : State} {s : State} {cause cycle : Nat} (hK : K .regs = false ∧ K .pole = false ∧ K .dry = false) (hs : Follows K s0 s) :
    Follows K s0 (s.switchPole cause cycle) := by
  simp (maxDischargeDepth := 30) [State.switchPole, hK, hs]

@[simp] theorem State.poleFailed_follows {s0 : State} {s : State} {b : Bool} (hK : K .flt = false ∧ K .pole = false ∧ K .pwr = false) (hs : Follows K s0 s) :
    Follows K s0 (s.poleFailed b) := by
  simp (maxDischargeDepth := 30) [State.poleFailed, hK, hs]

@[simp] theorem State.failPole_follows {s0 : State} {s : State} {b : Bool} (hK : K .regs = false ∧ K .flt = false ∧ K .pole = false ∧ K .dry = false ∧ K .ports = false ∧ K .pwr = false) (hs : Follows K s0 s) :
    Follows K s0 (s.failPole b) := by
  simp (maxDischargeDepth := 30) [State.failPole, hK, hs]

@[simp] theorem State.noteGiveUp_follows {s0 : State} {s : State} {b : Bool} (hK : K .pole = false) (hs : Follows K s0 s) :
    Follows K s0 (s.noteGiveUp b).1 := by
  simp (maxDischargeDepth := 30) [State.noteGiveUp, hK, hs]

@[simp] theorem execPoleGiveUp_follows {s0 : State} {b : Bool} {cause : Fin 8} {cycle : Nat} {otherToo : Bool} {s : State} (hK : K .regs = false ∧ K .flt = false ∧ K .pole = false ∧ K .dry = false ∧ K .ports = false ∧ K .pwr = false) (hs : Follows K s0 s) :
    OutFollows K s0 (execPoleGiveUp b cause cycle otherToo s) := by
  simp only [execPoleGiveUp]
  repeat' split
  all_goals simp (maxDischargeDepth := 30) [*]

@[simp] theorem execPoleSelfTestDone_follows {s0 : State} {b pass : Bool} {s : State} (hK : K .regs = false ∧ K .flt = false ∧ K .pole = false ∧ K .dry = false ∧ K .ports = false ∧ K .pwr = false) (hs : Follows K s0 s) :
    OutFollows K s0 (execPoleSelfTestDone b pass s) := by
  simp only [execPoleSelfTestDone]
  repeat' split
  all_goals simp (maxDischargeDepth := 30) [*]

@[simp] theorem execPoleResyncDone_follows {s0 : State} {b : Bool} {s : State} (hK : K .regs = false ∧ K .pole = false ∧ K .dry = false) (hs : Follows K s0 s) :
    OutFollows K s0 (execPoleResyncDone b s) := by
  simp only [execPoleResyncDone]
  repeat' split
  all_goals simp (maxDischargeDepth := 30) [*]

@[simp] theorem execPoleDivergence_follows {s0 : State} {s : State} (hK : K .regs = false ∧ K .flt = false ∧ K .pole = false) (hs : Follows K s0 s) :
    OutFollows K s0 (execPoleDivergence s) := by
  simp only [execPoleDivergence]
  repeat' split
  all_goals simp (maxDischargeDepth := 30) [*]

@[simp] theorem State.plannedSwitch_follows {s0 : State} {s : State} (hK : K .regs = false ∧ K .pole = false ∧ K .dry = false) (hs : Follows K s0 s) :
    Follows K s0 (s.plannedSwitch) := by
  simp (maxDischargeDepth := 30) [State.plannedSwitch, hK, hs]

@[simp] theorem execPoleSwitch_follows {s0 : State} {s : State} (hK : K .regs = false ∧ K .pole = false ∧ K .dry = false) (hs : Follows K s0 s) :
    OutFollows K s0 (execPoleSwitch s) := by
  simp (maxDischargeDepth := 30) [execPoleSwitch, hK, hs]

end Sys2Proof.Machine
end

