-- ==== Sys2Proof/Laws/FollowsBell.lean ====
section
/-!
SUPPORT. What the relation of Laws/Follows.lean says of Bell memory, collectives, runs and operations.
-/

set_option linter.all false
set_option Elab.async false

namespace Sys2Proof.Machine

open Sys2Proof

variable {K : Piece → Bool}

@[simp] theorem State.rowCandidate_follows {s0 : State} {s : State} {b o : Nat} (hK : K .regs = false ∧ K .dry = false ∧ K .bells = false) (hs : Follows K s0 s) :
    Follows K s0 (s.rowCandidate b o) := by
  simp (maxDischargeDepth := 30) [State.rowCandidate, hK, hs]

@[simp] theorem State.eccCapture_follows {s0 : State} {s : State} {b o type sym : Nat} {scrub : Bool} (hK : K .regs = false) (hs : Follows K s0 s) :
    Follows K s0 (s.eccCapture b o type sym scrub) := by
  simp (maxDischargeDepth := 30) [State.eccCapture, hK, hs]

@[simp] theorem State.scrubRoll_follows {s0 : State} {s : State} {b : Nat} (hK : K .bells = false) (hs : Follows K s0 s) :
    Follows K s0 (s.scrubRoll b) := by
  simp only [State.scrubRoll]
  repeat' split
  all_goals simp (maxDischargeDepth := 30) [*]

@[simp] theorem State.countCe_follows {s0 : State} {s : State} {b o : Nat} (hK : K .regs = false ∧ K .dry = false ∧ K .bells = false) (hs : Follows K s0 s) :
    Follows K s0 (s.countCe b o) := by
  simp (maxDischargeDepth := 30) [State.countCe, hK, hs]

@[simp] theorem State.readWord_follows {s0 : State} {s : State} {b o : Nat} {ups : List Upset} {scrub : Bool} (hK : K .regs = false ∧ K .mem = false ∧ K .flt = false ∧ K .dry = false ∧ K .bells = false) (hs : Follows K s0 s) :
    Follows K s0 (s.readWord b o ups scrub).1 := by
  simp only [State.readWord]
  repeat' split
  all_goals simp (maxDischargeDepth := 30) [*]

@[simp] theorem State.readWords_follows {s0 : State} {s : State} {b : Nat} {ups : List Upset} {stop : Bool} {l : List Nat} (hK : K .regs = false ∧ K .mem = false ∧ K .flt = false ∧ K .dry = false ∧ K .bells = false) (hs : Follows K s0 s) :
    Follows K s0 (s.readWords b ups stop l).1 := by
  induction l generalizing s with
  | nil => exact hs
  | cons o t ih =>
    have h1 : Follows K s0 (s.readWord b o ups false).1 := State.readWord_follows (hK := by simp [hK]) hs
    unfold State.readWords
    dsimp only
    split
    · exact ih h1
    · split
      · exact h1
      · exact ih h1

@[simp] theorem State.readRange_follows {s0 : State} {s : State} {b o n : Nat} {ups : List Upset} {stop : Bool} (hK : K .regs = false ∧ K .mem = false ∧ K .flt = false ∧ K .dry = false ∧ K .bells = false) (hs : Follows K s0 s) :
    Follows K s0 (s.readRange b o n ups stop).1 := by
  unfold State.readRange
  split
  · exact State.readWords_follows (hK := by simp [hK]) hs
  split
  · exact State.pulse_follows (hK := by simp [hK]) hs
  · exact hs

@[simp] theorem State.writePart_follows {s0 : State} {s : State} {b o : Nat} {bytes : List Byte} {ups : List Upset} (hK : K .regs = false ∧ K .mem = false ∧ K .flt = false ∧ K .dry = false ∧ K .bells = false) (hs : Follows K s0 s) :
    Follows K s0 (s.writePart b o bytes ups).1 := by
  simp only [State.writePart]
  repeat' split
  all_goals simp (maxDischargeDepth := 30) [*]

@[simp] theorem State.writeRange_follows {s0 : State} {s : State} {b o : Nat} {bytes : List Byte} {ups : List Upset} (hK : K .regs = false ∧ K .mem = false ∧ K .flt = false ∧ K .dry = false ∧ K .bells = false) (hs : Follows K s0 s) :
    Follows K s0 (s.writeRange b o bytes ups).1 := by
  simp only [State.writeRange]
  repeat' split
  all_goals simp (maxDischargeDepth := 30) [*]

@[simp] theorem State.clearDram_follows {s0 : State} {s : State} {b : Nat} (hK : K .mem = false) (hs : Follows K s0 s) :
    Follows K s0 (s.clearDram b) := by
  refine hs.step rfl rfl (Fuses.NotBelow.refl _) (fun x => x) (fun x => x) (fun x => SMap.wf_filter _ _ _ x) (fun x => x) (fun x => x) fun p hp => ?_
  cases p <;> first | rfl | simp_all

@[simp] theorem State.placeMoe_follows {s0 : State} {s : State} {x : MoeRow} (hK : K .mem = false ∧ K .bells = false) (hs : Follows K s0 s) :
    Follows K s0 (s.placeMoe x) := by
  simp (maxDischargeDepth := 30) [State.placeMoe, hK, hs]

@[simp] theorem State.placeWaiting_follows {s0 : State} {s : State} {b : Nat} (hK : K .mem = false ∧ K .bells = false) (hs : Follows K s0 s) :
    Follows K s0 (s.placeWaiting b) := by
  simp (maxDischargeDepth := 30) [State.placeWaiting, hK, hs]

@[simp] theorem execDramInitDone_follows {s0 : State} {b : Fin 8} {s : State} (hK : K .regs = false ∧ K .mem = false ∧ K .bells = false) (hs : Follows K s0 s) :
    OutFollows K s0 (execDramInitDone b s) := by
  simp only [execDramInitDone]
  repeat' split
  all_goals simp (maxDischargeDepth := 30) [*]

@[simp] theorem execBankRefresh_follows {s0 : State} {b : Fin 8} {die : Fin 4} {bse : Fin 64} {bank : Fin 16} {s : State} (hK : K .bells = false) (hs : Follows K s0 s) :
    OutFollows K s0 (execBankRefresh b die bse bank s) := by
  simp only [execBankRefresh]
  repeat' split
  all_goals simp (maxDischargeDepth := 30) [*]

@[simp] theorem State.scrubWord_follows {s0 : State} {s : State} {b : Nat} {ups : List Upset} (hK : K .regs = false ∧ K .mem = false ∧ K .flt = false ∧ K .dry = false ∧ K .bells = false) (hs : Follows K s0 s) :
    Follows K s0 (s.scrubWord b ups) := by
  simp (maxDischargeDepth := 30) [State.scrubWord, hK, hs]

@[simp] theorem execScrubStep_follows {s0 : State} {b : Fin 8} {ups : List Upset} {s : State} (hK : K .regs = false ∧ K .mem = false ∧ K .flt = false ∧ K .dry = false ∧ K .bells = false) (hs : Follows K s0 s) :
    OutFollows K s0 (execScrubStep b ups s) := by
  simp only [execScrubStep]
  repeat' split
  all_goals simp (maxDischargeDepth := 30) [*]

@[simp] theorem State.repairRows_follows {s0 : State} {s : State} {b : Nat} (hK : K .regs = false ∧ K .flt = false ∧ K .dry = false ∧ K .bells = false) (hs : Follows K s0 s) :
    Follows K s0 (s.repairRows b) := by
  simp (maxDischargeDepth := 30) [State.repairRows, hK, hs]

@[simp] theorem State.putInst_follows {s0 : State} {s : State} {x : ColInst} (hK : K .col = false) (hs : Follows K s0 s) :
    Follows K s0 (s.putInst x) := by
  simp (maxDischargeDepth := 30) [State.putInst, hK, hs]

@[simp] theorem State.sendColl_follows {s0 : State} {s : State} {node : Nat} {body : List Byte} (hK : K .regs = false ∧ K .trn = false ∧ K .flt = false ∧ K .ports = false) (hs : Follows K s0 s) :
    Follows K s0 (s.sendColl node body) := by
  simp (maxDischargeDepth := 30) [State.sendColl, hK, hs]

@[simp] theorem State.sendVals_follows {s0 : State} {s : State} {x : ColInst} {kind fmt rank node off : Nat} {vs : List Int} {fl : Nat → Nat → Nat} {last : Bool} (hK : K .regs = false ∧ K .trn = false ∧ K .flt = false ∧ K .ports = false) (hs : Follows K s0 s) :
    Follows K s0 (s.sendVals x kind fmt rank node off vs fl last) := by
  simp (maxDischargeDepth := 30) [State.sendVals, hK, hs]

@[simp] theorem State.writeClusters_follows {s0 : State} {s : State} {c : Coll} {off : Nat} {bytes : List Byte} (hK : K .mem = false) (hs : Follows K s0 s) :
    Follows K s0 (s.writeClusters c off bytes) := by
  simp (maxDischargeDepth := 30) [State.writeClusters, hK, hs]

@[simp] theorem State.deliverAnchors_follows {s0 : State} {s : State} {c : Coll} {x : ColInst} {off : Nat} {vs : List Int} (hK : K .mem = false ∧ K .col = false) (hs : Follows K s0 s) :
    Follows K s0 (s.deliverAnchors c x off vs) := by
  simp (maxDischargeDepth := 30) [State.deliverAnchors, hK, hs]

@[simp] theorem State.deliverResult_follows {s0 : State} {s : State} {c : Coll} {x : ColInst} {off n : Nat} {bytes : List Byte} (hK : K .regs = false ∧ K .mem = false ∧ K .col = false) (hs : Follows K s0 s) :
    Follows K s0 (s.deliverResult c x off n bytes) := by
  simp (maxDischargeDepth := 30) [State.deliverResult, hK, hs]

@[simp] theorem State.noteMixed_follows {s0 : State} {s : State} {x : ColInst} (hK : K .jrn = false) (hs : Follows K s0 s) :
    Follows K s0 (s.noteMixed x) := by
  simp (maxDischargeDepth := 30) [State.noteMixed, hK, hs]

@[simp] theorem State.abortInst_follows {s0 : State} {s : State} {x : ColInst} {cause err rank : Nat} {frm : Option Nat} (hK : K .regs = false ∧ K .trn = false ∧ K .flt = false ∧ K .col = false ∧ K .ports = false) (hs : Follows K s0 s) :
    Follows K s0 (s.abortInst x cause err rank frm) := by
  simp only [State.abortInst]
  repeat' split
  all_goals simp (maxDischargeDepth := 30) [*]

@[simp] theorem State.detCheck_follows {s0 : State} {s : State} {x : ColInst} {det rank : Nat} {mixed : Bool} {frm : Option Nat} (hK : K .regs = false ∧ K .trn = false ∧ K .jrn = false ∧ K .flt = false ∧ K .col = false ∧ K .ports = false) (hs : Follows K s0 s) :
    Follows K s0 (s.detCheck x det rank mixed frm).1 := by
  simp only [State.detCheck]
  repeat' split
  all_goals simp (maxDischargeDepth := 30) [*]

@[simp] theorem State.finishPiece_follows {s0 : State} {s : State} {c : Coll} {id : ColInst} {off : Nat} {vs : List (List Int)} {fl rank : Nat} {last : Bool} {nodes : List Nat} (hK : K .regs = false ∧ K .mem = false ∧ K .trn = false ∧ K .flt = false ∧ K .col = false ∧ K .ports = false) (hs : Follows K s0 s) :
    Follows K s0 (s.finishPiece c id off vs fl rank last nodes) := by
  simp (maxDischargeDepth := 30) [State.finishPiece, hK, hs]

@[simp] theorem State.finish_follows {s0 : State} {s : State} {c : Coll} {x : ColInst} {off : Nat} {vs : List (List Int)} {fl : Nat → Nat → Nat} {rank : Nat} {nodes : List Nat} (hK : K .regs = false ∧ K .mem = false ∧ K .trn = false ∧ K .flt = false ∧ K .col = false ∧ K .ports = false) (hs : Follows K s0 s) :
    Follows K s0 (s.finish c x off vs fl rank nodes) := by
  simp only [State.finish]
  repeat' split
  all_goals simp (maxDischargeDepth := 30) [*]

@[simp] theorem State.passGather_follows {s0 : State} {s : State} {c : Coll} {x : ColInst} {cs : List Chunk} (hK : K .regs = false ∧ K .trn = false ∧ K .flt = false ∧ K .ports = false) (hs : Follows K s0 s) :
    Follows K s0 (s.passGather c x cs) := by
  unfold State.passGather
  refine foldl_follows hs fun t i => ?_
  split <;> simp (maxDischargeDepth := 30) [hK]

@[simp] theorem State.treePhase_follows {s0 : State} {s : State} {c : Coll} {kind : Nat} {stream seq gen : Nat} (hK : K .regs = false ∧ K .mem = false ∧ K .trn = false ∧ K .flt = false ∧ K .col = false ∧ K .ports = false) (hs : Follows K s0 s) :
    Follows K s0 (s.treePhase c kind stream seq gen) := by
  simp only [State.treePhase]
  repeat' split
  all_goals simp (maxDischargeDepth := 30) [*]

@[simp] theorem State.ringStep_follows {s0 : State} {s : State} {c : Coll} {kind r i : Nat} {stream seq gen : Nat} (hK : K .regs = false ∧ K .mem = false ∧ K .trn = false ∧ K .flt = false ∧ K .col = false ∧ K .ports = false) (hs : Follows K s0 s) :
    Follows K s0 (s.ringStep c kind r i stream seq gen) := by
  simp only [State.ringStep]
  repeat' split
  all_goals simp (maxDischargeDepth := 30) [*]

@[simp] theorem State.ringPhase_follows {s0 : State} {s : State} {c : Coll} {kind stream seq gen : Nat} (hK : K .regs = false ∧ K .mem = false ∧ K .trn = false ∧ K .flt = false ∧ K .col = false ∧ K .ports = false) (hs : Follows K s0 s) :
    Follows K s0 (s.ringPhase c kind stream seq gen) := by
  simp (maxDischargeDepth := 30) [State.ringPhase, hK, hs]

@[simp] theorem State.colProgress_follows {s0 : State} {s : State} {c : Coll} {stream seq gen : Nat} (hK : K .regs = false ∧ K .mem = false ∧ K .trn = false ∧ K .flt = false ∧ K .col = false ∧ K .ports = false) (hs : Follows K s0 s) :
    Follows K s0 (s.colProgress c stream seq gen) := by
  simp (maxDischargeDepth := 30) [State.colProgress, hK, hs]

@[simp] theorem State.countBytes_follows {s0 : State} {s : State} {n : Nat} (hK : K .regs = false ∧ K .col = false) (hs : Follows K s0 s) :
    Follows K s0 (s.countBytes n) := by
  simp (maxDischargeDepth := 30) [State.countBytes, hK, hs]

@[simp] theorem State.takeLocal_follows {s0 : State} {s : State} {c : Coll} {stream seq gen : Nat} {k : Chunk} (hK : K .regs = false ∧ K .col = false) (hs : Follows K s0 s) :
    Follows K s0 (s.takeLocal c stream seq gen k) := by
  simp (maxDischargeDepth := 30) [State.takeLocal, hK, hs]

@[simp] theorem State.contribute_follows {s0 : State} {s : State} {b coll stream seq gen kind : Nat} {pieces : List Contrib} (hK : K .regs = false ∧ K .mem = false ∧ K .trn = false ∧ K .flt = false ∧ K .col = false ∧ K .ports = false) (hs : Follows K s0 s) :
    Follows K s0 (s.contribute b coll stream seq gen kind pieces) := by
  simp only [State.contribute]
  repeat' split
  all_goals simp (maxDischargeDepth := 30) [*]

@[simp] theorem State.takePartial_follows {s0 : State} {s : State} {c : Coll} {h : ColHdr} {node : Nat} {payload : List Byte} {stagingErr : Bool} (hK : K .regs = false ∧ K .mem = false ∧ K .trn = false ∧ K .jrn = false ∧ K .flt = false ∧ K .col = false ∧ K .ports = false) (hs : Follows K s0 s) :
    Follows K s0 (s.takePartial c h node payload stagingErr) := by
  simp (maxDischargeDepth := 30) [State.takePartial, hK, hs]

@[simp] theorem State.takeResult_follows {s0 : State} {s : State} {c : Coll} {h : ColHdr} {node : Nat} {payload : List Byte} (hK : K .regs = false ∧ K .mem = false ∧ K .trn = false ∧ K .jrn = false ∧ K .flt = false ∧ K .col = false ∧ K .ports = false) (hs : Follows K s0 s) :
    Follows K s0 (s.takeResult c h node payload) := by
  simp (maxDischargeDepth := 30) [State.takeResult, hK, hs]

@[simp] theorem State.colMsg_follows {s0 : State} {s : State} {src : Entry} {rowKind : Nat} {raw : List Byte} {stagingErr : Bool} (hK : K .regs = false ∧ K .mem = false ∧ K .trn = false ∧ K .jrn = false ∧ K .flt = false ∧ K .col = false ∧ K .ports = false) (hs : Follows K s0 s) :
    Follows K s0 (s.colMsg src rowKind raw stagingErr) := by
  unfold State.colMsg
  refine State.live_follows hs fun t => State.receiveReq_follows (hK := by simp [hK]) (Follows.refl t) fun m => ?_
  dsimp only
  repeat' split
  all_goals simp (maxDischargeDepth := 30) [hK]

@[simp] theorem execExpPartial_follows {s0 : State} {src : Entry} {raw : List Byte} {stagingErr : Bool} {s : State} (hK : K .regs = false ∧ K .mem = false ∧ K .trn = false ∧ K .jrn = false ∧ K .flt = false ∧ K .col = false ∧ K .ports = false) (hs : Follows K s0 s) :
    OutFollows K s0 (execExpPartial src raw stagingErr s) := by
  simp (maxDischargeDepth := 30) [execExpPartial, hK, hs]

@[simp] theorem execExpResult_follows {s0 : State} {src : Entry} {raw : List Byte} {s : State} (hK : K .regs = false ∧ K .mem = false ∧ K .trn = false ∧ K .jrn = false ∧ K .flt = false ∧ K .col = false ∧ K .ports = false) (hs : Follows K s0 s) :
    OutFollows K s0 (execExpResult src raw s) := by
  simp (maxDischargeDepth := 30) [execExpResult, hK, hs]

@[simp] theorem execColPartial_follows {s0 : State} {src : Entry} {raw : List Byte} {stagingErr : Bool} {s : State} (hK : K .regs = false ∧ K .mem = false ∧ K .trn = false ∧ K .jrn = false ∧ K .flt = false ∧ K .col = false ∧ K .ports = false) (hs : Follows K s0 s) :
    OutFollows K s0 (execColPartial src raw stagingErr s) := by
  simp (maxDischargeDepth := 30) [execColPartial, hK, hs]

@[simp] theorem execColResult_follows {s0 : State} {src : Entry} {raw : List Byte} {s : State} (hK : K .regs = false ∧ K .mem = false ∧ K .trn = false ∧ K .jrn = false ∧ K .flt = false ∧ K .col = false ∧ K .ports = false) (hs : Follows K s0 s) :
    OutFollows K s0 (execColResult src raw s) := by
  simp (maxDischargeDepth := 30) [execColResult, hK, hs]

@[simp] theorem execColAbort_follows {s0 : State} {src : Entry} {raw : List Byte} {s : State} (hK : K .regs = false ∧ K .mem = false ∧ K .trn = false ∧ K .jrn = false ∧ K .flt = false ∧ K .col = false ∧ K .ports = false) (hs : Follows K s0 s) :
    OutFollows K s0 (execColAbort src raw s) := by
  simp (maxDischargeDepth := 30) [execColAbort, hK, hs]

@[simp] theorem execCollectiveStall_follows {s0 : State} {inst : Nat} {s : State} (hK : K .flt = false ∧ K .col = false) (hs : Follows K s0 s) :
    OutFollows K s0 (execCollectiveStall inst s) := by
  simp only [execCollectiveStall]
  repeat' split
  all_goals simp (maxDischargeDepth := 30) [*]

@[simp] theorem State.abortWhere_follows {s0 : State} {s : State} {p : ColInst → Bool} {cause : Nat} {rank : ColInst → Nat} (hK : K .regs = false ∧ K .trn = false ∧ K .flt = false ∧ K .col = false ∧ K .ports = false) (hs : Follows K s0 s) :
    Follows K s0 (s.abortWhere p cause rank) := by
  simp (maxDischargeDepth := 30) [State.abortWhere, hK, hs]

@[simp] theorem State.abortDie_follows {s0 : State} {s : State} {die : Nat} (hK : K .regs = false ∧ K .trn = false ∧ K .flt = false ∧ K .col = false ∧ K .ports = false) (hs : Follows K s0 s) :
    Follows K s0 (s.abortDie die) := by
  simp (maxDischargeDepth := 30) [State.abortDie, hK, hs]

@[simp] theorem State.startRun_follows {s0 : State} {s : State} {b stream seq : Nat} (hK : K .bells = false) (hs : Follows K s0 s) :
    Follows K s0 (s.startRun b stream seq) := by
  simp (maxDischargeDepth := 30) [State.startRun, hK, hs]

@[simp] theorem State.pullRun_follows {s0 : State} {s : State} {b : Nat} (hK : K .bells = false) (hs : Follows K s0 s) :
    Follows K s0 (s.pullRun b) := by
  simp only [State.pullRun]
  repeat' split
  all_goals simp (maxDischargeDepth := 30) [*]

@[simp] theorem State.pullRuns_follows {s0 : State} {s : State} {b : Nat} (hK : K .bells = false) (hs : Follows K s0 s) :
    Follows K s0 (s.pullRuns b) := by
  simp (maxDischargeDepth := 30) [State.pullRuns, hK, hs]

@[simp] theorem execRunLaunchAtBell_follows {s0 : State} {b : Fin 8} {stream seq : Nat} {s : State} (hK : K .bells = false) (hs : Follows K s0 s) :
    OutFollows K s0 (execRunLaunchAtBell b stream seq s) := by
  simp only [execRunLaunchAtBell]
  repeat' split
  all_goals simp (maxDischargeDepth := 30) [*]

@[simp] theorem execRunQueueEntryFree_follows {s0 : State} {b : Fin 8} {s : State} (hK : K .bells = false) (hs : Follows K s0 s) :
    OutFollows K s0 (execRunQueueEntryFree b s) := by
  simp only [execRunQueueEntryFree]
  repeat' split
  all_goals simp (maxDischargeDepth := 30) [*]

@[simp] theorem State.abortRun_follows {s0 : State} {s : State} {b : Nat} {w : WorkOrder} {cause err : Nat} (hK : K .regs = false ∧ K .trn = false ∧ K .flt = false ∧ K .col = false ∧ K .ports = false) (hs : Follows K s0 s) :
    Follows K s0 (s.abortRun b w cause err) := by
  unfold State.abortRun
  refine foldl_follows hs fun t c => ?_
  dsimp only
  repeat' split
  all_goals simp (maxDischargeDepth := 30) [hK]

@[simp] theorem State.removeRun_follows {s0 : State} {s : State} {b : Nat} {stream seq : Nat} (hK : K .bells = false) (hs : Follows K s0 s) :
    Follows K s0 (s.removeRun b stream seq) := by
  simp (maxDischargeDepth := 30) [State.removeRun, hK, hs]

@[simp] theorem State.stopRun_follows {s0 : State} {s : State} {b : Nat} {r : RunSt} {status code cause : Nat} (hK : K .regs = false ∧ K .mem = false ∧ K .trn = false ∧ K .jrn = false ∧ K .flt = false ∧ K .bells = false ∧ K .col = false ∧ K .ports = false) (hs : Follows K s0 s) :
    Follows K s0 (s.stopRun b r status code cause) := by
  simp only [State.stopRun]
  repeat' split
  all_goals simp (maxDischargeDepth := 30) [*]

@[simp] theorem State.runError_follows {s0 : State} {s : State} {b : Nat} {r : RunSt} {idx code c i : Nat} (hK : K .regs = false ∧ K .mem = false ∧ K .trn = false ∧ K .jrn = false ∧ K .flt = false ∧ K .bells = false ∧ K .col = false ∧ K .ports = false) (hs : Follows K s0 s) :
    Follows K s0 (s.runError b r idx code c i) := by
  simp (maxDischargeDepth := 30) [State.runError, hK, hs]

@[simp] theorem State.putRun_follows {s0 : State} {s : State} {b : Nat} {r : RunSt} (hK : K .bells = false) (hs : Follows K s0 s) :
    Follows K s0 (s.putRun b r) := by
  simp (maxDischargeDepth := 30) [State.putRun, hK, hs]

@[simp] theorem State.runPrologue_follows {s0 : State} {s : State} {b : Nat} {p : Part} {tokenOff : Nat} (hK : K .mem = false) (hs : Follows K s0 s) :
    Follows K s0 (s.runPrologue b p tokenOff) := by
  simp (maxDischargeDepth := 30) [State.runPrologue, hK, hs]

@[simp] theorem State.wakeEngines_follows {s0 : State} {s : State} {b : Nat} {clusters : List Nat} (hK : K .pwr = false) (hs : Follows K s0 s) :
    Follows K s0 (s.wakeEngines b clusters) := by
  simp (maxDischargeDepth := 30) [State.wakeEngines, hK, hs]

@[simp] theorem execDescriptorFetch_follows {s0 : State} {b : Fin 8} {run : Nat} {storeErr : Bool} {s : State} (hK : K .regs = false ∧ K .mem = false ∧ K .trn = false ∧ K .jrn = false ∧ K .flt = false ∧ K .bells = false ∧ K .col = false ∧ K .ports = false ∧ K .pwr = false) (hs : Follows K s0 s) :
    OutFollows K s0 (execDescriptorFetch b run storeErr s) := by
  simp only [execDescriptorFetch]
  repeat' split
  all_goals simp (maxDischargeDepth := 30) [*]

@[simp] theorem State.endRun_follows {s0 : State} {s : State} {b : Nat} {r : RunSt} (hK : K .jrn = false ∧ K .bells = false) (hs : Follows K s0 s) :
    Follows K s0 (s.endRun b r) := by
  simp only [State.endRun]
  repeat' split
  all_goals simp (maxDischargeDepth := 30) [*]

@[simp] theorem execDescriptorComplete_follows {s0 : State} {b : Fin 8} {run : Nat} {s : State} (hK : K .regs = false ∧ K .jrn = false ∧ K .bells = false) (hs : Follows K s0 s) :
    OutFollows K s0 (execDescriptorComplete b run s) := by
  simp only [execDescriptorComplete]
  repeat' split
  all_goals simp (maxDischargeDepth := 30) [*]

@[simp] theorem Acc.andThen_follows {s0 : State} {a : Acc} {f : Acc → Acc} (ha : Follows K s0 a.s) (hf : ∀ x0, Follows K x0.s (f x0).s) :
    Follows K s0 (a.andThen f).s := by
  unfold Acc.andThen
  split
  · exact ha
  · exact ha.trans (hf a)

@[simp] theorem Acc.raise_follows {s0 : State} {a : Acc} {f : Nat} (ha : Follows K s0 a.s) :
    Follows K s0 (a.raise f).s := by
  simp (maxDischargeDepth := 30) [Acc.raise, ha]

@[simp] theorem Acc.get_follows {s0 : State} {a : Acc} {b c i o n : Nat} {ups : List Upset} (hK : K .regs = false ∧ K .mem = false ∧ K .flt = false ∧ K .dry = false ∧ K .bells = false) (ha : Follows K s0 a.s) :
    Follows K s0 (a.get b c i o n ups).1.s := by
  simp only [Acc.get]
  repeat' split
  all_goals simp (maxDischargeDepth := 30) [*]

@[simp] theorem Acc.gets_follows {s0 : State} {a : Acc} {b c i n : Nat} {ups : List Upset} {offs : List Nat} (hK : K .regs = false ∧ K .mem = false ∧ K .flt = false ∧ K .dry = false ∧ K .bells = false) (ha : Follows K s0 a.s) :
    Follows K s0 (a.gets b c i n ups offs).1.s := by
  unfold Acc.gets
  refine List.foldlRecOn offs _ (motive := fun (p : Acc × List (List Byte)) => Follows K s0 p.1.s) ha fun p hp o _ => ?_
  exact Acc.get_follows (hK := by simp [hK]) hp

@[simp] theorem Acc.write_follows {s0 : State} {a : Acc} {b c i o : Nat} {bytes : List Byte} {ups : List Upset} (hK : K .regs = false ∧ K .mem = false ∧ K .flt = false ∧ K .dry = false ∧ K .bells = false) (ha : Follows K s0 a.s) :
    Follows K s0 (a.write b c i o bytes ups).s := by
  unfold Acc.write
  refine Acc.andThen_follows ha fun a => ?_
  dsimp only
  split <;> simp (maxDischargeDepth := 30) [hK]

@[simp] theorem State.opDone_follows {s0 : State} {s : State} {b opcode : Nat} {r : RunSt} {a : Active} {o : Acc} (hK : K .regs = false ∧ K .mem = false ∧ K .trn = false ∧ K .jrn = false ∧ K .flt = false ∧ K .bells = false ∧ K .col = false ∧ K .ports = false) (_hs : Follows K s0 s) (ho : Follows K s0 o.s) :
    Follows K s0 (s.opDone b opcode r a o) := by
  unfold State.opDone
  split
  · exact State.runError_follows (hK := by simp [hK]) ho
  · dsimp only
    repeat' split
    all_goals simp (maxDischargeDepth := 30) [hK, ho]

@[simp] theorem State.runOp_follows {s0 : State} {s : State} {b run opcode : Nat} {f : Part → Desc → RunSt → State → Acc} (hK : K .regs = false ∧ K .mem = false ∧ K .trn = false ∧ K .jrn = false ∧ K .flt = false ∧ K .bells = false ∧ K .col = false ∧ K .ports = false) (hs : Follows K s0 s) (hf : ∀ x0 x1 x2 x3, Follows K x3 (f x0 x1 x2 x3).s) :
    Follows K s0 (s.runOp b run opcode f) := by
  unfold State.runOp
  repeat' split
  all_goals first
    | exact hs
    | exact State.opDone_follows (hK := by simp [hK]) hs ((State.putRun_follows (hK := by simp [hK]) hs).trans (hf _ _ _ _))

@[simp] theorem State.setDrain_follows {s0 : State} {s : State} {b : Nat} {on : Bool} (hK : K .regs = false ∧ K .bells = false) (hs : Follows K s0 s) :
    Follows K s0 (s.setDrain b on) := by
  simp (maxDischargeDepth := 30) [State.setDrain, hK, hs]

@[simp] theorem execBelDrain_follows {s0 : State} {b : Fin 8} {on : Bool} {s : State} (hK : K .regs = false ∧ K .bells = false) (hs : Follows K s0 s) :
    OutFollows K s0 (execBelDrain b on s) := by
  simp (maxDischargeDepth := 30) [execBelDrain, hK, hs]

@[simp] theorem execOpNop_follows {s0 : State} {b : Fin 8} {run : Nat} {s : State} (hK : K .regs = false ∧ K .mem = false ∧ K .trn = false ∧ K .jrn = false ∧ K .flt = false ∧ K .bells = false ∧ K .col = false ∧ K .ports = false) (hs : Follows K s0 s) :
    OutFollows K s0 (execOpNop b run s) := by
  simp (maxDischargeDepth := 30) [execOpNop, hK, hs]

@[simp] theorem execOpSync_follows {s0 : State} {b : Fin 8} {run : Nat} {s : State} (hK : K .regs = false ∧ K .mem = false ∧ K .trn = false ∧ K .jrn = false ∧ K .flt = false ∧ K .bells = false ∧ K .col = false ∧ K .ports = false) (hs : Follows K s0 s) :
    OutFollows K s0 (execOpSync b run s) := by
  simp only [execOpSync]
  repeat' split
  all_goals simp (maxDischargeDepth := 30) [*]

@[simp] theorem Acc.rows_follows {s0 : State} {a : Acc} {b c off f w m : Nat} {ups : List Upset} (hK : K .regs = false ∧ K .mem = false ∧ K .flt = false ∧ K .dry = false ∧ K .bells = false) (ha : Follows K s0 a.s) :
    Follows K s0 (a.rows b c off f w m ups).1.s := by
  simp (maxDischargeDepth := 30) [Acc.rows, hK, ha]

@[simp] theorem Acc.send_follows {s0 : State} {a : Acc} {p : Part} {d : Desc} {c i first : Nat} {vs : List El} {fl : Nat} {gate : Option (Nat × Nat)} (ha : Follows K s0 a.s) :
    Follows K s0 (a.send p d c i first vs fl gate).s := by
  simp only [Acc.send]
  repeat' split
  all_goals simp (maxDischargeDepth := 30) [*]

@[simp] theorem Acc.skip_follows {s0 : State} {a : Acc} {c first : Nat} (ha : Follows K s0 a.s) :
    Follows K s0 (a.skip c first).s := by
  simp (maxDischargeDepth := 30) [Acc.skip, ha]

@[simp] theorem Acc.emitRows_follows {s0 : State} {a : Acc} {p : Part} {b : Nat} {d : Desc} {c w : Nat} {rows : List (List El × Nat)} {ups : List Upset} (hK : K .regs = false ∧ K .mem = false ∧ K .flt = false ∧ K .dry = false ∧ K .bells = false) (ha : Follows K s0 a.s) :
    Follows K s0 (a.emitRows p b d c w rows ups).s := by
  unfold Acc.emitRows
  refine foldl_follows_acc ha fun a i => Acc.andThen_follows (Follows.refl _) fun a => ?_
  dsimp only
  repeat' split
  all_goals simp (maxDischargeDepth := 30) [hK]

@[simp] theorem mapRows_follows {s0 : State} {p : Part} {b : Nat} {d : Desc} {wIn wOut m : Nat} {ups : List Upset} {g : Nat → List Num → List El × Nat} {s : State} (hK : K .regs = false ∧ K .mem = false ∧ K .flt = false ∧ K .dry = false ∧ K .bells = false) (hs : Follows K s0 s) :
    Follows K s0 (mapRows p b d wIn wOut m ups g s).s := by
  simp (maxDischargeDepth := 30) [mapRows, hK, hs]

@[simp] theorem mapRows2_follows {s0 : State} {p : Part} {b : Nat} {d : Desc} {w m : Nat} {ups : List Upset} {g : Nat → List Num → List Num → List El × Nat} {s : State} (hK : K .regs = false ∧ K .mem = false ∧ K .flt = false ∧ K .dry = false ∧ K .bells = false) (hs : Follows K s0 s) :
    Follows K s0 (mapRows2 p b d w m ups g s).s := by
  simp (maxDischargeDepth := 30) [mapRows2, hK, hs]

@[simp] theorem softmaxOp_follows {s0 : State} {b : Fin 8} {ups : List Upset} {p : Part} {d : Desc} {r : RunSt} {t : State} (hK : K .regs = false ∧ K .mem = false ∧ K .flt = false ∧ K .dry = false ∧ K .bells = false) (ht : Follows K s0 t) :
    Follows K s0 (softmaxOp b ups p d r t).s := by
  simp (maxDischargeDepth := 30) [hK, softmaxOp, ht]

@[simp] theorem execOpSoftmax_follows {s0 : State} {b : Fin 8} {run : Nat} {ups : List Upset} {s : State} (hK : K .regs = false ∧ K .mem = false ∧ K .trn = false ∧ K .jrn = false ∧ K .flt = false ∧ K .dry = false ∧ K .bells = false ∧ K .col = false ∧ K .ports = false) (hs : Follows K s0 s) :
    OutFollows K s0 (execOpSoftmax b run ups s) := by
  simp (maxDischargeDepth := 30) [execOpSoftmax, hK, hs]

@[simp] theorem normOp_follows {s0 : State} {b : Fin 8} {ups : List Upset} {p : Part} {d : Desc} {r : RunSt} {t : State} (hK : K .regs = false ∧ K .mem = false ∧ K .flt = false ∧ K .dry = false ∧ K .bells = false) (ht : Follows K s0 t) :
    Follows K s0 (normOp b ups p d r t).s := by
  simp (maxDischargeDepth := 30) [hK, normOp, ht]

@[simp] theorem execOpNorm_follows {s0 : State} {b : Fin 8} {run : Nat} {ups : List Upset} {s : State} (hK : K .regs = false ∧ K .mem = false ∧ K .trn = false ∧ K .jrn = false ∧ K .flt = false ∧ K .dry = false ∧ K .bells = false ∧ K .col = false ∧ K .ports = false) (hs : Follows K s0 s) :
    OutFollows K s0 (execOpNorm b run ups s) := by
  simp (maxDischargeDepth := 30) [execOpNorm, hK, hs]

@[simp] theorem ropeOp_follows {s0 : State} {b : Fin 8} {ups : List Upset} {p : Part} {d : Desc} {r : RunSt} {t : State} (hK : K .regs = false ∧ K .mem = false ∧ K .flt = false ∧ K .dry = false ∧ K .bells = false) (ht : Follows K s0 t) :
    Follows K s0 (ropeOp b ups p d r t).s := by
  simp (maxDischargeDepth := 30) [hK, ropeOp, ht]

@[simp] theorem execOpRope_follows {s0 : State} {b : Fin 8} {run : Nat} {ups : List Upset} {s : State} (hK : K .regs = false ∧ K .mem = false ∧ K .trn = false ∧ K .jrn = false ∧ K .flt = false ∧ K .dry = false ∧ K .bells = false ∧ K .col = false ∧ K .ports = false) (hs : Follows K s0 s) :
    OutFollows K s0 (execOpRope b run ups s) := by
  simp (maxDischargeDepth := 30) [execOpRope, hK, hs]

@[simp] theorem eltwiseOp_follows {s0 : State} {b : Fin 8} {ups : List Upset} {p : Part} {d : Desc} {r0a : RunSt} {t : State} (hK : K .regs = false ∧ K .mem = false ∧ K .flt = false ∧ K .dry = false ∧ K .bells = false) (ht : Follows K s0 t) :
    Follows K s0 (eltwiseOp b ups p d r0a t).s := by
  refine ht.trans ?_
  unfold eltwiseOp
  split <;> simp (maxDischargeDepth := 30) [hK]

@[simp] theorem execOpEltwise_follows {s0 : State} {b : Fin 8} {run : Nat} {ups : List Upset} {s : State} (hK : K .regs = false ∧ K .mem = false ∧ K .trn = false ∧ K .jrn = false ∧ K .flt = false ∧ K .dry = false ∧ K .bells = false ∧ K .col = false ∧ K .ports = false) (hs : Follows K s0 s) :
    OutFollows K s0 (execOpEltwise b run ups s) := by
  simp (maxDischargeDepth := 30) [execOpEltwise, hK, hs]

@[simp] theorem quantOp_follows {s0 : State} {b : Fin 8} {ups : List Upset} {p : Part} {d : Desc} {r : RunSt} {t : State} (hK : K .regs = false ∧ K .mem = false ∧ K .flt = false ∧ K .dry = false ∧ K .bells = false) (ht : Follows K s0 t) :
    Follows K s0 (quantOp b ups p d r t).s := by
  refine ht.trans ?_
  unfold quantOp
  refine foldl_follows_acc (Follows.refl t) fun a c => ?_
  refine Acc.andThen_follows ?_ fun a => ?_
  · split <;> simp (maxDischargeDepth := 30) [hK]
  · try dsimp only
    split
    · refine foldl_follows_acc ?_ fun a m => ?_ <;> simp (maxDischargeDepth := 30) [hK]
    · simp (maxDischargeDepth := 30) [hK]

@[simp] theorem execOpQuant_follows {s0 : State} {b : Fin 8} {run : Nat} {ups : List Upset} {s : State} (hK : K .regs = false ∧ K .mem = false ∧ K .trn = false ∧ K .jrn = false ∧ K .flt = false ∧ K .dry = false ∧ K .bells = false ∧ K .col = false ∧ K .ports = false) (hs : Follows K s0 s) :
    OutFollows K s0 (execOpQuant b run ups s) := by
  simp (maxDischargeDepth := 30) [execOpQuant, hK, hs]

@[simp] theorem moeGateOp_follows {s0 : State} {b : Fin 8} {ups : List Upset} {p : Part} {d : Desc} {r0a : RunSt} {t : State} (hK : K .regs = false ∧ K .mem = false ∧ K .flt = false ∧ K .dry = false ∧ K .bells = false) (ht : Follows K s0 t) :
    Follows K s0 (moeGateOp b ups p d r0a t).s := by
  refine ht.trans ?_
  unfold moeGateOp
  refine foldl_follows_acc (Follows.refl t) fun a c => Acc.andThen_follows (by simp (maxDischargeDepth := 30) [hK]) fun a => ?_
  refine foldl_follows_acc (Follows.refl _) fun a m => ?_
  dsimp only
  repeat' split
  all_goals simp (maxDischargeDepth := 30) [hK]

@[simp] theorem execOpMoeGate_follows {s0 : State} {b : Fin 8} {run : Nat} {ups : List Upset} {s : State} (hK : K .regs = false ∧ K .mem = false ∧ K .trn = false ∧ K .jrn = false ∧ K .flt = false ∧ K .dry = false ∧ K .bells = false ∧ K .col = false ∧ K .ports = false) (hs : Follows K s0 s) :
    OutFollows K s0 (execOpMoeGate b run ups s) := by
  simp (maxDischargeDepth := 30) [execOpMoeGate, hK, hs]

@[simp] theorem execMoeDispatchReceive_follows {s0 : State} {row : MoeRow} {s : State} (hK : K .mem = false ∧ K .bells = false) (hs : Follows K s0 s) :
    OutFollows K s0 (execMoeDispatchReceive row s) := by
  simp (maxDischargeDepth := 30) [execMoeDispatchReceive, hK, hs]

@[simp] theorem State.moeLocal_follows {s0 : State} {s : State} {b : Nat} {x : MoeRow} (hK : K .mem = false ∧ K .bells = false) (hs : Follows K s0 s) :
    Follows K s0 (s.moeLocal b x) := by
  simp (maxDischargeDepth := 30) [State.moeLocal, hK, hs]

@[simp] theorem moeDispatchOp_follows {s0 : State} {b : Fin 8} {ups : List Upset} {p : Part} {d : Desc} {r : RunSt} {t : State} (hK : K .regs = false ∧ K .mem = false ∧ K .flt = false ∧ K .dry = false ∧ K .bells = false) (ht : Follows K s0 t) :
    Follows K s0 (moeDispatchOp b ups p d r t).s := by
  refine ht.trans ?_
  unfold moeDispatchOp
  refine foldl_follows_acc (Follows.refl t) fun a c => ?_
  refine foldl_follows_acc (by simp (maxDischargeDepth := 30) [hK]) fun a j => foldl_follows_acc (Follows.refl _) fun a rk => ?_
  refine Acc.andThen_follows (by simp (maxDischargeDepth := 30) [hK]) fun a => ?_
  dsimp only
  split <;> simp (maxDischargeDepth := 30) [hK]

@[simp] theorem execOpMoeDispatch_follows {s0 : State} {b : Fin 8} {run : Nat} {ups : List Upset} {s : State} (hK : K .regs = false ∧ K .mem = false ∧ K .trn = false ∧ K .jrn = false ∧ K .flt = false ∧ K .dry = false ∧ K .bells = false ∧ K .col = false ∧ K .ports = false) (hs : Follows K s0 s) :
    OutFollows K s0 (execOpMoeDispatch b run ups s) := by
  simp (maxDischargeDepth := 30) [execOpMoeDispatch, hK, hs]

@[simp] theorem sampleOp_follows {s0 : State} {b : Fin 8} {ups : List Upset} {p : Part} {d : Desc} {r0a : RunSt} {t : State} (hK : K .regs = false ∧ K .mem = false ∧ K .flt = false ∧ K .dry = false ∧ K .bells = false) (ht : Follows K s0 t) :
    Follows K s0 (sampleOp b ups p d r0a t).s := by
  refine ht.trans ?_
  unfold sampleOp
  refine foldl_follows_acc (Follows.refl t) fun a c => Acc.andThen_follows (by simp (maxDischargeDepth := 30) [hK]) fun a => ?_
  dsimp only
  repeat' split
  all_goals simp (maxDischargeDepth := 30) [hK]

@[simp] theorem execOpSample_follows {s0 : State} {b : Fin 8} {run : Nat} {ups : List Upset} {s : State} (hK : K .regs = false ∧ K .mem = false ∧ K .trn = false ∧ K .jrn = false ∧ K .flt = false ∧ K .dry = false ∧ K .bells = false ∧ K .col = false ∧ K .ports = false) (hs : Follows K s0 s) :
    OutFollows K s0 (execOpSample b run ups s) := by
  simp (maxDischargeDepth := 30) [execOpSample, hK, hs]

@[simp] theorem Acc.operand_follows {s0 : State} {a : Acc} {ahead : Bool} {b c i f k : Nat} {ups : List Upset} {offs : List Nat} (hK : K .regs = false ∧ K .mem = false ∧ K .flt = false ∧ K .dry = false ∧ K .bells = false) (ha : Follows K s0 a.s) :
    Follows K s0 (a.operand ahead b c i f k ups offs).1.s := by
  unfold Acc.operand
  repeat' split
  · simp (maxDischargeDepth := 30) [hK, ha]
  · exact foldl_follows_acc_fst ha fun t o => by simp (maxDischargeDepth := 30) [hK]
  · simp (maxDischargeDepth := 30) [hK, ha]

@[simp] theorem matmulOp_follows {s0 : State} {b : Fin 8} {ups : List Upset} {p : Part} {d : Desc} {r0a : RunSt} {t : State} (hK : K .regs = false ∧ K .mem = false ∧ K .flt = false ∧ K .dry = false ∧ K .bells = false) (ht : Follows K s0 t) :
    Follows K s0 (matmulOp b ups p d r0a t).s := by
  refine ht.trans ?_
  unfold matmulOp
  refine foldl_follows_acc (Follows.refl t) fun a c => Acc.andThen_follows ?_ fun a => ?_
  · dsimp only
    split <;> simp (maxDischargeDepth := 30) [hK]
  refine foldl_follows_acc (Follows.refl _) fun a m => Acc.andThen_follows (Follows.refl _) fun a => ?_
  dsimp only
  repeat' split
  all_goals simp (maxDischargeDepth := 30) [hK]

@[simp] theorem execOpMatmul_follows {s0 : State} {b : Fin 8} {run : Nat} {ups : List Upset} {s : State} (hK : K .regs = false ∧ K .mem = false ∧ K .trn = false ∧ K .jrn = false ∧ K .flt = false ∧ K .dry = false ∧ K .bells = false ∧ K .col = false ∧ K .ports = false) (hs : Follows K s0 s) :
    OutFollows K s0 (execOpMatmul b run ups s) := by
  simp (maxDischargeDepth := 30) [execOpMatmul, hK, hs]

@[simp] theorem expmaxOp_follows {s0 : State} {b : Fin 8} {ups : List Upset} {p : Part} {d : Desc} {r : RunSt} {t : State} (hK : K .regs = false ∧ K .mem = false ∧ K .flt = false ∧ K .dry = false ∧ K .bells = false) (ht : Follows K s0 t) :
    Follows K s0 (expmaxOp b ups p d r t).s := by
  refine ht.trans ?_
  unfold expmaxOp
  refine foldl_follows_acc (Follows.refl t) fun a c => ?_
  refine Acc.andThen_follows (by simp (maxDischargeDepth := 30) [hK]) fun a => ?_
  refine foldl_follows_acc (Follows.refl _) fun a m => ?_
  dsimp only
  repeat' split
  all_goals simp (maxDischargeDepth := 30) [hK]

@[simp] theorem execOpExpmax_follows {s0 : State} {b : Fin 8} {run : Nat} {ups : List Upset} {s : State} (hK : K .regs = false ∧ K .mem = false ∧ K .trn = false ∧ K .jrn = false ∧ K .flt = false ∧ K .dry = false ∧ K .bells = false ∧ K .col = false ∧ K .ports = false) (hs : Follows K s0 s) :
    OutFollows K s0 (execOpExpmax b run ups s) := by
  simp (maxDischargeDepth := 30) [execOpExpmax, hK, hs]

@[simp] theorem attnOp_follows {s0 : State} {b : Fin 8} {ups : List Upset} {p : Part} {d : Desc} {r : RunSt} {t : State} (hK : K .regs = false ∧ K .mem = false ∧ K .flt = false ∧ K .dry = false ∧ K .bells = false) (ht : Follows K s0 t) :
    Follows K s0 (attnOp b ups p d r t).s := by
  refine ht.trans ?_
  unfold attnOp
  dsimp only
  split
  · refine foldl_follows_acc (Follows.refl t) fun a c => Acc.andThen_follows ?_ fun a => ?_
    · refine foldl_follows_acc_fst ?_ fun y x => by simp (maxDischargeDepth := 30) [hK]
      split
      · refine foldl_follows_acc ?_ fun a x => ?_ <;> simp (maxDischargeDepth := 30) [hK]
      · simp (maxDischargeDepth := 30) [hK]
    · simp (maxDischargeDepth := 30) [hK]
  · exact Follows.refl t

@[simp] theorem execOpAttn_follows {s0 : State} {b : Fin 8} {run : Nat} {ups : List Upset} {s : State} (hK : K .regs = false ∧ K .mem = false ∧ K .trn = false ∧ K .jrn = false ∧ K .flt = false ∧ K .dry = false ∧ K .bells = false ∧ K .col = false ∧ K .ports = false) (hs : Follows K s0 s) :
    OutFollows K s0 (execOpAttn b run ups s) := by
  simp (maxDischargeDepth := 30) [execOpAttn, hK, hs]

@[simp] theorem kvAppendOp_follows {s0 : State} {b : Fin 8} {ups : List Upset} {p : Part} {d : Desc} {r : RunSt} {t : State} (hK : K .regs = false ∧ K .mem = false ∧ K .trn = false ∧ K .jrn = false ∧ K .flt = false ∧ K .dry = false ∧ K .bells = false ∧ K .ports = false) (ht : Follows K s0 t) :
    Follows K s0 (kvAppendOp b ups p d r t).s := by
  refine ht.trans ?_
  unfold kvAppendOp
  dsimp only
  split
  · rename_i q st _ _
    have body : ∀ (a : Acc) (c : Nat), Follows K a.s ((fun (a : Acc) c =>
        let r := a.rows b.val c d.aOff d.fmtA (d.kvRow q) d.m ups
        r.1.andThen fun a => (List.range d.m).foldl (fun (a : Acc) m =>
          let pos := p.wo.pos + m
          (List.range d.bses.length).foldl (fun (a : Acc) ri => (List.range q.heads).foldl (fun (a : Acc) h =>
            [false, true].foldl (fun (a : Acc) v =>
              let i := d.bses.getD ri 0
              let bytes := ((r.2.getD m []).drop ((2 * (ri * q.heads + h) + b2n v) * (q.headDim * q.elem))).take (q.headDim * q.elem)
              let bse := bseNum c i
              let dst : Option Nat :=
                if d.space = 3 then (st.slabIn p.wo.branch b.val q.pool).map (fun sl => q.rowAt 32 (a.s.slabOff q bse sl) h (pos - st.l) v)
                else ((st.pagesIn b.val q.pool)[pos / 64]?).map (fun pg => q.rowAt 64 (q.pageOff pg) h (pos % 64) v)
              match dst with
              | some o => a.write b.val c i (bseOff bse o) bytes ups
              | none => a) a) a) a) a) a c).s := by
      intro a c
      refine Acc.andThen_follows (by simp (maxDischargeDepth := 30) [hK]) fun a => ?_
      refine foldl_follows_acc (Follows.refl _) fun a m => foldl_follows_acc (Follows.refl _) fun a ri => foldl_follows_acc (Follows.refl _) fun a h =>
        foldl_follows_acc (Follows.refl _) fun a v => ?_
      dsimp only
      split <;> simp (maxDischargeDepth := 30) [hK]
    split
    · refine Acc.andThen_follows (foldl_follows_acc (Follows.refl t) body) fun a => ?_
      refine foldl_follows_acc (Follows.refl _) fun a m => ?_
      try dsimp only
      split <;> simp (maxDischargeDepth := 30) [hK]
    · exact foldl_follows_acc (Follows.refl t) body
  · exact Follows.refl t

@[simp] theorem execOpKvAppend_follows {s0 : State} {b : Fin 8} {run : Nat} {ups : List Upset} {s : State} (hK : K .regs = false ∧ K .mem = false ∧ K .trn = false ∧ K .jrn = false ∧ K .flt = false ∧ K .dry = false ∧ K .bells = false ∧ K .col = false ∧ K .ports = false) (hs : Follows K s0 s) :
    OutFollows K s0 (execOpKvAppend b run ups s) := by
  simp (maxDischargeDepth := 30) [execOpKvAppend, hK, hs]

@[simp] theorem Acc.stageRemote_follows {s0 : State} {a : Acc} {p : Part} {b : Nat} {rev : Bool} {loc addr k : Nat} {bytes : List Byte} (hK : K .regs = false ∧ K .trn = false ∧ K .flt = false ∧ K .ports = false) (ha : Follows K s0 a.s) :
    Follows K s0 (a.stageRemote p b rev loc addr k bytes).s := by
  simp only [Acc.stageRemote]
  repeat' split
  all_goals simp (maxDischargeDepth := 30) [*]

@[simp] theorem stageOp_follows {s0 : State} {b : Fin 8} {ups : List Upset} {p : Part} {d : Desc} {r : RunSt} {t : State} (hK : K .regs = false ∧ K .mem = false ∧ K .trn = false ∧ K .flt = false ∧ K .dry = false ∧ K .bells = false ∧ K .ports = false) (ht : Follows K s0 t) :
    Follows K s0 (stageOp b ups p d r t).s := by
  refine ht.trans ?_
  unfold stageOp
  split
  · try dsimp only
    split
    · exact Follows.refl t
    refine foldl_follows_acc (Follows.refl t) fun a x => ?_
    split
    · exact Acc.andThen_follows (Follows.refl _) fun a => by simp (maxDischargeDepth := 30) [hK]
    · exact Acc.andThen_follows (by simp (maxDischargeDepth := 30) [hK]) fun a => by simp (maxDischargeDepth := 30) [hK]
  try dsimp only
  split
  · exact Follows.refl t
  refine foldl_follows_acc (Follows.refl t) fun a x => ?_
  repeat' split
  all_goals first
    | (simp (maxDischargeDepth := 30) [hK]; done)
    | exact Acc.andThen_follows (by simp (maxDischargeDepth := 30) [hK]) fun a => by simp (maxDischargeDepth := 30) [hK]

@[simp] theorem execOpStage_follows {s0 : State} {b : Fin 8} {run : Nat} {ups : List Upset} {s : State} (hK : K .regs = false ∧ K .mem = false ∧ K .trn = false ∧ K .jrn = false ∧ K .flt = false ∧ K .dry = false ∧ K .bells = false ∧ K .col = false ∧ K .ports = false) (hs : Follows K s0 s) :
    OutFollows K s0 (execOpStage b run ups s) := by
  simp (maxDischargeDepth := 30) [execOpStage, hK, hs]

end Sys2Proof.Machine
end

