-- ==== Sys2Proof/Laws/FollowsLink.lean ====
section
/-!
SUPPORT. What the relation of Laws/Follows.lean says of the links and the rings.
-/

set_option linter.all false
set_option Elab.async false

namespace Sys2Proof.Machine

open Sys2Proof

variable {K : Piece → Bool}

@[simp] theorem State.portFault_follows {s0 : State} {s : State} {p n : Nat} {detail : List Byte} (hK : K .flt = false) (hs : Follows K s0 s) :
    Follows K s0 (s.portFault p n detail) := by
  simp (maxDischargeDepth := 30) [State.portFault, hK, hs]

@[simp] theorem State.markDown_follows {s0 : State} {s : State} {p : Nat} {d : Bool} (hK : K .loss = false) (hs : Follows K s0 s) :
    Follows K s0 (s.markDown p d) := by
  simp (maxDischargeDepth := 30) [State.markDown, hK, hs]

@[simp] theorem State.portDown_follows {s0 : State} {s : State} {p : Nat} (hK : K .regs = false ∧ K .trn = false ∧ K .flt = false ∧ K .loss = false ∧ K .ports = false) (hs : Follows K s0 s) :
    Follows K s0 (s.portDown p) := by
  simp (maxDischargeDepth := 30) [State.portDown, hK, hs]

@[simp] theorem State.sendInfo_follows {s0 : State} {s : State} {p : Nat} (hK : K .ports = false) (hs : Follows K s0 s) :
    Follows K s0 (s.sendInfo p) := by
  simp (maxDischargeDepth := 30) [State.sendInfo, hK, hs]

@[simp] theorem State.refreshMismatch_follows {s0 : State} {s : State} {p : Nat} (hK : K .regs = false ∧ K .trn = false ∧ K .flt = false ∧ K .loss = false ∧ K .ports = false) (hs : Follows K s0 s) :
    Follows K s0 (s.refreshMismatch p) := by
  simp (maxDischargeDepth := 30) [State.refreshMismatch, hK, hs]

@[simp] theorem State.refreshAll_follows {s0 : State} {s : State} (hK : K .regs = false ∧ K .trn = false ∧ K .flt = false ∧ K .loss = false ∧ K .ports = false) (hs : Follows K s0 s) :
    Follows K s0 (s.refreshAll) := by
  simp (maxDischargeDepth := 30) [State.refreshAll, hK, hs]

@[simp] theorem State.clearLink_follows {s0 : State} {s : State} {p : Nat} (hK : K .regs = false) (hs : Follows K s0 s) :
    Follows K s0 (s.clearLink p) := by
  unfold State.clearLink
  split
  · exact State.resetRegs_follows (by simp [hK]) hs
  · exact Follows.dropRegs (by simp [hK]) hs rfl

@[simp] theorem State.setCanopy_follows {s0 : State} {s : State} {k : Nat} {v : CanopySt} (hK : K .canopies = false) (hs : Follows K s0 s) :
    Follows K s0 (s.setCanopy k v) := by
  simp (maxDischargeDepth := 30) [State.setCanopy, hK, hs]

@[simp] theorem State.modCanopy_follows {s0 : State} {s : State} {k : Nat} {f : CanopySt → CanopySt} (hK : K .canopies = false) (hs : Follows K s0 s) :
    Follows K s0 (s.modCanopy k f) := by
  simp (maxDischargeDepth := 30) [State.modCanopy, hK, hs]

@[simp] theorem State.setRing_follows {s0 : State} {s : State} {k h : Nat} {r : Ring} (hK : K .canopies = false) (hs : Follows K s0 s) :
    Follows K s0 (s.setRing k h r) := by
  simp (maxDischargeDepth := 30) [State.setRing, hK, hs]

@[simp] theorem State.queueCal_follows {s0 : State} {s : State} {k h : Nat} (hK : K .canopies = false) (hs : Follows K s0 s) :
    Follows K s0 (s.queueCal k h) := by
  simp (maxDischargeDepth := 30) [State.queueCal, hK, hs]

@[simp] theorem State.abandonCal_follows {s0 : State} {s : State} {k h : Nat} (hK : K .canopies = false) (hs : Follows K s0 s) :
    Follows K s0 (s.abandonCal k h) := by
  simp (maxDischargeDepth := 30) [State.abandonCal, hK, hs]

@[simp] theorem State.abortWindows_follows {s0 : State} {s : State} {p : Nat} (hK : K .canopies = false) (hs : Follows K s0 s) :
    Follows K s0 (s.abortWindows p) := by
  simp (maxDischargeDepth := 30) [State.abortWindows, hK, hs]

@[simp] theorem State.restartLink_follows {s0 : State} {s : State} {p : Nat} (hK : K .regs = false ∧ K .ports = false ∧ K .canopies = false) (hs : Follows K s0 s) :
    Follows K s0 (s.restartLink p) := by
  simp (maxDischargeDepth := 30) [State.restartLink, hK, hs]

@[simp] theorem State.linkReset_follows {s0 : State} {s : State} {p : Nat} (hK : K .regs = false ∧ K .trn = false ∧ K .flt = false ∧ K .loss = false ∧ K .dry = false ∧ K .sec = false ∧ K .ports = false ∧ K .canopies = false ∧ K .spillq = false) (hs : Follows K s0 s) :
    Follows K s0 (s.linkReset p) := by
  simp (maxDischargeDepth := 30) [State.linkReset, hK, hs]

@[simp] theorem State.holdPort_follows {s0 : State} {s : State} {p cause : Nat} (hK : K .regs = false ∧ K .trn = false ∧ K .flt = false ∧ K .loss = false ∧ K .ports = false ∧ K .canopies = false) (hs : Follows K s0 s) :
    Follows K s0 (s.holdPort p cause) := by
  simp (maxDischargeDepth := 30) [State.holdPort, hK, hs]

@[simp] theorem State.retrain_follows {s0 : State} {s : State} {p cause : Nat} (hK : K .regs = false ∧ K .trn = false ∧ K .flt = false ∧ K .loss = false ∧ K .ports = false ∧ K .canopies = false) (hs : Follows K s0 s) :
    Follows K s0 (s.retrain p cause) := by
  simp (maxDischargeDepth := 30) [State.retrain, hK, hs]

@[simp] theorem State.trainFail_follows {s0 : State} {s : State} {p cause : Nat} (hK : K .regs = false ∧ K .trn = false ∧ K .flt = false ∧ K .loss = false ∧ K .ports = false ∧ K .canopies = false) (hs : Follows K s0 s) :
    Follows K s0 (s.trainFail p cause) := by
  simp (maxDischargeDepth := 30) [State.trainFail, hK, hs]

@[simp] theorem State.replayLost_follows {s0 : State} {s : State} {p : Nat} (hK : K .regs = false ∧ K .trn = false ∧ K .flt = false ∧ K .loss = false ∧ K .dry = false ∧ K .sec = false ∧ K .ports = false ∧ K .canopies = false ∧ K .spillq = false) (hs : Follows K s0 s) :
    Follows K s0 (s.replayLost p) := by
  simp (maxDischargeDepth := 30) [State.replayLost, hK, hs]

@[simp] theorem State.dropSpill_follows {s0 : State} {s : State} {p : Nat} (hK : K .regs = false ∧ K .spillq = false) (hs : Follows K s0 s) :
    Follows K s0 (s.dropSpill p) := by
  simp (maxDischargeDepth := 30) [State.dropSpill, hK, hs]

@[simp] theorem State.stuffLost_follows {s0 : State} {s : State} {b : Nat} (hK : K .regs = false ∧ K .trn = false ∧ K .flt = false ∧ K .loss = false ∧ K .dry = false ∧ K .sec = false ∧ K .ports = false ∧ K .canopies = false ∧ K .spillq = false) (hs : Follows K s0 s) :
    Follows K s0 (s.stuffLost b) := by
  simp (maxDischargeDepth := 30) [State.stuffLost, hK, hs]

@[simp] theorem State.sackWrite_follows {s0 : State} {s : State} {p : Nat} {h : Held} (hK : K .regs = false ∧ K .mem = false ∧ K .flt = false ∧ K .dry = false ∧ K .bells = false) (hs : Follows K s0 s) :
    Follows K s0 (s.sackWrite p h) := by
  simp (maxDischargeDepth := 30) [State.sackWrite, hK, hs]

@[simp] theorem State.sackRead_follows {s0 : State} {s : State} {p : Nat} {h : Held} (hK : K .regs = false ∧ K .mem = false ∧ K .flt = false ∧ K .dry = false ∧ K .bells = false) (hs : Follows K s0 s) :
    Follows K s0 (s.sackRead p h).1 := by
  simp (maxDischargeDepth := 30) [State.sackRead, hK, hs]

@[simp] theorem State.planMark_follows {s0 : State} {s : State} {p : Nat} {m : MarkOp} (hK : K .ports = false) (hs : Follows K s0 s) :
    Follows K s0 (s.planMark p m) := by
  simp (maxDischargeDepth := 30) [State.planMark, hK, hs]

@[simp] theorem State.sparing_follows {s0 : State} {s : State} {die unit dir lane old new w kind : Nat} (hK : K .regs = false ∧ K .dry = false) (hs : Follows K s0 s) :
    Follows K s0 (s.sparing die unit dir lane old new w kind) := by
  simp (maxDischargeDepth := 30) [State.sparing, hK, hs]

@[simp] theorem State.loseLane_follows {s0 : State} {s : State} {p l : Nat} (hK : K .regs = false ∧ K .trn = false ∧ K .flt = false ∧ K .loss = false ∧ K .ports = false ∧ K .canopies = false) (hs : Follows K s0 s) :
    Follows K s0 (s.loseLane p l) := by
  simp only [State.loseLane]
  repeat' split
  all_goals simp (maxDischargeDepth := 30) [*]

@[simp] theorem State.calMove_follows {s0 : State} {s : State} {p l : Nat} (hK : K .regs = false ∧ K .ports = false) (hs : Follows K s0 s) :
    Follows K s0 (s.calMove p l) := by
  simp only [State.calMove]
  repeat' split
  all_goals simp (maxDischargeDepth := 30) [*]

@[simp] theorem State.restoreWidth_follows {s0 : State} {s : State} {p : Nat} (hK : K .ports = false) (hs : Follows K s0 s) :
    Follows K s0 (s.restoreWidth p) := by
  simp (maxDischargeDepth := 30) [State.restoreWidth, hK, hs]

@[simp] theorem State.spareFreed_follows {s0 : State} {s : State} {p : Nat} (hK : K .regs = false ∧ K .ports = false) (hs : Follows K s0 s) :
    Follows K s0 (s.spareFreed p) := by
  simp only [State.spareFreed]
  repeat' split
  all_goals simp (maxDischargeDepth := 30) [*]

@[simp] theorem State.calBack_follows {s0 : State} {s : State} {p l : Nat} (hK : K .regs = false ∧ K .ports = false) (hs : Follows K s0 s) :
    Follows K s0 (s.calBack p l) := by
  simp only [State.calBack]
  repeat' split
  all_goals simp (maxDischargeDepth := 30) [*]

@[simp] theorem State.canFault_follows {s0 : State} {s : State} {k n : Nat} {detail : List Byte} (hK : K .flt = false) (hs : Follows K s0 s) :
    Follows K s0 (s.canFault k n detail) := by
  simp (maxDischargeDepth := 30) [State.canFault, hK, hs]

@[simp] theorem State.retireRing_follows {s0 : State} {s : State} {k h : Nat} (hK : K .regs = false ∧ K .flt = false ∧ K .dry = false ∧ K .canopies = false) (hs : Follows K s0 s) :
    Follows K s0 (s.retireRing k h) := by
  simp (maxDischargeDepth := 30) [State.retireRing, hK, hs]

@[simp] theorem State.startRelock_follows {s0 : State} {s : State} {k h : Nat} (hK : K .regs = false ∧ K .flt = false ∧ K .dry = false ∧ K .canopies = false) (hs : Follows K s0 s) :
    Follows K s0 (s.startRelock k h) := by
  simp (maxDischargeDepth := 30) [State.startRelock, hK, hs]

@[simp] theorem State.loseTxLine_follows {s0 : State} {s : State} {p line : Nat} (hK : K .regs = false ∧ K .trn = false ∧ K .flt = false ∧ K .loss = false ∧ K .dry = false ∧ K .ports = false ∧ K .canopies = false) (hs : Follows K s0 s) :
    Follows K s0 (s.loseTxLine p line) := by
  simp only [State.loseTxLine]
  repeat' split
  all_goals simp (maxDischargeDepth := 30) [*]

@[simp] theorem State.failLine_follows {s0 : State} {s : State} {p line cause : Nat} (hK : K .flt = false ∧ K .ports = false) (hs : Follows K s0 s) :
    Follows K s0 (s.failLine p line cause) := by
  simp only [State.failLine]
  repeat' split
  all_goals simp (maxDischargeDepth := 30) [*]

@[simp] theorem State.foreignLane_follows {s0 : State} {s : State} {p line : Nat} {ringOn : Bool} (hK : K .regs = false ∧ K .flt = false ∧ K .dry = false ∧ K .ports = false ∧ K .canopies = false) (hs : Follows K s0 s) :
    Follows K s0 (s.foreignLane p line ringOn) := by
  simp only [State.foreignLane]
  repeat' split
  all_goals simp (maxDischargeDepth := 30) [*]

@[simp] theorem State.headerFields_follows {s0 : State} {s : State} {p : Nat} (hK : K .regs = false ∧ K .ports = false) (hs : Follows K s0 s) :
    Follows K s0 (s.headerFields p).2 := by
  simp (maxDischargeDepth := 30) [State.headerFields, hK, hs]

@[simp] theorem State.noteUnack_follows {s0 : State} {s : State} {p : Nat} (hK : K .regs = false ∧ K .ports = false ∧ K .spillq = false) (hs : Follows K s0 s) :
    Follows K s0 (s.noteUnack p) := by
  simp (maxDischargeDepth := 30) [State.noteUnack, hK, hs]

@[simp] theorem State.putFlit_follows {s0 : State} {s : State} {p type vc seq first : Nat} {payload : List Byte} (hK : K .regs = false ∧ K .ports = false) (hs : Follows K s0 s) :
    Follows K s0 (s.putFlit p type vc seq first payload) := by
  simp (maxDischargeDepth := 30) [State.putFlit, hK, hs]

@[simp] theorem State.setTport_follows {s0 : State} {s : State} {p : Nat} {v : TimePort} (hK : K .time = false) (hs : Follows K s0 s) :
    Follows K s0 (s.setTport p v) := by
  simp (maxDischargeDepth := 30) [State.setTport, hK, hs]

@[simp] theorem State.stampSync_follows {s0 : State} {s : State} {p : Nat} {m : List Byte} (hK : K .time = false) (hs : Follows K s0 s) :
    Follows K s0 (s.stampSync p m).2 := by
  simp only [State.stampSync]
  repeat' split
  all_goals simp (maxDischargeDepth := 30) [*]

@[simp] theorem State.stampAll_follows {s0 : State} {s : State} {p : Nat} {l : List (List Byte)} (hK : K .time = false) (hs : Follows K s0 s) :
    Follows K s0 (s.stampAll p l).2 := by
  simp (maxDischargeDepth := 30) [State.stampAll, hK, hs]

@[simp] theorem State.sendCtrl_follows {s0 : State} {s : State} {p : Nat} (hK : K .regs = false ∧ K .ports = false ∧ K .canopies = false ∧ K .time = false) (hs : Follows K s0 s) :
    Follows K s0 (s.sendCtrl p) := by
  simp (maxDischargeDepth := 30) [State.sendCtrl, hK, hs]

@[simp] theorem State.spillOldest_follows {s0 : State} {s : State} {p : Nat} (hK : K .regs = false ∧ K .mem = false ∧ K .flt = false ∧ K .dry = false ∧ K .bells = false ∧ K .ports = false) (hs : Follows K s0 s) :
    Follows K s0 (s.spillOldest p) := by
  simp only [State.spillOldest]
  repeat' split
  all_goals simp (maxDischargeDepth := 30) [*]

@[simp] theorem State.sendData_follows {s0 : State} {s : State} {p v : Nat} (hK : K .regs = false ∧ K .mem = false ∧ K .flt = false ∧ K .dry = false ∧ K .bells = false ∧ K .ports = false ∧ K .spillq = false) (hs : Follows K s0 s) :
    Follows K s0 (s.sendData p v) := by
  simp (maxDischargeDepth := 30) [State.sendData, hK, hs]

@[simp] theorem State.replayPayload_follows {s0 : State} {s : State} {p : Nat} {h : Held} (hK : K .regs = false ∧ K .mem = false ∧ K .flt = false ∧ K .dry = false ∧ K .bells = false) (hs : Follows K s0 s) :
    Follows K s0 (s.replayPayload p h).1 := by
  simp only [State.replayPayload]
  repeat' split
  all_goals simp (maxDischargeDepth := 30) [*]

@[simp] theorem State.sendReplay_follows {s0 : State} {s : State} {p : Nat} {cbc : Bool} {h : Held} (hK : K .regs = false ∧ K .ports = false) (hs : Follows K s0 s) :
    Follows K s0 (s.sendReplay p cbc h) := by
  simp (maxDischargeDepth := 30) [State.sendReplay, hK, hs]

@[simp] theorem State.replayFlit_follows {s0 : State} {s : State} {p : Nat} {cbc : Bool} {h : Held} {readErr : Bool} (hK : K .regs = false ∧ K .mem = false ∧ K .trn = false ∧ K .flt = false ∧ K .loss = false ∧ K .dry = false ∧ K .sec = false ∧ K .bells = false ∧ K .ports = false ∧ K .canopies = false ∧ K .spillq = false) (hs : Follows K s0 s) :
    Follows K s0 (s.replayFlit p cbc h readErr) := by
  simp only [State.replayFlit]
  repeat' split
  all_goals simp (maxDischargeDepth := 30) [*]

@[simp] theorem State.pickFlit_follows {s0 : State} {s : State} {p : Nat} {readErr : Bool} (hK : K .regs = false ∧ K .mem = false ∧ K .trn = false ∧ K .flt = false ∧ K .loss = false ∧ K .dry = false ∧ K .sec = false ∧ K .bells = false ∧ K .ports = false ∧ K .canopies = false ∧ K .time = false ∧ K .spillq = false) (hs : Follows K s0 s) :
    Follows K s0 (s.pickFlit p readErr) := by
  simp only [State.pickFlit]
  repeat' split
  all_goals simp (maxDischargeDepth := 30) [*]

@[simp] theorem State.sendScrambled_follows {s0 : State} {s : State} {p : Nat} {lines : List (Nat × List Byte)} (hK : K .ports = false) (hs : Follows K s0 s) :
    Follows K s0 (s.sendScrambled p lines) := by
  simp (maxDischargeDepth := 30) [State.sendScrambled, hK, hs]

@[simp] theorem State.sendChunks_follows {s0 : State} {s : State} {p : Nat} (hK : K .ports = false) (hs : Follows K s0 s) :
    Follows K s0 (s.sendChunks p) := by
  simp (maxDischargeDepth := 30) [State.sendChunks, hK, hs]

@[simp] theorem State.dataInterval_follows {s0 : State} {s : State} {p : Nat} {readErr : Bool} (hK : K .regs = false ∧ K .mem = false ∧ K .trn = false ∧ K .flt = false ∧ K .loss = false ∧ K .dry = false ∧ K .sec = false ∧ K .bells = false ∧ K .ports = false ∧ K .canopies = false ∧ K .time = false ∧ K .spillq = false) (hs : Follows K s0 s) :
    Follows K s0 (s.dataInterval p readErr) := by
  simp (maxDischargeDepth := 30) [State.dataInterval, hK, hs]

@[simp] theorem State.sendMarkers_follows {s0 : State} {s : State} {p flags w : Nat} {lines : List (Nat × Nat)} (hK : K .ports = false) (hs : Follows K s0 s) :
    Follows K s0 (s.sendMarkers p flags w lines) := by
  simp (maxDischargeDepth := 30) [State.sendMarkers, hK, hs]

@[simp] theorem State.replayFromNak_follows {s0 : State} {s : State} {p : Nat} (hK : K .ports = false) (hs : Follows K s0 s) :
    Follows K s0 (s.replayFromNak p) := by
  simp (maxDischargeDepth := 30) [State.replayFromNak, hK, hs]

@[simp] theorem State.applyMark_follows {s0 : State} {s : State} {p : Nat} {m : MarkOp} (hK : K .regs = false ∧ K .flt = false ∧ K .dry = false ∧ K .ports = false) (hs : Follows K s0 s) :
    Follows K s0 (s.applyMark p m) := by
  simp only [State.applyMark]
  repeat' split
  all_goals simp (maxDischargeDepth := 30) [*]

@[simp] theorem execMarkerInterval_follows {s0 : State} {p : Fin 40} {s : State} (hK : K .regs = false ∧ K .flt = false ∧ K .dry = false ∧ K .ports = false) (hs : Follows K s0 s) :
    OutFollows K s0 (execMarkerInterval p s) := by
  unfold execMarkerInterval
  try refine OutFollows.next.2 ?_
  try first
    | refine State.live_follows ?_ fun x => ?_
    | refine State.receive_follows (hK := by simp [hK]) ?_ fun x => ?_
    | refine State.receiveReq_follows (hK := by simp [hK]) ?_ fun x => ?_
    | refine State.window_follows (hK := by simp [hK]) ?_ fun x => ?_
    | refine State.onBell_follows (hK := by simp [hK]) ?_ fun x => ?_
    | refine State.runOp_follows (hK := by simp [hK]) ?_ fun x => ?_
    | refine State.pitWrite_follows (hK := by simp [hK]) ?_ fun x => ?_
    | refine State.onBit_follows ?_ fun x => ?_
    | refine foldl_follows ?_ fun x => ?_
    | refine foldl_follows_fst ?_ fun x => ?_
  all_goals try dsimp only
  all_goals repeat' split
  all_goals simp (maxDischargeDepth := 30) [hK, hs]

@[simp] theorem execSpillGrant_follows {s0 : State} {p : Fin 32} {s : State} (hK : K .regs = false ∧ K .spillq = false) (hs : Follows K s0 s) :
    OutFollows K s0 (execSpillGrant p s) := by
  simp (maxDischargeDepth := 30) [execSpillGrant, hK, hs]

@[simp] theorem execSpillRelease_follows {s0 : State} {p : Fin 32} {s : State} (hK : K .regs = false) (hs : Follows K s0 s) :
    OutFollows K s0 (execSpillRelease p s) := by
  simp (maxDischargeDepth := 30) [execSpillRelease, hK, hs]

@[simp] theorem execCreditAudit_follows {s0 : State} {p : Fin 40} {s : State} (hK : K .ports = false) (hs : Follows K s0 s) :
    OutFollows K s0 (execCreditAudit p s) := by
  simp (maxDischargeDepth := 30) [execCreditAudit, hK, hs]

@[simp] theorem execNakResendTimeout_follows {s0 : State} {p : Fin 40} {cbc : Bool} {s : State} (hK : K .ports = false) (hs : Follows K s0 s) :
    OutFollows K s0 (execNakResendTimeout p cbc s) := by
  simp (maxDischargeDepth := 30) [execNakResendTimeout, hK, hs]

@[simp] theorem execAckStallReplay_follows {s0 : State} {p : Fin 40} {cbc : Bool} {s : State} (hK : K .regs = false ∧ K .trn = false ∧ K .flt = false ∧ K .loss = false ∧ K .ports = false ∧ K .canopies = false) (hs : Follows K s0 s) :
    OutFollows K s0 (execAckStallReplay p cbc s) := by
  simp (maxDischargeDepth := 30) [execAckStallReplay, hK, hs]

@[simp] theorem State.drainPort_follows {s0 : State} {s : State} {p : Nat} (hK : K .regs = false ∧ K .ports = false ∧ K .canopies = false ∧ K .time = false) (hs : Follows K s0 s) :
    Follows K s0 (s.drainPort p) := by
  simp (maxDischargeDepth := 30) [State.drainPort, hK, hs]

@[simp] theorem execLaneFailResend_follows {s0 : State} {p : Fin 40} {line : Fin 20} {s : State} (hK : K .regs = false ∧ K .trn = false ∧ K .flt = false ∧ K .loss = false ∧ K .ports = false ∧ K .canopies = false) (hs : Follows K s0 s) :
    OutFollows K s0 (execLaneFailResend p line s) := by
  unfold execLaneFailResend
  try refine OutFollows.next.2 ?_
  try first
    | refine State.live_follows ?_ fun x => ?_
    | refine State.receive_follows (hK := by simp [hK]) ?_ fun x => ?_
    | refine State.receiveReq_follows (hK := by simp [hK]) ?_ fun x => ?_
    | refine State.window_follows (hK := by simp [hK]) ?_ fun x => ?_
    | refine State.onBell_follows (hK := by simp [hK]) ?_ fun x => ?_
    | refine State.runOp_follows (hK := by simp [hK]) ?_ fun x => ?_
    | refine State.pitWrite_follows (hK := by simp [hK]) ?_ fun x => ?_
    | refine State.onBit_follows ?_ fun x => ?_
    | refine foldl_follows ?_ fun x => ?_
    | refine foldl_follows_fst ?_ fun x => ?_
  all_goals try dsimp only
  all_goals repeat' split
  all_goals simp (maxDischargeDepth := 30) [hK, hs]

@[simp] theorem execIdleQuietTimeout_follows {s0 : State} {p : Fin 32} {s : State} (hK : K .ports = false) (hs : Follows K s0 s) :
    OutFollows K s0 (execIdleQuietTimeout p s) := by
  simp (maxDischargeDepth := 30) [execIdleQuietTimeout, hK, hs]

@[simp] theorem execIdleExit_follows {s0 : State} {p : Fin 32} {burst : Bool} {s : State} (hK : K .regs = false ∧ K .ports = false) (hs : Follows K s0 s) :
    OutFollows K s0 (execIdleExit p burst s) := by
  simp (maxDischargeDepth := 30) [execIdleExit, hK, hs]

@[simp] theorem State.useAck_follows {s0 : State} {s : State} {p : Nat} {cbc : Bool} {ack : Nat} {nak : Bool} (hK : K .regs = false ∧ K .trn = false ∧ K .flt = false ∧ K .loss = false ∧ K .ports = false ∧ K .canopies = false ∧ K .spillq = false) (hs : Follows K s0 s) :
    Follows K s0 (s.useAck p cbc ack nak) := by
  simp only [State.useAck]
  repeat' split
  all_goals simp (maxDischargeDepth := 30) [*]

@[simp] theorem State.useCredit_follows {s0 : State} {s : State} {p v cnt : Nat} (hK : K .regs = false ∧ K .trn = false ∧ K .flt = false ∧ K .loss = false ∧ K .ports = false ∧ K .canopies = false) (hs : Follows K s0 s) :
    Follows K s0 (s.useCredit p v cnt) := by
  simp (maxDischargeDepth := 30) [State.useCredit, hK, hs]

@[simp] theorem State.useHeader_follows {s0 : State} {s : State} {p : Nat} {h : Header} (hK : K .regs = false ∧ K .trn = false ∧ K .flt = false ∧ K .loss = false ∧ K .ports = false ∧ K .canopies = false ∧ K .spillq = false) (hs : Follows K s0 s) :
    Follows K s0 (s.useHeader p h) := by
  simp (maxDischargeDepth := 30) [State.useHeader, hK, hs]

@[simp] theorem State.fromPort_follows {s0 : State} {s : State} {p : Nat} {raw : List Byte} (hK : K .regs = false ∧ K .trn = false ∧ K .flt = false ∧ K .ports = false) (hs : Follows K s0 s) :
    Follows K s0 (s.fromPort p raw) := by
  simp (maxDischargeDepth := 30) [State.fromPort, hK, hs]

@[simp] theorem State.acceptData_follows {s0 : State} {s : State} {p : Nat} {h : Header} {payload : List Byte} (hK : K .regs = false ∧ K .trn = false ∧ K .flt = false ∧ K .ports = false) (hs : Follows K s0 s) :
    Follows K s0 (s.acceptData p h payload) := by
  simp (maxDischargeDepth := 30) [State.acceptData, hK, hs]

@[simp] theorem State.acceptCtrl_follows {s0 : State} {s : State} {p : Nat} {payload : List Byte} (hK : K .regs = false ∧ K .ports = false) (hs : Follows K s0 s) :
    Follows K s0 (s.acceptCtrl p payload) := by
  simp (maxDischargeDepth := 30) [State.acceptCtrl, hK, hs]

@[simp] theorem State.badFlit_follows {s0 : State} {s : State} {p : Nat} {crcOnly : Bool} (hK : K .regs = false ∧ K .trn = false ∧ K .flt = false ∧ K .loss = false ∧ K .ports = false ∧ K .canopies = false) (hs : Follows K s0 s) :
    Follows K s0 (s.badFlit p crcOnly) := by
  simp (maxDischargeDepth := 30) [State.badFlit, hK, hs]

@[simp] theorem State.collectFlit_follows {s0 : State} {s : State} {p split : Nat} {raw : List Byte} (hK : K .ports = false) (hs : Follows K s0 s) :
    Follows K s0 (s.collectFlit p split raw).2 := by
  simp (maxDischargeDepth := 30) [State.collectFlit, hK, hs]

@[simp] theorem State.noteFec_follows {s0 : State} {s : State} {p split : Nat} {errs : List Nat} (hK : K .flt = false ∧ K .ports = false) (hs : Follows K s0 s) :
    Follows K s0 (s.noteFec p split errs) := by
  unfold State.noteFec
  dsimp only
  repeat' first | assumption | (simp (maxDischargeDepth := 30) [*]; done) | (refine foldl_follows ?_ fun t x => ?_) | (refine foldl_follows_fst ?_ fun t x => ?_) | (refine foldl_follows_snd ?_ fun t x => ?_) | (refine foldl_follows_acc ?_ fun t x => ?_) | split

@[simp] theorem State.flitArrives_follows {s0 : State} {s : State} {p split : Nat} {flit : List Byte} (hK : K .regs = false ∧ K .trn = false ∧ K .flt = false ∧ K .loss = false ∧ K .ports = false ∧ K .canopies = false ∧ K .spillq = false) (hs : Follows K s0 s) :
    Follows K s0 (s.flitArrives p split flit) := by
  simp only [State.flitArrives]
  repeat' split
  all_goals simp (maxDischargeDepth := 30) [*]

@[simp] theorem execDataFlit_follows {s0 : State} {p : Fin 40} {flit : LineFlit} {s : State} (hK : K .regs = false ∧ K .trn = false ∧ K .flt = false ∧ K .loss = false ∧ K .ports = false ∧ K .canopies = false ∧ K .spillq = false) (hs : Follows K s0 s) :
    OutFollows K s0 (execDataFlit p flit s) := by
  simp (maxDischargeDepth := 30) [execDataFlit, hK, hs]

@[simp] theorem execCtrlFlit_follows {s0 : State} {p : Fin 40} {flit : LineFlit} {s : State} (hK : K .regs = false ∧ K .trn = false ∧ K .flt = false ∧ K .loss = false ∧ K .ports = false ∧ K .canopies = false ∧ K .spillq = false) (hs : Follows K s0 s) :
    OutFollows K s0 (execCtrlFlit p flit s) := by
  simp (maxDischargeDepth := 30) [execCtrlFlit, hK, hs]

@[simp] theorem execIdleFlit_follows {s0 : State} {p : Fin 40} {flit : LineFlit} {s : State} (hK : K .regs = false ∧ K .trn = false ∧ K .flt = false ∧ K .loss = false ∧ K .ports = false ∧ K .canopies = false ∧ K .spillq = false) (hs : Follows K s0 s) :
    OutFollows K s0 (execIdleFlit p flit s) := by
  simp (maxDischargeDepth := 30) [execIdleFlit, hK, hs]

@[simp] theorem State.badMarker_follows {s0 : State} {s : State} {p line : Nat} (hK : K .flt = false ∧ K .ports = false) (hs : Follows K s0 s) :
    Follows K s0 (s.badMarker p line) := by
  simp (maxDischargeDepth := 30) [State.badMarker, hK, hs]

@[simp] theorem State.loadScr_follows {s0 : State} {s : State} {p line port : Nat} (hK : K .ports = false) (hs : Follows K s0 s) :
    Follows K s0 (s.loadScr p line port) := by
  simp (maxDischargeDepth := 30) [State.loadScr, hK, hs]

@[simp] theorem State.newInterval_follows {s0 : State} {s : State} {p mc w : Nat} {moved resize : Bool} (hK : K .ports = false) (hs : Follows K s0 s) :
    Follows K s0 (s.newInterval p mc w moved resize) := by
  simp (maxDischargeDepth := 30) [State.newInterval, hK, hs]

@[simp] theorem State.applyRxMark_follows {s0 : State} {s : State} {p line lane w : Nat} {resize : Bool} (hK : K .regs = false ∧ K .ports = false) (hs : Follows K s0 s) :
    Follows K s0 (s.applyRxMark p line lane w resize) := by
  simp (maxDischargeDepth := 30) [State.applyRxMark, hK, hs]

@[simp] theorem State.markerOn_follows {s0 : State} {s : State} {p line : Nat} {l : List Byte} {ringOn : Bool} (hK : K .regs = false ∧ K .flt = false ∧ K .dry = false ∧ K .ports = false ∧ K .canopies = false) (hs : Follows K s0 s) :
    Follows K s0 (s.markerOn p line l ringOn) := by
  simp (maxDischargeDepth := 30) [State.markerOn, hK, hs]

@[simp] theorem execMarkerReceive_follows {s0 : State} {p : Fin 40} {line : Fin 20} {marker : List Byte} {ringOn : Bool} {s : State} (hK : K .regs = false ∧ K .flt = false ∧ K .dry = false ∧ K .ports = false ∧ K .canopies = false) (hs : Follows K s0 s) :
    OutFollows K s0 (execMarkerReceive p line marker ringOn s) := by
  simp (maxDischargeDepth := 30) [execMarkerReceive, hK, hs]

@[simp] theorem State.cbcRow_follows {s0 : State} {s : State} {p ctype : Nat} {m : List Byte} {k : State → State} (hK : K .regs = false ∧ K .ports = false) (hs : Follows K s0 s) (hk : ∀ x0, Follows K x0 (k x0)) :
    Follows K s0 (s.cbcRow p ctype m k) := by
  unfold State.cbcRow
  refine State.live_follows hs fun t => ?_
  split
  · exact Follows.refl t
  split
  · exact (State.modPort_follows (hK := by simp [hK]) (Follows.refl t)).trans (hk _)
  · simp (maxDischargeDepth := 30) [hK]

@[simp] theorem execImageInfo_follows {s0 : State} {p : Fin 40} {msg : List Byte} {s : State} (hK : K .regs = false ∧ K .trn = false ∧ K .flt = false ∧ K .loss = false ∧ K .ports = false) (hs : Follows K s0 s) :
    OutFollows K s0 (execImageInfo p msg s) := by
  simp (maxDischargeDepth := 30) [execImageInfo, hK, hs]

@[simp] theorem State.auditCounter_follows {s0 : State} {s : State} {p v : Nat} {m : List Byte} (hK : K .regs = false ∧ K .trn = false ∧ K .flt = false ∧ K .loss = false ∧ K .ports = false ∧ K .canopies = false) (hs : Follows K s0 s) :
    Follows K s0 (s.auditCounter p v m) := by
  simp (maxDischargeDepth := 30) [State.auditCounter, hK, hs]

@[simp] theorem execAuditMsg_follows {s0 : State} {p : Fin 40} {msg : List Byte} {s : State} (hK : K .regs = false ∧ K .trn = false ∧ K .flt = false ∧ K .loss = false ∧ K .ports = false ∧ K .canopies = false) (hs : Follows K s0 s) :
    OutFollows K s0 (execAuditMsg p msg s) := by
  simp (maxDischargeDepth := 30) [execAuditMsg, hK, hs]

@[simp] theorem execLaneFailMsg_follows {s0 : State} {p : Fin 40} {msg : List Byte} {s : State} (hK : K .regs = false ∧ K .trn = false ∧ K .flt = false ∧ K .loss = false ∧ K .ports = false ∧ K .canopies = false) (hs : Follows K s0 s) :
    OutFollows K s0 (execLaneFailMsg p msg s) := by
  simp (maxDischargeDepth := 30) [execLaneFailMsg, hK, hs]

@[simp] theorem execWrongLockMsg_follows {s0 : State} {p : Fin 40} {msg : List Byte} {s : State} (hK : K .regs = false ∧ K .trn = false ∧ K .flt = false ∧ K .loss = false ∧ K .dry = false ∧ K .ports = false ∧ K .canopies = false) (hs : Follows K s0 s) :
    OutFollows K s0 (execWrongLockMsg p msg s) := by
  simp (maxDischargeDepth := 30) [execWrongLockMsg, hK, hs]

@[simp] theorem execCalReqMsg_follows {s0 : State} {p : Fin 40} {msg : List Byte} {s : State} (hK : K .regs = false ∧ K .ports = false) (hs : Follows K s0 s) :
    OutFollows K s0 (execCalReqMsg p msg s) := by
  simp (maxDischargeDepth := 30) [execCalReqMsg, hK, hs]

@[simp] theorem execCalDoneMsg_follows {s0 : State} {p : Fin 40} {msg : List Byte} {s : State} (hK : K .regs = false ∧ K .ports = false) (hs : Follows K s0 s) :
    OutFollows K s0 (execCalDoneMsg p msg s) := by
  simp (maxDischargeDepth := 30) [execCalDoneMsg, hK, hs]

@[simp] theorem State.noteStop_follows {s0 : State} {s : State} {p : Nat} (hK : K .regs = false) (hs : Follows K s0 s) :
    Follows K s0 (s.noteStop p) := by
  simp (maxDischargeDepth := 30) [State.noteStop, hK, hs]

@[simp] theorem State.setStop_follows {s0 : State} {s : State} {p mask : Nat} {hold : Bool} {rate : Option Nat} (hK : K .regs = false ∧ K .ports = false) (hs : Follows K s0 s) :
    Follows K s0 (s.setStop p mask hold rate) := by
  simp (maxDischargeDepth := 30) [State.setStop, hK, hs]

@[simp] theorem execStopMsg_follows {s0 : State} {p : Fin 40} {msg : List Byte} {s : State} (hK : K .regs = false ∧ K .ports = false) (hs : Follows K s0 s) :
    OutFollows K s0 (execStopMsg p msg s) := by
  simp (maxDischargeDepth := 30) [execStopMsg, hK, hs]

@[simp] theorem execThrottleMsg_follows {s0 : State} {p : Fin 40} {msg : List Byte} {s : State} (hK : K .regs = false ∧ K .ports = false) (hs : Follows K s0 s) :
    OutFollows K s0 (execThrottleMsg p msg s) := by
  simp (maxDischargeDepth := 30) [execThrottleMsg, hK, hs]

@[simp] theorem execResumeMsg_follows {s0 : State} {p : Fin 40} {msg : List Byte} {s : State} (hK : K .regs = false ∧ K .ports = false) (hs : Follows K s0 s) :
    OutFollows K s0 (execResumeMsg p msg s) := by
  simp (maxDischargeDepth := 30) [execResumeMsg, hK, hs]

@[simp] theorem execIdleReqMsg_follows {s0 : State} {p : Fin 40} {msg : List Byte} {s : State} (hK : K .regs = false ∧ K .ports = false) (hs : Follows K s0 s) :
    OutFollows K s0 (execIdleReqMsg p msg s) := by
  simp (maxDischargeDepth := 30) [execIdleReqMsg, hK, hs]

@[simp] theorem execIdleAckMsg_follows {s0 : State} {p : Fin 40} {msg : List Byte} {s : State} (hK : K .regs = false ∧ K .ports = false ∧ K .canopies = false) (hs : Follows K s0 s) :
    OutFollows K s0 (execIdleAckMsg p msg s) := by
  simp (maxDischargeDepth := 30) [execIdleAckMsg, hK, hs]

@[simp] theorem execRetrainReqMsg_follows {s0 : State} {p : Fin 40} {msg : List Byte} {s : State} (hK : K .regs = false ∧ K .trn = false ∧ K .flt = false ∧ K .loss = false ∧ K .ports = false ∧ K .canopies = false) (hs : Follows K s0 s) :
    OutFollows K s0 (execRetrainReqMsg p msg s) := by
  simp (maxDischargeDepth := 30) [execRetrainReqMsg, hK, hs]

@[simp] theorem execLaneFailureDetect_follows {s0 : State} {p : Fin 40} {line : Fin 20} {cause : Fin 5} {ringOn : Bool} {s : State} (hK : K .regs = false ∧ K .flt = false ∧ K .dry = false ∧ K .ports = false ∧ K .canopies = false) (hs : Follows K s0 s) :
    OutFollows K s0 (execLaneFailureDetect p line cause ringOn s) := by
  simp (maxDischargeDepth := 30) [execLaneFailureDetect, hK, hs]

@[simp] theorem State.sendParam_follows {s0 : State} {s : State} {p : Nat} (hs : Follows K s0 s) :
    Follows K s0 (s.sendParam p) := by
  simp (maxDischargeDepth := 30) [State.sendParam, hs]

@[simp] theorem State.enter_follows {s0 : State} {s : State} {p v : Nat} (hK : K .regs = false ∧ K .ports = false) (hs : Follows K s0 s) :
    Follows K s0 (s.enter p v) := by
  simp (maxDischargeDepth := 30) [State.enter, hK, hs]

@[simp] theorem execLinkEnable_follows {s0 : State} {p : Fin 40} {s : State} (hK : K .regs = false ∧ K .ports = false ∧ K .canopies = false) (hs : Follows K s0 s) :
    OutFollows K s0 (execLinkEnable p s) := by
  simp (maxDischargeDepth := 30) [execLinkEnable, hK, hs]

@[simp] theorem execLightDetect_follows {s0 : State} {p : Fin 40} {lit : List Nat} {s : State} (hK : K .regs = false ∧ K .ports = false) (hs : Follows K s0 s) :
    OutFollows K s0 (execLightDetect p lit s) := by
  simp (maxDischargeDepth := 30) [execLightDetect, hK, hs]

@[simp] theorem execClockLock_follows {s0 : State} {p : Fin 40} {lines : List Nat} {s : State} (hK : K .regs = false ∧ K .ports = false) (hs : Follows K s0 s) :
    OutFollows K s0 (execClockLock p lines s) := by
  simp (maxDischargeDepth := 30) [execClockLock, hK, hs]

@[simp] theorem execAlignDone_follows {s0 : State} {p : Fin 40} {lanes : List (Nat × Nat)} {skewUi : Nat} {s : State} (hK : K .regs = false ∧ K .trn = false ∧ K .flt = false ∧ K .loss = false ∧ K .ports = false ∧ K .canopies = false) (hs : Follows K s0 s) :
    OutFollows K s0 (execAlignDone p lanes skewUi s) := by
  simp (maxDischargeDepth := 30) [execAlignDone, hK, hs]

@[simp] theorem State.enterActive_follows {s0 : State} {s : State} {p : Nat} {m : List Byte} (hK : K .regs = false ∧ K .trn = false ∧ K .flt = false ∧ K .loss = false ∧ K .ports = false ∧ K .spillq = false) (hs : Follows K s0 s) :
    Follows K s0 (s.enterActive p m) := by
  simp (maxDischargeDepth := 30) [State.enterActive, hK, hs]

@[simp] theorem execParamMsg_follows {s0 : State} {p : Fin 40} {m : TimedMsg} {s : State} (hK : K .regs = false ∧ K .trn = false ∧ K .flt = false ∧ K .loss = false ∧ K .dry = false ∧ K .sec = false ∧ K .ports = false ∧ K .canopies = false ∧ K .spillq = false) (hs : Follows K s0 s) :
    OutFollows K s0 (execParamMsg p m s) := by
  simp (maxDischargeDepth := 30) [execParamMsg, hK, hs]

@[simp] theorem execTrainingTimeout_follows {s0 : State} {p : Fin 40} {s : State} (hK : K .regs = false ∧ K .trn = false ∧ K .flt = false ∧ K .loss = false ∧ K .ports = false ∧ K .canopies = false) (hs : Follows K s0 s) :
    OutFollows K s0 (execTrainingTimeout p s) := by
  simp (maxDischargeDepth := 30) [execTrainingTimeout, hK, hs]

@[simp] theorem execTrainingRetry_follows {s0 : State} {p : Fin 40} {s : State} (hK : K .ports = false) (hs : Follows K s0 s) :
    OutFollows K s0 (execTrainingRetry p s) := by
  simp (maxDischargeDepth := 30) [execTrainingRetry, hK, hs]

@[simp] theorem execRetrainPortDown_follows {s0 : State} {p : Fin 32} {s : State} (hK : K .regs = false ∧ K .trn = false ∧ K .flt = false ∧ K .loss = false ∧ K .ports = false) (hs : Follows K s0 s) :
    OutFollows K s0 (execRetrainPortDown p s) := by
  simp (maxDischargeDepth := 30) [execRetrainPortDown, hK, hs]

@[simp] theorem execRetrain_follows {s0 : State} {p : Fin 32} {s : State} (hK : K .regs = false ∧ K .trn = false ∧ K .flt = false ∧ K .loss = false ∧ K .ports = false ∧ K .canopies = false) (hs : Follows K s0 s) :
    OutFollows K s0 (execRetrain p s) := by
  simp (maxDischargeDepth := 30) [execRetrain, hK, hs]

@[simp] theorem State.restartHeld_follows {s0 : State} {s : State} {p : Nat} (hK : K .regs = false ∧ K .ports = false ∧ K .canopies = false) (hs : Follows K s0 s) :
    Follows K s0 (s.restartHeld p) := by
  simp (maxDischargeDepth := 30) [State.restartHeld, hK, hs]

@[simp] theorem execRestart_follows {s0 : State} {p : Fin 32} {s : State} (hK : K .regs = false ∧ K .ports = false ∧ K .canopies = false) (hs : Follows K s0 s) :
    OutFollows K s0 (execRestart p s) := by
  simp (maxDischargeDepth := 30) [execRestart, hK, hs]

@[simp] theorem State.commandReset_follows {s0 : State} {s : State} {p : Nat} (hK : K .regs = false ∧ K .trn = false ∧ K .flt = false ∧ K .loss = false ∧ K .dry = false ∧ K .sec = false ∧ K .ports = false ∧ K .canopies = false ∧ K .time = false ∧ K .spillq = false) (hs : Follows K s0 s) :
    Follows K s0 (s.commandReset p) := by
  simp (maxDischargeDepth := 30) [State.commandReset, hK, hs]

@[simp] theorem execLinkReset_follows {s0 : State} {p : Fin 32} {s : State} (hK : K .regs = false ∧ K .trn = false ∧ K .flt = false ∧ K .loss = false ∧ K .dry = false ∧ K .sec = false ∧ K .ports = false ∧ K .canopies = false ∧ K .time = false ∧ K .spillq = false) (hs : Follows K s0 s) :
    OutFollows K s0 (execLinkReset p s) := by
  simp (maxDischargeDepth := 30) [execLinkReset, hK, hs]

end Sys2Proof.Machine
end

