-- ==== Sys2Proof/Laws/FollowsOptics.lean ====
section
/-!
SUPPORT. What the relation of Laws/Follows.lean says of the optics, fabric time, transit and the fault collector.
-/

set_option linter.all false
set_option Elab.async false

namespace Sys2Proof.Machine

open Sys2Proof

variable {K : Piece → Bool}

@[simp] theorem State.lanternsOn_follows {s0 : State} {s : State} {k lantern : Nat} {stbyOk : Bool} (hK : K .regs = false) (hs : Follows K s0 s) :
    Follows K s0 (s.lanternsOn k lantern stbyOk) := by
  simp (maxDischargeDepth := 30) [State.lanternsOn, hK, hs]

@[simp] theorem State.searchRings_follows {s0 : State} {s : State} {k : Nat} (hK : K .canopies = false) (hs : Follows K s0 s) :
    Follows K s0 (s.searchRings k) := by
  simp (maxDischargeDepth := 30) [State.searchRings, hK, hs]

@[simp] theorem execRingSearch_follows {s0 : State} {k : Fin 8} {lantern : Fin 2} {stbyOk : Bool} {s : State} (hK : K .regs = false ∧ K .canopies = false) (hs : Follows K s0 s) :
    OutFollows K s0 (execRingSearch k lantern stbyOk s) := by
  simp (maxDischargeDepth := 30) [execRingSearch, hK, hs]

@[simp] theorem State.assignBus_follows {s0 : State} {s : State} {k q d : Nat} (hK : K .flt = false ∧ K .canopies = false) (hs : Follows K s0 s) :
    Follows K s0 (s.assignBus k q d) := by
  simp (maxDischargeDepth := 30) [State.assignBus, hK, hs]

@[simp] theorem State.endSweep_follows {s0 : State} {t : State} {k : Nat} {sweeps : List Sweep} {h : Nat} (hK : K .regs = false ∧ K .flt = false ∧ K .dry = false ∧ K .canopies = false) (ht : Follows K s0 t) :
    Follows K s0 (t.endSweep k sweeps h) := by
  simp only [State.endSweep]
  repeat' split
  all_goals simp (maxDischargeDepth := 30) [*]

@[simp] theorem State.assignAll_follows {s0 : State} {s : State} {k : Nat} (hK : K .regs = false ∧ K .flt = false ∧ K .canopies = false) (hs : Follows K s0 s) :
    Follows K s0 (s.assignAll k) := by
  simp (maxDischargeDepth := 30) [State.assignAll, hK, hs]

@[simp] theorem execRingSearchDone_follows {s0 : State} {k : Fin 8} {sweeps : List Sweep} {s : State} (hK : K .regs = false ∧ K .flt = false ∧ K .dry = false ∧ K .canopies = false) (hs : Follows K s0 s) :
    OutFollows K s0 (execRingSearchDone k sweeps s) := by
  simp (maxDischargeDepth := 30) [execRingSearchDone, hK, hs]

@[simp] theorem State.lockLost_follows {s0 : State} {t : State} {k h : Nat} (hK : K .regs = false ∧ K .trn = false ∧ K .flt = false ∧ K .loss = false ∧ K .dry = false ∧ K .ports = false ∧ K .canopies = false) (ht : Follows K s0 t) :
    Follows K s0 (t.lockLost k h) := by
  simp (maxDischargeDepth := 30) [State.lockLost, hK, ht]

@[simp] theorem execLockLoopUpdate_follows {s0 : State} {k : Fin 8} {req : List (Nat × Int)} {lost : List Nat} {s : State} (hK : K .regs = false ∧ K .trn = false ∧ K .flt = false ∧ K .loss = false ∧ K .dry = false ∧ K .ports = false ∧ K .canopies = false) (hs : Follows K s0 s) :
    OutFollows K s0 (execLockLoopUpdate k req lost s) := by
  simp (maxDischargeDepth := 30) [execLockLoopUpdate, hK, hs]

@[simp] theorem State.saveXt_follows {s0 : State} {s : State} {k : Nat} {rows : SMap (Option (List (Nat × Int)))} (hK : K .dry = false) (hs : Follows K s0 s) :
    Follows K s0 (s.saveXt k rows) := by
  simp (maxDischargeDepth := 30) [State.saveXt, hK, hs]

@[simp] theorem execXtMatrixSave_follows {s0 : State} {k : Fin 8} {s : State} (hK : K .dry = false ∧ K .canopies = false) (hs : Follows K s0 s) :
    OutFollows K s0 (execXtMatrixSave k s) := by
  simp (maxDischargeDepth := 30) [execXtMatrixSave, hK, hs]

@[simp] theorem State.xtFactory_follows {s0 : State} {s : State} {k : Nat} (hK : K .dry = false ∧ K .canopies = false) (hs : Follows K s0 s) :
    Follows K s0 (s.xtFactory k) := by
  simp (maxDischargeDepth := 30) [State.xtFactory, hK, hs]

@[simp] theorem execXtFactory_follows {s0 : State} {k : Fin 8} {s : State} (hK : K .dry = false ∧ K .canopies = false) (hs : Follows K s0 s) :
    OutFollows K s0 (execXtFactory k s) := by
  simp (maxDischargeDepth := 30) [execXtFactory, hK, hs]

@[simp] theorem execRelockAttempt_follows {s0 : State} {k : Fin 8} {h : Fin 144} {s : State} (hK : K .canopies = false) (hs : Follows K s0 s) :
    OutFollows K s0 (execRelockAttempt k h s) := by
  simp (maxDischargeDepth := 30) [execRelockAttempt, hK, hs]

@[simp] theorem State.returnLine_follows {s0 : State} {s : State} {k h : Nat} (hK : K .regs = false ∧ K .ports = false) (hs : Follows K s0 s) :
    Follows K s0 (s.returnLine k h) := by
  simp only [State.returnLine]
  repeat' split
  all_goals simp (maxDischargeDepth := 30) [*]

@[simp] theorem execRelockEnd_follows {s0 : State} {k : Fin 8} {h : Fin 144} {locked : Bool} {code : Nat} {s : State} (hK : K .regs = false ∧ K .flt = false ∧ K .dry = false ∧ K .ports = false ∧ K .canopies = false) (hs : Follows K s0 s) :
    OutFollows K s0 (execRelockEnd k h locked code s) := by
  simp (maxDischargeDepth := 30) [execRelockEnd, hK, hs]

@[simp] theorem State.openWindow_follows {s0 : State} {s : State} {k h : Nat} (hK : K .regs = false ∧ K .ports = false ∧ K .canopies = false) (hs : Follows K s0 s) :
    Follows K s0 (s.openWindow k h) := by
  simp only [State.openWindow]
  repeat' split
  all_goals simp (maxDischargeDepth := 30) [*]

@[simp] theorem execCalibrationWindow_follows {s0 : State} {k : Fin 8} {h : Fin 144} {s : State} (hK : K .regs = false ∧ K .ports = false ∧ K .canopies = false) (hs : Follows K s0 s) :
    OutFollows K s0 (execCalibrationWindow k h s) := by
  unfold execCalibrationWindow
  try refine OutFollows.next.2 ?_
  try first
    | refine State.live_follows ?_ fun x => ?_
    | refine State.receive_follows (hK := by simp [hK]) ?_ fun x => ?_
    | refine State.receiveReq_follows (hK := by simp [hK]) ?_ fun x => ?_
    | refine State.window_follows (hK := by simp [hK]) ?_ fun x => ?_
    | refine State.onBell_follows (hK := by simp [hK]) ?_ fun x => ?_
    | refine State.runOp_follows (hK := by simp [hK]) ?_ fun x => ?_
    | refine State.pitWrite_follows (hK := by simp [hK]) ?_ fun x => ?_
    | refine State.onBit_follows ?_ fun x => ?_
    | refine foldl_follows ?_ fun x => ?_
    | refine foldl_follows_fst ?_ fun x => ?_
  all_goals try dsimp only
  all_goals repeat' split
  all_goals simp (maxDischargeDepth := 30) [hK, hs]

@[simp] theorem State.refineRow_follows {s0 : State} {s : State} {k i : Nat} {moves : List (Nat × Int)} (hK : K .canopies = false) (hs : Follows K s0 s) :
    Follows K s0 (s.refineRow k i moves) := by
  simp (maxDischargeDepth := 30) [State.refineRow, hK, hs]

@[simp] theorem State.endCalibration_follows {s0 : State} {s : State} {k h code : Nat} {slicer : Nat × Nat × Nat} {moves : List (Nat × Int)} (hK : K .canopies = false) (hs : Follows K s0 s) :
    Follows K s0 (s.endCalibration k h code slicer moves) := by
  simp (maxDischargeDepth := 30) [State.endCalibration, hK, hs]

@[simp] theorem execCalibrationWindowDone_follows {s0 : State} {k : Fin 8} {h : Fin 144} {code : Nat} {slicer : Nat × Nat × Nat} {moves : List (Nat × Int)} {s : State} (hK : K .regs = false ∧ K .ports = false ∧ K .canopies = false) (hs : Follows K s0 s) :
    OutFollows K s0 (execCalibrationWindowDone k h code slicer moves s) := by
  unfold execCalibrationWindowDone
  try refine OutFollows.next.2 ?_
  try first
    | refine State.live_follows ?_ fun x => ?_
    | refine State.receive_follows (hK := by simp [hK]) ?_ fun x => ?_
    | refine State.receiveReq_follows (hK := by simp [hK]) ?_ fun x => ?_
    | refine State.window_follows (hK := by simp [hK]) ?_ fun x => ?_
    | refine State.onBell_follows (hK := by simp [hK]) ?_ fun x => ?_
    | refine State.runOp_follows (hK := by simp [hK]) ?_ fun x => ?_
    | refine State.pitWrite_follows (hK := by simp [hK]) ?_ fun x => ?_
    | refine State.onBit_follows ?_ fun x => ?_
    | refine foldl_follows ?_ fun x => ?_
    | refine foldl_follows_fst ?_ fun x => ?_
  all_goals try dsimp only
  all_goals repeat' split
  all_goals simp (maxDischargeDepth := 30) [hK, hs]

@[simp] theorem execCalOverdue_follows {s0 : State} {k : Fin 8} {h : Fin 144} {s : State} (hK : K .flt = false ∧ K .canopies = false) (hs : Follows K s0 s) :
    OutFollows K s0 (execCalOverdue k h s) := by
  unfold execCalOverdue
  try refine OutFollows.next.2 ?_
  try first
    | refine State.live_follows ?_ fun x => ?_
    | refine State.receive_follows (hK := by simp [hK]) ?_ fun x => ?_
    | refine State.receiveReq_follows (hK := by simp [hK]) ?_ fun x => ?_
    | refine State.window_follows (hK := by simp [hK]) ?_ fun x => ?_
    | refine State.onBell_follows (hK := by simp [hK]) ?_ fun x => ?_
    | refine State.runOp_follows (hK := by simp [hK]) ?_ fun x => ?_
    | refine State.pitWrite_follows (hK := by simp [hK]) ?_ fun x => ?_
    | refine State.onBit_follows ?_ fun x => ?_
    | refine foldl_follows ?_ fun x => ?_
    | refine foldl_follows_fst ?_ fun x => ?_
  all_goals try dsimp only
  all_goals repeat' split
  all_goals simp (maxDischargeDepth := 30) [hK, hs]

@[simp] theorem State.canopySummary_follows {s0 : State} {s : State} {k : Nat} (hK : K .regs = false ∧ K .dry = false ∧ K .canopies = false) (hs : Follows K s0 s) :
    Follows K s0 (s.canopySummary k) := by
  simp (maxDischargeDepth := 30) [State.canopySummary, hK, hs]

@[simp] theorem State.seamSummary_follows {s0 : State} {s : State} {b : Nat} (hK : K .regs = false ∧ K .dry = false ∧ K .seams = false) (hs : Follows K s0 s) :
    Follows K s0 (s.seamSummary b) := by
  simp (maxDischargeDepth := 30) [State.seamSummary, hK, hs]

@[simp] theorem execCalSummary_follows {s0 : State} {k : Fin 8} {s : State} (hK : K .regs = false ∧ K .dry = false ∧ K .canopies = false ∧ K .seams = false) (hs : Follows K s0 s) :
    OutFollows K s0 (execCalSummary k s) := by
  simp (maxDischargeDepth := 30) [execCalSummary, hK, hs]

@[simp] theorem State.reportLos_follows {s0 : State} {s : State} {p : Nat} {lines : List Nat} (hK : K .regs = false ∧ K .flt = false ∧ K .ports = false) (hs : Follows K s0 s) :
    Follows K s0 (s.reportLos p lines) := by
  simp (maxDischargeDepth := 30) [State.reportLos, hK, hs]

@[simp] theorem State.setPortDark_follows {s0 : State} {s : State} {p : Nat} {x : Option (List Nat × Nat)} (hK : K .regs = false ∧ K .canopies = false) (hs : Follows K s0 s) :
    Follows K s0 (s.setPortDark p x) := by
  simp (maxDischargeDepth := 30) [State.setPortDark, hK, hs]

@[simp] theorem State.ethLoss_follows {s0 : State} {s : State} {p : Nat} {lines : List Nat} (hK : K .ports = false) (hs : Follows K s0 s) :
    Follows K s0 (s.ethLoss p lines) := by
  simp (maxDischargeDepth := 30) [State.ethLoss, hK, hs]

@[simp] theorem execLossOfSignal_follows {s0 : State} {p : Fin 32} {lines : List Nat} {s : State} (hK : K .regs = false ∧ K .flt = false ∧ K .ports = false ∧ K .canopies = false) (hs : Follows K s0 s) :
    OutFollows K s0 (execLossOfSignal p lines s) := by
  unfold execLossOfSignal
  try refine OutFollows.next.2 ?_
  try first
    | refine State.live_follows ?_ fun x => ?_
    | refine State.receive_follows (hK := by simp [hK]) ?_ fun x => ?_
    | refine State.receiveReq_follows (hK := by simp [hK]) ?_ fun x => ?_
    | refine State.window_follows (hK := by simp [hK]) ?_ fun x => ?_
    | refine State.onBell_follows (hK := by simp [hK]) ?_ fun x => ?_
    | refine State.runOp_follows (hK := by simp [hK]) ?_ fun x => ?_
    | refine State.pitWrite_follows (hK := by simp [hK]) ?_ fun x => ?_
    | refine State.onBit_follows ?_ fun x => ?_
    | refine foldl_follows ?_ fun x => ?_
    | refine foldl_follows_fst ?_ fun x => ?_
  all_goals try dsimp only
  all_goals repeat' split
  all_goals simp (maxDischargeDepth := 30) [hK, hs]

@[simp] theorem execLossOfSignalEnd_follows {s0 : State} {p : Fin 32} {lines : List Nat} {s : State} (hK : K .regs = false ∧ K .ports = false ∧ K .canopies = false) (hs : Follows K s0 s) :
    OutFollows K s0 (execLossOfSignalEnd p lines s) := by
  unfold execLossOfSignalEnd
  try refine OutFollows.next.2 ?_
  try first
    | refine State.live_follows ?_ fun x => ?_
    | refine State.receive_follows (hK := by simp [hK]) ?_ fun x => ?_
    | refine State.receiveReq_follows (hK := by simp [hK]) ?_ fun x => ?_
    | refine State.window_follows (hK := by simp [hK]) ?_ fun x => ?_
    | refine State.onBell_follows (hK := by simp [hK]) ?_ fun x => ?_
    | refine State.runOp_follows (hK := by simp [hK]) ?_ fun x => ?_
    | refine State.pitWrite_follows (hK := by simp [hK]) ?_ fun x => ?_
    | refine State.onBit_follows ?_ fun x => ?_
    | refine foldl_follows ?_ fun x => ?_
    | refine foldl_follows_fst ?_ fun x => ?_
  all_goals try dsimp only
  all_goals repeat' split
  all_goals simp (maxDischargeDepth := 30) [hK, hs]

@[simp] theorem execPortDarkTimeout_follows {s0 : State} {p : Fin 32} {s : State} (hK : K .regs = false ∧ K .flt = false ∧ K .ports = false ∧ K .canopies = false) (hs : Follows K s0 s) :
    OutFollows K s0 (execPortDarkTimeout p s) := by
  unfold execPortDarkTimeout
  try refine OutFollows.next.2 ?_
  try first
    | refine State.live_follows ?_ fun x => ?_
    | refine State.receive_follows (hK := by simp [hK]) ?_ fun x => ?_
    | refine State.receiveReq_follows (hK := by simp [hK]) ?_ fun x => ?_
    | refine State.window_follows (hK := by simp [hK]) ?_ fun x => ?_
    | refine State.onBell_follows (hK := by simp [hK]) ?_ fun x => ?_
    | refine State.runOp_follows (hK := by simp [hK]) ?_ fun x => ?_
    | refine State.pitWrite_follows (hK := by simp [hK]) ?_ fun x => ?_
    | refine State.onBit_follows ?_ fun x => ?_
    | refine foldl_follows ?_ fun x => ?_
    | refine foldl_follows_fst ?_ fun x => ?_
  all_goals try dsimp only
  all_goals repeat' split
  all_goals simp (maxDischargeDepth := 30) [hK, hs]

@[simp] theorem execRxPowerCheck_follows {s0 : State} {p : Fin 32} {line : Fin 20} {power : Nat} {belowWarn : Bool} {s : State} (hK : K .flt = false ∧ K .canopies = false) (hs : Follows K s0 s) :
    OutFollows K s0 (execRxPowerCheck p line power belowWarn s) := by
  unfold execRxPowerCheck
  try refine OutFollows.next.2 ?_
  try first
    | refine State.live_follows ?_ fun x => ?_
    | refine State.receive_follows (hK := by simp [hK]) ?_ fun x => ?_
    | refine State.receiveReq_follows (hK := by simp [hK]) ?_ fun x => ?_
    | refine State.window_follows (hK := by simp [hK]) ?_ fun x => ?_
    | refine State.onBell_follows (hK := by simp [hK]) ?_ fun x => ?_
    | refine State.runOp_follows (hK := by simp [hK]) ?_ fun x => ?_
    | refine State.pitWrite_follows (hK := by simp [hK]) ?_ fun x => ?_
    | refine State.onBit_follows ?_ fun x => ?_
    | refine foldl_follows ?_ fun x => ?_
    | refine foldl_follows_fst ?_ fun x => ?_
  all_goals try dsimp only
  all_goals repeat' split
  all_goals simp (maxDischargeDepth := 30) [hK, hs]

@[simp] theorem execStageCheck_follows {s0 : State} {k : Fin 8} {stage : Fin 5} {port line : Nat} {excess : Bool} {s : State} (hK : K .flt = false) (hs : Follows K s0 s) :
    OutFollows K s0 (execStageCheck k stage port line excess s) := by
  simp (maxDischargeDepth := 30) [execStageCheck, hK, hs]

@[simp] theorem execLanternWear_follows {s0 : State} {k : Fin 8} {l : Fin 2} {bias : Fin 1001} {s : State} (hK : K .regs = false ∧ K .flt = false) (hs : Follows K s0 s) :
    OutFollows K s0 (execLanternWear k l bias s) := by
  simp (maxDischargeDepth := 30) [execLanternWear, hK, hs]

@[simp] theorem State.lantSwitch_follows {s0 : State} {s : State} {k cause : Nat} (hK : K .regs = false ∧ K .flt = false ∧ K .dry = false ∧ K .canopies = false) (hs : Follows K s0 s) :
    Follows K s0 (s.lantSwitch k cause) := by
  simp (maxDischargeDepth := 30) [State.lantSwitch, hK, hs]

@[simp] theorem State.canopyDark_follows {s0 : State} {s : State} {k : Nat} (hK : K .regs = false ∧ K .trn = false ∧ K .flt = false ∧ K .loss = false ∧ K .ports = false ∧ K .canopies = false) (hs : Follows K s0 s) :
    Follows K s0 (s.canopyDark k) := by
  simp (maxDischargeDepth := 30) [State.canopyDark, hK, hs]

@[simp] theorem execLanternSwitchOver_follows {s0 : State} {k : Fin 8} {cause : Fin 4} {s : State} (hK : K .regs = false ∧ K .trn = false ∧ K .flt = false ∧ K .loss = false ∧ K .dry = false ∧ K .ports = false ∧ K .canopies = false) (hs : Follows K s0 s) :
    OutFollows K s0 (execLanternSwitchOver k cause s) := by
  simp (maxDischargeDepth := 30) [execLanternSwitchOver, hK, hs]

@[simp] theorem execCombReferenceFault_follows {s0 : State} {k : Fin 8} {s : State} (hK : K .regs = false ∧ K .flt = false) (hs : Follows K s0 s) :
    OutFollows K s0 (execCombReferenceFault k s) := by
  simp (maxDischargeDepth := 30) [execCombReferenceFault, hK, hs]

@[simp] theorem State.lantCommand_follows {s0 : State} {s : State} {k : Nat} (hK : K .regs = false ∧ K .flt = false ∧ K .dry = false ∧ K .canopies = false) (hs : Follows K s0 s) :
    Follows K s0 (s.lantCommand k) := by
  simp (maxDischargeDepth := 30) [State.lantCommand, hK, hs]

@[simp] theorem execLantSwitch_follows {s0 : State} {k : Fin 8} {s : State} (hK : K .regs = false ∧ K .flt = false ∧ K .dry = false ∧ K .canopies = false) (hs : Follows K s0 s) :
    OutFollows K s0 (execLantSwitch k s) := by
  simp (maxDischargeDepth := 30) [execLantSwitch, hK, hs]

@[simp] theorem execStandbyLanternLost_follows {s0 : State} {k : Fin 8} {s : State} (hK : K .regs = false ∧ K .flt = false) (hs : Follows K s0 s) :
    OutFollows K s0 (execStandbyLanternLost k s) := by
  simp (maxDischargeDepth := 30) [execStandbyLanternLost, hK, hs]

@[simp] theorem State.calAll_follows {s0 : State} {s : State} {k : Nat} (hK : K .canopies = false) (hs : Follows K s0 s) :
    Follows K s0 (s.calAll k) := by
  simp (maxDischargeDepth := 30) [State.calAll, hK, hs]

@[simp] theorem execCalAll_follows {s0 : State} {k : Fin 8} {s : State} (hK : K .canopies = false) (hs : Follows K s0 s) :
    OutFollows K s0 (execCalAll k s) := by
  simp (maxDischargeDepth := 30) [execCalAll, hK, hs]

@[simp] theorem State.laneCal_follows {s0 : State} {s : State} {k : Nat} (hK : K .canopies = false) (hs : Follows K s0 s) :
    Follows K s0 (s.laneCal k) := by
  unfold State.laneCal
  cases s.selHeater k <;> simp (maxDischargeDepth := 30) [hK, hs]

@[simp] theorem execLaneCalReq_follows {s0 : State} {k : Fin 8} {s : State} (hK : K .canopies = false) (hs : Follows K s0 s) :
    OutFollows K s0 (execLaneCalReq k s) := by
  simp (maxDischargeDepth := 30) [execLaneCalReq, hK, hs]

@[simp] theorem State.monSelect_follows {s0 : State} {s : State} {k : Nat} {w : Word} (hK : K .regs = false) (hs : Follows K s0 s) :
    Follows K s0 (s.monSelect k w) := by
  simp (maxDischargeDepth := 30) [State.monSelect, hK, hs]

@[simp] theorem execMonitorMeasure_follows {s0 : State} {k : Fin 8} {sel : BitVec 32} {s : State} (hK : K .regs = false) (hs : Follows K s0 s) :
    OutFollows K s0 (execMonitorMeasure k sel s) := by
  simp (maxDischargeDepth := 30) [execMonitorMeasure, hK, hs]

@[simp] theorem execMonitorMeasureDone_follows {s0 : State} {k : Fin 8} {power : BitVec 16} {s : State} (hK : K .regs = false) (hs : Follows K s0 s) :
    OutFollows K s0 (execMonitorMeasureDone k power s) := by
  simp (maxDischargeDepth := 30) [execMonitorMeasureDone, hK, hs]

@[simp] theorem State.setFtcState_follows {s0 : State} {s : State} {v : Nat} (hK : K .regs = false ∧ K .trn = false ∧ K .flt = false ∧ K .loss = false ∧ K .ports = false) (hs : Follows K s0 s) :
    Follows K s0 (s.setFtcState v) := by
  simp (maxDischargeDepth := 30) [State.setFtcState, hK, hs]

@[simp] theorem State.restartAvg_follows {s0 : State} {s : State} (hK : K .time = false) (hs : Follows K s0 s) :
    Follows K s0 (s.restartAvg) := by
  simp (maxDischargeDepth := 30) [State.restartAvg, hK, hs]

@[simp] theorem State.chooseUp_follows {s0 : State} {s : State} (hK : K .regs = false ∧ K .time = false) (hs : Follows K s0 s) :
    Follows K s0 (s.chooseUp) := by
  simp only [State.chooseUp]
  repeat' split
  all_goals simp (maxDischargeDepth := 30) [*]

@[simp] theorem State.sendSync_follows {s0 : State} {s : State} {p : Nat} (hK : K .ports = false ∧ K .time = false) (hs : Follows K s0 s) :
    Follows K s0 (s.sendSync p) := by
  simp (maxDischargeDepth := 30) [State.sendSync, hK, hs]

@[simp] theorem execTimeSyncSend_follows {s0 : State} {p : Fin 32} {s : State} (hK : K .ports = false ∧ K .time = false) (hs : Follows K s0 s) :
    OutFollows K s0 (execTimeSyncSend p s) := by
  simp (maxDischargeDepth := 30) [execTimeSyncSend, hK, hs]

@[simp] theorem State.sendDelaysWall_follows {s0 : State} {s : State} {p : Nat} (hK : K .ports = false) (hs : Follows K s0 s) :
    Follows K s0 (s.sendDelaysWall p) := by
  simp (maxDischargeDepth := 30) [State.sendDelaysWall, hK, hs]

@[simp] theorem execTimeDelaysWallSend_follows {s0 : State} {p : Fin 32} {s : State} (hK : K .ports = false) (hs : Follows K s0 s) :
    OutFollows K s0 (execTimeDelaysWallSend p s) := by
  simp (maxDischargeDepth := 30) [execTimeDelaysWallSend, hK, hs]

@[simp] theorem State.firePassed_follows {s0 : State} {s : State} {old : Nat} (hK : K .ports = false ∧ K .time = false) (hs : Follows K s0 s) :
    Follows K s0 (s.firePassed old) := by
  simp (maxDischargeDepth := 30) [State.firePassed, hK, hs]

@[simp] theorem State.ftcStep_follows {s0 : State} {s : State} {d : Int} (hK : K .ftc = false ∧ K .regs = false ∧ K .ports = false ∧ K .time = false) (hs : Follows K s0 s) :
    Follows K s0 (s.ftcStep d) := by
  simp (maxDischargeDepth := 30) [State.ftcStep, hK, hs]

@[simp] theorem State.averaged_follows {s0 : State} {s : State} {th : Int} (hK : K .ftc = false ∧ K .regs = false ∧ K .trn = false ∧ K .flt = false ∧ K .loss = false ∧ K .ports = false ∧ K .time = false) (hs : Follows K s0 s) :
    Follows K s0 (s.averaged th) := by
  simp (maxDischargeDepth := 30) [State.averaged, hK, hs]

@[simp] theorem State.upLost_follows {s0 : State} {s : State} (hK : K .regs = false ∧ K .trn = false ∧ K .flt = false ∧ K .loss = false ∧ K .ports = false ∧ K .time = false) (hs : Follows K s0 s) :
    Follows K s0 (s.upLost) := by
  simp (maxDischargeDepth := 30) [State.upLost, hK, hs]

@[simp] theorem State.timeConflict_follows {s0 : State} {s : State} {k tag : Nat} (hK : K .regs = false ∧ K .flt = false) (hs : Follows K s0 s) :
    Follows K s0 (s.timeConflict k tag) := by
  simp (maxDischargeDepth := 30) [State.timeConflict, hK, hs]

@[simp] theorem State.pickUpstream_follows {s0 : State} {s : State} {k : Nat} (hK : K .regs = false ∧ K .trn = false ∧ K .flt = false ∧ K .loss = false ∧ K .ports = false ∧ K .time = false) (hs : Follows K s0 s) :
    Follows K s0 (s.pickUpstream k) := by
  simp (maxDischargeDepth := 30) [State.pickUpstream, hK, hs]

@[simp] theorem State.addExchange_follows {s0 : State} {s : State} {th : Int} (hK : K .ftc = false ∧ K .regs = false ∧ K .trn = false ∧ K .flt = false ∧ K .loss = false ∧ K .ports = false ∧ K .time = false) (hs : Follows K s0 s) :
    Follows K s0 (s.addExchange th) := by
  simp (maxDischargeDepth := 30) [State.addExchange, hK, hs]

@[simp] theorem State.followSync_follows {s0 : State} {s : State} {k : Nat} {th : Int} {valid : Bool} (hK : K .ftc = false ∧ K .regs = false ∧ K .trn = false ∧ K .flt = false ∧ K .loss = false ∧ K .ports = false ∧ K .time = false) (hs : Follows K s0 s) :
    Follows K s0 (s.followSync k th valid) := by
  simp (maxDischargeDepth := 30) [State.followSync, hK, hs]

@[simp] theorem execTimeSync_follows {s0 : State} {p : Fin 32} {msg : List Byte} {rx : Nat} {s : State} (hK : K .ftc = false ∧ K .regs = false ∧ K .trn = false ∧ K .flt = false ∧ K .loss = false ∧ K .ports = false ∧ K .time = false) (hs : Follows K s0 s) :
    OutFollows K s0 (execTimeSync p msg rx s) := by
  simp (maxDischargeDepth := 30) [execTimeSync, hK, hs]

@[simp] theorem execDelaysMsg_follows {s0 : State} {p : Fin 32} {msg : List Byte} {s : State} (hK : K .regs = false ∧ K .ports = false ∧ K .time = false) (hs : Follows K s0 s) :
    OutFollows K s0 (execDelaysMsg p msg s) := by
  simp (maxDischargeDepth := 30) [execDelaysMsg, hK, hs]

@[simp] theorem execWallMsg_follows {s0 : State} {p : Fin 32} {msg : List Byte} {s : State} (hK : K .regs = false ∧ K .ports = false) (hs : Follows K s0 s) :
    OutFollows K s0 (execWallMsg p msg s) := by
  simp (maxDischargeDepth := 30) [execWallMsg, hK, hs]

@[simp] theorem State.slew_follows {s0 : State} {s : State} {th : Int} (hK : K .time = false) (hs : Follows K s0 s) :
    Follows K s0 (s.slew th) := by
  simp (maxDischargeDepth := 30) [State.slew, hK, hs]

@[simp] theorem State.servo_follows {s0 : State} {s : State} {th : Int} (hK : K .regs = false ∧ K .trn = false ∧ K .flt = false ∧ K .loss = false ∧ K .ports = false ∧ K .time = false) (hs : Follows K s0 s) :
    Follows K s0 (s.servo th) := by
  simp (maxDischargeDepth := 30) [State.servo, hK, hs]

@[simp] theorem execServoUpdate_follows {s0 : State} {s : State} (hK : K .regs = false ∧ K .trn = false ∧ K .flt = false ∧ K .loss = false ∧ K .ports = false ∧ K .time = false) (hs : Follows K s0 s) :
    OutFollows K s0 (execServoUpdate s) := by
  unfold execServoUpdate
  try refine OutFollows.next.2 ?_
  try first
    | refine State.live_follows ?_ fun x => ?_
    | refine State.receive_follows (hK := by simp [hK]) ?_ fun x => ?_
    | refine State.receiveReq_follows (hK := by simp [hK]) ?_ fun x => ?_
    | refine State.window_follows (hK := by simp [hK]) ?_ fun x => ?_
    | refine State.onBell_follows (hK := by simp [hK]) ?_ fun x => ?_
    | refine State.runOp_follows (hK := by simp [hK]) ?_ fun x => ?_
    | refine State.pitWrite_follows (hK := by simp [hK]) ?_ fun x => ?_
    | refine State.onBit_follows ?_ fun x => ?_
    | refine foldl_follows ?_ fun x => ?_
    | refine foldl_follows_fst ?_ fun x => ?_
  all_goals try dsimp only
  all_goals repeat' split
  all_goals simp (maxDischargeDepth := 30) [hK, hs]

@[simp] theorem execUpstreamLoss_follows {s0 : State} {s : State} (hK : K .regs = false ∧ K .trn = false ∧ K .flt = false ∧ K .loss = false ∧ K .ports = false ∧ K .time = false) (hs : Follows K s0 s) :
    OutFollows K s0 (execUpstreamLoss s) := by
  simp (maxDischargeDepth := 30) [execUpstreamLoss, hK, hs]

@[simp] theorem execHoldoverTimeout_follows {s0 : State} {s : State} (hK : K .regs = false ∧ K .trn = false ∧ K .flt = false ∧ K .loss = false ∧ K .ports = false) (hs : Follows K s0 s) :
    OutFollows K s0 (execHoldoverTimeout s) := by
  simp (maxDischargeDepth := 30) [execHoldoverTimeout, hK, hs]

@[simp] theorem execNoUpstreamTimeout_follows {s0 : State} {s : State} (hK : K .regs = false ∧ K .trn = false ∧ K .flt = false ∧ K .loss = false ∧ K .ports = false ∧ K .time = false) (hs : Follows K s0 s) :
    OutFollows K s0 (execNoUpstreamTimeout s) := by
  simp (maxDischargeDepth := 30) [execNoUpstreamTimeout, hK, hs]

@[simp] theorem State.becomeRoot_follows {s0 : State} {s : State} (hK : K .regs = false ∧ K .trn = false ∧ K .flt = false ∧ K .loss = false ∧ K .ports = false) (hs : Follows K s0 s) :
    Follows K s0 (s.becomeRoot) := by
  simp (maxDischargeDepth := 30) [State.becomeRoot, hK, hs]

@[simp] theorem State.ftcLoad_follows {s0 : State} {s : State} (hK : K .time = false) (hs : Follows K s0 s) :
    Follows K s0 (s.ftcLoad) := by
  simp (maxDischargeDepth := 30) [State.ftcLoad, hK, hs]

@[simp] theorem execFtcLoad_follows {s0 : State} {s : State} (hK : K .time = false) (hs : Follows K s0 s) :
    OutFollows K s0 (execFtcLoad s) := by
  simp (maxDischargeDepth := 30) [execFtcLoad, hK, hs]

@[simp] theorem State.latchNow_follows {s0 : State} {s : State} (hK : K .time = false) (hs : Follows K s0 s) :
    Follows K s0 (s.latchNow) := by
  simp (maxDischargeDepth := 30) [State.latchNow, hK, hs]

@[simp] theorem execFtcNowRead_follows {s0 : State} {s : State} (hK : K .time = false) (hs : Follows K s0 s) :
    OutFollows K s0 (execFtcNowRead s) := by
  simp (maxDischargeDepth := 30) [execFtcNowRead, hK, hs]

@[simp] theorem State.setFlap_follows {s0 : State} {s : State} {pair st pos : Nat} (hK : K .regs = false ∧ K .canopies = false) (hs : Follows K s0 s) :
    Follows K s0 (s.setFlap pair st pos) := by
  simp (maxDischargeDepth := 30) [State.setFlap, hK, hs]

@[simp] theorem State.retrainPair_follows {s0 : State} {s : State} {pair : Nat} (hK : K .regs = false ∧ K .trn = false ∧ K .flt = false ∧ K .loss = false ∧ K .ports = false ∧ K .canopies = false) (hs : Follows K s0 s) :
    Follows K s0 (s.retrainPair pair) := by
  simp (maxDischargeDepth := 30) [State.retrainPair, hK, hs]

@[simp] theorem execFlapOpenStart_follows {s0 : State} {pair : Fin 2} {s : State} (hK : K .regs = false ∧ K .canopies = false) (hs : Follows K s0 s) :
    OutFollows K s0 (execFlapOpenStart pair s) := by
  simp (maxDischargeDepth := 30) [execFlapOpenStart, hK, hs]

@[simp] theorem State.flapMoved_follows {s0 : State} {s : State} {pair : Nat} (hK : K .regs = false) (hs : Follows K s0 s) :
    Follows K s0 (s.flapMoved pair) := by
  simp (maxDischargeDepth := 30) [State.flapMoved, hK, hs]

@[simp] theorem execFlapOpened_follows {s0 : State} {pair : Fin 2} {s : State} (hK : K .regs = false ∧ K .trn = false ∧ K .flt = false ∧ K .loss = false ∧ K .ports = false ∧ K .canopies = false) (hs : Follows K s0 s) :
    OutFollows K s0 (execFlapOpened pair s) := by
  simp (maxDischargeDepth := 30) [execFlapOpened, hK, hs]

@[simp] theorem execFlapClose_follows {s0 : State} {pair : Fin 2} {s : State} (hK : K .regs = false ∧ K .canopies = false) (hs : Follows K s0 s) :
    OutFollows K s0 (execFlapClose pair s) := by
  simp (maxDischargeDepth := 30) [execFlapClose, hK, hs]

@[simp] theorem execFlapClosed_follows {s0 : State} {pair : Fin 2} {s : State} (hK : K .regs = false ∧ K .trn = false ∧ K .flt = false ∧ K .loss = false ∧ K .ports = false ∧ K .canopies = false) (hs : Follows K s0 s) :
    OutFollows K s0 (execFlapClosed pair s) := by
  simp (maxDischargeDepth := 30) [execFlapClosed, hK, hs]

@[simp] theorem execFlapStuck_follows {s0 : State} {pair : Fin 2} {s : State} (hK : K .regs = false ∧ K .flt = false ∧ K .dry = false ∧ K .canopies = false) (hs : Follows K s0 s) :
    OutFollows K s0 (execFlapStuck pair s) := by
  simp (maxDischargeDepth := 30) [execFlapStuck, hK, hs]

@[simp] theorem State.standAside_follows {s0 : State} {s : State} {p part : Nat} (hK : K .ports = false) (hs : Follows K s0 s) :
    Follows K s0 (s.standAside p part) := by
  simp (maxDischargeDepth := 30) [State.standAside, hK, hs]

@[simp] theorem State.missWindow_follows {s0 : State} {s : State} {k : Nat} (hK : K .regs = false ∧ K .flt = false ∧ K .canopies = false) (hs : Follows K s0 s) :
    Follows K s0 (s.missWindow k) := by
  simp (maxDischargeDepth := 30) [State.missWindow, hK, hs]

@[simp] theorem State.windowStarts_follows {s0 : State} {s : State} {pair entry : Nat} {e : Entry3} {found : Bool} (hK : K .regs = false ∧ K .flt = false ∧ K .ports = false ∧ K .canopies = false) (hs : Follows K s0 s) :
    Follows K s0 (s.windowStarts pair entry e found) := by
  simp only [State.windowStarts]
  repeat' split
  all_goals simp (maxDischargeDepth := 30) [*]

@[simp] theorem execTransitWindow_follows {s0 : State} {pair : Fin 4} {entry : Nat} {found : Bool} {s : State} (hK : K .regs = false ∧ K .flt = false ∧ K .ports = false ∧ K .canopies = false) (hs : Follows K s0 s) :
    OutFollows K s0 (execTransitWindow pair entry found s) := by
  unfold execTransitWindow
  try refine OutFollows.next.2 ?_
  try first
    | refine State.live_follows ?_ fun x => ?_
    | refine State.receive_follows (hK := by simp [hK]) ?_ fun x => ?_
    | refine State.receiveReq_follows (hK := by simp [hK]) ?_ fun x => ?_
    | refine State.window_follows (hK := by simp [hK]) ?_ fun x => ?_
    | refine State.onBell_follows (hK := by simp [hK]) ?_ fun x => ?_
    | refine State.runOp_follows (hK := by simp [hK]) ?_ fun x => ?_
    | refine State.pitWrite_follows (hK := by simp [hK]) ?_ fun x => ?_
    | refine State.onBit_follows ?_ fun x => ?_
    | refine foldl_follows ?_ fun x => ?_
    | refine foldl_follows_fst ?_ fun x => ?_
  all_goals try dsimp only
  all_goals repeat' split
  all_goals simp (maxDischargeDepth := 30) [hK, hs]

@[simp] theorem execTransitWindowEnd_follows {s0 : State} {pair : Fin 4} {entry : Nat} {s : State} (hK : K .ports = false) (hs : Follows K s0 s) :
    OutFollows K s0 (execTransitWindowEnd pair entry s) := by
  unfold execTransitWindowEnd
  try refine OutFollows.next.2 ?_
  try first
    | refine State.live_follows ?_ fun x => ?_
    | refine State.receive_follows (hK := by simp [hK]) ?_ fun x => ?_
    | refine State.receiveReq_follows (hK := by simp [hK]) ?_ fun x => ?_
    | refine State.window_follows (hK := by simp [hK]) ?_ fun x => ?_
    | refine State.onBell_follows (hK := by simp [hK]) ?_ fun x => ?_
    | refine State.runOp_follows (hK := by simp [hK]) ?_ fun x => ?_
    | refine State.pitWrite_follows (hK := by simp [hK]) ?_ fun x => ?_
    | refine State.onBit_follows ?_ fun x => ?_
    | refine foldl_follows ?_ fun x => ?_
    | refine foldl_follows_fst ?_ fun x => ?_
  all_goals try dsimp only
  all_goals repeat' split
  all_goals simp (maxDischargeDepth := 30) [hK, hs]

@[simp] theorem State.loseBranches_follows {s0 : State} {s : State} {which : Stream → Bool} (hK : K .jrn = false) (hs : Follows K s0 s) :
    Follows K s0 (s.loseBranches which) := by
  simp (maxDischargeDepth := 30) [State.loseBranches, hK, hs]

@[simp] theorem State.endReads_follows {s0 : State} {s : State} {die status : Nat} (hK : K .regs = false ∧ K .trn = false ∧ K .flt = false ∧ K .ports = false) (hs : Follows K s0 s) :
    Follows K s0 (s.endReads die status) := by
  simp (maxDischargeDepth := 30) [State.endReads, hK, hs]

@[simp] theorem State.bellWorkLost_follows {s0 : State} {s : State} {b : Nat} (hK : K .mem = false ∧ K .jrn = false) (hs : Follows K s0 s) :
    Follows K s0 (s.bellWorkLost b) := by
  simp (maxDischargeDepth := 30) [State.bellWorkLost, hK, hs]

@[simp] theorem State.epochUp_follows {s0 : State} {s : State} {c : Nat} {ridge die : Bool} (hK : K .regs = false) (hs : Follows K s0 s) :
    Follows K s0 (s.epochUp c ridge die) := by
  simp (maxDischargeDepth := 30) [State.epochUp, hK, hs]

@[simp] theorem State.bellReset_follows {s0 : State} {s : State} {b : Nat} (hK : K .regs = false ∧ K .mem = false ∧ K .trn = false ∧ K .jrn = false ∧ K .flt = false ∧ K .loss = false ∧ K .dry = false ∧ K .sec = false ∧ K .bells = false ∧ K .ports = false ∧ K .canopies = false ∧ K .cross = false ∧ K .spillq = false) (hs : Follows K s0 s) :
    Follows K s0 (s.bellReset b) := by
  simp (maxDischargeDepth := 30) [State.bellReset, hK, hs]

@[simp] theorem State.bellOff_follows {s0 : State} {s : State} {b : Nat} (hK : K .pwr = false) (hs : Follows K s0 s) :
    Follows K s0 (s.bellOff b) := by
  simp (maxDischargeDepth := 30) [State.bellOff, hK, hs]

@[simp] theorem State.pairOff_follows {s0 : State} {s : State} {b : Nat} (hK : K .pwr = false) (hs : Follows K s0 s) :
    Follows K s0 (s.pairOff b) := by
  simp (maxDischargeDepth := 30) [State.pairOff, hK, hs]

@[simp] theorem State.retireBell_follows {s0 : State} {s : State} {b src : Nat} (hK : K .regs = false ∧ K .mem = false ∧ K .trn = false ∧ K .jrn = false ∧ K .flt = false ∧ K .loss = false ∧ K .dry = false ∧ K .sec = false ∧ K .bells = false ∧ K .col = false ∧ K .ports = false ∧ K .canopies = false ∧ K .cross = false ∧ K .pwr = false ∧ K .spillq = false) (hs : Follows K s0 s) :
    Follows K s0 (s.retireBell b src) := by
  simp (maxDischargeDepth := 30) [State.retireBell, hK, hs]

@[simp] theorem State.slotReset_follows {s0 : State} {s : State} {k : Nat} (hK : K .regs = false ∧ K .trn = false ∧ K .flt = false ∧ K .loss = false ∧ K .dry = false ∧ K .sec = false ∧ K .ports = false ∧ K .slots = false ∧ K .canopies = false ∧ K .cross = false ∧ K .spillq = false) (hs : Follows K s0 s) :
    Follows K s0 (s.slotReset k) := by
  simp (maxDischargeDepth := 30) [State.slotReset, hK, hs]

@[simp] theorem State.retireSlot_follows {s0 : State} {s : State} {k src : Nat} (hK : K .regs = false ∧ K .trn = false ∧ K .flt = false ∧ K .loss = false ∧ K .dry = false ∧ K .sec = false ∧ K .ports = false ∧ K .slots = false ∧ K .canopies = false ∧ K .cross = false ∧ K .spillq = false) (hs : Follows K s0 s) :
    Follows K s0 (s.retireSlot k src) := by
  simp (maxDischargeDepth := 30) [State.retireSlot, hK, hs]

@[simp] theorem State.mgmtEvent_follows {s0 : State} {s : State} {i sev : Nat} (hK : K .regs = false ∧ K .flt = false) (hs : Follows K s0 s) :
    Follows K s0 (s.mgmtEvent i sev) := by
  have h : ∀ ev d, (s.flt.events.length ≤ 64 → ev.length ≤ 64) → Follows K s0 { s with flt := { s.flt with events := ev, dropped := d } } := by
    refine fun ev d hev => hs.step rfl rfl (Fuses.NotBelow.refl _) (fun x => x) (fun x => x) (fun x => x) hev (fun x => x) fun p hp => ?_
    cases p <;> first | rfl | simp_all
  unfold State.mgmtEvent
  dsimp only
  split
  · have h1 := h ((s.flt.events ++ [(i, sev)]).drop 1) (s.flt.dropped + 1) fun x => by simp; omega
    exact Follows.ite (State.emit_follows (State.setFld_follows (hK := by simp [hK]) h1)) (State.setFld_follows (hK := by simp [hK]) h1)
  · rename_i hl
    have h1 := h (s.flt.events ++ [(i, sev)]) s.flt.dropped fun _ => by simpa using hl
    exact Follows.ite (State.emit_follows (State.setFld_follows (hK := by simp [hK]) h1)) (State.setFld_follows (hK := by simp [hK]) h1)

@[simp] theorem State.faultRecord_follows {s0 : State} {s : State} {type i eff count : Nat} {esc : Bool} (hK : K .regs = false ∧ K .dry = false) (hs : Follows K s0 s) :
    Follows K s0 (s.faultRecord type i eff count esc) := by
  simp (maxDischargeDepth := 30) [State.faultRecord, hK, hs]

@[simp] theorem State.logReport_follows {s0 : State} {s : State} {i eff : Nat} {esc : Bool} (hK : K .regs = false ∧ K .flt = false ∧ K .dry = false) (hs : Follows K s0 s) :
    Follows K s0 (s.logReport i eff esc) := by
  simp (maxDischargeDepth := 30) [State.logReport, hK, hs]

@[simp] theorem State.firstFault_follows {s0 : State} {s : State} {i eff : Nat} {esc : Bool} (hK : K .regs = false ∧ K .flt = false ∧ K .dry = false) (hs : Follows K s0 s) :
    Follows K s0 (s.firstFault i eff esc) := by
  simp (maxDischargeDepth := 30) [State.firstFault, hK, hs]

@[simp] theorem State.degrade_follows {s0 : State} {s : State} {i : Nat} (hK : K .regs = false ∧ K .flt = false ∧ K .ports = false) (hs : Follows K s0 s) :
    Follows K s0 (s.degrade i) := by
  simp (maxDischargeDepth := 30) [State.degrade, hK, hs]

@[simp] theorem State.isolate_follows {s0 : State} {s : State} {i : Nat} (hK : K .regs = false ∧ K .mem = false ∧ K .trn = false ∧ K .jrn = false ∧ K .flt = false ∧ K .pole = false ∧ K .loss = false ∧ K .dry = false ∧ K .sec = false ∧ K .bells = false ∧ K .col = false ∧ K .ports = false ∧ K .slots = false ∧ K .canopies = false ∧ K .cross = false ∧ K .pwr = false ∧ K .spillq = false) (hs : Follows K s0 s) :
    Follows K s0 (s.isolate i) := by
  simp (maxDischargeDepth := 30) [State.isolate, hK, hs]

@[simp] theorem State.selfFault_follows {s0 : State} {s : State} {check : Nat} (hK : K .regs = false ∧ K .flt = false ∧ K .dry = false ∧ K .ports = false) (hs : Follows K s0 s) :
    Follows K s0 (s.selfFault check) := by
  simp (maxDischargeDepth := 30) [State.selfFault, hK, hs]

@[simp] theorem State.handleReport_follows {s0 : State} {s : State} {i : Nat} (hK : K .regs = false ∧ K .mem = false ∧ K .trn = false ∧ K .jrn = false ∧ K .flt = false ∧ K .pole = false ∧ K .loss = false ∧ K .dry = false ∧ K .sec = false ∧ K .bells = false ∧ K .col = false ∧ K .ports = false ∧ K .slots = false ∧ K .canopies = false ∧ K .cross = false ∧ K .pwr = false ∧ K .spillq = false) (hs : Follows K s0 s) :
    Follows K s0 (s.handleReport i) := by
  simp (maxDischargeDepth := 30) [State.handleReport, hK, hs]

@[simp] theorem State.samplePair_follows {s0 : State} {s : State} {i : Nat} {equal : Bool} (hK : K .regs = false ∧ K .mem = false ∧ K .trn = false ∧ K .jrn = false ∧ K .flt = false ∧ K .pole = false ∧ K .loss = false ∧ K .dry = false ∧ K .sec = false ∧ K .bells = false ∧ K .col = false ∧ K .ports = false ∧ K .slots = false ∧ K .canopies = false ∧ K .cross = false ∧ K .pwr = false ∧ K .spillq = false) (hs : Follows K s0 s) :
    Follows K s0 (s.samplePair i equal) := by
  simp (maxDischargeDepth := 30) [State.samplePair, hK, hs]

@[simp] theorem execFaultReport_follows {s0 : State} {src : Fin 512} {equal readBackFails : Bool} {s : State} (hK : K .regs = false ∧ K .mem = false ∧ K .trn = false ∧ K .jrn = false ∧ K .flt = false ∧ K .pole = false ∧ K .loss = false ∧ K .dry = false ∧ K .sec = false ∧ K .bells = false ∧ K .col = false ∧ K .ports = false ∧ K .slots = false ∧ K .canopies = false ∧ K .cross = false ∧ K .pwr = false ∧ K .spillq = false) (hs : Follows K s0 s) :
    OutFollows K s0 (execFaultReport src equal readBackFails s) := by
  simp only [execFaultReport]
  repeat' split
  all_goals simp (maxDischargeDepth := 30) [*]

@[simp] theorem State.ackSource_follows {s0 : State} {s : State} {i : Nat} (hK : K .regs = false ∧ K .flt = false ∧ K .ports = false) (hs : Follows K s0 s) :
    Follows K s0 (s.ackSource i) := by
  simp only [State.ackSource]
  repeat' split
  all_goals simp (maxDischargeDepth := 30) [*]

@[simp] theorem execFaultAck_follows {s0 : State} {src : Fin 512} {s : State} (hK : K .regs = false ∧ K .flt = false ∧ K .ports = false) (hs : Follows K s0 s) :
    OutFollows K s0 (execFaultAck src s) := by
  simp (maxDischargeDepth := 30) [execFaultAck, hK, hs]

@[simp] theorem State.ackAll_follows {s0 : State} {s : State} (hK : K .regs = false ∧ K .flt = false ∧ K .ports = false) (hs : Follows K s0 s) :
    Follows K s0 (s.ackAll) := by
  simp (maxDischargeDepth := 30) [State.ackAll, hK, hs]

@[simp] theorem execAckAll_follows {s0 : State} {s : State} (hK : K .regs = false ∧ K .flt = false ∧ K .ports = false) (hs : Follows K s0 s) :
    OutFollows K s0 (execAckAll s) := by
  simp (maxDischargeDepth := 30) [execAckAll, hK, hs]

@[simp] theorem execCollectorSelfFault_follows {s0 : State} {check : BitVec 16} {s : State} (hK : K .regs = false ∧ K .flt = false ∧ K .dry = false ∧ K .ports = false) (hs : Follows K s0 s) :
    OutFollows K s0 (execCollectorSelfFault check s) := by
  simp (maxDischargeDepth := 30) [execCollectorSelfFault, hK, hs]

@[simp] theorem State.inject_follows {s0 : State} {s : State} {src kind : Nat} (hK : K .regs = false ∧ K .mem = false ∧ K .trn = false ∧ K .jrn = false ∧ K .flt = false ∧ K .pole = false ∧ K .loss = false ∧ K .dry = false ∧ K .sec = false ∧ K .bells = false ∧ K .col = false ∧ K .ports = false ∧ K .slots = false ∧ K .canopies = false ∧ K .cross = false ∧ K .pwr = false ∧ K .spillq = false) (hs : Follows K s0 s) :
    Follows K s0 (s.inject src kind) := by
  simp only [State.inject]
  repeat' split
  all_goals simp (maxDischargeDepth := 30) [*]

@[simp] theorem execFaultInject_follows {s0 : State} {s : State} (hK : K .regs = false ∧ K .mem = false ∧ K .trn = false ∧ K .jrn = false ∧ K .flt = false ∧ K .pole = false ∧ K .loss = false ∧ K .dry = false ∧ K .sec = false ∧ K .bells = false ∧ K .col = false ∧ K .ports = false ∧ K .slots = false ∧ K .canopies = false ∧ K .cross = false ∧ K .pwr = false ∧ K .spillq = false) (hs : Follows K s0 s) :
    OutFollows K s0 (execFaultInject s) := by
  simp (maxDischargeDepth := 30) [execFaultInject, hK, hs]

end Sys2Proof.Machine
end

