-- ==== Sys2Proof/Laws/FollowsSeam.lean ====
section
/-!
SUPPORT. What the relation of Laws/Follows.lean says of the Seam links, the slots and the clocks.
-/

set_option linter.all false
set_option Elab.async false

namespace Sys2Proof.Machine

open Sys2Proof

variable {K : Piece → Bool}

@[simp] theorem State.setSensor_follows {s0 : State} {s : State} {i : Nat} {v : Sensor} (hK : K .pwr = false) (hs : Follows K s0 s) :
    Follows K s0 (s.setSensor i v) := by
  simp (maxDischargeDepth := 30) [State.setSensor, hK, hs]

@[simp] theorem State.markBad_follows {s0 : State} {s : State} {i cause : Nat} (hK : K .flt = false ∧ K .pwr = false) (hs : Follows K s0 s) :
    Follows K s0 (s.markBad i cause) := by
  simp (maxDischargeDepth := 30) [State.markBad, hK, hs]

@[simp] theorem State.xcheck_follows {s0 : State} {s : State} {die : Nat} (hK : K .flt = false ∧ K .pwr = false) (hs : Follows K s0 s) :
    Follows K s0 (s.xcheck die) := by
  simp (maxDischargeDepth := 30) [State.xcheck, hK, hs]

@[simp] theorem State.setSeamDir_follows {s0 : State} {s : State} {b d : Nat} {v : SeamDir} (hK : K .seams = false) (hs : Follows K s0 s) :
    Follows K s0 (s.setSeamDir b d v) := by
  simp (maxDischargeDepth := 30) [State.setSeamDir, hK, hs]

@[simp] theorem State.modSeamDir_follows {s0 : State} {s : State} {b d : Nat} {f : SeamDir → SeamDir} (hK : K .seams = false) (hs : Follows K s0 s) :
    Follows K s0 (s.modSeamDir b d f) := by
  simp (maxDischargeDepth := 30) [State.modSeamDir, hK, hs]

@[simp] theorem State.modSeam_follows {s0 : State} {s : State} {b : Nat} {f : SeamSt → SeamSt} (hK : K .seams = false) (hs : Follows K s0 s) :
    Follows K s0 (s.modSeam b f) := by
  simp (maxDischargeDepth := 30) [State.modSeam, hK, hs]

@[simp] theorem State.setSeamState_follows {s0 : State} {s : State} {b v : Nat} (hK : K .regs = false ∧ K .seams = false) (hs : Follows K s0 s) :
    Follows K s0 (s.setSeamState b v) := by
  simp (maxDischargeDepth := 30) [State.setSeamState, hK, hs]

@[simp] theorem State.setSeamW_follows {s0 : State} {s : State} {b w : Nat} (hK : K .regs = false) (hs : Follows K s0 s) :
    Follows K s0 (s.setSeamW b w) := by
  simp (maxDischargeDepth := 30) [State.setSeamW, hK, hs]

@[simp] theorem State.seamBad_follows {s0 : State} {s : State} {b d : Nat} {lanes : List Nat} (hK : K .seams = false) (hs : Follows K s0 s) :
    Follows K s0 (s.seamBad b d lanes) := by
  simp (maxDischargeDepth := 30) [State.seamBad, hK, hs]

@[simp] theorem State.noteSpares_follows {s0 : State} {s : State} {b : Nat} (hK : K .regs = false) (hs : Follows K s0 s) :
    Follows K s0 (s.noteSpares b) := by
  simp (maxDischargeDepth := 30) [State.noteSpares, hK, hs]

@[simp] theorem State.seamFault_follows {s0 : State} {s : State} {b n : Nat} {detail : List Byte} (hK : K .flt = false) (hs : Follows K s0 s) :
    Follows K s0 (s.seamFault b n detail) := by
  simp (maxDischargeDepth := 30) [State.seamFault, hK, hs]

@[simp] theorem State.sendSeam_follows {s0 : State} {s : State} {b d : Nat} {m : List Byte} (hK : K .seams = false) (hs : Follows K s0 s) :
    Follows K s0 (s.sendSeam b d m) := by
  simp (maxDischargeDepth := 30) [State.sendSeam, hK, hs]

@[simp] theorem State.seamRetrain_follows {s0 : State} {s : State} {b cause : Nat} {frm : Option Nat} (hK : K .regs = false ∧ K .seams = false) (hs : Follows K s0 s) :
    Follows K s0 (s.seamRetrain b cause frm) := by
  simp (maxDischargeDepth := 30) [State.seamRetrain, hK, hs]

@[simp] theorem State.pickSeam_follows {s0 : State} {s : State} {b d : Nat} {readErr : Bool} (hK : K .regs = false ∧ K .seams = false) (hs : Follows K s0 s) :
    Follows K s0 (s.pickSeam b d readErr) := by
  simp only [State.pickSeam]
  repeat' split
  all_goals simp (maxDischargeDepth := 30) [*]

@[simp] theorem State.seamInterval_follows {s0 : State} {s : State} {b d : Nat} {readErr : Bool} (hK : K .regs = false ∧ K .seams = false) (hs : Follows K s0 s) :
    Follows K s0 (s.seamInterval b d readErr) := by
  simp (maxDischargeDepth := 30) [State.seamInterval, hK, hs]

@[simp] theorem execFlitInterval_follows {s0 : State} {link : LinkId} {readErr : Bool} {s : State} (hK : K .regs = false ∧ K .mem = false ∧ K .trn = false ∧ K .flt = false ∧ K .loss = false ∧ K .dry = false ∧ K .sec = false ∧ K .bells = false ∧ K .ports = false ∧ K .canopies = false ∧ K .seams = false ∧ K .time = false ∧ K .spillq = false) (hs : Follows K s0 s) :
    OutFollows K s0 (execFlitInterval link readErr s) := by
  simp only [execFlitInterval]
  repeat' split
  all_goals simp (maxDischargeDepth := 30) [*]

@[simp] theorem State.seamMarkers_follows {s0 : State} {s : State} {b d : Nat} (hK : K .regs = false ∧ K .dry = false ∧ K .seams = false) (hs : Follows K s0 s) :
    Follows K s0 (s.seamMarkers b d) := by
  simp (maxDischargeDepth := 30) [State.seamMarkers, hK, hs]

@[simp] theorem execSeamMarker_follows {s0 : State} {b : Fin 8} {fromBell : Bool} {s : State} (hK : K .regs = false ∧ K .dry = false ∧ K .seams = false) (hs : Follows K s0 s) :
    OutFollows K s0 (execSeamMarker b fromBell s) := by
  simp (maxDischargeDepth := 30) [execSeamMarker, hK, hs]

@[simp] theorem State.planSeam_follows {s0 : State} {s : State} {b d f lane : Nat} (hK : K .seams = false) (hs : Follows K s0 s) :
    Follows K s0 (s.planSeam b d f lane) := by
  simp (maxDischargeDepth := 30) [State.planSeam, hK, hs]

@[simp] theorem State.seamSpare_follows {s0 : State} {s : State} {b d f : Nat} (hK : K .regs = false ∧ K .seams = false) (hs : Follows K s0 s) :
    Follows K s0 (s.seamSpare b d f) := by
  simp only [State.seamSpare]
  repeat' split
  all_goals simp (maxDischargeDepth := 30) [*]

@[simp] theorem State.loseSeamLane_follows {s0 : State} {s : State} {b d lane : Nat} (hK : K .regs = false ∧ K .seams = false) (hs : Follows K s0 s) :
    Follows K s0 (s.loseSeamLane b d lane) := by
  simp only [State.loseSeamLane]
  repeat' split
  all_goals simp (maxDischargeDepth := 30) [*]

@[simp] theorem State.seamRow_follows {s0 : State} {s : State} {b d ctype : Nat} {m : List Byte} {k : State → State} (hK : K .seams = false) (hs : Follows K s0 s) (hk : ∀ x0, Follows K x0 (k x0)) :
    Follows K s0 (s.seamRow b d ctype m k) := by
  unfold State.seamRow
  refine State.live_follows hs fun t => ?_
  split
  · exact (State.modSeamDir_follows (hK := by simp [hK]) (Follows.refl t)).trans (hk _)
  · exact Follows.refl t

@[simp] theorem execSeamLaneFail_follows {s0 : State} {b : Fin 8} {toBell : Bool} {msg : List Byte} {s : State} (hK : K .regs = false ∧ K .seams = false) (hs : Follows K s0 s) :
    OutFollows K s0 (execSeamLaneFail b toBell msg s) := by
  simp (maxDischargeDepth := 30) [execSeamLaneFail, hK, hs]

@[simp] theorem State.seamLaneFails_follows {s0 : State} {s : State} {b d lane cause : Nat} (hK : K .regs = false ∧ K .flt = false ∧ K .seams = false) (hs : Follows K s0 s) :
    Follows K s0 (s.seamLaneFails b d lane cause) := by
  simp (maxDischargeDepth := 30) [State.seamLaneFails, hK, hs]

@[simp] theorem State.seamHold_follows {s0 : State} {s : State} {b cause : Nat} (hK : K .regs = false ∧ K .seams = false) (hs : Follows K s0 s) :
    Follows K s0 (s.seamHold b cause) := by
  simp (maxDischargeDepth := 30) [State.seamHold, hK, hs]

@[simp] theorem State.widthFail_follows {s0 : State} {s : State} {b : Nat} (hK : K .regs = false ∧ K .seams = false) (hs : Follows K s0 s) :
    Follows K s0 (s.widthFail b) := by
  simp (maxDischargeDepth := 30) [State.widthFail, hK, hs]

@[simp] theorem execSeamLaneFailureDetect_follows {s0 : State} {b : Fin 8} {toBell : Bool} {lane : Fin 68} {cause : Fin 3} {s : State} (hK : K .regs = false ∧ K .flt = false ∧ K .seams = false) (hs : Follows K s0 s) :
    OutFollows K s0 (execSeamLaneFailureDetect b toBell lane cause s) := by
  simp (maxDischargeDepth := 30) [execSeamLaneFailureDetect, hK, hs]

@[simp] theorem State.setSeamLane_follows {s0 : State} {s : State} {b d lane : Nat} {v : SeamLane} (hK : K .seams = false) (hs : Follows K s0 s) :
    Follows K s0 (s.setSeamLane b d lane v) := by
  simp (maxDischargeDepth := 30) [State.setSeamLane, hK, hs]

@[simp] theorem State.calSeam_follows {s0 : State} {s : State} {b d lane phase vref swing : Nat} (hK : K .seams = false) (hs : Follows K s0 s) :
    Follows K s0 (s.calSeam b d lane phase vref swing) := by
  simp (maxDischargeDepth := 30) [State.calSeam, hK, hs]

@[simp] theorem State.askCal_follows {s0 : State} {s : State} {b d : Nat} (hK : K .seams = false) (hs : Follows K s0 s) :
    Follows K s0 (s.askCal b d) := by
  simp only [State.askCal]
  repeat' split
  all_goals simp (maxDischargeDepth := 30) [*]

@[simp] theorem State.queueSeam_follows {s0 : State} {s : State} {b d lane : Nat} (hK : K .seams = false) (hs : Follows K s0 s) :
    Follows K s0 (s.queueSeam b d lane) := by
  simp (maxDischargeDepth := 30) [State.queueSeam, hK, hs]

@[simp] theorem State.moveForCal_follows {s0 : State} {s : State} {b d lane : Nat} (hK : K .regs = false ∧ K .seams = false) (hs : Follows K s0 s) :
    Follows K s0 (s.moveForCal b d lane) := by
  simp only [State.moveForCal]
  repeat' split
  all_goals simp (maxDischargeDepth := 30) [*]

@[simp] theorem execSeamCalReq_follows {s0 : State} {b : Fin 8} {toBell : Bool} {msg : List Byte} {s : State} (hK : K .regs = false ∧ K .seams = false) (hs : Follows K s0 s) :
    OutFollows K s0 (execSeamCalReq b toBell msg s) := by
  simp (maxDischargeDepth := 30) [execSeamCalReq, hK, hs]

@[simp] theorem State.retryCal_follows {s0 : State} {s : State} {b d : Nat} (hK : K .regs = false ∧ K .seams = false) (hs : Follows K s0 s) :
    Follows K s0 (s.retryCal b d) := by
  simp only [State.retryCal]
  repeat' split
  all_goals simp (maxDischargeDepth := 30) [*]

@[simp] theorem execSeamCalDone_follows {s0 : State} {b : Fin 8} {toBell : Bool} {msg : List Byte} {s : State} (hK : K .regs = false ∧ K .seams = false) (hs : Follows K s0 s) :
    OutFollows K s0 (execSeamCalDone b toBell msg s) := by
  unfold execSeamCalDone
  try refine OutFollows.next.2 ?_
  try first
    | refine State.live_follows ?_ fun x => ?_
    | refine State.receive_follows (hK := by simp [hK]) ?_ fun x => ?_
    | refine State.receiveReq_follows (hK := by simp [hK]) ?_ fun x => ?_
    | refine State.window_follows (hK := by simp [hK]) ?_ fun x => ?_
    | refine State.onBell_follows (hK := by simp [hK]) ?_ fun x => ?_
    | refine State.runOp_follows (hK := by simp [hK]) ?_ fun x => ?_
    | refine State.pitWrite_follows (hK := by simp [hK]) ?_ fun x => ?_
    | refine State.onBit_follows ?_ fun x => ?_
    | refine foldl_follows ?_ fun x => ?_
    | refine foldl_follows_fst ?_ fun x => ?_
  all_goals try dsimp only
  all_goals repeat' split
  all_goals simp (maxDischargeDepth := 30) [hK, hs]

@[simp] theorem State.calWaitLate_follows {s0 : State} {s : State} {b d : Nat} (hK : K .flt = false ∧ K .seams = false) (hs : Follows K s0 s) :
    Follows K s0 (s.calWaitLate b d) := by
  simp only [State.calWaitLate]
  repeat' split
  all_goals simp (maxDischargeDepth := 30) [*]

@[simp] theorem execSeamCalWaitTimeout_follows {s0 : State} {b : Fin 8} {s : State} (hK : K .flt = false ∧ K .seams = false) (hs : Follows K s0 s) :
    OutFollows K s0 (execSeamCalWaitTimeout b s) := by
  simp (maxDischargeDepth := 30) [execSeamCalWaitTimeout, hK, hs]

@[simp] theorem execSeamRetrainReq_follows {s0 : State} {b : Fin 8} {toBell : Bool} {msg : List Byte} {s : State} (hK : K .regs = false ∧ K .seams = false) (hs : Follows K s0 s) :
    OutFollows K s0 (execSeamRetrainReq b toBell msg s) := by
  simp (maxDischargeDepth := 30) [execSeamRetrainReq, hK, hs]

@[simp] theorem State.seamCommand_follows {s0 : State} {s : State} {b : Nat} (hK : K .regs = false ∧ K .seams = false) (hs : Follows K s0 s) :
    Follows K s0 (s.seamCommand b) := by
  simp (maxDischargeDepth := 30) [State.seamCommand, hK, hs]

@[simp] theorem execSeamRetrain_follows {s0 : State} {b : Fin 8} {s : State} (hK : K .regs = false ∧ K .seams = false) (hs : Follows K s0 s) :
    OutFollows K s0 (execSeamRetrain b s) := by
  simp (maxDischargeDepth := 30) [execSeamRetrain, hK, hs]

@[simp] theorem State.seamCalAll_follows {s0 : State} {s : State} {b : Nat} (hK : K .seams = false) (hs : Follows K s0 s) :
    Follows K s0 (s.seamCalAll b) := by
  simp (maxDischargeDepth := 30) [State.seamCalAll, hK, hs]

@[simp] theorem execSeamCalAll_follows {s0 : State} {b : Fin 8} {s : State} (hK : K .seams = false) (hs : Follows K s0 s) :
    OutFollows K s0 (execSeamCalAll b s) := by
  simp (maxDischargeDepth := 30) [execSeamCalAll, hK, hs]

@[simp] theorem State.seamTemp_follows {s0 : State} {s : State} {b sensor : Nat} (hK : K .seams = false) (hs : Follows K s0 s) :
    Follows K s0 (s.seamTemp b sensor) := by
  simp (maxDischargeDepth := 30) [State.seamTemp, hK, hs]

@[simp] theorem execSeamTrainStart_follows {s0 : State} {b : Fin 8} {s : State} (hK : K .regs = false ∧ K .seams = false) (hs : Follows K s0 s) :
    OutFollows K s0 (execSeamTrainStart b s) := by
  simp (maxDischargeDepth := 30) [execSeamTrainStart, hK, hs]

@[simp] theorem State.seamMap_follows {s0 : State} {s : State} {b w d : Nat} (hK : K .seams = false) (hs : Follows K s0 s) :
    Follows K s0 (s.seamMap b w d) := by
  simp (maxDischargeDepth := 30) [State.seamMap, hK, hs]

@[simp] theorem State.seamTested_follows {s0 : State} {s : State} {b : Nat} {badRtx badBtx : List Nat} (hK : K .regs = false ∧ K .seams = false) (hs : Follows K s0 s) :
    Follows K s0 (s.seamTested b badRtx badBtx) := by
  simp (maxDischargeDepth := 30) [State.seamTested, hK, hs]

@[simp] theorem execSeamTestDone_follows {s0 : State} {b : Fin 8} {badRtx badBtx : List Nat} {s : State} (hK : K .regs = false ∧ K .seams = false) (hs : Follows K s0 s) :
    OutFollows K s0 (execSeamTestDone b badRtx badBtx s) := by
  simp (maxDischargeDepth := 30) [execSeamTestDone, hK, hs]

@[simp] theorem State.startRearm_follows {s0 : State} {s : State} {c : Nat} (hK : K .regs = false ∧ K .seams = false ∧ K .cross = false) (hs : Follows K s0 s) :
    Follows K s0 (s.startRearm c) := by
  simp (maxDischargeDepth := 30) [State.startRearm, hK, hs]

@[simp] theorem State.seamUp_follows {s0 : State} {s : State} {b : Nat} (hK : K .regs = false ∧ K .flt = false ∧ K .dry = false ∧ K .seams = false ∧ K .cross = false) (hs : Follows K s0 s) :
    Follows K s0 (s.seamUp b) := by
  simp (maxDischargeDepth := 30) [State.seamUp, hK, hs]

@[simp] theorem execSeamAlignDone_follows {s0 : State} {b : Fin 8} {agree : Bool} {s : State} (hK : K .regs = false ∧ K .flt = false ∧ K .dry = false ∧ K .seams = false ∧ K .cross = false) (hs : Follows K s0 s) :
    OutFollows K s0 (execSeamAlignDone b agree s) := by
  simp (maxDischargeDepth := 30) [execSeamAlignDone, hK, hs]

@[simp] theorem execSeamAlignTimeout_follows {s0 : State} {b : Fin 8} {s : State} (hK : K .regs = false ∧ K .seams = false) (hs : Follows K s0 s) :
    OutFollows K s0 (execSeamAlignTimeout b s) := by
  simp (maxDischargeDepth := 30) [execSeamAlignTimeout, hK, hs]

@[simp] theorem execSeamHeld_follows {s0 : State} {b : Fin 8} {s : State} (hK : K .regs = false ∧ K .mem = false ∧ K .trn = false ∧ K .jrn = false ∧ K .flt = false ∧ K .loss = false ∧ K .dry = false ∧ K .sec = false ∧ K .bells = false ∧ K .col = false ∧ K .ports = false ∧ K .canopies = false ∧ K .cross = false ∧ K .pwr = false ∧ K .spillq = false) (hs : Follows K s0 s) :
    OutFollows K s0 (execSeamHeld b s) := by
  simp (maxDischargeDepth := 30) [execSeamHeld, hK, hs]

@[simp] theorem State.seamDrop_follows {s0 : State} {s : State} {b : Nat} (hK : K .regs = false ∧ K .seams = false) (hs : Follows K s0 s) :
    Follows K s0 (s.seamDrop b) := by
  simp (maxDischargeDepth := 30) [State.seamDrop, hK, hs]

@[simp] theorem State.seamAck_follows {s0 : State} {s : State} {b d ack : Nat} {nak : Bool} (hK : K .regs = false ∧ K .seams = false) (hs : Follows K s0 s) :
    Follows K s0 (s.seamAck b d ack nak) := by
  simp only [State.seamAck]
  repeat' split
  all_goals simp (maxDischargeDepth := 30) [*]

@[simp] theorem State.seamBadFlit_follows {s0 : State} {s : State} {b d : Nat} (hK : K .regs = false ∧ K .seams = false) (hs : Follows K s0 s) :
    Follows K s0 (s.seamBadFlit b d) := by
  simp (maxDischargeDepth := 30) [State.seamBadFlit, hK, hs]

@[simp] theorem State.seamTake_follows {s0 : State} {s : State} {b d h : Nat} {payload : List Byte} (hK : K .regs = false ∧ K .seams = false) (hs : Follows K s0 s) :
    Follows K s0 (s.seamTake b d h payload) := by
  simp (maxDischargeDepth := 30) [State.seamTake, hK, hs]

@[simp] theorem execSeamFlit_follows {s0 : State} {b : Fin 8} {toBell : Bool} {raw : LineFlit} {s : State} (hK : K .regs = false ∧ K .seams = false) (hs : Follows K s0 s) :
    OutFollows K s0 (execSeamFlit b toBell raw s) := by
  simp (maxDischargeDepth := 30) [execSeamFlit, hK, hs]

@[simp] theorem execSeamReplayTimeout_follows {s0 : State} {b : Fin 8} {fromBell : Bool} {s : State} (hK : K .regs = false ∧ K .seams = false) (hs : Follows K s0 s) :
    OutFollows K s0 (execSeamReplayTimeout b fromBell s) := by
  simp (maxDischargeDepth := 30) [execSeamReplayTimeout, hK, hs]

@[simp] theorem State.seamMarkerBad_follows {s0 : State} {s : State} {b d lane : Nat} (hK : K .regs = false ∧ K .flt = false ∧ K .seams = false) (hs : Follows K s0 s) :
    Follows K s0 (s.seamMarkerBad b d lane) := by
  simp (maxDischargeDepth := 30) [State.seamMarkerBad, hK, hs]

@[simp] theorem State.seamMarkerGood_follows {s0 : State} {s : State} {b d lane w : Nat} (hK : K .regs = false ∧ K .seams = false ∧ K .cross = false) (hs : Follows K s0 s) :
    Follows K s0 (s.seamMarkerGood b d lane w) := by
  simp (maxDischargeDepth := 30) [State.seamMarkerGood, hK, hs]

@[simp] theorem execSeamMarkerReceive_follows {s0 : State} {b : Fin 8} {toBell : Bool} {lane : Fin 68} {word : BitVec 64} {s : State} (hK : K .regs = false ∧ K .flt = false ∧ K .seams = false ∧ K .cross = false) (hs : Follows K s0 s) :
    OutFollows K s0 (execSeamMarkerReceive b toBell lane word s) := by
  simp (maxDischargeDepth := 30) [execSeamMarkerReceive, hK, hs]

@[simp] theorem State.modSide_follows {s0 : State} {s : State} {c : Nat} {die : Bool} {f : CrossSide → CrossSide} (hK : K .cross = false) (hs : Follows K s0 s) :
    Follows K s0 (s.modSide c die f) := by
  simp (maxDischargeDepth := 30) [State.modSide, hK, hs]

@[simp] theorem State.slotPorts_follows {s0 : State} {s : State} {k : Nat} (hK : K .regs = false ∧ K .trn = false ∧ K .flt = false ∧ K .loss = false ∧ K .dry = false ∧ K .sec = false ∧ K .ports = false ∧ K .canopies = false ∧ K .spillq = false) (hs : Follows K s0 s) :
    Follows K s0 (s.slotPorts k) := by
  simp (maxDischargeDepth := 30) [State.slotPorts, hK, hs]

@[simp] theorem State.slotDrop_follows {s0 : State} {s : State} {k : Nat} (hK : K .regs = false ∧ K .trn = false ∧ K .flt = false ∧ K .loss = false ∧ K .dry = false ∧ K .sec = false ∧ K .ports = false ∧ K .canopies = false ∧ K .spillq = false) (hs : Follows K s0 s) :
    Follows K s0 (s.slotDrop k) := by
  simp (maxDischargeDepth := 30) [State.slotDrop, hK, hs]

@[simp] theorem State.peerInReset_follows {s0 : State} {s : State} {c : Nat} {dieSide : Bool} (hK : K .regs = false ∧ K .trn = false ∧ K .jrn = false ∧ K .flt = false ∧ K .loss = false ∧ K .dry = false ∧ K .sec = false ∧ K .ports = false ∧ K .slots = false ∧ K .canopies = false ∧ K .seams = false ∧ K .cross = false ∧ K .spillq = false) (hs : Follows K s0 s) :
    Follows K s0 (s.peerInReset c dieSide) := by
  simp (maxDischargeDepth := 30) [State.peerInReset, hK, hs]

@[simp] theorem execPeerResetIndication_follows {s0 : State} {c : Fin 16} {dieSide equal : Bool} {s : State} (hK : K .regs = false ∧ K .trn = false ∧ K .jrn = false ∧ K .flt = false ∧ K .loss = false ∧ K .dry = false ∧ K .sec = false ∧ K .ports = false ∧ K .slots = false ∧ K .canopies = false ∧ K .seams = false ∧ K .cross = false ∧ K .spillq = false) (hs : Follows K s0 s) :
    OutFollows K s0 (execPeerResetIndication c dieSide equal s) := by
  simp (maxDischargeDepth := 30) [execPeerResetIndication, hK, hs]

@[simp] theorem State.armSide_follows {s0 : State} {s : State} {c : Nat} {die : Bool} (hK : K .regs = false ∧ K .mem = false ∧ K .bells = false ∧ K .cross = false) (hs : Follows K s0 s) :
    Follows K s0 (s.armSide c die) := by
  simp (maxDischargeDepth := 30) [State.armSide, hK, hs]

@[simp] theorem State.sendRearm_follows {s0 : State} {s : State} {c : Nat} {frmDie : Bool} {m : List Byte} (hK : K .seams = false) (hs : Follows K s0 s) :
    Follows K s0 (s.sendRearm c frmDie m) := by
  simp (maxDischargeDepth := 30) [State.sendRearm, hK, hs]

@[simp] theorem State.rearmMsg_follows {s0 : State} {s : State} {c : Nat} {toDie : Bool} {ctype : Nat} {m : List Byte} {k : State → State} (hK : K .seams = false ∧ K .cross = false) (hs : Follows K s0 s) (hk : ∀ x0, Follows K x0 (k x0)) :
    Follows K s0 (s.rearmMsg c toDie ctype m k) := by
  unfold State.rearmMsg
  refine State.live_follows hs fun t => ?_
  split
  · dsimp only
    refine Follows.trans ?_ (hk _)
    split <;> simp (maxDischargeDepth := 30) [hK]
  · exact Follows.refl t

@[simp] theorem execRearmReq_follows {s0 : State} {c : Fin 16} {toDie : Bool} {msg : List Byte} {s : State} (hK : K .regs = false ∧ K .mem = false ∧ K .bells = false ∧ K .seams = false ∧ K .cross = false) (hs : Follows K s0 s) :
    OutFollows K s0 (execRearmReq c toDie msg s) := by
  simp (maxDischargeDepth := 30) [execRearmReq, hK, hs]

@[simp] theorem execRearmAck_follows {s0 : State} {c : Fin 16} {toDie : Bool} {msg : List Byte} {s : State} (hK : K .regs = false ∧ K .mem = false ∧ K .bells = false ∧ K .seams = false ∧ K .cross = false) (hs : Follows K s0 s) :
    OutFollows K s0 (execRearmAck c toDie msg s) := by
  simp (maxDischargeDepth := 30) [execRearmAck, hK, hs]

@[simp] theorem State.crossReset_follows {s0 : State} {s : State} {c : Nat} (hK : K .regs = false ∧ K .cross = false) (hs : Follows K s0 s) :
    Follows K s0 (s.crossReset c) := by
  simp (maxDischargeDepth := 30) [State.crossReset, hK, hs]

@[simp] theorem State.seamLinkReset_follows {s0 : State} {s : State} {b : Nat} (hK : K .regs = false ∧ K .trn = false ∧ K .dry = false ∧ K .sec = false ∧ K .seams = false ∧ K .cross = false) (hs : Follows K s0 s) :
    Follows K s0 (s.seamLinkReset b) := by
  simp (maxDischargeDepth := 30) [State.seamLinkReset, hK, hs]

@[simp] theorem execSeamLinkReset_follows {s0 : State} {b : Fin 8} {s : State} (hK : K .regs = false ∧ K .trn = false ∧ K .dry = false ∧ K .sec = false ∧ K .seams = false ∧ K .cross = false) (hs : Follows K s0 s) :
    OutFollows K s0 (execSeamLinkReset b s) := by
  simp (maxDischargeDepth := 30) [execSeamLinkReset, hK, hs]

@[simp] theorem State.slotLinkReset_follows {s0 : State} {s : State} {k : Nat} (hK : K .regs = false ∧ K .trn = false ∧ K .flt = false ∧ K .loss = false ∧ K .dry = false ∧ K .sec = false ∧ K .ports = false ∧ K .canopies = false ∧ K .cross = false ∧ K .spillq = false) (hs : Follows K s0 s) :
    Follows K s0 (s.slotLinkReset k) := by
  simp (maxDischargeDepth := 30) [State.slotLinkReset, hK, hs]

@[simp] theorem execSlotLinkReset_follows {s0 : State} {k : Fin 8} {s : State} (hK : K .regs = false ∧ K .trn = false ∧ K .flt = false ∧ K .loss = false ∧ K .dry = false ∧ K .sec = false ∧ K .ports = false ∧ K .canopies = false ∧ K .cross = false ∧ K .spillq = false) (hs : Follows K s0 s) :
    OutFollows K s0 (execSlotLinkReset k s) := by
  simp (maxDischargeDepth := 30) [execSlotLinkReset, hK, hs]

@[simp] theorem State.rearmLate_follows {s0 : State} {s : State} {c : Nat} (hK : K .regs = false ∧ K .trn = false ∧ K .flt = false ∧ K .loss = false ∧ K .dry = false ∧ K .sec = false ∧ K .ports = false ∧ K .slots = false ∧ K .canopies = false ∧ K .seams = false ∧ K .cross = false ∧ K .spillq = false) (hs : Follows K s0 s) :
    Follows K s0 (s.rearmLate c) := by
  simp (maxDischargeDepth := 30) [State.rearmLate, hK, hs]

@[simp] theorem execRearmTimeout_follows {s0 : State} {c : Fin 16} {s : State} (hK : K .regs = false ∧ K .trn = false ∧ K .flt = false ∧ K .loss = false ∧ K .dry = false ∧ K .sec = false ∧ K .ports = false ∧ K .slots = false ∧ K .canopies = false ∧ K .seams = false ∧ K .cross = false ∧ K .spillq = false) (hs : Follows K s0 s) :
    OutFollows K s0 (execRearmTimeout c s) := by
  unfold execRearmTimeout
  try refine OutFollows.next.2 ?_
  try first
    | refine State.live_follows ?_ fun x => ?_
    | refine State.receive_follows (hK := by simp [hK]) ?_ fun x => ?_
    | refine State.receiveReq_follows (hK := by simp [hK]) ?_ fun x => ?_
    | refine State.window_follows (hK := by simp [hK]) ?_ fun x => ?_
    | refine State.onBell_follows (hK := by simp [hK]) ?_ fun x => ?_
    | refine State.runOp_follows (hK := by simp [hK]) ?_ fun x => ?_
    | refine State.pitWrite_follows (hK := by simp [hK]) ?_ fun x => ?_
    | refine State.onBit_follows ?_ fun x => ?_
    | refine foldl_follows ?_ fun x => ?_
    | refine foldl_follows_fst ?_ fun x => ?_
  all_goals try dsimp only
  all_goals repeat' split
  all_goals simp (maxDischargeDepth := 30) [hK, hs]

@[simp] theorem State.setModules_follows {s0 : State} {s : State} {k : Nat} {good : List Nat} {canopy : Bool} (hK : K .regs = false ∧ K .trn = false ∧ K .flt = false ∧ K .loss = false ∧ K .dry = false ∧ K .sec = false ∧ K .ports = false ∧ K .canopies = false ∧ K .spillq = false) (hs : Follows K s0 s) :
    Follows K s0 (s.setModules k good canopy) := by
  simp (maxDischargeDepth := 30) [State.setModules, hK, hs]

@[simp] theorem State.refuseSlot_follows {s0 : State} {s : State} {k cause : Nat} (hK : K .regs = false ∧ K .trn = false ∧ K .flt = false ∧ K .loss = false ∧ K .dry = false ∧ K .sec = false ∧ K .ports = false ∧ K .slots = false ∧ K .canopies = false ∧ K .spillq = false) (hs : Follows K s0 s) :
    Follows K s0 (s.refuseSlot k cause) := by
  simp (maxDischargeDepth := 30) [State.refuseSlot, hK, hs]

@[simp] theorem State.slotSeen_follows {s0 : State} {s : State} {k : Nat} {good : List Nat} {rate cause : Nat} {desc : List Byte} (hK : K .regs = false ∧ K .trn = false ∧ K .flt = false ∧ K .loss = false ∧ K .dry = false ∧ K .sec = false ∧ K .ports = false ∧ K .canopies = false ∧ K .spillq = false) (hs : Follows K s0 s) :
    Follows K s0 (s.slotSeen k good rate cause desc) := by
  simp (maxDischargeDepth := 30) [State.slotSeen, hK, hs]

@[simp] theorem State.slotAdmit_follows {s0 : State} {s : State} {k : Nat} {desc : List Byte} (hK : K .regs = false ∧ K .trn = false ∧ K .flt = false ∧ K .loss = false ∧ K .dry = false ∧ K .sec = false ∧ K .ports = false ∧ K .slots = false ∧ K .canopies = false ∧ K .seams = false ∧ K .cross = false ∧ K .pwr = false ∧ K .spillq = false) (hs : Follows K s0 s) :
    Follows K s0 (s.slotAdmit k desc) := by
  simp (maxDischargeDepth := 30) [State.slotAdmit, hK, hs]

@[simp] theorem execSlotDiscovery_follows {s0 : State} {k : Fin 8} {modules rate : Nat} {desc : Option (List Byte)} {s : State} (hK : K .regs = false ∧ K .trn = false ∧ K .flt = false ∧ K .loss = false ∧ K .dry = false ∧ K .sec = false ∧ K .ports = false ∧ K .slots = false ∧ K .canopies = false ∧ K .seams = false ∧ K .cross = false ∧ K .pwr = false ∧ K .spillq = false) (hs : Follows K s0 s) :
    OutFollows K s0 (execSlotDiscovery k modules rate desc s) := by
  simp (maxDischargeDepth := 30) [execSlotDiscovery, hK, hs]

@[simp] theorem execSlotModuleLoss_follows {s0 : State} {k : Fin 8} {m : Fin 4} {s : State} (hK : K .regs = false ∧ K .trn = false ∧ K .flt = false ∧ K .loss = false ∧ K .dry = false ∧ K .sec = false ∧ K .ports = false ∧ K .slots = false ∧ K .canopies = false ∧ K .spillq = false) (hs : Follows K s0 s) :
    OutFollows K s0 (execSlotModuleLoss k m s) := by
  simp (maxDischargeDepth := 30) [execSlotModuleLoss, hK, hs]

@[simp] theorem State.slotRetrain_follows {s0 : State} {s : State} {k : Nat} (hK : K .regs = false ∧ K .seams = false ∧ K .cross = false) (hs : Follows K s0 s) :
    Follows K s0 (s.slotRetrain k) := by
  simp (maxDischargeDepth := 30) [State.slotRetrain, hK, hs]

@[simp] theorem execSlotRetrain_follows {s0 : State} {k : Fin 8} {s : State} (hK : K .regs = false ∧ K .seams = false ∧ K .cross = false) (hs : Follows K s0 s) :
    OutFollows K s0 (execSlotRetrain k s) := by
  simp (maxDischargeDepth := 30) [execSlotRetrain, hK, hs]

@[simp] theorem State.admitAllow_follows {s0 : State} {s : State} {k : Nat} (hK : K .regs = false) (hs : Follows K s0 s) :
    Follows K s0 (s.admitAllow k) := by
  simp (maxDischargeDepth := 30) [State.admitAllow, hK, hs]

@[simp] theorem execAdmitAllow_follows {s0 : State} {k : Fin 8} {s : State} (hK : K .regs = false) (hs : Follows K s0 s) :
    OutFollows K s0 (execAdmitAllow k s) := by
  simp (maxDischargeDepth := 30) [execAdmitAllow, hK, hs]

@[simp] theorem execSlotPartnerFault_follows {s0 : State} {k : Fin 8} {detail : List Byte} {s : State} (hK : K .flt = false) (hs : Follows K s0 s) :
    OutFollows K s0 (execSlotPartnerFault k detail s) := by
  simp (maxDischargeDepth := 30) [execSlotPartnerFault, hK, hs]

@[simp] theorem State.tapMission_follows {s0 : State} {s : State} {i : TapInstr} (hK : K .tap = false) (hs : Follows K s0 s) :
    Follows K s0 (s.tapMission i) := by
  simp (maxDischargeDepth := 30) [State.tapMission, hK, hs]

@[simp] theorem execTapBypass_follows {s0 : State} {s : State} (hK : K .tap = false) (hs : Follows K s0 s) :
    OutFollows K s0 (execTapBypass s) := by
  simp (maxDischargeDepth := 30) [execTapBypass, hK, hs]

@[simp] theorem execTapIdcode_follows {s0 : State} {s : State} (hK : K .tap = false) (hs : Follows K s0 s) :
    OutFollows K s0 (execTapIdcode s) := by
  simp (maxDischargeDepth := 30) [execTapIdcode, hK, hs]

@[simp] theorem execTapSamplePreload_follows {s0 : State} {preload : Nat} {s : State} (hK : K .tap = false) (hs : Follows K s0 s) :
    OutFollows K s0 (execTapSamplePreload preload s) := by
  simp (maxDischargeDepth := 30) [execTapSamplePreload, hK, hs]

@[simp] theorem execTapSegmentInsert_follows {s0 : State} {unit : Fin 16} {s : State} (hK : K .tap = false) (hs : Follows K s0 s) :
    OutFollows K s0 (execTapSegmentInsert unit s) := by
  simp (maxDischargeDepth := 30) [execTapSegmentInsert, hK, hs]

@[simp] theorem execTapExtest_follows {s0 : State} {levels : Nat} {s : State} (hK : K .tap = false) (hs : Follows K s0 s) :
    OutFollows K s0 (execTapExtest levels s) := by
  simp (maxDischargeDepth := 30) [execTapExtest, hK, hs]

@[simp] theorem execTapClamp_follows {s0 : State} {levels : Nat} {s : State} (hK : K .tap = false) (hs : Follows K s0 s) :
    OutFollows K s0 (execTapClamp levels s) := by
  simp (maxDischargeDepth := 30) [execTapClamp, hK, hs]

@[simp] theorem execTapHighz_follows {s0 : State} {s : State} (hK : K .tap = false) (hs : Follows K s0 s) :
    OutFollows K s0 (execTapHighz s) := by
  simp (maxDischargeDepth := 30) [execTapHighz, hK, hs]

@[simp] theorem execTapReset_follows {s0 : State} {s : State} (hK : K .tap = false) (hs : Follows K s0 s) :
    OutFollows K s0 (execTapReset s) := by
  simp (maxDischargeDepth := 30) [execTapReset, hK, hs]

@[simp] theorem State.clockRecord_follows {s0 : State} {s : State} {code kind muxes : Nat} {hold : Bool} (hK : K .regs = false ∧ K .dry = false) (hs : Follows K s0 s) :
    Follows K s0 (s.clockRecord code kind muxes hold) := by
  simp (maxDischargeDepth := 30) [State.clockRecord, hK, hs]

@[simp] theorem State.clockTrip_follows {s0 : State} {s : State} {code kind : Nat} (hK : K .regs = false) (hs : Follows K s0 s) :
    Follows K s0 (s.clockTrip code kind) := by
  simp (maxDischargeDepth := 30) [State.clockTrip, hK, hs]

@[simp] theorem State.clockless_follows {s0 : State} {s : State} {code kind : Nat} (hK : K .regs = false ∧ K .dry = false ∧ K .time = false ∧ K .clk = false) (hs : Follows K s0 s) :
    Follows K s0 (s.clockless code kind) := by
  simp (maxDischargeDepth := 30) [State.clockless, hK, hs]

@[simp] theorem State.requestMux_follows {s0 : State} {s : State} {m : Nat} (hK : K .clk = false) (hs : Follows K s0 s) :
    Follows K s0 (s.requestMux m) := by
  simp (maxDischargeDepth := 30) [State.requestMux, hK, hs]

@[simp] theorem State.referenceTrip_follows {s0 : State} {s : State} {code kind : Nat} (hK : K .regs = false ∧ K .flt = false ∧ K .dry = false ∧ K .ports = false ∧ K .clk = false) (hs : Follows K s0 s) :
    Follows K s0 (s.referenceTrip code kind) := by
  simp (maxDischargeDepth := 30) [State.referenceTrip, hK, hs]

@[simp] theorem execReferenceTrip_follows {s0 : State} {code : Fin 8} {kind : Fin 4} {s : State} (hK : K .regs = false ∧ K .flt = false ∧ K .dry = false ∧ K .ports = false ∧ K .clk = false) (hs : Follows K s0 s) :
    OutFollows K s0 (execReferenceTrip code kind s) := by
  simp (maxDischargeDepth := 30) [execReferenceTrip, hK, hs]

@[simp] theorem execReferencePllLock_follows {s0 : State} {spread : Bool} {s : State} (hK : K .ftc = false ∧ K .regs = false ∧ K .trn = false ∧ K .flt = false ∧ K .loss = false ∧ K .dry = false ∧ K .ports = false ∧ K .time = false ∧ K .clk = false) (hs : Follows K s0 s) :
    OutFollows K s0 (execReferencePllLock spread s) := by
  simp (maxDischargeDepth := 30) [execReferencePllLock, hK, hs]

@[simp] theorem execFastOscTrip_follows {s0 : State} {s : State} (hK : K .regs = false ∧ K .flt = false ∧ K .dry = false ∧ K .time = false ∧ K .clk = false) (hs : Follows K s0 s) :
    OutFollows K s0 (execFastOscTrip s) := by
  simp (maxDischargeDepth := 30) [execFastOscTrip, hK, hs]

@[simp] theorem execSlowOscTrip_follows {s0 : State} {s : State} (hK : K .regs = false ∧ K .flt = false) (hs : Follows K s0 s) :
    OutFollows K s0 (execSlowOscTrip s) := by
  simp (maxDischargeDepth := 30) [execSlowOscTrip, hK, hs]

@[simp] theorem execBellPllTrip_follows {s0 : State} {b : Fin 8} {kind : Fin 4} {s : State} (hK : K .regs = false ∧ K .mem = false ∧ K .trn = false ∧ K .jrn = false ∧ K .flt = false ∧ K .loss = false ∧ K .dry = false ∧ K .sec = false ∧ K .bells = false ∧ K .col = false ∧ K .ports = false ∧ K .canopies = false ∧ K .cross = false ∧ K .clk = false ∧ K .pwr = false ∧ K .spillq = false) (hs : Follows K s0 s) :
    OutFollows K s0 (execBellPllTrip b kind s) := by
  simp (maxDischargeDepth := 30) [execBellPllTrip, hK, hs]

@[simp] theorem execFastReady_follows {s0 : State} {s : State} (hK : K .regs = false ∧ K .clk = false) (hs : Follows K s0 s) :
    OutFollows K s0 (execFastReady s) := by
  simp only [execFastReady]
  repeat' split
  all_goals simp (maxDischargeDepth := 30) [*]

@[simp] theorem execFallbackTimeout_follows {s0 : State} {s : State} (hK : K .regs = false ∧ K .dry = false ∧ K .time = false ∧ K .clk = false) (hs : Follows K s0 s) :
    OutFollows K s0 (execFallbackTimeout s) := by
  simp only [execFallbackTimeout]
  repeat' split
  all_goals simp (maxDischargeDepth := 30) [*]

@[simp] theorem State.resetRidge_follows {s0 : State} {s : State} (hK : K .ftc = false ∧ K .regs = false ∧ K .trn = false ∧ K .jrn = false ∧ K .pole = false ∧ K .col = false ∧ K .time = false) (hs : Follows K s0 s) :
    Follows K s0 (s.resetRidge) := by
  simp (maxDischargeDepth := 30) [State.resetRidge, hK, hs]

@[simp] theorem State.resetSwitch_follows {s0 : State} {s : State} (hK : K .regs = false ∧ K .trn = false ∧ K .flt = false ∧ K .loss = false ∧ K .dry = false ∧ K .sec = false ∧ K .ports = false ∧ K .canopies = false ∧ K .spillq = false) (hs : Follows K s0 s) :
    Follows K s0 (s.resetSwitch) := by
  simp (maxDischargeDepth := 30) [State.resetSwitch, hK, hs]

@[simp] theorem State.forceMux_follows {s0 : State} {s : State} {m : Nat} (hK : K .ftc = false ∧ K .regs = false ∧ K .mem = false ∧ K .trn = false ∧ K .jrn = false ∧ K .flt = false ∧ K .pole = false ∧ K .loss = false ∧ K .dry = false ∧ K .sec = false ∧ K .bells = false ∧ K .col = false ∧ K .ports = false ∧ K .canopies = false ∧ K .cross = false ∧ K .time = false ∧ K .clk = false ∧ K .spillq = false) (hs : Follows K s0 s) :
    Follows K s0 (s.forceMux m) := by
  simp (maxDischargeDepth := 30) [State.forceMux, hK, hs]

@[simp] theorem execMuxSwitchTimeout_follows {s0 : State} {m : Fin 10} {s : State} (hK : K .ftc = false ∧ K .regs = false ∧ K .mem = false ∧ K .trn = false ∧ K .jrn = false ∧ K .flt = false ∧ K .pole = false ∧ K .loss = false ∧ K .dry = false ∧ K .sec = false ∧ K .bells = false ∧ K .col = false ∧ K .ports = false ∧ K .canopies = false ∧ K .cross = false ∧ K .time = false ∧ K .clk = false ∧ K .spillq = false) (hs : Follows K s0 s) :
    OutFollows K s0 (execMuxSwitchTimeout m s) := by
  simp (maxDischargeDepth := 30) [execMuxSwitchTimeout, hK, hs]

@[simp] theorem State.forceMuxes_follows {s0 : State} {s : State} {w : Nat} (hK : K .ftc = false ∧ K .regs = false ∧ K .mem = false ∧ K .trn = false ∧ K .jrn = false ∧ K .flt = false ∧ K .pole = false ∧ K .loss = false ∧ K .dry = false ∧ K .sec = false ∧ K .bells = false ∧ K .col = false ∧ K .ports = false ∧ K .canopies = false ∧ K .cross = false ∧ K .time = false ∧ K .clk = false ∧ K .spillq = false) (hs : Follows K s0 s) :
    Follows K s0 (s.forceMuxes w) := by
  simp (maxDischargeDepth := 30) [State.forceMuxes, hK, hs]

@[simp] theorem execClkMuxForce_follows {s0 : State} {muxes : BitVec 10} {s : State} (hK : K .ftc = false ∧ K .regs = false ∧ K .mem = false ∧ K .trn = false ∧ K .jrn = false ∧ K .flt = false ∧ K .pole = false ∧ K .loss = false ∧ K .dry = false ∧ K .sec = false ∧ K .bells = false ∧ K .col = false ∧ K .ports = false ∧ K .canopies = false ∧ K .cross = false ∧ K .time = false ∧ K .clk = false ∧ K .spillq = false) (hs : Follows K s0 s) :
    OutFollows K s0 (execClkMuxForce muxes s) := by
  simp (maxDischargeDepth := 30) [execClkMuxForce, hK, hs]

@[simp] theorem State.checkRole_follows {s0 : State} {s : State} (hK : K .regs = false ∧ K .flt = false) (hs : Follows K s0 s) :
    Follows K s0 (s.checkRole) := by
  simp (maxDischargeDepth := 30) [State.checkRole, hK, hs]

@[simp] theorem State.writeGate_follows {s0 : State} {s : State} {d v : Nat} (hK : K .clk = false) (hs : Follows K s0 s) :
    Follows K s0 (s.writeGate d v) := by
  simp (maxDischargeDepth := 30) [State.writeGate, hK, hs]

end Sys2Proof.Machine
end

