-- ==== Sys2Proof/Laws/FollowsPower.lean ====
section
/-!
SUPPORT. What the relation of Laws/Follows.lean says of power, heat, firmware and reset.
-/

set_option linter.all false
set_option Elab.async false

namespace Sys2Proof.Machine

open Sys2Proof

variable {K : Piece → Bool}

@[simp] theorem State.domsOn_follows {s0 : State} {s : State} {l : List Nat} (hK : K .pwr = false) (hs : Follows K s0 s) :
    Follows K s0 (s.domsOn l) := by
  simp (maxDischargeDepth := 30) [State.domsOn, hK, hs]

@[simp] theorem State.setOpp_follows {s0 : State} {s : State} {b v : Nat} (hK : K .regs = false) (hs : Follows K s0 s) :
    Follows K s0 (s.setOpp b v) := by
  simp (maxDischargeDepth := 30) [State.setOpp, hK, hs]

@[simp] theorem State.domainsOff_follows {s0 : State} {s : State} {keep : List Nat} (hK : K .regs = false ∧ K .pole = false ∧ K .bells = false ∧ K .slots = false ∧ K .canopies = false ∧ K .time = false ∧ K .pwr = false) (hs : Follows K s0 s) :
    Follows K s0 (s.domainsOff keep) := by
  simp (maxDischargeDepth := 30) [State.domainsOff, hK, hs]

@[simp] theorem State.powerFail_follows {s0 : State} {s : State} {cause cv ca : Nat} (hK : K .regs = false ∧ K .flt = false ∧ K .pole = false ∧ K .dry = false ∧ K .bells = false ∧ K .ports = false ∧ K .slots = false ∧ K .canopies = false ∧ K .time = false ∧ K .pwr = false) (hs : Follows K s0 s) :
    Follows K s0 (s.powerFail cause cv ca) := by
  simp (maxDischargeDepth := 30) [State.powerFail, hK, hs]

@[simp] theorem State.aonLost_follows {s0 : State} {s : State} (hK : K .regs = false ∧ K .trn = false ∧ K .flt = false ∧ K .pole = false ∧ K .dry = false ∧ K .bells = false ∧ K .ports = false ∧ K .slots = false ∧ K .canopies = false ∧ K .tap = false ∧ K .time = false ∧ K .pwr = false) (hs : Follows K s0 s) :
    Follows K s0 s.aonLost := by
  have h1 : Follows K s0 ((((s.powerFail 1 0 0).resetRegs .aon fun a => !(a == R.DRY_SEQ || a == R.DRY_HEAD || a == R.DRY_STAT)).setFld R.DRY_STAT F.DRY_STAT_READY 0).setFld
      R.DRY_STAT F.DRY_STAT_HOLDUP_OK 0 |>.setFld R.DRY_STAT F.DRY_STAT_WRITE_ERR 0) := by
    simp (maxDischargeDepth := 30) [hK, hs]
  refine h1.step rfl rfl (Fuses.NotBelow.refl _) (fun x => x) (fun x => x) (fun x => x) (fun _ => Nat.zero_le _) (fun x => x) fun p hp => ?_
  cases p <;> first | rfl | simp_all

@[simp] theorem execInputUndervoltage_follows {s0 : State} {cv : Nat} {s : State} (hK : K .regs = false ∧ K .trn = false ∧ K .flt = false ∧ K .pole = false ∧ K .dry = false ∧ K .bells = false ∧ K .ports = false ∧ K .slots = false ∧ K .canopies = false ∧ K .tap = false ∧ K .time = false ∧ K .pwr = false) (hs : Follows K s0 s) :
    OutFollows K s0 (execInputUndervoltage cv s) := by
  simp (maxDischargeDepth := 30) [execInputUndervoltage, hK, hs]

@[simp] theorem execInputOvervoltage_follows {s0 : State} {cv : Nat} {s : State} (hK : K .regs = false ∧ K .flt = false ∧ K .pole = false ∧ K .dry = false ∧ K .bells = false ∧ K .ports = false ∧ K .slots = false ∧ K .canopies = false ∧ K .time = false ∧ K .pwr = false) (hs : Follows K s0 s) :
    OutFollows K s0 (execInputOvervoltage cv s) := by
  simp only [execInputOvervoltage]
  repeat' split
  all_goals simp (maxDischargeDepth := 30) [*]

@[simp] theorem execInputOutOfRange_follows {s0 : State} {cv : Nat} {s : State} (hK : K .regs = false ∧ K .flt = false) (hs : Follows K s0 s) :
    OutFollows K s0 (execInputOutOfRange cv s) := by
  simp (maxDischargeDepth := 30) [execInputOutOfRange, hK, hs]

@[simp] theorem execInputOvercurrent_follows {s0 : State} {cv ca : Nat} {s : State} (hK : K .regs = false ∧ K .flt = false ∧ K .pole = false ∧ K .dry = false ∧ K .bells = false ∧ K .ports = false ∧ K .slots = false ∧ K .canopies = false ∧ K .time = false ∧ K .pwr = false) (hs : Follows K s0 s) :
    OutFollows K s0 (execInputOvercurrent cv ca s) := by
  simp (maxDischargeDepth := 30) [execInputOvercurrent, hK, hs]

@[simp] theorem execPowerFail_follows {s0 : State} {cause : Fin 8} {cv ca : Nat} {s : State} (hK : K .regs = false ∧ K .flt = false ∧ K .pole = false ∧ K .dry = false ∧ K .bells = false ∧ K .ports = false ∧ K .slots = false ∧ K .canopies = false ∧ K .time = false ∧ K .pwr = false) (hs : Follows K s0 s) :
    OutFollows K s0 (execPowerFail cause cv ca s) := by
  simp (maxDischargeDepth := 30) [execPowerFail, hK, hs]

@[simp] theorem execAuxPowerChange_follows {s0 : State} {on : Bool} {s : State} (hK : K .regs = false ∧ K .trn = false ∧ K .flt = false ∧ K .pole = false ∧ K .dry = false ∧ K .bells = false ∧ K .ports = false ∧ K .slots = false ∧ K .canopies = false ∧ K .tap = false ∧ K .time = false ∧ K .pwr = false) (hs : Follows K s0 s) :
    OutFollows K s0 (execAuxPowerChange on s) := by
  simp (maxDischargeDepth := 30) [execAuxPowerChange, hK, hs]

@[simp] theorem State.domLost_follows {s0 : State} {s : State} {d : Nat} (hK : K .regs = false ∧ K .mem = false ∧ K .trn = false ∧ K .jrn = false ∧ K .pit = false ∧ K .flt = false ∧ K .loss = false ∧ K .dry = false ∧ K .sec = false ∧ K .bells = false ∧ K .col = false ∧ K .ports = false ∧ K .slots = false ∧ K .canopies = false ∧ K .seams = false ∧ K .cross = false ∧ K .spillq = false) (hs : Follows K s0 s) :
    Follows K s0 (s.domLost d) := by
  simp (maxDischargeDepth := 30) [State.domLost, hK, hs]

@[simp] theorem State.lanternsStart_follows {s0 : State} {s : State} {k : Nat} (hK : K .canopies = false) (hs : Follows K s0 s) :
    Follows K s0 (s.lanternsStart k) := by
  simp (maxDischargeDepth := 30) [State.lanternsStart, hK, hs]

@[simp] theorem State.domStarted_follows {s0 : State} {s : State} {d : Nat} (hK : K .regs = false ∧ K .canopies = false) (hs : Follows K s0 s) :
    Follows K s0 (s.domStarted d) := by
  simp (maxDischargeDepth := 30) [State.domStarted, hK, hs]

@[simp] theorem State.domRequest_follows {s0 : State} {s : State} {d req : Nat} (hK : K .regs = false ∧ K .mem = false ∧ K .trn = false ∧ K .jrn = false ∧ K .pit = false ∧ K .flt = false ∧ K .loss = false ∧ K .dry = false ∧ K .sec = false ∧ K .bells = false ∧ K .col = false ∧ K .ports = false ∧ K .slots = false ∧ K .canopies = false ∧ K .seams = false ∧ K .cross = false ∧ K .pwr = false ∧ K .spillq = false) (hs : Follows K s0 s) :
    Follows K s0 (s.domRequest d req) := by
  simp (maxDischargeDepth := 30) [State.domRequest, hK, hs]

@[simp] theorem execDomainStateRequest_follows {s0 : State} {dom : Fin 148} {req : Fin 4} {s : State} (hK : K .regs = false ∧ K .mem = false ∧ K .trn = false ∧ K .jrn = false ∧ K .pit = false ∧ K .flt = false ∧ K .loss = false ∧ K .dry = false ∧ K .sec = false ∧ K .bells = false ∧ K .col = false ∧ K .ports = false ∧ K .slots = false ∧ K .canopies = false ∧ K .seams = false ∧ K .cross = false ∧ K .pwr = false ∧ K .spillq = false) (hs : Follows K s0 s) :
    OutFollows K s0 (execDomainStateRequest dom req s) := by
  simp (maxDischargeDepth := 30) [execDomainStateRequest, hK, hs]

@[simp] theorem execEngineGroupIdle_follows {s0 : State} {b : Fin 8} {g : Fin 4} {s : State} (hK : K .pwr = false) (hs : Follows K s0 s) :
    OutFollows K s0 (execEngineGroupIdle b g s) := by
  simp (maxDischargeDepth := 30) [execEngineGroupIdle, hK, hs]

@[simp] theorem State.holdBell_follows {s0 : State} {s : State} {b : Nat} (hK : K .regs = false ∧ K .mem = false ∧ K .trn = false ∧ K .jrn = false ∧ K .flt = false ∧ K .loss = false ∧ K .dry = false ∧ K .sec = false ∧ K .bells = false ∧ K .ports = false ∧ K .canopies = false ∧ K .cross = false ∧ K .spillq = false) (hs : Follows K s0 s) :
    Follows K s0 (s.holdBell b) := by
  simp (maxDischargeDepth := 30) [State.holdBell, hK, hs]

@[simp] theorem State.holdSlot_follows {s0 : State} {s : State} {k : Nat} (hK : K .regs = false ∧ K .trn = false ∧ K .flt = false ∧ K .loss = false ∧ K .dry = false ∧ K .sec = false ∧ K .ports = false ∧ K .slots = false ∧ K .canopies = false ∧ K .cross = false ∧ K .spillq = false) (hs : Follows K s0 s) :
    Follows K s0 (s.holdSlot k) := by
  simp (maxDischargeDepth := 30) [State.holdSlot, hK, hs]

@[simp] theorem State.poleFails_follows {s0 : State} {s : State} {d : Nat} (hK : K .regs = false ∧ K .mem = false ∧ K .trn = false ∧ K .jrn = false ∧ K .flt = false ∧ K .loss = false ∧ K .dry = false ∧ K .sec = false ∧ K .bells = false ∧ K .ports = false ∧ K .slots = false ∧ K .canopies = false ∧ K .cross = false ∧ K .pwr = false ∧ K .spillq = false) (hs : Follows K s0 s) :
    Follows K s0 (s.poleFails d) := by
  simp (maxDischargeDepth := 30) [State.poleFails, hK, hs]

@[simp] theorem execPowerGoodFail_follows {s0 : State} {dom : Fin 148} {s : State} (hK : K .regs = false ∧ K .mem = false ∧ K .trn = false ∧ K .jrn = false ∧ K .flt = false ∧ K .loss = false ∧ K .dry = false ∧ K .sec = false ∧ K .bells = false ∧ K .ports = false ∧ K .slots = false ∧ K .canopies = false ∧ K .cross = false ∧ K .pwr = false ∧ K .spillq = false) (hs : Follows K s0 s) :
    OutFollows K s0 (execPowerGoodFail dom s) := by
  simp (maxDischargeDepth := 30) [execPowerGoodFail, hK, hs]

@[simp] theorem State.setRegionLim_follows {s0 : State} {s : State} {r v : Nat} (hK : K .pwr = false) (hs : Follows K s0 s) :
    Follows K s0 (s.setRegionLim r v) := by
  simp (maxDischargeDepth := 30) [State.setRegionLim, hK, hs]

@[simp] theorem State.setPowerLimit_follows {s0 : State} {s : State} {b v : Nat} (hK : K .pwr = false) (hs : Follows K s0 s) :
    Follows K s0 (s.setPowerLimit b v) := by
  simp (maxDischargeDepth := 30) [State.setPowerLimit, hK, hs]

@[simp] theorem State.noteLimiting_follows {s0 : State} {s : State} (hK : K .regs = false) (hs : Follows K s0 s) :
    Follows K s0 (s.noteLimiting) := by
  simp (maxDischargeDepth := 30) [State.noteLimiting, hK, hs]

@[simp] theorem execDvfsStep_follows {s0 : State} {b : Fin 8} {s : State} (hK : K .pwr = false) (hs : Follows K s0 s) :
    OutFollows K s0 (execDvfsStep b s) := by
  simp (maxDischargeDepth := 30) [execDvfsStep, hK, hs]

@[simp] theorem execDvfsStepEnd_follows {s0 : State} {b : Fin 8} {late : Bool} {s : State} (hK : K .regs = false ∧ K .flt = false ∧ K .pwr = false) (hs : Follows K s0 s) :
    OutFollows K s0 (execDvfsStepEnd b late s) := by
  unfold execDvfsStepEnd
  try refine OutFollows.next.2 ?_
  try first
    | refine State.live_follows ?_ fun x => ?_
    | refine State.receive_follows (hK := by simp [hK]) ?_ fun x => ?_
    | refine State.receiveReq_follows (hK := by simp [hK]) ?_ fun x => ?_
    | refine State.window_follows (hK := by simp [hK]) ?_ fun x => ?_
    | refine State.onBell_follows (hK := by simp [hK]) ?_ fun x => ?_
    | refine State.runOp_follows (hK := by simp [hK]) ?_ fun x => ?_
    | refine State.pitWrite_follows (hK := by simp [hK]) ?_ fun x => ?_
    | refine State.onBit_follows ?_ fun x => ?_
    | refine foldl_follows ?_ fun x => ?_
    | refine foldl_follows_fst ?_ fun x => ?_
  all_goals try dsimp only
  all_goals repeat' split
  all_goals simp (maxDischargeDepth := 30) [hK, hs]

@[simp] theorem State.noRise_follows {s0 : State} {s : State} (hK : K .pwr = false) (hs : Follows K s0 s) :
    Follows K s0 (s.noRise) := by
  simp (maxDischargeDepth := 30) [State.noRise, hK, hs]

@[simp] theorem State.riseLimit_follows {s0 : State} {s : State} (hK : K .pwr = false) (hs : Follows K s0 s) :
    Follows K s0 (s.riseLimit) := by
  simp only [State.riseLimit]
  repeat' split
  all_goals simp (maxDischargeDepth := 30) [*]

@[simp] theorem State.limitPower_follows {s0 : State} {s : State} {peak avg : Nat} (hK : K .regs = false ∧ K .flt = false ∧ K .pwr = false) (hs : Follows K s0 s) :
    Follows K s0 (s.limitPower peak avg) := by
  simp only [State.limitPower]
  repeat' split
  all_goals simp (maxDischargeDepth := 30) [*]

@[simp] theorem execPowerLimitCheck_follows {s0 : State} {peak avg : Nat} {s : State} (hK : K .regs = false ∧ K .flt = false ∧ K .pwr = false) (hs : Follows K s0 s) :
    OutFollows K s0 (execPowerLimitCheck peak avg s) := by
  unfold execPowerLimitCheck
  try refine OutFollows.next.2 ?_
  try first
    | refine State.live_follows ?_ fun x => ?_
    | refine State.receive_follows (hK := by simp [hK]) ?_ fun x => ?_
    | refine State.receiveReq_follows (hK := by simp [hK]) ?_ fun x => ?_
    | refine State.window_follows (hK := by simp [hK]) ?_ fun x => ?_
    | refine State.onBell_follows (hK := by simp [hK]) ?_ fun x => ?_
    | refine State.runOp_follows (hK := by simp [hK]) ?_ fun x => ?_
    | refine State.pitWrite_follows (hK := by simp [hK]) ?_ fun x => ?_
    | refine State.onBit_follows ?_ fun x => ?_
    | refine foldl_follows ?_ fun x => ?_
    | refine foldl_follows_fst ?_ fun x => ?_
  all_goals try dsimp only
  all_goals repeat' split
  all_goals simp (maxDischargeDepth := 30) [hK, hs]

@[simp] theorem State.powerSample_follows {s0 : State} {s : State} {b power filtered : Nat} (hK : K .regs = false ∧ K .canopies = false ∧ K .pwr = false) (hs : Follows K s0 s) :
    Follows K s0 (s.powerSample b power filtered) := by
  simp (maxDischargeDepth := 30) [State.powerSample, hK, hs]

@[simp] theorem execBellPowerSample_follows {s0 : State} {b : Fin 8} {power fine : Nat} {s : State} (hK : K .regs = false ∧ K .canopies = false ∧ K .pwr = false) (hs : Follows K s0 s) :
    OutFollows K s0 (execBellPowerSample b power fine s) := by
  simp (maxDischargeDepth := 30) [execBellPowerSample, hK, hs]

@[simp] theorem State.setRegion_follows {s0 : State} {s : State} {r : Nat} {v : Region} (hK : K .pwr = false) (hs : Follows K s0 s) :
    Follows K s0 (s.setRegion r v) := by
  simp (maxDischargeDepth := 30) [State.setRegion, hK, hs]

@[simp] theorem State.showThrottle_follows {s0 : State} {s : State} {r : Nat} {on : Bool} (hK : K .regs = false ∧ K .flt = false) (hs : Follows K s0 s) :
    Follows K s0 (s.showThrottle r on) := by
  simp (maxDischargeDepth := 30) [State.showThrottle, hK, hs]

@[simp] theorem State.enterThrottle_follows {s0 : State} {s : State} {r : Nat} (hK : K .regs = false ∧ K .flt = false ∧ K .ports = false ∧ K .pwr = false) (hs : Follows K s0 s) :
    Follows K s0 (s.enterThrottle r) := by
  simp (maxDischargeDepth := 30) [State.enterThrottle, hK, hs]

@[simp] theorem State.leaveThrottle_follows {s0 : State} {s : State} {r : Nat} (hK : K .regs = false ∧ K .flt = false ∧ K .ports = false ∧ K .pwr = false) (hs : Follows K s0 s) :
    Follows K s0 (s.leaveThrottle r) := by
  simp (maxDischargeDepth := 30) [State.leaveThrottle, hK, hs]

@[simp] theorem State.regionUpdate_follows {s0 : State} {s : State} {r : Nat} (hK : K .regs = false ∧ K .flt = false ∧ K .ports = false ∧ K .pwr = false) (hs : Follows K s0 s) :
    Follows K s0 (s.regionUpdate r) := by
  simp (maxDischargeDepth := 30) [State.regionUpdate, hK, hs]

@[simp] theorem State.thermalTrip_follows {s0 : State} {s : State} {i : Nat} {reading : Int} (hK : K .regs = false ∧ K .flt = false ∧ K .pole = false ∧ K .dry = false ∧ K .bells = false ∧ K .ports = false ∧ K .slots = false ∧ K .canopies = false ∧ K .time = false ∧ K .pwr = false) (hs : Follows K s0 s) :
    Follows K s0 (s.thermalTrip i reading) := by
  simp (maxDischargeDepth := 30) [State.thermalTrip, hK, hs]

@[simp] theorem State.noteRefresh_follows {s0 : State} {s : State} {b d : Nat} (hK : K .regs = false) (hs : Follows K s0 s) :
    Follows K s0 (s.noteRefresh b d) := by
  simp (maxDischargeDepth := 30) [State.noteRefresh, hK, hs]

@[simp] theorem State.ringTemp_follows {s0 : State} {s : State} {i : Nat} (hK : K .canopies = false) (hs : Follows K s0 s) :
    Follows K s0 (s.ringTemp i) := by
  simp (maxDischargeDepth := 30) [State.ringTemp, hK, hs]

@[simp] theorem State.sampleEffects_follows {s0 : State} {s : State} {i : Nat} (hK : K .regs = false ∧ K .canopies = false ∧ K .seams = false) (hs : Follows K s0 s) :
    Follows K s0 (s.sampleEffects i) := by
  simp (maxDischargeDepth := 30) [State.sampleEffects, hK, hs]

@[simp] theorem State.badSample_follows {s0 : State} {s : State} {k fail : Nat} (hK : K .regs = false ∧ K .flt = false ∧ K .ports = false ∧ K .canopies = false ∧ K .seams = false ∧ K .pwr = false) (hs : Follows K s0 s) :
    Follows K s0 (s.badSample k fail) := by
  simp (maxDischargeDepth := 30) [State.badSample, hK, hs]

@[simp] theorem State.lanternHot_follows {s0 : State} {s : State} {k : Nat} (hK : K .regs = false ∧ K .trn = false ∧ K .flt = false ∧ K .loss = false ∧ K .dry = false ∧ K .ports = false ∧ K .canopies = false) (hs : Follows K s0 s) :
    Follows K s0 (s.lanternHot k) := by
  simp (maxDischargeDepth := 30) [State.lanternHot, hK, hs]

@[simp] theorem State.goodSample_follows {s0 : State} {s : State} {k : Nat} {reading : Int} (hK : K .regs = false ∧ K .trn = false ∧ K .flt = false ∧ K .pole = false ∧ K .loss = false ∧ K .dry = false ∧ K .bells = false ∧ K .ports = false ∧ K .slots = false ∧ K .canopies = false ∧ K .seams = false ∧ K .time = false ∧ K .pwr = false) (hs : Follows K s0 s) :
    Follows K s0 (s.goodSample k reading) := by
  simp (maxDischargeDepth := 30) [State.goodSample, hK, hs]

@[simp] theorem execSensorSample_follows {s0 : State} {i : Fin 608} {reading : Int} {fail : Fin 3} {s : State} (hK : K .regs = false ∧ K .trn = false ∧ K .flt = false ∧ K .pole = false ∧ K .loss = false ∧ K .dry = false ∧ K .bells = false ∧ K .ports = false ∧ K .slots = false ∧ K .canopies = false ∧ K .seams = false ∧ K .time = false ∧ K .pwr = false) (hs : Follows K s0 s) :
    OutFollows K s0 (execSensorSample i reading fail s) := by
  simp (maxDischargeDepth := 30) [execSensorSample, hK, hs]

@[simp] theorem execThrottleStep_follows {s0 : State} {region : Fin 17} {s : State} (hK : K .regs = false ∧ K .flt = false ∧ K .ports = false ∧ K .pwr = false) (hs : Follows K s0 s) :
    OutFollows K s0 (execThrottleStep region s) := by
  simp (maxDischargeDepth := 30) [execThrottleStep, hK, hs]

@[simp] theorem State.crossCheck_follows {s0 : State} {s : State} {die : Nat} (hK : K .regs = false ∧ K .mem = false ∧ K .trn = false ∧ K .jrn = false ∧ K .flt = false ∧ K .loss = false ∧ K .dry = false ∧ K .sec = false ∧ K .bells = false ∧ K .ports = false ∧ K .slots = false ∧ K .canopies = false ∧ K .cross = false ∧ K .pwr = false ∧ K .spillq = false) (hs : Follows K s0 s) :
    Follows K s0 (s.crossCheck die) := by
  simp (maxDischargeDepth := 30) [State.crossCheck, hK, hs]

@[simp] theorem State.thmXcheck_follows {s0 : State} {s : State} {die : Nat} (hK : K .regs = false ∧ K .mem = false ∧ K .trn = false ∧ K .jrn = false ∧ K .flt = false ∧ K .loss = false ∧ K .dry = false ∧ K .sec = false ∧ K .bells = false ∧ K .ports = false ∧ K .slots = false ∧ K .canopies = false ∧ K .cross = false ∧ K .pwr = false ∧ K .spillq = false) (hs : Follows K s0 s) :
    Follows K s0 (s.thmXcheck die) := by
  simp (maxDischargeDepth := 30) [State.thmXcheck, hK, hs]

@[simp] theorem execThmXcheck_follows {s0 : State} {die : Fin 17} {s : State} (hK : K .regs = false ∧ K .mem = false ∧ K .trn = false ∧ K .jrn = false ∧ K .flt = false ∧ K .loss = false ∧ K .dry = false ∧ K .sec = false ∧ K .bells = false ∧ K .ports = false ∧ K .slots = false ∧ K .canopies = false ∧ K .cross = false ∧ K .pwr = false ∧ K .spillq = false) (hs : Follows K s0 s) :
    OutFollows K s0 (execThmXcheck die s) := by
  simp (maxDischargeDepth := 30) [execThmXcheck, hK, hs]

@[simp] theorem State.dryWord_follows {s0 : State} {s : State} {o : Nat} (hs : Follows K s0 s) :
    Follows K s0 (s.dryWord o).2 := by
  simp only [State.dryWord]
  repeat' split
  all_goals simp (maxDischargeDepth := 30) [*]

@[simp] theorem State.readDry_follows {s0 : State} {s : State} (hK : K .regs = false) (hs : Follows K s0 s) :
    Follows K s0 (s.readDry).2 := by
  simp (maxDischargeDepth := 30) [State.readDry, hK, hs]

@[simp] theorem execDryDataRead_follows {s0 : State} {s : State} (hK : K .regs = false) (hs : Follows K s0 s) :
    OutFollows K s0 (execDryDataRead s) := by
  simp (maxDischargeDepth := 30) [execDryDataRead, hK, hs]

@[simp] theorem State.erasePinned_follows {s0 : State} {s : State} (hK : K .regs = false ∧ K .dry = false) (hs : Follows K s0 s) :
    Follows K s0 s.erasePinned := by
  have h1 : Follows K s0 { s with dry := { s.dry with pinned := [] } } := by
    refine hs.step rfl rfl (Fuses.NotBelow.refl _) (fun x => x) (fun x => x) (fun x => x) (fun x => x) (fun _ => Nat.zero_le _) fun p hp => ?_
    cases p <;> first | rfl | simp_all
  simp (maxDischargeDepth := 30) [State.erasePinned, h1, hK]

@[simp] theorem State.eraseRing_follows {s0 : State} {s : State} (hK : K .regs = false ∧ K .dry = false) (hs : Follows K s0 s) :
    Follows K s0 (s.eraseRing) := by
  simp (maxDischargeDepth := 30) [State.eraseRing, hK, hs]

@[simp] theorem execErasePinned_follows {s0 : State} {s : State} (hK : K .regs = false ∧ K .dry = false) (hs : Follows K s0 s) :
    OutFollows K s0 (execErasePinned s) := by
  simp (maxDischargeDepth := 30) [execErasePinned, hK, hs]

@[simp] theorem execEraseRing_follows {s0 : State} {s : State} (hK : K .regs = false ∧ K .dry = false) (hs : Follows K s0 s) :
    OutFollows K s0 (execEraseRing s) := by
  simp (maxDischargeDepth := 30) [execEraseRing, hK, hs]

@[simp] theorem State.setFwSlot_follows {s0 : State} {s : State} {b : Bool} {v : SlotState} (hK : K .sec = false) (hs : Follows K s0 s) :
    Follows K s0 (s.setFwSlot b v) := by
  simp (maxDischargeDepth := 30) [State.setFwSlot, hK, hs]

@[simp] theorem State.bootRecord_follows {s0 : State} {s : State} {slot : Option Bool} {row check : Nat} (hK : K .regs = false ∧ K .dry = false) (hs : Follows K s0 s) :
    Follows K s0 (s.bootRecord slot row check) := by
  simp (maxDischargeDepth := 30) [State.bootRecord, hK, hs]

@[simp] theorem State.updateRecord_follows {s0 : State} {s : State} {slot : Bool} {result : Nat} (hK : K .regs = false ∧ K .dry = false) (hs : Follows K s0 s) :
    Follows K s0 (s.updateRecord slot result) := by
  simp (maxDischargeDepth := 30) [State.updateRecord, hK, hs]

@[simp] theorem State.slotFails_follows {s0 : State} {s : State} {b : Bool} (hK : K .flt = false ∧ K .sec = false) (hs : Follows K s0 s) :
    Follows K s0 (s.slotFails b) := by
  simp (maxDischargeDepth := 30) [State.slotFails, hK, hs]

@[simp] theorem State.runFw_follows {s0 : State} {s : State} {slot : Option Bool} (hK : K .regs = false ∧ K .sec = false) (hs : Follows K s0 s) :
    Follows K s0 (s.runFw slot) := by
  simp only [State.runFw]
  repeat' split
  all_goals simp (maxDischargeDepth := 30) [*]

@[simp] theorem State.bootOther_follows {s0 : State} {s : State} {o : Bool} {first : Nat} (hK : K .regs = false ∧ K .dry = false ∧ K .sec = false) (hs : Follows K s0 s) :
    Follows K s0 (s.bootOther o first) := by
  simp only [State.bootOther]
  repeat' split
  all_goals simp (maxDischargeDepth := 30) [*]

@[simp] theorem State.bootConfirmed_follows {s0 : State} {s : State} {cur trial : Bool} (hK : K .regs = false ∧ K .flt = false ∧ K .dry = false ∧ K .sec = false) (hs : Follows K s0 s) :
    Follows K s0 (s.bootConfirmed cur trial) := by
  simp (maxDischargeDepth := 30) [State.bootConfirmed, hK, hs]

@[simp] theorem State.bootSettled_follows {s0 : State} {s : State} {cur : Bool} (hK : K .regs = false ∧ K .flt = false ∧ K .dry = false ∧ K .sec = false) (hs : Follows K s0 s) :
    Follows K s0 (s.bootSettled cur) := by
  simp (maxDischargeDepth := 30) [State.bootSettled, hK, hs]

@[simp] theorem State.bootPick_follows {s0 : State} {s : State} (hK : K .regs = false ∧ K .flt = false ∧ K .dry = false ∧ K .sec = false) (hs : Follows K s0 s) :
    Follows K s0 (s.bootPick) := by
  simp (maxDischargeDepth := 30) [State.bootPick, hK, hs]

@[simp] theorem State.updateFails_follows {s0 : State} {s : State} (hK : K .regs = false ∧ K .flt = false ∧ K .dry = false ∧ K .sec = false) (hs : Follows K s0 s) :
    Follows K s0 (s.updateFails) := by
  simp only [State.updateFails]
  repeat' split
  all_goals simp (maxDischargeDepth := 30) [*]

@[simp] theorem State.guySend_follows {s0 : State} {s : State} {message : List Byte} (hs : Follows K s0 s) :
    Follows K s0 (s.guySend message) := by
  simp (maxDischargeDepth := 30) [State.guySend, hs]

@[simp] theorem State.fwSend_follows {s0 : State} {s : State} {cmd : Nat} {data : List Byte} (hs : Follows K s0 s) :
    Follows K s0 (s.fwSend cmd data) := by
  simp (maxDischargeDepth := 30) [State.fwSend, hs]

@[simp] theorem State.fwRequest_follows {s0 : State} {s : State} (hs : Follows K s0 s) :
    Follows K s0 (s.fwRequest) := by
  simp only [State.fwRequest]
  repeat' split
  all_goals simp (maxDischargeDepth := 30) [*]

@[simp] theorem State.fwStart_follows {s0 : State} {s : State} {len : Nat} (hK : K .sec = false) (hs : Follows K s0 s) :
    Follows K s0 (s.fwStart len) := by
  simp (maxDischargeDepth := 30) [State.fwStart, hK, hs]

@[simp] theorem State.writeRaw_follows {s0 : State} {s : State} {o : Nat} {l : List Byte} (hK : K .dry = false) (hs : Follows K s0 s) :
    Follows K s0 (s.writeRaw o l) := by
  induction l generalizing s o with
  | nil => exact hs
  | cons v t ih => exact ih (by simp [hK, hs])

@[simp] theorem State.fwData_follows {s0 : State} {s : State} {u : FwUpd} {off : Nat} {bytes : List Byte} (hK : K .dry = false ∧ K .sec = false) (hs : Follows K s0 s) :
    Follows K s0 (s.fwData u off bytes) := by
  unfold State.fwData
  dsimp only
  split
  · exact State.fwRequest_follows (Follows.withSec (by simp [hK]) (State.writeRaw_follows (hK := by simp [hK]) hs))
  · exact hs

@[simp] theorem State.fwComplete_follows {s0 : State} {s : State} {u : FwUpd} (hK : K .regs = false ∧ K .flt = false ∧ K .dry = false ∧ K .sec = false) (hs : Follows K s0 s) :
    Follows K s0 (s.fwComplete u) := by
  simp (maxDischargeDepth := 30) [State.fwComplete, hK, hs]

@[simp] theorem execFirmwareUpdate_follows {s0 : State} {req : FwReq} {s : State} (hK : K .regs = false ∧ K .flt = false ∧ K .dry = false ∧ K .sec = false) (hs : Follows K s0 s) :
    OutFollows K s0 (execFirmwareUpdate req s) := by
  unfold execFirmwareUpdate
  refine OutFollows.next.2 ?_
  split
  · exact hs
  cases req <;> dsimp only
  all_goals repeat' split
  all_goals simp (maxDischargeDepth := 30) [hK, hs, State.writeRaw_follows]

@[simp] theorem State.confirmFw_follows {s0 : State} {s : State} (hK : K .regs = false ∧ K .dry = false ∧ K .sec = false) (hs : Follows K s0 s) :
    Follows K s0 (s.confirmFw) := by
  simp only [State.confirmFw]
  repeat' split
  all_goals simp (maxDischargeDepth := 30) [*]

@[simp] theorem execConfirm_follows {s0 : State} {s : State} (hK : K .regs = false ∧ K .dry = false ∧ K .sec = false) (hs : Follows K s0 s) :
    OutFollows K s0 (execConfirm s) := by
  simp (maxDischargeDepth := 30) [execConfirm, hK, hs]

@[simp] theorem State.abandonFw_follows {s0 : State} {s : State} (hK : K .regs = false ∧ K .dry = false ∧ K .sec = false) (hs : Follows K s0 s) :
    Follows K s0 (s.abandonFw) := by
  simp (maxDischargeDepth := 30) [State.abandonFw, hK, hs]

@[simp] theorem execAbandon_follows {s0 : State} {s : State} (hK : K .regs = false ∧ K .dry = false ∧ K .sec = false) (hs : Follows K s0 s) :
    OutFollows K s0 (execAbandon s) := by
  simp (maxDischargeDepth := 30) [execAbandon, hK, hs]

@[simp] theorem State.setLevel_follows {s0 : State} {s : State} {k : Level} {v : Nat} (hK : K .fuses = false) (hs : Follows K s0 s) (hv : s.level k ≤ v) (hb : v ≤ 64) :
    Follows K s0 (s.setLevel k v) := by
  refine hs.step rfl rfl ?_ ?_ (fun x => x) (fun x => x) (fun x => x) (fun x => x) fun p hp => ?_
  · cases k <;> simp only [State.level] at hv <;> simp [State.setLevel, Fuses.NotBelow, hv]
  · cases k <;> simp [State.setLevel, Fuses.InRange, hb] <;> intros <;> omega
  · cases p <;> first | rfl | simp_all

theorem State.commitRes_rises {s : State} {k : Level} {f : Bool} (h : s.commitRes k f = 1 ∨ s.commitRes k f = 6) : s.level k < s.nextLevel k ∧ s.nextLevel k ≤ 64 := by
  have hb : s.levelBar k = 0 ∨ s.levelBar k = 4 ∨ s.levelBar k = 5 := by
    cases k <;> simp only [State.levelBar] <;> split <;> simp
  simp only [State.commitRes] at h
  repeat' split at h
  all_goals omega

@[simp] theorem State.commit_follows {s0 : State} {s : State} {k : Level} {readBackFails : Bool} (hK : K .regs = false ∧ K .fuses = false ∧ K .flt = false ∧ K .dry = false) (hs : Follows K s0 s) :
    Follows K s0 (s.commit k readBackFails) := by
  unfold State.commit
  refine State.dryEvent_follows (hK := by simp [hK]) (State.setFld_follows (hK := by simp [hK]) ?_)
  split
  · rename_i h
    have := State.commitRes_rises (.inl h)
    exact State.setLevel_follows (hK := by simp [hK]) hs (by omega) (by omega)
  split
  · rename_i h1 h
    have hl := State.commitRes_rises (.inr h)
    have := Nat.mod_lt s.freshNat.1 (show 0 < s.nextLevel k - s.level k by omega)
    have e : s.freshNat.2.level k = s.level k := by cases k <;> rfl
    exact State.pulse_follows (hK := by simp [hK]) (State.setLevel_follows (hK := by simp [hK]) (State.freshNat_follows hs) (by omega) (by omega))
  · exact hs

@[simp] theorem execFwLvlCommit_follows {s0 : State} {readBackFails : Bool} {s : State} (hK : K .regs = false ∧ K .fuses = false ∧ K .flt = false ∧ K .dry = false) (hs : Follows K s0 s) :
    OutFollows K s0 (execFwLvlCommit readBackFails s) := by
  simp (maxDischargeDepth := 30) [execFwLvlCommit, hK, hs]

@[simp] theorem execPitLvlCommit_follows {s0 : State} {readBackFails : Bool} {s : State} (hK : K .regs = false ∧ K .fuses = false ∧ K .flt = false ∧ K .dry = false) (hs : Follows K s0 s) :
    OutFollows K s0 (execPitLvlCommit readBackFails s) := by
  simp (maxDischargeDepth := 30) [execPitLvlCommit, hK, hs]

@[simp] theorem execCertLvlCommit_follows {s0 : State} {readBackFails : Bool} {s : State} (hK : K .regs = false ∧ K .fuses = false ∧ K .flt = false ∧ K .dry = false) (hs : Follows K s0 s) :
    OutFollows K s0 (execCertLvlCommit readBackFails s) := by
  simp (maxDischargeDepth := 30) [execCertLvlCommit, hK, hs]

@[simp] theorem State.answer_follows {s0 : State} {s : State} {cmd status : Nat} {body : List Byte} (hs : Follows K s0 s) :
    Follows K s0 (s.answer cmd status body) := by
  simp (maxDischargeDepth := 30) [State.answer, hs]

@[simp] theorem execGuyBind_follows {s0 : State} {cert : List Byte} {s : State} (hK : K .regs = false ∧ K .fuses = false ∧ K .flt = false ∧ K .dry = false) (hs : Follows K s0 s) :
    OutFollows K s0 (execGuyBind cert s) := by
  unfold execGuyBind
  refine OutFollows.next.2 ?_
  repeat' split
  · exact hs
  · exact State.answer_follows hs
  · rename_i h
    have h1 : Follows K s0 { s with fuses := { s.fuses with bound := true, bindId := certKey cert } } := by
      refine hs.step rfl rfl ?_ (fun x => x) (fun x => x) (fun x => x) (fun x => x) (fun x => x) fun p hp => ?_
      · simp_all [Fuses.NotBelow]
      · cases p <;> first | rfl | simp_all
    simp (maxDischargeDepth := 30) [hK, h1]
  · simp (maxDischargeDepth := 30) [hK, hs]

@[simp] theorem execGuyUnlockNonce_follows {s0 : State} {s : State} (hK : K .sec = false) (hs : Follows K s0 s) :
    OutFollows K s0 (execGuyUnlockNonce s) := by
  simp (maxDischargeDepth := 30) [execGuyUnlockNonce, hK, hs]

@[simp] theorem execGuyUnlock_follows {s0 : State} {token : List Byte} {testMode : Bool} {s : State} (hK : K .regs = false ∧ K .flt = false ∧ K .dry = false ∧ K .sec = false ∧ K .pins = false) (hs : Follows K s0 s) :
    OutFollows K s0 (execGuyUnlock token testMode s) := by
  simp (maxDischargeDepth := 30) [execGuyUnlock, hK, hs]

@[simp] theorem State.warmFields_follows {s0 : State} {s : State} (hK : K .regs = false) (hs : Follows K s0 s) :
    Follows K s0 (s.warmFields) := by
  simp (maxDischargeDepth := 30) [State.warmFields, hK, hs]

@[simp] theorem State.rearmAll_follows {s0 : State} {s : State} (hK : K .regs = false ∧ K .seams = false ∧ K .cross = false) (hs : Follows K s0 s) :
    Follows K s0 (s.rearmAll) := by
  simp (maxDischargeDepth := 30) [State.rearmAll, hK, hs]

@[simp] theorem State.warmReset_follows {s0 : State} {s : State} (hK : K .regs = false ∧ K .trn = false ∧ K .jrn = false ∧ K .loss = false ∧ K .dry = false ∧ K .sec = false ∧ K .bells = false ∧ K .col = false ∧ K .ports = false ∧ K .canopies = false ∧ K .seams = false ∧ K .cross = false ∧ K .clk = false ∧ K .pwr = false ∧ K .spillq = false) (hs : Follows K s0 s) :
    Follows K s0 (s.warmReset) := by
  simp (maxDischargeDepth := 30) [State.warmReset, hK, hs]

@[simp] theorem State.dropPathRegs_follows {s0 : State} {s : State} (hK : K .regs = false) (hs : Follows K s0 s) :
    Follows K s0 s.dropPathRegs := Follows.dropRegs (by simp [hK]) hs rfl

@[simp] theorem State.coldFields_follows {s0 : State} {s : State} {por : Bool} (hK : K .ftc = false ∧ K .trn = false ∧ K .jrn = false ∧ K .pit = false ∧ K .flt = false ∧ K .pole = false ∧ K .loss = false ∧ K .sec = false ∧ K .bells = false ∧ K .col = false ∧ K .ports = false ∧ K .slots = false ∧ K .canopies = false ∧ K .seams = false ∧ K .cross = false ∧ K .time = false ∧ K .clk = false ∧ K .pwr = false ∧ K .spillq = false) (hs : Follows K s0 s) :
    Follows K s0 (s.coldFields por) := by
  refine hs.step rfl rfl (Fuses.NotBelow.refl _) (fun x => x) (fun x => x) (fun x => x) (fun x => ?_) (fun x => x) fun p hp => ?_
  · simpa [State.coldFields] using x
  · cases p <;> first | rfl | simp_all

@[simp] theorem State.coldReset_follows {s0 : State} {s : State} {por : Bool} {req : Nat} (hK : K .ftc = false ∧ K .regs = false ∧ K .trn = false ∧ K .jrn = false ∧ K .pit = false ∧ K .flt = false ∧ K .pole = false ∧ K .loss = false ∧ K .dry = false ∧ K .sec = false ∧ K .bells = false ∧ K .col = false ∧ K .ports = false ∧ K .slots = false ∧ K .canopies = false ∧ K .seams = false ∧ K .cross = false ∧ K .time = false ∧ K .clk = false ∧ K .pwr = false ∧ K .spillq = false) (hs : Follows K s0 s) :
    Follows K s0 (s.coldReset por req) := by
  simp (maxDischargeDepth := 30) [State.coldReset, hK, hs]

@[simp] theorem State.measureHoldup_follows {s0 : State} {s : State} (hK : K .regs = false ∧ K .flt = false) (hs : Follows K s0 s) :
    Follows K s0 (s.measureHoldup) := by
  simp (maxDischargeDepth := 30) [State.measureHoldup, hK, hs]

@[simp] theorem State.startUp_follows {s0 : State} {s : State} (hK : K .regs = false ∧ K .mem = false ∧ K .trn = false ∧ K .jrn = false ∧ K .flt = false ∧ K .pole = false ∧ K .loss = false ∧ K .dry = false ∧ K .sec = false ∧ K .bells = false ∧ K .ports = false ∧ K .slots = false ∧ K .canopies = false ∧ K .cross = false ∧ K .clk = false ∧ K .pwr = false ∧ K .spillq = false) (hs : Follows K s0 s) :
    Follows K s0 (s.startUp) := by
  simp (maxDischargeDepth := 30) [State.startUp, hK, hs]

@[simp] theorem State.pinReset_follows {s0 : State} {s : State} {req : Nat} (hK : K .ftc = false ∧ K .regs = false ∧ K .mem = false ∧ K .trn = false ∧ K .jrn = false ∧ K .pit = false ∧ K .flt = false ∧ K .pole = false ∧ K .loss = false ∧ K .dry = false ∧ K .sec = false ∧ K .bells = false ∧ K .col = false ∧ K .ports = false ∧ K .slots = false ∧ K .canopies = false ∧ K .seams = false ∧ K .cross = false ∧ K .time = false ∧ K .clk = false ∧ K .pwr = false ∧ K .spillq = false) (hs : Follows K s0 s) :
    Follows K s0 (s.pinReset req) := by
  simp (maxDischargeDepth := 30) [State.pinReset, hK, hs]

@[simp] theorem State.powerOnReset_follows {s0 : State} {s : State} {req : Nat} (hK : K .ftc = false ∧ K .regs = false ∧ K .mem = false ∧ K .trn = false ∧ K .jrn = false ∧ K .pit = false ∧ K .flt = false ∧ K .pole = false ∧ K .loss = false ∧ K .dry = false ∧ K .sec = false ∧ K .bells = false ∧ K .col = false ∧ K .ports = false ∧ K .slots = false ∧ K .canopies = false ∧ K .seams = false ∧ K .cross = false ∧ K .time = false ∧ K .clk = false ∧ K .pwr = false ∧ K .spillq = false) (hs : Follows K s0 s) :
    Follows K s0 (s.powerOnReset req) := by
  simp (maxDischargeDepth := 30) [State.powerOnReset, hK, hs]

@[simp] theorem execPinReset_follows {s0 : State} {s : State} (hK : K .ftc = false ∧ K .regs = false ∧ K .mem = false ∧ K .trn = false ∧ K .jrn = false ∧ K .pit = false ∧ K .flt = false ∧ K .pole = false ∧ K .loss = false ∧ K .dry = false ∧ K .sec = false ∧ K .pins = false ∧ K .bells = false ∧ K .col = false ∧ K .ports = false ∧ K .slots = false ∧ K .canopies = false ∧ K .seams = false ∧ K .cross = false ∧ K .time = false ∧ K .clk = false ∧ K .pwr = false ∧ K .spillq = false) (hs : Follows K s0 s) :
    OutFollows K s0 (execPinReset s) := by
  simp (maxDischargeDepth := 30) [execPinReset, hK, hs]

@[simp] theorem execResetNRelease_follows {s0 : State} {s : State} (hK : K .regs = false ∧ K .mem = false ∧ K .trn = false ∧ K .jrn = false ∧ K .flt = false ∧ K .pole = false ∧ K .loss = false ∧ K .dry = false ∧ K .sec = false ∧ K .pins = false ∧ K .bells = false ∧ K .ports = false ∧ K .slots = false ∧ K .canopies = false ∧ K .cross = false ∧ K .clk = false ∧ K .pwr = false ∧ K .spillq = false) (hs : Follows K s0 s) :
    OutFollows K s0 (execResetNRelease s) := by
  simp (maxDischargeDepth := 30) [execResetNRelease, hK, hs]

@[simp] theorem execPowerOnReset_follows {s0 : State} {s : State} (hK : K .ftc = false ∧ K .regs = false ∧ K .mem = false ∧ K .trn = false ∧ K .jrn = false ∧ K .pit = false ∧ K .flt = false ∧ K .pole = false ∧ K .loss = false ∧ K .dry = false ∧ K .sec = false ∧ K .bells = false ∧ K .col = false ∧ K .ports = false ∧ K .slots = false ∧ K .canopies = false ∧ K .seams = false ∧ K .cross = false ∧ K .time = false ∧ K .clk = false ∧ K .pwr = false ∧ K .spillq = false) (hs : Follows K s0 s) :
    OutFollows K s0 (execPowerOnReset s) := by
  simp (maxDischargeDepth := 30) [execPowerOnReset, hK, hs]

@[simp] theorem execSecPinReset_follows {s0 : State} {s : State} (hK : K .ftc = false ∧ K .regs = false ∧ K .mem = false ∧ K .trn = false ∧ K .jrn = false ∧ K .pit = false ∧ K .flt = false ∧ K .pole = false ∧ K .loss = false ∧ K .dry = false ∧ K .sec = false ∧ K .bells = false ∧ K .col = false ∧ K .ports = false ∧ K .slots = false ∧ K .canopies = false ∧ K .seams = false ∧ K .cross = false ∧ K .time = false ∧ K .clk = false ∧ K .pwr = false ∧ K .spillq = false) (hs : Follows K s0 s) :
    OutFollows K s0 (execSecPinReset s) := by
  simp (maxDischargeDepth := 30) [execSecPinReset, hK, hs]

@[simp] theorem execSecPowerOnReset_follows {s0 : State} {s : State} (hK : K .ftc = false ∧ K .regs = false ∧ K .mem = false ∧ K .trn = false ∧ K .jrn = false ∧ K .pit = false ∧ K .flt = false ∧ K .pole = false ∧ K .loss = false ∧ K .dry = false ∧ K .sec = false ∧ K .bells = false ∧ K .col = false ∧ K .ports = false ∧ K .slots = false ∧ K .canopies = false ∧ K .seams = false ∧ K .cross = false ∧ K .time = false ∧ K .clk = false ∧ K .pwr = false ∧ K .spillq = false) (hs : Follows K s0 s) :
    OutFollows K s0 (execSecPowerOnReset s) := by
  simp (maxDischargeDepth := 30) [execSecPowerOnReset, hK, hs]

@[simp] theorem execTestModeFall_follows {s0 : State} {s : State} (hK : K .ftc = false ∧ K .regs = false ∧ K .mem = false ∧ K .trn = false ∧ K .jrn = false ∧ K .pit = false ∧ K .flt = false ∧ K .pole = false ∧ K .loss = false ∧ K .dry = false ∧ K .sec = false ∧ K .pins = false ∧ K .bells = false ∧ K .col = false ∧ K .ports = false ∧ K .slots = false ∧ K .canopies = false ∧ K .seams = false ∧ K .cross = false ∧ K .time = false ∧ K .clk = false ∧ K .pwr = false ∧ K .spillq = false) (hs : Follows K s0 s) :
    OutFollows K s0 (execTestModeFall s) := by
  simp (maxDischargeDepth := 30) [execTestModeFall, hK, hs]

@[simp] theorem execInputQualified_follows {s0 : State} {cv : Nat} {s : State} (hK : K .ftc = false ∧ K .regs = false ∧ K .mem = false ∧ K .trn = false ∧ K .jrn = false ∧ K .pit = false ∧ K .flt = false ∧ K .pole = false ∧ K .loss = false ∧ K .dry = false ∧ K .sec = false ∧ K .bells = false ∧ K .col = false ∧ K .ports = false ∧ K .slots = false ∧ K .canopies = false ∧ K .seams = false ∧ K .cross = false ∧ K .time = false ∧ K .clk = false ∧ K .pwr = false ∧ K .spillq = false) (hs : Follows K s0 s) :
    OutFollows K s0 (execInputQualified cv s) := by
  simp (maxDischargeDepth := 30) [execInputQualified, hK, hs]

@[simp] theorem execAlwaysOnPowerUp_follows {s0 : State} {gaddr : Fin 8} {s : State} (hK : K .regs = false ∧ K .pins = false ∧ K .pwr = false) (hs : Follows K s0 s) :
    OutFollows K s0 (execAlwaysOnPowerUp gaddr s) := by
  simp (maxDischargeDepth := 30) [execAlwaysOnPowerUp, hK, hs]

@[simp] theorem State.thmRelease_follows {s0 : State} {s : State} (hK : K .ftc = false ∧ K .regs = false ∧ K .mem = false ∧ K .trn = false ∧ K .jrn = false ∧ K .pit = false ∧ K .flt = false ∧ K .pole = false ∧ K .loss = false ∧ K .dry = false ∧ K .sec = false ∧ K .bells = false ∧ K .col = false ∧ K .ports = false ∧ K .slots = false ∧ K .canopies = false ∧ K .seams = false ∧ K .cross = false ∧ K .time = false ∧ K .clk = false ∧ K .pwr = false ∧ K .spillq = false) (hs : Follows K s0 s) :
    Follows K s0 (s.thmRelease) := by
  simp (maxDischargeDepth := 30) [State.thmRelease, hK, hs]

@[simp] theorem execThmRelease_follows {s0 : State} {s : State} (hK : K .ftc = false ∧ K .regs = false ∧ K .mem = false ∧ K .trn = false ∧ K .jrn = false ∧ K .pit = false ∧ K .flt = false ∧ K .pole = false ∧ K .loss = false ∧ K .dry = false ∧ K .sec = false ∧ K .bells = false ∧ K .col = false ∧ K .ports = false ∧ K .slots = false ∧ K .canopies = false ∧ K .seams = false ∧ K .cross = false ∧ K .time = false ∧ K .clk = false ∧ K .pwr = false ∧ K .spillq = false) (hs : Follows K s0 s) :
    OutFollows K s0 (execThmRelease s) := by
  simp (maxDischargeDepth := 30) [execThmRelease, hK, hs]

@[simp] theorem State.strapRead_follows {s0 : State} {s : State} {b v : Nat} {form : Bool} (hK : K .regs = false) (hs : Follows K s0 s) :
    Follows K s0 (s.strapRead b v form) := by
  simp (maxDischargeDepth := 30) [State.strapRead, hK, hs]

@[simp] theorem State.bellReleased_follows {s0 : State} {s : State} {b : Nat} {x : BellSt} (hK : K .regs = false ∧ K .mem = false ∧ K .trn = false ∧ K .jrn = false ∧ K .flt = false ∧ K .loss = false ∧ K .dry = false ∧ K .sec = false ∧ K .bells = false ∧ K .ports = false ∧ K .slots = false ∧ K .canopies = false ∧ K .cross = false ∧ K .pwr = false ∧ K .spillq = false) (hs : Follows K s0 s) :
    Follows K s0 (s.bellReleased b x) := by
  simp (maxDischargeDepth := 30) [State.bellReleased, hK, hs]

@[simp] theorem execBellResetRelease_follows {s0 : State} {b : Fin 8} {bstrap : Fin 16} {form : Bool} {s : State} (hK : K .regs = false ∧ K .mem = false ∧ K .trn = false ∧ K .jrn = false ∧ K .flt = false ∧ K .loss = false ∧ K .dry = false ∧ K .sec = false ∧ K .bells = false ∧ K .ports = false ∧ K .slots = false ∧ K .canopies = false ∧ K .cross = false ∧ K .pwr = false ∧ K .spillq = false) (hs : Follows K s0 s) :
    OutFollows K s0 (execBellResetRelease b bstrap form s) := by
  simp (maxDischargeDepth := 30) [execBellResetRelease, hK, hs]

end Sys2Proof.Machine
end

