-- ==== Sys2Proof/Laws/FollowsControl.lean ====
section
/-!
SUPPORT. What the relation of Laws/Follows.lean says of the Pitch image, the loss of a unit, the bridge and the registers.
-/

set_option linter.all false
set_option Elab.async false

namespace Sys2Proof.Machine

open Sys2Proof

variable {K : Piece → Bool}

@[simp] theorem State.setShadow_follows {s0 : State} {s : State} {v : Shadow} (hK : K .regs = false ∧ K .pit = false) (hs : Follows K s0 s) :
    Follows K s0 (s.setShadow v) := by
  simp (maxDischargeDepth := 30) [State.setShadow, hK, hs]

@[simp] theorem State.pitCode_follows {s0 : State} {s : State} {c : Nat} (hK : K .regs = false) (hs : Follows K s0 s) :
    Follows K s0 (s.pitCode c) := by
  simp (maxDischargeDepth := 30) [State.pitCode, hK, hs]

@[simp] theorem State.pitWrite_follows {s0 : State} {s : State} {guy : Bool} {k : State → State} (hK : K .regs = false) (hs : Follows K s0 s) (hk : ∀ x0, Follows K x0 (k x0)) :
    Follows K s0 (s.pitWrite guy k) := by
  unfold State.pitWrite
  dsimp only
  repeat' split
  · exact hs
  · exact State.pitCode_follows (hK := by simp [hK]) hs
  · exact hs.trans (hk s)

@[simp] theorem State.dropVerify_follows {s0 : State} {s : State} (hK : K .trn = false ∧ K .pit = false) (hs : Follows K s0 s) :
    Follows K s0 (s.dropVerify) := by
  simp (maxDischargeDepth := 30) [State.dropVerify, hK, hs]

@[simp] theorem State.openShadow_follows {s0 : State} {s : State} {guy : Bool} (hK : K .regs = false ∧ K .trn = false ∧ K .pit = false) (hs : Follows K s0 s) :
    Follows K s0 (s.openShadow guy) := by
  simp (maxDischargeDepth := 30) [State.openShadow, hK, hs]

@[simp] theorem execOpenShadow_follows {s0 : State} {guy : Bool} {s : State} (hK : K .regs = false ∧ K .trn = false ∧ K .pit = false) (hs : Follows K s0 s) :
    OutFollows K s0 (execOpenShadow guy s) := by
  simp (maxDischargeDepth := 30) [execOpenShadow, hK, hs]

@[simp] theorem State.shadowData_follows {s0 : State} {s : State} {guy : Bool} {data : Nat} (hK : K .regs = false ∧ K .pit = false) (hs : Follows K s0 s) :
    Follows K s0 (s.shadowData guy data) := by
  simp (maxDischargeDepth := 30) [State.shadowData, hK, hs]

@[simp] theorem execShadowDataWrite_follows {s0 : State} {guy : Bool} {data : BitVec 32} {s : State} (hK : K .regs = false ∧ K .pit = false) (hs : Follows K s0 s) :
    OutFollows K s0 (execShadowDataWrite guy data s) := by
  simp (maxDischargeDepth := 30) [execShadowDataWrite, hK, hs]

@[simp] theorem State.queryPeer_follows {s0 : State} {s : State} {i : Nat} (hK : K .regs = false ∧ K .trn = false ∧ K .flt = false ∧ K .ports = false) (hs : Follows K s0 s) :
    Follows K s0 (s.queryPeer i) := by
  simp only [State.queryPeer]
  repeat' split
  all_goals simp (maxDischargeDepth := 30) [*]

@[simp] theorem State.startVerify_follows {s0 : State} {s : State} {guy : Bool} (hK : K .regs = false ∧ K .trn = false ∧ K .pit = false ∧ K .flt = false ∧ K .ports = false) (hs : Follows K s0 s) :
    Follows K s0 (s.startVerify guy) := by
  unfold State.startVerify
  try refine OutFollows.next.2 ?_
  try first
    | refine State.live_follows ?_ fun x => ?_
    | refine State.receive_follows (hK := by simp [hK]) ?_ fun x => ?_
    | refine State.receiveReq_follows (hK := by simp [hK]) ?_ fun x => ?_
    | refine State.window_follows (hK := by simp [hK]) ?_ fun x => ?_
    | refine State.onBell_follows (hK := by simp [hK]) ?_ fun x => ?_
    | refine State.runOp_follows (hK := by simp [hK]) ?_ fun x => ?_
    | refine State.pitWrite_follows (hK := by simp [hK]) ?_ fun x => ?_
    | refine State.onBit_follows ?_ fun x => ?_
    | refine foldl_follows ?_ fun x => ?_
    | refine foldl_follows_fst ?_ fun x => ?_
  all_goals try dsimp only
  all_goals repeat' split
  all_goals simp (maxDischargeDepth := 30) [hK, hs]

@[simp] theorem execVerify_follows {s0 : State} {guy : Bool} {s : State} (hK : K .regs = false ∧ K .trn = false ∧ K .pit = false ∧ K .flt = false ∧ K .ports = false) (hs : Follows K s0 s) :
    OutFollows K s0 (execVerify guy s) := by
  simp (maxDischargeDepth := 30) [execVerify, hK, hs]

@[simp] theorem State.noteShort_follows {s0 : State} {s : State} {r : VerRes} (hK : K .regs = false) (hs : Follows K s0 s) :
    Follows K s0 (s.noteShort r) := by
  simp (maxDischargeDepth := 30) [State.noteShort, hK, hs]

@[simp] theorem State.endVerify_follows {s0 : State} {s : State} {r : VerRes} (hK : K .regs = false ∧ K .trn = false ∧ K .pit = false) (hs : Follows K s0 s) :
    Follows K s0 (s.endVerify r) := by
  simp only [State.endVerify]
  repeat' split
  all_goals simp (maxDischargeDepth := 30) [*]

@[simp] theorem execVerifyDone_follows {s0 : State} {s : State} (hK : K .regs = false ∧ K .trn = false ∧ K .pit = false) (hs : Follows K s0 s) :
    OutFollows K s0 (execVerifyDone s) := by
  simp only [execVerifyDone]
  repeat' split
  all_goals simp (maxDischargeDepth := 30) [*]

@[simp] theorem State.peerReady_follows {s0 : State} {s : State} {i : Nat} (hK : K .pit = false) (hs : Follows K s0 s) :
    Follows K s0 (s.peerReady i) := by
  simp (maxDischargeDepth := 30) [State.peerReady, hK, hs]

@[simp] theorem State.peerAnswer_follows {s0 : State} {s : State} {i : Nat} {body : List Byte} (hK : K .regs = false ∧ K .trn = false ∧ K .pit = false ∧ K .flt = false ∧ K .ports = false) (hs : Follows K s0 s) :
    Follows K s0 (s.peerAnswer i body) := by
  simp (maxDischargeDepth := 30) [State.peerAnswer, hK, hs]

@[simp] theorem execPeerWaitTimeout_follows {s0 : State} {ext : Nat} {s : State} (hK : K .pit = false) (hs : Follows K s0 s) :
    OutFollows K s0 (execPeerWaitTimeout ext s) := by
  simp (maxDischargeDepth := 30) [execPeerWaitTimeout, hK, hs]

@[simp] theorem execPitchQueryMsg_follows {s0 : State} {src : Entry} {raw : List Byte} {s : State} (hK : K .regs = false ∧ K .trn = false ∧ K .flt = false ∧ K .ports = false) (hs : Follows K s0 s) :
    OutFollows K s0 (execPitchQueryMsg src raw s) := by
  simp (maxDischargeDepth := 30) [execPitchQueryMsg, hK, hs]

@[simp] theorem State.dropShadow_follows {s0 : State} {s : State} {guy : Bool} (hK : K .regs = false ∧ K .trn = false ∧ K .pit = false) (hs : Follows K s0 s) :
    Follows K s0 (s.dropShadow guy) := by
  simp (maxDischargeDepth := 30) [State.dropShadow, hK, hs]

@[simp] theorem execDrop_follows {s0 : State} {guy : Bool} {s : State} (hK : K .regs = false ∧ K .trn = false ∧ K .pit = false) (hs : Follows K s0 s) :
    OutFollows K s0 (execDrop guy s) := by
  simp (maxDischargeDepth := 30) [execDrop, hK, hs]

@[simp] theorem State.armFull_follows {s0 : State} {s : State} {guy : Bool} (hK : K .regs = false ∧ K .pit = false) (hs : Follows K s0 s) :
    Follows K s0 (s.armFull guy) := by
  simp (maxDischargeDepth := 30) [State.armFull, hK, hs]

@[simp] theorem execArm_follows {s0 : State} {guy : Bool} {s : State} (hK : K .regs = false ∧ K .pit = false) (hs : Follows K s0 s) :
    OutFollows K s0 (execArm guy s) := by
  simp (maxDischargeDepth := 30) [execArm, hK, hs]

@[simp] theorem State.disarmFull_follows {s0 : State} {s : State} {guy : Bool} (hK : K .regs = false ∧ K .pit = false) (hs : Follows K s0 s) :
    Follows K s0 (s.disarmFull guy) := by
  simp (maxDischargeDepth := 30) [State.disarmFull, hK, hs]

@[simp] theorem execDisarm_follows {s0 : State} {guy : Bool} {s : State} (hK : K .regs = false ∧ K .pit = false) (hs : Follows K s0 s) :
    OutFollows K s0 (execDisarm guy s) := by
  simp (maxDischargeDepth := 30) [execDisarm, hK, hs]

@[simp] theorem State.showImage_follows {s0 : State} {s : State} {delta : Nat} (hK : K .regs = false) (hs : Follows K s0 s) :
    Follows K s0 (s.showImage delta) := by
  simp (maxDischargeDepth := 30) [State.showImage, hK, hs]

@[simp] theorem State.announce_follows {s0 : State} {s : State} (hK : K .regs = false ∧ K .trn = false ∧ K .flt = false ∧ K .loss = false ∧ K .ports = false) (hs : Follows K s0 s) :
    Follows K s0 (s.announce) := by
  simp (maxDischargeDepth := 30) [State.announce, hK, hs]

@[simp] theorem State.swapImage_follows {s0 : State} {s : State} (hK : K .regs = false ∧ K .trn = false ∧ K .jrn = false ∧ K .pit = false ∧ K .flt = false ∧ K .loss = false ∧ K .dry = false ∧ K .sec = false ∧ K .bells = false ∧ K .col = false ∧ K .ports = false ∧ K .canopies = false ∧ K .seams = false ∧ K .cross = false ∧ K .clk = false ∧ K .pwr = false ∧ K .spillq = false) (hs : Follows K s0 s) :
    Follows K s0 s.swapImage := by
  unfold State.swapImage
  refine State.setFld_follows (hK := by simp [hK]) (State.announce_follows (hK := by simp [hK]) (State.setFld_follows (hK := by simp [hK]) (State.setFld_follows (hK := by simp [hK]) (State.setFld_follows (hK := by simp [hK]) (State.warmReset_follows (hK := by simp [hK]) ?_)))))
  simp (maxDischargeDepth := 30) [hK, hs]

@[simp] theorem execFullActivation_follows {s0 : State} {s : State} (hK : K .regs = false ∧ K .trn = false ∧ K .jrn = false ∧ K .pit = false ∧ K .flt = false ∧ K .loss = false ∧ K .dry = false ∧ K .sec = false ∧ K .bells = false ∧ K .col = false ∧ K .ports = false ∧ K .canopies = false ∧ K .seams = false ∧ K .cross = false ∧ K .clk = false ∧ K .pwr = false ∧ K .spillq = false) (hs : Follows K s0 s) :
    OutFollows K s0 (execFullActivation s) := by
  unfold execFullActivation
  try refine OutFollows.next.2 ?_
  try first
    | refine State.live_follows ?_ fun x => ?_
    | refine State.receive_follows (hK := by simp [hK]) ?_ fun x => ?_
    | refine State.receiveReq_follows (hK := by simp [hK]) ?_ fun x => ?_
    | refine State.window_follows (hK := by simp [hK]) ?_ fun x => ?_
    | refine State.onBell_follows (hK := by simp [hK]) ?_ fun x => ?_
    | refine State.runOp_follows (hK := by simp [hK]) ?_ fun x => ?_
    | refine State.pitWrite_follows (hK := by simp [hK]) ?_ fun x => ?_
    | refine State.onBit_follows ?_ fun x => ?_
    | refine foldl_follows ?_ fun x => ?_
    | refine foldl_follows_fst ?_ fun x => ?_
  all_goals try dsimp only
  all_goals repeat' split
  all_goals simp (maxDischargeDepth := 30) [hK, hs]

@[simp] theorem State.armRemap_follows {s0 : State} {s : State} {n : Nat} (hK : K .regs = false ∧ K .pit = false ∧ K .flt = false) (hs : Follows K s0 s) :
    Follows K s0 (s.armRemap n) := by
  simp only [State.armRemap]
  repeat' split
  all_goals simp (maxDischargeDepth := 30) [*]

@[simp] theorem execRemapArm_follows {s0 : State} {_guy : Bool} {delta : Fin 16} {s : State} (hK : K .regs = false ∧ K .pit = false ∧ K .flt = false) (hs : Follows K s0 s) :
    OutFollows K s0 (execRemapArm _guy delta s) := by
  simp (maxDischargeDepth := 30) [execRemapArm, hK, hs]

@[simp] theorem State.clearRemap_follows {s0 : State} {s : State} (hK : K .regs = false ∧ K .pit = false) (hs : Follows K s0 s) :
    Follows K s0 (s.clearRemap) := by
  simp (maxDischargeDepth := 30) [State.clearRemap, hK, hs]

@[simp] theorem State.disarmRemap_follows {s0 : State} {s : State} {n : Nat} (hK : K .regs = false ∧ K .pit = false) (hs : Follows K s0 s) :
    Follows K s0 (s.disarmRemap n) := by
  simp only [State.disarmRemap]
  repeat' split
  all_goals simp (maxDischargeDepth := 30) [*]

@[simp] theorem execRemapDisarm_follows {s0 : State} {_guy : Bool} {delta : Fin 16} {s : State} (hK : K .regs = false ∧ K .pit = false) (hs : Follows K s0 s) :
    OutFollows K s0 (execRemapDisarm _guy delta s) := by
  simp (maxDischargeDepth := 30) [execRemapDisarm, hK, hs]

@[simp] theorem State.newNeighbours_follows {s0 : State} {s : State} {d : Delta} (hK : K .regs = false ∧ K .trn = false ∧ K .jrn = false ∧ K .flt = false ∧ K .ports = false) (hs : Follows K s0 s) :
    Follows K s0 (s.newNeighbours d) := by
  simp (maxDischargeDepth := 30) [State.newNeighbours, hK, hs]

@[simp] theorem State.applyRemap_follows {s0 : State} {s : State} {d : Delta} {st : Store} {tick : Nat} (hK : K .regs = false ∧ K .mem = false ∧ K .trn = false ∧ K .jrn = false ∧ K .pit = false ∧ K .flt = false ∧ K .loss = false ∧ K .dry = false ∧ K .bells = false ∧ K .col = false ∧ K .ports = false ∧ K .canopies = false) (hs : Follows K s0 s) :
    Follows K s0 (s.applyRemap d st tick) := by
  simp (maxDischargeDepth := 30) [State.applyRemap, hK, hs]

@[simp] theorem execRemapActivation_follows {s0 : State} {s : State} (hK : K .regs = false ∧ K .mem = false ∧ K .trn = false ∧ K .jrn = false ∧ K .pit = false ∧ K .flt = false ∧ K .loss = false ∧ K .dry = false ∧ K .bells = false ∧ K .col = false ∧ K .ports = false ∧ K .canopies = false) (hs : Follows K s0 s) :
    OutFollows K s0 (execRemapActivation s) := by
  unfold execRemapActivation
  try refine OutFollows.next.2 ?_
  try first
    | refine State.live_follows ?_ fun x => ?_
    | refine State.receive_follows (hK := by simp [hK]) ?_ fun x => ?_
    | refine State.receiveReq_follows (hK := by simp [hK]) ?_ fun x => ?_
    | refine State.window_follows (hK := by simp [hK]) ?_ fun x => ?_
    | refine State.onBell_follows (hK := by simp [hK]) ?_ fun x => ?_
    | refine State.runOp_follows (hK := by simp [hK]) ?_ fun x => ?_
    | refine State.pitWrite_follows (hK := by simp [hK]) ?_ fun x => ?_
    | refine State.onBit_follows ?_ fun x => ?_
    | refine foldl_follows ?_ fun x => ?_
    | refine foldl_follows_fst ?_ fun x => ?_
  all_goals try dsimp only
  all_goals repeat' split
  all_goals simp (maxDischargeDepth := 30) [hK, hs]

@[simp] theorem State.liveWrite_follows {s0 : State} {s : State} {data : Nat} (hK : K .regs = false ∧ K .pit = false) (hs : Follows K s0 s) :
    Follows K s0 (s.liveWrite data) := by
  simp only [State.liveWrite]
  repeat' split
  all_goals simp (maxDischargeDepth := 30) [*]

@[simp] theorem execLiveWrite_follows {s0 : State} {data : BitVec 32} {s : State} (hK : K .regs = false ∧ K .pit = false) (hs : Follows K s0 s) :
    OutFollows K s0 (execLiveWrite data s) := by
  simp (maxDischargeDepth := 30) [execLiveWrite, hK, hs]

@[simp] theorem execLiveApply_follows {s0 : State} {s : State} (hK : K .regs = false ∧ K .pit = false) (hs : Follows K s0 s) :
    OutFollows K s0 (execLiveApply s) := by
  simp (maxDischargeDepth := 30) [execLiveApply, hK, hs]

@[simp] theorem State.castReg_follows {s0 : State} {s : State} {a data : Nat} (hK : K .regs = false ∧ K .trn = false ∧ K .flt = false ∧ K .ports = false) (hs : Follows K s0 s) :
    Follows K s0 (s.castReg a data) := by
  simp (maxDischargeDepth := 30) [State.castReg, hK, hs]

@[simp] theorem State.probe_follows {s0 : State} {s : State} {n : Nat} (hK : K .regs = false ∧ K .trn = false ∧ K .flt = false ∧ K .loss = false ∧ K .ports = false) (hs : Follows K s0 s) :
    Follows K s0 (s.probe n) := by
  simp (maxDischargeDepth := 30) [State.probe, hK, hs]

@[simp] theorem execBuddyProbe_follows {s0 : State} {s : State} (hK : K .regs = false ∧ K .trn = false ∧ K .flt = false ∧ K .loss = false ∧ K .ports = false) (hs : Follows K s0 s) :
    OutFollows K s0 (execBuddyProbe s) := by
  simp (maxDischargeDepth := 30) [execBuddyProbe, hK, hs]

@[simp] theorem State.probeAnswered_follows {s0 : State} {s : State} {n : Nat} (hK : K .loss = false) (hs : Follows K s0 s) :
    Follows K s0 (s.probeAnswered n) := by
  simp (maxDischargeDepth := 30) [State.probeAnswered, hK, hs]

@[simp] theorem execRingIsolation_follows {s0 : State} {s : State} (hK : K .regs = false ∧ K .flt = false ∧ K .dry = false ∧ K .ports = false) (hs : Follows K s0 s) :
    OutFollows K s0 (execRingIsolation s) := by
  simp (maxDischargeDepth := 30) [execRingIsolation, hK, hs]

@[simp] theorem State.pullNext_follows {s0 : State} {s : State} (hK : K .regs = false ∧ K .trn = false ∧ K .flt = false ∧ K .ports = false) (hs : Follows K s0 s) :
    Follows K s0 (s.pullNext) := by
  simp only [State.pullNext]
  repeat' split
  all_goals simp (maxDischargeDepth := 30) [*]

@[simp] theorem State.reloadAnswer_follows {s0 : State} {s : State} {data : List Byte} (hK : K .regs = false ∧ K .mem = false ∧ K .trn = false ∧ K .flt = false ∧ K .loss = false ∧ K .ports = false) (hs : Follows K s0 s) :
    Follows K s0 (s.reloadAnswer data) := by
  simp only [State.reloadAnswer]
  repeat' split
  all_goals simp (maxDischargeDepth := 30) [*]

@[simp] theorem State.startReload_follows {s0 : State} {s : State} {node die : Nat} (hK : K .regs = false ∧ K .trn = false ∧ K .flt = false ∧ K .loss = false ∧ K .ports = false) (hs : Follows K s0 s) :
    Follows K s0 (s.startReload node die) := by
  simp only [State.startReload]
  repeat' split
  all_goals simp (maxDischargeDepth := 30) [*]

@[simp] theorem State.loseUnmirrored_follows {s0 : State} {s : State} {hit : Stream → Bool} (hK : K .jrn = false) (hs : Follows K s0 s) :
    Follows K s0 (s.loseUnmirrored hit) := by
  simp (maxDischargeDepth := 30) [State.loseUnmirrored, hK, hs]

@[simp] theorem State.lostUnit_follows {s0 : State} {s : State} {data : Nat} (hK : K .regs = false ∧ K .trn = false ∧ K .jrn = false ∧ K .flt = false ∧ K .loss = false ∧ K .dry = false ∧ K .ports = false) (hs : Follows K s0 s) :
    Follows K s0 (s.lostUnit data) := by
  simp (maxDischargeDepth := 30) [State.lostUnit, hK, hs]

@[simp] theorem execLostUnitWrite_follows {s0 : State} {_src : Entry} {pole : Bool} {data : BitVec 32} {s : State} (hK : K .regs = false ∧ K .trn = false ∧ K .jrn = false ∧ K .flt = false ∧ K .loss = false ∧ K .dry = false ∧ K .ports = false) (hs : Follows K s0 s) :
    OutFollows K s0 (execLostUnitWrite _src pole data s) := by
  simp (maxDischargeDepth := 30) [execLostUnitWrite, hK, hs]

@[simp] theorem State.declareLost_follows {s0 : State} {s : State} {node die : Nat} (hK : K .regs = false ∧ K .trn = false ∧ K .jrn = false ∧ K .flt = false ∧ K .loss = false ∧ K .dry = false ∧ K .ports = false) (hs : Follows K s0 s) :
    Follows K s0 (s.declareLost node die) := by
  simp (maxDischargeDepth := 30) [State.declareLost, hK, hs]

@[simp] theorem execUnitLostDeclare_follows {s0 : State} {die : Fin 9} {s : State} (hK : K .regs = false ∧ K .trn = false ∧ K .jrn = false ∧ K .flt = false ∧ K .loss = false ∧ K .dry = false ∧ K .ports = false) (hs : Follows K s0 s) :
    OutFollows K s0 (execUnitLostDeclare die s) := by
  simp (maxDischargeDepth := 30) [execUnitLostDeclare, hK, hs]

@[simp] theorem State.reloadDone_follows {s0 : State} {s : State} (hK : K .regs = false ∧ K .loss = false) (hs : Follows K s0 s) :
    Follows K s0 (s.reloadDone) := by
  simp (maxDischargeDepth := 30) [State.reloadDone, hK, hs]

@[simp] theorem execReloadDone_follows {s0 : State} {s : State} (hK : K .regs = false ∧ K .loss = false) (hs : Follows K s0 s) :
    OutFollows K s0 (execReloadDone s) := by
  simp (maxDischargeDepth := 30) [execReloadDone, hK, hs]

@[simp] theorem execReloadComplete_follows {s0 : State} {s : State} (hK : K .regs = false ∧ K .trn = false ∧ K .pit = false ∧ K .flt = false ∧ K .ports = false) (hs : Follows K s0 s) :
    OutFollows K s0 (execReloadComplete s) := by
  simp (maxDischargeDepth := 30) [execReloadComplete, hK, hs]

@[simp] theorem execAdoptWithoutRemap_follows {s0 : State} {s : State} (hK : K .regs = false ∧ K .trn = false ∧ K .jrn = false ∧ K .flt = false ∧ K .loss = false ∧ K .ports = false) (hs : Follows K s0 s) :
    OutFollows K s0 (execAdoptWithoutRemap s) := by
  unfold execAdoptWithoutRemap
  try refine OutFollows.next.2 ?_
  try first
    | refine State.live_follows ?_ fun x => ?_
    | refine State.receive_follows (hK := by simp [hK]) ?_ fun x => ?_
    | refine State.receiveReq_follows (hK := by simp [hK]) ?_ fun x => ?_
    | refine State.window_follows (hK := by simp [hK]) ?_ fun x => ?_
    | refine State.onBell_follows (hK := by simp [hK]) ?_ fun x => ?_
    | refine State.runOp_follows (hK := by simp [hK]) ?_ fun x => ?_
    | refine State.pitWrite_follows (hK := by simp [hK]) ?_ fun x => ?_
    | refine State.onBit_follows ?_ fun x => ?_
    | refine foldl_follows ?_ fun x => ?_
    | refine foldl_follows_fst ?_ fun x => ?_
  all_goals try dsimp only
  all_goals repeat' split
  all_goals simp (maxDischargeDepth := 30) [hK, hs]

@[simp] theorem State.ethDrop_follows {s0 : State} {s : State} (hK : K .regs = false) (hs : Follows K s0 s) :
    Follows K s0 (s.ethDrop) := by
  simp (maxDischargeDepth := 30) [State.ethDrop, hK, hs]

@[simp] theorem State.letIn_follows {s0 : State} {s : State} {p : Fin 32} {m : Msg} (hK : K .regs = false ∧ K .trn = false ∧ K .flt = false ∧ K .ports = false) (hs : Follows K s0 s) :
    Follows K s0 (s.letIn p m) := by
  simp (maxDischargeDepth := 30) [State.letIn, hK, hs]

@[simp] theorem State.hostMessage_follows {s0 : State} {s : State} {p : Fin 32} {from_ : Binding} {m0 : Msg} (hK : K .regs = false ∧ K .trn = false ∧ K .flt = false ∧ K .ports = false) (hs : Follows K s0 s) :
    Follows K s0 (s.hostMessage p from_ m0) := by
  simp (maxDischargeDepth := 30) [State.hostMessage, hK, hs]

@[simp] theorem State.udpFrame_follows {s0 : State} {s : State} {p : Fin 32} {f : Frame} (hK : K .regs = false ∧ K .trn = false ∧ K .flt = false ∧ K .ports = false) (hs : Follows K s0 s) :
    Follows K s0 (s.udpFrame p f) := by
  simp only [State.udpFrame]
  repeat' split
  all_goals simp (maxDischargeDepth := 30) [*]

@[simp] theorem State.advertise_follows {s0 : State} {s : State} {p i : Nat} {f : Frame} (hs : Follows K s0 s) :
    Follows K s0 (s.advertise p i f) := by
  simp (maxDischargeDepth := 30) [State.advertise, hs]

@[simp] theorem State.resolved_follows {s0 : State} {s : State} {p i a mac : Nat} (hK : K .trn = false) (hs : Follows K s0 s) :
    Follows K s0 (s.resolved p i a mac) := by
  simp (maxDischargeDepth := 30) [State.resolved, hK, hs]

@[simp] theorem State.echo_follows {s0 : State} {s : State} {p i : Nat} {f : Frame} (hs : Follows K s0 s) :
    Follows K s0 (s.echo p i f) := by
  simp (maxDischargeDepth := 30) [State.echo, hs]

@[simp] theorem State.frameIn_follows {s0 : State} {s : State} {p : Fin 32} {i : Nat} {bytes : List Byte} (hK : K .regs = false ∧ K .trn = false ∧ K .flt = false ∧ K .ports = false) (hs : Follows K s0 s) :
    Follows K s0 (s.frameIn p i bytes) := by
  simp only [State.frameIn]
  repeat' split
  all_goals simp (maxDischargeDepth := 30) [*]

@[simp] theorem execEthFrame_follows {s0 : State} {p : Fin 32} {inst : Fin 2} {frame : List Byte} {s : State} (hK : K .regs = false ∧ K .trn = false ∧ K .flt = false ∧ K .ports = false) (hs : Follows K s0 s) :
    OutFollows K s0 (execEthFrame p inst frame s) := by
  simp (maxDischargeDepth := 30) [execEthFrame, hK, hs]

@[simp] theorem execNeighborSolicitation_follows {s0 : State} {p : Fin 32} {inst : Fin 2} {frame : List Byte} {s : State} (hK : K .regs = false ∧ K .trn = false ∧ K .flt = false ∧ K .ports = false) (hs : Follows K s0 s) :
    OutFollows K s0 (execNeighborSolicitation p inst frame s) := by
  simp (maxDischargeDepth := 30) [execNeighborSolicitation, hK, hs]

@[simp] theorem execEchoRequest_follows {s0 : State} {p : Fin 32} {inst : Fin 2} {frame : List Byte} {s : State} (hK : K .regs = false ∧ K .trn = false ∧ K .flt = false ∧ K .ports = false) (hs : Follows K s0 s) :
    OutFollows K s0 (execEchoRequest p inst frame s) := by
  simp (maxDischargeDepth := 30) [execEchoRequest, hK, hs]

@[simp] theorem execEthernetPcsLock_follows {s0 : State} {p : Fin 32} {inst : Fin 2} {up : Bool} {s : State} (hK : K .ports = false) (hs : Follows K s0 s) :
    OutFollows K s0 (execEthernetPcsLock p inst up s) := by
  simp (maxDischargeDepth := 30) [execEthernetPcsLock, hK, hs]

@[simp] theorem State.readReg_follows {s0 : State} {s : State} {guy : Bool} {a : Nat} (hK : K .regs = false ∧ K .time = false) (hs : Follows K s0 s) :
    Follows K s0 (s.readReg guy a).2 := by
  simp only [State.readReg]
  repeat' split
  all_goals simp (maxDischargeDepth := 30) [*]

@[simp] theorem State.plainWrite_follows {s0 : State} {s : State} {guy : Bool} {a v : Nat} (hK : K .regs = false) (hs : Follows K s0 s) :
    Follows K s0 (s.plainWrite guy a v) := by
  simp only [State.plainWrite]
  repeat' split
  all_goals simp (maxDischargeDepth := 30) [*]

@[simp] theorem State.writeIf_follows {s0 : State} {s : State} {guy : Bool} {a v : Nat} {ok : State → Bool} (hK : K .regs = false) (hs : Follows K s0 s) :
    Follows K s0 (s.writeIf guy a v ok) := by
  simp (maxDischargeDepth := 30) [State.writeIf, hK, hs]

@[simp] theorem State.onBit_follows {s0 : State} {s : State} {v i : Nat} {k : State → State} (hs : Follows K s0 s) (hk : ∀ x0, Follows K x0 (k x0)) :
    Follows K s0 (s.onBit v i k) := by
  unfold State.onBit
  split
  · exact hs.trans (hk s)
  · exact hs

@[simp] theorem State.writePit_follows {s0 : State} {s : State} {guy : Bool} {off a v : Nat} (hK : K .regs = false ∧ K .trn = false ∧ K .pit = false ∧ K .flt = false ∧ K .ports = false) (hs : Follows K s0 s) :
    Follows K s0 (s.writePit guy off a v) := by
  simp only [State.writePit]
  repeat' split
  all_goals simp (maxDischargeDepth := 30) [*]

@[simp] theorem State.writeWsq_follows {s0 : State} {s : State} {guy : Bool} {off a v : Nat} (hK : K .regs = false ∧ K .trn = false ∧ K .jrn = false ∧ K .flt = false ∧ K .pole = false ∧ K .loss = false ∧ K .dry = false ∧ K .ports = false) (hs : Follows K s0 s) :
    Follows K s0 (s.writeWsq guy off a v) := by
  simp (maxDischargeDepth := 30) [State.writeWsq, hK, hs]

@[simp] theorem State.writeFlt_follows {s0 : State} {s : State} {guy : Bool} {off a v : Nat} (hK : K .regs = false ∧ K .mem = false ∧ K .trn = false ∧ K .jrn = false ∧ K .flt = false ∧ K .pole = false ∧ K .loss = false ∧ K .dry = false ∧ K .sec = false ∧ K .bells = false ∧ K .col = false ∧ K .ports = false ∧ K .slots = false ∧ K .canopies = false ∧ K .cross = false ∧ K .pwr = false ∧ K .spillq = false) (hs : Follows K s0 s) :
    Follows K s0 (s.writeFlt guy off a v) := by
  simp (maxDischargeDepth := 30) [State.writeFlt, hK, hs]

@[simp] theorem State.writeFtc_follows {s0 : State} {s : State} {guy : Bool} {off a v : Nat} (hK : K .regs = false ∧ K .trn = false ∧ K .flt = false ∧ K .loss = false ∧ K .ports = false ∧ K .time = false) (hs : Follows K s0 s) :
    Follows K s0 (s.writeFtc guy off a v) := by
  simp (maxDischargeDepth := 30) [State.writeFtc, hK, hs]

@[simp] theorem State.writeClk_follows {s0 : State} {s : State} {guy : Bool} {off a v : Nat} (hK : K .ftc = false ∧ K .regs = false ∧ K .mem = false ∧ K .trn = false ∧ K .jrn = false ∧ K .flt = false ∧ K .pole = false ∧ K .loss = false ∧ K .dry = false ∧ K .sec = false ∧ K .bells = false ∧ K .col = false ∧ K .ports = false ∧ K .canopies = false ∧ K .cross = false ∧ K .time = false ∧ K .clk = false ∧ K .spillq = false) (hs : Follows K s0 s) :
    Follows K s0 (s.writeClk guy off a v) := by
  simp (maxDischargeDepth := 30) [State.writeClk, hK, hs]

@[simp] theorem State.writePwr_follows {s0 : State} {s : State} {guy : Bool} {off a v : Nat} (hK : K .regs = false ∧ K .mem = false ∧ K .trn = false ∧ K .jrn = false ∧ K .pit = false ∧ K .flt = false ∧ K .loss = false ∧ K .dry = false ∧ K .sec = false ∧ K .bells = false ∧ K .col = false ∧ K .ports = false ∧ K .slots = false ∧ K .canopies = false ∧ K .seams = false ∧ K .cross = false ∧ K .pwr = false ∧ K .spillq = false) (hs : Follows K s0 s) :
    Follows K s0 (s.writePwr guy off a v) := by
  simp (maxDischargeDepth := 30) [State.writePwr, hK, hs]

@[simp] theorem State.writeThm_follows {s0 : State} {s : State} {guy : Bool} {off a v : Nat} (hK : K .ftc = false ∧ K .regs = false ∧ K .mem = false ∧ K .trn = false ∧ K .jrn = false ∧ K .pit = false ∧ K .flt = false ∧ K .pole = false ∧ K .loss = false ∧ K .dry = false ∧ K .sec = false ∧ K .bells = false ∧ K .col = false ∧ K .ports = false ∧ K .slots = false ∧ K .canopies = false ∧ K .seams = false ∧ K .cross = false ∧ K .time = false ∧ K .clk = false ∧ K .pwr = false ∧ K .spillq = false) (hs : Follows K s0 s) :
    Follows K s0 (s.writeThm guy off a v) := by
  simp (maxDischargeDepth := 30) [State.writeThm, hK, hs]

@[simp] theorem State.commitKey_follows {s0 : State} {s : State} {v : Nat} (hK : K .regs = false ∧ K .fuses = false ∧ K .flt = false ∧ K .dry = false) (hs : Follows K s0 s) :
    Follows K s0 (s.commitKey v) := by
  simp (maxDischargeDepth := 30) [State.commitKey, hK, hs]

@[simp] theorem State.writeSec_follows {s0 : State} {s : State} {guy : Bool} {off a v : Nat} (hK : K .ftc = false ∧ K .regs = false ∧ K .fuses = false ∧ K .mem = false ∧ K .trn = false ∧ K .jrn = false ∧ K .pit = false ∧ K .flt = false ∧ K .pole = false ∧ K .loss = false ∧ K .dry = false ∧ K .sec = false ∧ K .bells = false ∧ K .col = false ∧ K .ports = false ∧ K .slots = false ∧ K .canopies = false ∧ K .seams = false ∧ K .cross = false ∧ K .time = false ∧ K .clk = false ∧ K .pwr = false ∧ K .spillq = false) (hs : Follows K s0 s) :
    Follows K s0 (s.writeSec guy off a v) := by
  simp (maxDischargeDepth := 30) [State.writeSec, hK, hs]

@[simp] theorem State.writeDry_follows {s0 : State} {s : State} {guy : Bool} {off a v : Nat} (hK : K .regs = false ∧ K .dry = false) (hs : Follows K s0 s) :
    Follows K s0 (s.writeDry guy off a v) := by
  simp (maxDischargeDepth := 30) [State.writeDry, hK, hs]

@[simp] theorem State.writeLnk_follows {s0 : State} {s : State} {guy : Bool} {p off a v : Nat} (hK : K .regs = false ∧ K .trn = false ∧ K .flt = false ∧ K .loss = false ∧ K .dry = false ∧ K .sec = false ∧ K .ports = false ∧ K .canopies = false ∧ K .time = false ∧ K .spillq = false) (hs : Follows K s0 s) :
    Follows K s0 (s.writeLnk guy p off a v) := by
  simp (maxDischargeDepth := 30) [State.writeLnk, hK, hs]

@[simp] theorem State.writeXt_follows {s0 : State} {s : State} {k v : Nat} (hK : K .canopies = false) (hs : Follows K s0 s) :
    Follows K s0 (s.writeXt k v) := by
  simp (maxDischargeDepth := 30) [State.writeXt, hK, hs]

@[simp] theorem State.writeOpt_follows {s0 : State} {s : State} {guy : Bool} {k off a v : Nat} (hK : K .regs = false ∧ K .flt = false ∧ K .dry = false ∧ K .canopies = false) (hs : Follows K s0 s) :
    Follows K s0 (s.writeOpt guy k off a v) := by
  simp (maxDischargeDepth := 30) [State.writeOpt, hK, hs]

@[simp] theorem State.writeBel_follows {s0 : State} {s : State} {guy : Bool} {b off a v : Nat} (hK : K .regs = false ∧ K .bells = false) (hs : Follows K s0 s) :
    Follows K s0 (s.writeBel guy b off a v) := by
  simp (maxDischargeDepth := 30) [State.writeBel, hK, hs]

@[simp] theorem State.writeSeam_follows {s0 : State} {s : State} {guy : Bool} {b off a v : Nat} (hK : K .regs = false ∧ K .trn = false ∧ K .dry = false ∧ K .sec = false ∧ K .seams = false ∧ K .cross = false) (hs : Follows K s0 s) :
    Follows K s0 (s.writeSeam guy b off a v) := by
  simp (maxDischargeDepth := 30) [State.writeSeam, hK, hs]

@[simp] theorem State.writeUci_follows {s0 : State} {s : State} {guy : Bool} {k off a v : Nat} (hK : K .regs = false ∧ K .trn = false ∧ K .flt = false ∧ K .loss = false ∧ K .dry = false ∧ K .sec = false ∧ K .ports = false ∧ K .canopies = false ∧ K .seams = false ∧ K .cross = false ∧ K .spillq = false) (hs : Follows K s0 s) :
    Follows K s0 (s.writeUci guy k off a v) := by
  simp (maxDischargeDepth := 30) [State.writeUci, hK, hs]

@[simp] theorem State.writeTrn_follows {s0 : State} {s : State} {guy : Bool} {off a v : Nat} (hK : K .regs = false) (hs : Follows K s0 s) :
    Follows K s0 (s.writeTrn guy off a v) := by
  simp (maxDischargeDepth := 30) [State.writeTrn, hK, hs]

@[simp] theorem State.writeReg_follows {s0 : State} {s : State} {guy : Bool} {a v : Nat} (hK : K .ftc = false ∧ K .regs = false ∧ K .fuses = false ∧ K .mem = false ∧ K .trn = false ∧ K .jrn = false ∧ K .pit = false ∧ K .flt = false ∧ K .pole = false ∧ K .loss = false ∧ K .dry = false ∧ K .sec = false ∧ K .bells = false ∧ K .col = false ∧ K .ports = false ∧ K .slots = false ∧ K .canopies = false ∧ K .seams = false ∧ K .cross = false ∧ K .time = false ∧ K .clk = false ∧ K .pwr = false ∧ K .spillq = false) (hs : Follows K s0 s) :
    Follows K s0 (s.writeReg guy a v) := by
  simp only [State.writeReg]
  repeat' split
  all_goals simp (maxDischargeDepth := 30) [*]

@[simp] theorem State.ctlRead_follows {s0 : State} {s : State} {src : Entry} {a : Nat} (hK : K .regs = false ∧ K .time = false) (hs : Follows K s0 s) :
    Follows K s0 (s.ctlRead src a).2.2 := by
  simp only [State.ctlRead]
  repeat' split
  all_goals simp (maxDischargeDepth := 30) [*]

@[simp] theorem State.ctlWrite_follows {s0 : State} {s : State} {src : Entry} {pole : Bool} {a v : Nat} (hK : K .ftc = false ∧ K .regs = false ∧ K .fuses = false ∧ K .mem = false ∧ K .trn = false ∧ K .jrn = false ∧ K .pit = false ∧ K .flt = false ∧ K .pole = false ∧ K .loss = false ∧ K .dry = false ∧ K .sec = false ∧ K .bells = false ∧ K .col = false ∧ K .ports = false ∧ K .slots = false ∧ K .canopies = false ∧ K .seams = false ∧ K .cross = false ∧ K .time = false ∧ K .clk = false ∧ K .pwr = false ∧ K .spillq = false) (hs : Follows K s0 s) :
    Follows K s0 (s.ctlWrite src pole a v).2 := by
  simp only [State.ctlWrite]
  repeat' split
  all_goals simp (maxDischargeDepth := 30) [*]

@[simp] theorem execRegisterWrite_follows {s0 : State} {src : Entry} {addr data : BitVec 32} {s : State} (hK : K .ftc = false ∧ K .regs = false ∧ K .fuses = false ∧ K .mem = false ∧ K .trn = false ∧ K .jrn = false ∧ K .pit = false ∧ K .flt = false ∧ K .pole = false ∧ K .loss = false ∧ K .dry = false ∧ K .sec = false ∧ K .bells = false ∧ K .col = false ∧ K .ports = false ∧ K .slots = false ∧ K .canopies = false ∧ K .seams = false ∧ K .cross = false ∧ K .time = false ∧ K .clk = false ∧ K .pwr = false ∧ K .spillq = false) (hs : Follows K s0 s) :
    OutFollows K s0 (execRegisterWrite src addr data s) := by
  simp (maxDischargeDepth := 30) [execRegisterWrite, hK, hs]

end Sys2Proof.Machine
end

