-- ==== Sys2Proof/Laws/FollowsAccess.lean ====
section
/-!
SUPPORT. What the relation of Laws/Follows.lean says of fabric accesses, the Guy line and the answers to requests.
-/

set_option linter.all false
set_option Elab.async false

namespace Sys2Proof.Machine

open Sys2Proof

variable {K : Piece → Bool}

@[simp] theorem State.answerRead_follows {s0 : State} {s : State} {m : Msg} {addr n : Nat} {ups : List Upset} (hK : K .regs = false ∧ K .mem = false ∧ K .trn = false ∧ K .flt = false ∧ K .dry = false ∧ K .bells = false ∧ K .ports = false) (hs : Follows K s0 s) :
    Follows K s0 (s.answerRead m addr n ups) := by
  simp only [State.answerRead]
  repeat' split
  all_goals simp (maxDischargeDepth := 30) [*]

@[simp] theorem State.discardMsg_follows {s0 : State} {s : State} (hK : K .regs = false) (hs : Follows K s0 s) :
    Follows K s0 (s.discardMsg) := by
  simp (maxDischargeDepth := 30) [State.discardMsg, hK, hs]

@[simp] theorem State.serveRead_follows {s0 : State} {s : State} {src : Entry} {m : Msg} {ups : List Upset} (hK : K .regs = false ∧ K .mem = false ∧ K .trn = false ∧ K .flt = false ∧ K .dry = false ∧ K .bells = false ∧ K .ports = false ∧ K .time = false) (hs : Follows K s0 s) :
    Follows K s0 (s.serveRead src m ups) := by
  simp only [State.serveRead]
  repeat' split
  all_goals simp (maxDischargeDepth := 30) [*]

@[simp] theorem execRd_follows {s0 : State} {src : Entry} {msg : List Byte} {ups : List Upset} {s : State} (hK : K .regs = false ∧ K .mem = false ∧ K .trn = false ∧ K .flt = false ∧ K .dry = false ∧ K .bells = false ∧ K .ports = false ∧ K .time = false) (hs : Follows K s0 s) :
    OutFollows K s0 (execRd src msg ups s) := by
  simp (maxDischargeDepth := 30) [execRd, hK, hs]

@[simp] theorem State.serveWrite_follows {s0 : State} {s : State} {src : Entry} {m : Msg} {addr n : Nat} {ups : List Upset} (hK : K .ftc = false ∧ K .regs = false ∧ K .fuses = false ∧ K .mem = false ∧ K .trn = false ∧ K .jrn = false ∧ K .pit = false ∧ K .flt = false ∧ K .pole = false ∧ K .loss = false ∧ K .dry = false ∧ K .sec = false ∧ K .bells = false ∧ K .col = false ∧ K .ports = false ∧ K .slots = false ∧ K .canopies = false ∧ K .seams = false ∧ K .cross = false ∧ K .time = false ∧ K .clk = false ∧ K .pwr = false ∧ K .spillq = false) (hs : Follows K s0 s) :
    Follows K s0 (s.serveWrite src m addr n ups).1 := by
  simp only [State.serveWrite]
  repeat' split
  all_goals simp (maxDischargeDepth := 30) [*]

@[simp] theorem State.partnerWr_follows {s0 : State} {s : State} {m : Msg} {k : Nat} (hK : K .regs = false ∧ K .trn = false ∧ K .flt = false ∧ K .ports = false) (hs : Follows K s0 s) :
    Follows K s0 (s.partnerWr m k) := by
  simp only [State.partnerWr]
  repeat' split
  all_goals simp (maxDischargeDepth := 30) [*]

@[simp] theorem execWr_follows {s0 : State} {src : Entry} {msg : List Byte} {ups : List Upset} {s : State} (hK : K .ftc = false ∧ K .regs = false ∧ K .fuses = false ∧ K .mem = false ∧ K .trn = false ∧ K .jrn = false ∧ K .pit = false ∧ K .flt = false ∧ K .pole = false ∧ K .loss = false ∧ K .dry = false ∧ K .sec = false ∧ K .bells = false ∧ K .col = false ∧ K .ports = false ∧ K .slots = false ∧ K .canopies = false ∧ K .seams = false ∧ K .cross = false ∧ K .time = false ∧ K .clk = false ∧ K .pwr = false ∧ K .spillq = false) (hs : Follows K s0 s) :
    OutFollows K s0 (execWr src msg ups s) := by
  unfold execWr
  try refine OutFollows.next.2 ?_
  try first
    | refine State.live_follows ?_ fun x => ?_
    | refine State.receive_follows (hK := by simp [hK]) ?_ fun x => ?_
    | refine State.receiveReq_follows (hK := by simp [hK]) ?_ fun x => ?_
    | refine State.window_follows (hK := by simp [hK]) ?_ fun x => ?_
    | refine State.onBell_follows (hK := by simp [hK]) ?_ fun x => ?_
    | refine State.runOp_follows (hK := by simp [hK]) ?_ fun x => ?_
    | refine State.pitWrite_follows (hK := by simp [hK]) ?_ fun x => ?_
    | refine State.onBit_follows ?_ fun x => ?_
    | refine foldl_follows ?_ fun x => ?_
    | refine foldl_follows_fst ?_ fun x => ?_
  all_goals try dsimp only
  all_goals repeat' split
  all_goals simp (maxDischargeDepth := 30) [hK, hs]

@[simp] theorem execRegRd_follows {s0 : State} {src : Entry} {msg : List Byte} {s : State} (hK : K .regs = false ∧ K .trn = false ∧ K .flt = false ∧ K .ports = false ∧ K .time = false) (hs : Follows K s0 s) :
    OutFollows K s0 (execRegRd src msg s) := by
  unfold execRegRd
  try refine OutFollows.next.2 ?_
  try first
    | refine State.live_follows ?_ fun x => ?_
    | refine State.receive_follows (hK := by simp [hK]) ?_ fun x => ?_
    | refine State.receiveReq_follows (hK := by simp [hK]) ?_ fun x => ?_
    | refine State.window_follows (hK := by simp [hK]) ?_ fun x => ?_
    | refine State.onBell_follows (hK := by simp [hK]) ?_ fun x => ?_
    | refine State.runOp_follows (hK := by simp [hK]) ?_ fun x => ?_
    | refine State.pitWrite_follows (hK := by simp [hK]) ?_ fun x => ?_
    | refine State.onBit_follows ?_ fun x => ?_
    | refine foldl_follows ?_ fun x => ?_
    | refine foldl_follows_fst ?_ fun x => ?_
  all_goals try dsimp only
  all_goals repeat' split
  all_goals simp (maxDischargeDepth := 30) [hK, hs]

@[simp] theorem execRegWr_follows {s0 : State} {src : Entry} {msg : List Byte} {s : State} (hK : K .ftc = false ∧ K .regs = false ∧ K .fuses = false ∧ K .mem = false ∧ K .trn = false ∧ K .jrn = false ∧ K .pit = false ∧ K .flt = false ∧ K .pole = false ∧ K .loss = false ∧ K .dry = false ∧ K .sec = false ∧ K .bells = false ∧ K .col = false ∧ K .ports = false ∧ K .slots = false ∧ K .canopies = false ∧ K .seams = false ∧ K .cross = false ∧ K .time = false ∧ K .clk = false ∧ K .pwr = false ∧ K .spillq = false) (hs : Follows K s0 s) :
    OutFollows K s0 (execRegWr src msg s) := by
  unfold execRegWr
  refine OutFollows.next.2 (State.receiveReq_follows (hK := by simp [hK]) hs fun m => ?_)
  dsimp only
  split
  · exact State.discardMsg_follows (hK := by simp [hK]) hs
  refine State.window_follows (hK := by simp [hK]) hs fun t => ?_
  split
  · exact State.refuseAt_follows (hK := by simp [hK]) (Follows.refl t)
  · exact State.ctlWrite_follows (hK := by simp [hK]) (Follows.refl t)

@[simp] theorem execCommitSlotReadRelease_follows {s0 : State} {node tid : Nat} {ups : List Upset} {s : State} (hK : K .regs = false ∧ K .mem = false ∧ K .trn = false ∧ K .flt = false ∧ K .dry = false ∧ K .bells = false ∧ K .ports = false) (hs : Follows K s0 s) :
    OutFollows K s0 (execCommitSlotReadRelease node tid ups s) := by
  simp only [execCommitSlotReadRelease]
  repeat' split
  all_goals simp (maxDischargeDepth := 30) [*]

@[simp] theorem execGuyRegRead_follows {s0 : State} {addr : BitVec 32} {s : State} (hK : K .regs = false ∧ K .time = false) (hs : Follows K s0 s) :
    OutFollows K s0 (execGuyRegRead addr s) := by
  simp (maxDischargeDepth := 30) [execGuyRegRead, hK, hs]

@[simp] theorem execGuyRegWrite_follows {s0 : State} {addr data : BitVec 32} {s : State} (hK : K .ftc = false ∧ K .regs = false ∧ K .fuses = false ∧ K .mem = false ∧ K .trn = false ∧ K .jrn = false ∧ K .pit = false ∧ K .flt = false ∧ K .pole = false ∧ K .loss = false ∧ K .dry = false ∧ K .sec = false ∧ K .bells = false ∧ K .col = false ∧ K .ports = false ∧ K .slots = false ∧ K .canopies = false ∧ K .seams = false ∧ K .cross = false ∧ K .time = false ∧ K .clk = false ∧ K .pwr = false ∧ K .spillq = false) (hs : Follows K s0 s) :
    OutFollows K s0 (execGuyRegWrite addr data s) := by
  simp (maxDischargeDepth := 30) [execGuyRegWrite, hK, hs]

@[simp] theorem State.blockWrite_follows {s0 : State} {s : State} {a n : Nat} {l : List (BitVec 32)} (hK : K .ftc = false ∧ K .regs = false ∧ K .fuses = false ∧ K .mem = false ∧ K .trn = false ∧ K .jrn = false ∧ K .pit = false ∧ K .flt = false ∧ K .pole = false ∧ K .loss = false ∧ K .dry = false ∧ K .sec = false ∧ K .bells = false ∧ K .col = false ∧ K .ports = false ∧ K .slots = false ∧ K .canopies = false ∧ K .seams = false ∧ K .cross = false ∧ K .time = false ∧ K .clk = false ∧ K .pwr = false ∧ K .spillq = false) (hs : Follows K s0 s) :
    Follows K s0 (s.blockWrite a l n).2.2 := by
  induction l generalizing s n with
  | nil => exact hs
  | cons v t ih =>
    have h1 : Follows K s0 (s.ctlWrite .guy false a v.toNat).2 := State.ctlWrite_follows (hK := by simp [hK]) hs
    unfold State.blockWrite
    dsimp only
    split
    · exact ih h1
    · exact h1

@[simp] theorem State.blockRead_follows {s0 : State} {s : State} {a n : Nat} {l : List Byte} (hK : K .regs = false ∧ K .time = false) (hs : Follows K s0 s) :
    Follows K s0 (s.blockRead a n l).2.2 := by
  induction n generalizing s l with
  | zero => exact hs
  | succ n ih =>
    have h1 : Follows K s0 (s.ctlRead .guy a).2.2 := State.ctlRead_follows (hK := by simp [hK]) hs
    unfold State.blockRead
    dsimp only
    split
    · exact ih h1
    · exact h1

@[simp] theorem execGuyBlockWrite_follows {s0 : State} {addr : BitVec 32} {words : List (BitVec 32)} {s : State} (hK : K .ftc = false ∧ K .regs = false ∧ K .fuses = false ∧ K .mem = false ∧ K .trn = false ∧ K .jrn = false ∧ K .pit = false ∧ K .flt = false ∧ K .pole = false ∧ K .loss = false ∧ K .dry = false ∧ K .sec = false ∧ K .bells = false ∧ K .col = false ∧ K .ports = false ∧ K .slots = false ∧ K .canopies = false ∧ K .seams = false ∧ K .cross = false ∧ K .time = false ∧ K .clk = false ∧ K .pwr = false ∧ K .spillq = false) (hs : Follows K s0 s) :
    OutFollows K s0 (execGuyBlockWrite addr words s) := by
  unfold execGuyBlockWrite
  refine OutFollows.next.2 ?_
  repeat' split
  · exact State.answer_follows hs
  · exact State.answer_follows (State.blockWrite_follows (hK := by simp [hK]) hs)
  · exact hs

@[simp] theorem execGuyBlockRead_follows {s0 : State} {addr : BitVec 32} {n : Nat} {s : State} (hK : K .regs = false ∧ K .time = false) (hs : Follows K s0 s) :
    OutFollows K s0 (execGuyBlockRead addr n s) := by
  unfold execGuyBlockRead
  refine OutFollows.next.2 ?_
  repeat' split
  · exact State.answer_follows hs
  · exact State.answer_follows (State.blockRead_follows (hK := by simp [hK]) hs)
  · exact hs

@[simp] theorem execMctpControl_follows {s0 : State} {req : MctpReq} {s : State} (hK : K .regs = false ∧ K .sec = false) (hs : Follows K s0 s) :
    OutFollows K s0 (execMctpControl req s) := by
  simp only [execMctpControl]
  repeat' split
  all_goals simp (maxDischargeDepth := 30) [*]

@[simp] theorem execI3cAddressAssign_follows {s0 : State} {setdasa : Bool} {static dyn : BitVec 7} {s : State} (hK : K .regs = false) (hs : Follows K s0 s) :
    OutFollows K s0 (execI3cAddressAssign setdasa static dyn s) := by
  simp (maxDischargeDepth := 30) [execI3cAddressAssign, hK, hs]

@[simp] theorem State.pldm_follows {s0 : State} {s : State} {type cmd code : Nat} {data : List Byte} (hs : Follows K s0 s) :
    Follows K s0 (s.pldm type cmd code data) := by
  unfold State.pldm
  try refine OutFollows.next.2 ?_
  try dsimp only
  repeat' first
    | assumption
    | exact Follows.refl _
    | (simp (maxDischargeDepth := 30) [hs]; done)
    | refine State.live_follows ?_ fun x => ?_
    | refine State.receive_follows (hK := by simp [hK]) ?_ fun x => ?_
    | refine State.receiveReq_follows (hK := by simp [hK]) ?_ fun x => ?_
    | refine State.window_follows (hK := by simp [hK]) ?_ fun x => ?_
    | refine State.onBell_follows (hK := by simp [hK]) ?_ fun x => ?_
    | refine State.runOp_follows (hK := by simp [hK]) ?_ fun x => ?_
    | refine State.pitWrite_follows (hK := by simp [hK]) ?_ fun x => ?_
    | refine State.onBit_follows ?_ fun x => ?_
    | refine foldl_follows ?_ fun x => ?_
    | refine foldl_follows_fst ?_ fun x => ?_
    | refine foldl_follows ?_ fun t x => ?_
    | refine foldl_follows_fst ?_ fun t x => ?_
    | refine foldl_follows_snd ?_ fun t x => ?_
    | refine foldl_follows_acc ?_ fun t x => ?_
    | split

@[simp] theorem State.sensorReply_follows {s0 : State} {s : State} {cmd n : Nat} {ok : Bool} (hs : Follows K s0 s) :
    Follows K s0 (s.sensorReply cmd n ok) := by
  simp only [State.sensorReply]
  repeat' split
  all_goals simp (maxDischargeDepth := 30) [*]

@[simp] theorem State.pollEvent_follows {s0 : State} {s : State} (hK : K .regs = false ∧ K .flt = false) (hs : Follows K s0 s) :
    Follows K s0 s.pollEvent := by
  unfold State.pollEvent
  split
  · exact State.pldm_follows hs
  · rename_i e t he
    have h1 : Follows K s0 { s with flt := { s.flt with events := t, dropped := 0 } } := by
      refine hs.step rfl rfl (Fuses.NotBelow.refl _) (fun x => x) (fun x => x) (fun x => x) (fun x => ?_) (fun x => x) fun p hp => ?_
      · rw [he] at x
        simp at x
        simp
        omega
      · cases p <;> first | rfl | simp_all
    exact State.pldm_follows (State.setFld_follows (hK := by simp [hK]) h1)

@[simp] theorem execPldmPlatform_follows {s0 : State} {req : PldmReq} {s : State} (hK : K .regs = false ∧ K .flt = false) (hs : Follows K s0 s) :
    OutFollows K s0 (execPldmPlatform req s) := by
  simp only [execPldmPlatform]
  repeat' split
  all_goals simp (maxDischargeDepth := 30) [*]

@[simp] theorem State.spdm_follows {s0 : State} {s : State} {code : Nat} {data : List Byte} (hs : Follows K s0 s) :
    Follows K s0 (s.spdm code data) := by
  unfold State.spdm
  try refine OutFollows.next.2 ?_
  try dsimp only
  repeat' first
    | assumption
    | exact Follows.refl _
    | (simp (maxDischargeDepth := 30) [hs]; done)
    | refine State.live_follows ?_ fun x => ?_
    | refine State.receive_follows (hK := by simp [hK]) ?_ fun x => ?_
    | refine State.receiveReq_follows (hK := by simp [hK]) ?_ fun x => ?_
    | refine State.window_follows (hK := by simp [hK]) ?_ fun x => ?_
    | refine State.onBell_follows (hK := by simp [hK]) ?_ fun x => ?_
    | refine State.runOp_follows (hK := by simp [hK]) ?_ fun x => ?_
    | refine State.pitWrite_follows (hK := by simp [hK]) ?_ fun x => ?_
    | refine State.onBit_follows ?_ fun x => ?_
    | refine foldl_follows ?_ fun x => ?_
    | refine foldl_follows_fst ?_ fun x => ?_
    | refine foldl_follows ?_ fun t x => ?_
    | refine foldl_follows_fst ?_ fun t x => ?_
    | refine foldl_follows_snd ?_ fun t x => ?_
    | refine foldl_follows_acc ?_ fun t x => ?_
    | split

@[simp] theorem State.spdmSigned_follows {s0 : State} {s : State} {code : Nat} {data nonce : List Byte} (hs : Follows K s0 s) :
    Follows K s0 (s.spdmSigned code data nonce) := by
  simp (maxDischargeDepth := 30) [State.spdmSigned, hs]

@[simp] theorem State.spdmError_follows {s0 : State} {s : State} {code : Nat} (hs : Follows K s0 s) :
    Follows K s0 (s.spdmError code) := by
  simp (maxDischargeDepth := 30) [State.spdmError, hs]

@[simp] theorem execSpdmRequest_follows {s0 : State} {req : SpdmReq} {s : State} (hs : Follows K s0 s) :
    OutFollows K s0 (execSpdmRequest req s) := by
  simp only [execSpdmRequest]
  repeat' split
  all_goals simp (maxDischargeDepth := 30) [*]

@[simp] theorem State.stageFailed_follows {s0 : State} {s : State} {b stream seq o code : Nat} (hK : K .regs = false ∧ K .mem = false ∧ K .trn = false ∧ K .jrn = false ∧ K .flt = false ∧ K .bells = false ∧ K .col = false ∧ K .ports = false) (hs : Follows K s0 s) :
    Follows K s0 (s.stageFailed b stream seq o code) := by
  simp only [State.stageFailed]
  repeat' split
  all_goals simp (maxDischargeDepth := 30) [*]

@[simp] theorem State.stageRefused_follows {s0 : State} {s : State} {b stream seq o cause : Nat} (hK : K .regs = false ∧ K .mem = false ∧ K .trn = false ∧ K .jrn = false ∧ K .flt = false ∧ K .bells = false ∧ K .col = false ∧ K .ports = false) (hs : Follows K s0 s) :
    Follows K s0 (s.stageRefused b stream seq o cause) := by
  simp (maxDischargeDepth := 30) [State.stageRefused, hK, hs]

@[simp] theorem State.tokensFailed_follows {s0 : State} {s : State} {stream seq code : Nat} (hK : K .regs = false ∧ K .mem = false ∧ K .trn = false ∧ K .jrn = false ∧ K .flt = false ∧ K .bells = false ∧ K .col = false ∧ K .ports = false) (hs : Follows K s0 s) :
    Follows K s0 (s.tokensFailed stream seq code) := by
  unfold State.tokensFailed
  split
  · exact hs
  rename_i p hp
  split
  · exact hs
  have h1 : ∀ (l : List Nat), Follows K s0 (l.foldl (fun t b => match (t.bell b).runs.find? fun r => r.stream == stream && r.seq == seq with
        | some r => t.runError b r r.next code 0 0
        | none =>
          if (t.bell b).queue.contains (stream, seq) ∨ (t.bell b).held.contains (stream, seq) then
            t.runError b { stream := stream, seq := seq, next := t.entryOf b p.wo } (t.entryOf b p.wo) code 0 0
          else t.abortRun b p.wo 1 code) s) := by
    intro l
    refine foldl_follows hs fun t b => ?_
    split
    · exact State.runError_follows (hK := by simp [hK]) (Follows.refl _)
    · split
      · exact State.runError_follows (hK := by simp [hK]) (Follows.refl _)
      · exact State.abortRun_follows (hK := by simp [hK]) (Follows.refl _)
  dsimp only
  split
  · exact h1 _
  · exact State.putPart_follows (hK := by simp [hK]) (h1 _)


@[simp] theorem State.stageData_follows {s0 : State} {s : State} {b stream seq off : Nat} {data : List Byte} (hK : K .regs = false ∧ K .mem = false ∧ K .trn = false ∧ K .jrn = false ∧ K .flt = false ∧ K .dry = false ∧ K .bells = false ∧ K .col = false ∧ K .ports = false) (hs : Follows K s0 s) :
    Follows K s0 (s.stageData b stream seq off data) := by
  simp only [State.stageData]
  repeat' split
  all_goals simp (maxDischargeDepth := 30) [*]

@[simp] theorem State.kvMirrored_follows {s0 : State} {s : State} {stream seq : Nat} (hK : K .regs = false ∧ K .trn = false ∧ K .jrn = false ∧ K .flt = false ∧ K .ports = false) (hs : Follows K s0 s) :
    Follows K s0 (s.kvMirrored stream seq) := by
  simp only [State.kvMirrored]
  repeat' split
  all_goals simp (maxDischargeDepth := 30) [*]

@[simp] theorem State.answered_follows {s0 : State} {s : State} {r : Req} {m : Msg} (hK : K .regs = false ∧ K .mem = false ∧ K .trn = false ∧ K .jrn = false ∧ K .pit = false ∧ K .flt = false ∧ K .loss = false ∧ K .dry = false ∧ K .bells = false ∧ K .col = false ∧ K .ports = false) (hs : Follows K s0 s) :
    Follows K s0 (s.answered r m) := by
  simp only [State.answered]
  repeat' split
  all_goals simp (maxDischargeDepth := 30) [*]

@[simp] theorem State.failed_follows {s0 : State} {s : State} {r : Req} {cause : Nat} (hK : K .regs = false ∧ K .mem = false ∧ K .trn = false ∧ K .jrn = false ∧ K .flt = false ∧ K .loss = false ∧ K .bells = false ∧ K .col = false ∧ K .ports = false) (hs : Follows K s0 s) :
    Follows K s0 (s.failed r cause) := by
  simp only [State.failed]
  repeat' split
  all_goals simp (maxDischargeDepth := 30) [*]

@[simp] theorem State.timedOut_follows {s0 : State} {s : State} {r : Req} (hK : K .regs = false ∧ K .mem = false ∧ K .trn = false ∧ K .jrn = false ∧ K .flt = false ∧ K .loss = false ∧ K .bells = false ∧ K .col = false ∧ K .ports = false) (hs : Follows K s0 s) :
    Follows K s0 (s.timedOut r) := by
  simp (maxDischargeDepth := 30) [State.timedOut, hK, hs]

@[simp] theorem State.takeResponse_follows {s0 : State} {s : State} {r : Req} {m : Msg} (hK : K .regs = false ∧ K .mem = false ∧ K .trn = false ∧ K .jrn = false ∧ K .pit = false ∧ K .flt = false ∧ K .loss = false ∧ K .dry = false ∧ K .bells = false ∧ K .col = false ∧ K .ports = false) (hs : Follows K s0 s) :
    Follows K s0 (s.takeResponse r m) := by
  simp only [State.takeResponse]
  repeat' split
  all_goals simp (maxDischargeDepth := 30) [*]

@[simp] theorem execZfpResponse_follows {s0 : State} {src : Entry} {msg : List Byte} {s : State} (hK : K .regs = false ∧ K .mem = false ∧ K .trn = false ∧ K .jrn = false ∧ K .pit = false ∧ K .flt = false ∧ K .loss = false ∧ K .dry = false ∧ K .bells = false ∧ K .col = false ∧ K .ports = false) (hs : Follows K s0 s) :
    OutFollows K s0 (execZfpResponse src msg s) := by
  unfold execZfpResponse
  try refine OutFollows.next.2 ?_
  try first
    | refine State.live_follows ?_ fun x => ?_
    | refine State.receive_follows (hK := by simp [hK]) ?_ fun x => ?_
    | refine State.receiveReq_follows (hK := by simp [hK]) ?_ fun x => ?_
    | refine State.window_follows (hK := by simp [hK]) ?_ fun x => ?_
    | refine State.onBell_follows (hK := by simp [hK]) ?_ fun x => ?_
    | refine State.runOp_follows (hK := by simp [hK]) ?_ fun x => ?_
    | refine State.pitWrite_follows (hK := by simp [hK]) ?_ fun x => ?_
    | refine State.onBit_follows ?_ fun x => ?_
    | refine foldl_follows ?_ fun x => ?_
    | refine foldl_follows_fst ?_ fun x => ?_
  all_goals try dsimp only
  all_goals repeat' split
  all_goals simp (maxDischargeDepth := 30) [hK, hs]

@[simp] theorem execRequestTimeout_follows {s0 : State} {tid : Nat} {s : State} (hK : K .regs = false ∧ K .mem = false ∧ K .trn = false ∧ K .jrn = false ∧ K .flt = false ∧ K .loss = false ∧ K .bells = false ∧ K .col = false ∧ K .ports = false) (hs : Follows K s0 s) :
    OutFollows K s0 (execRequestTimeout tid s) := by
  simp only [execRequestTimeout]
  repeat' split
  all_goals simp (maxDischargeDepth := 30) [*]

@[simp] theorem execInResetResend_follows {s0 : State} {tid : Nat} {s : State} (hK : K .regs = false ∧ K .mem = false ∧ K .trn = false ∧ K .jrn = false ∧ K .flt = false ∧ K .loss = false ∧ K .bells = false ∧ K .col = false ∧ K .ports = false) (hs : Follows K s0 s) :
    OutFollows K s0 (execInResetResend tid s) := by
  simp only [execInResetResend]
  repeat' split
  all_goals simp (maxDischargeDepth := 30) [*]

@[simp] theorem execBusyResend_follows {s0 : State} {tid : Nat} {s : State} (hK : K .regs = false ∧ K .mem = false ∧ K .trn = false ∧ K .jrn = false ∧ K .flt = false ∧ K .loss = false ∧ K .bells = false ∧ K .col = false ∧ K .ports = false) (hs : Follows K s0 s) :
    OutFollows K s0 (execBusyResend tid s) := by
  simp only [execBusyResend]
  repeat' split
  all_goals simp (maxDischargeDepth := 30) [*]

end Sys2Proof.Machine
end

