-- ==== Sys2Proof/Laws/FollowsExec.lean ====
section
/-!
SUPPORT. What every command keeps: the relation of Laws/Follows.lean between the state before a command and the state after it, with every piece of the state that
the command does not change.
-/

set_option linter.all false
set_option Elab.async false

namespace Sys2Proof.Machine

open Sys2Proof

variable {K : Piece → Bool}

theorem execRd_all {s : State} {a} {b} {c} (hK : ∀ p ∈ mayChange (.rd a b c), K p = false) : OutFollows K s (exec (.rd a b c) s) :=
  show OutFollows K s (execRd a b c s) from
  execRd_follows (by simpa using (show ∀ p ∈ ([.regs, .mem, .trn, .flt, .dry, .bells, .ports, .time] : List Piece), K p = false from hK)) (Follows.refl s)

theorem execWr_all {s : State} {a} {b} {c} (hK : ∀ p ∈ mayChange (.wr a b c), K p = false) : OutFollows K s (exec (.wr a b c) s) :=
  show OutFollows K s (execWr a b c s) from
  execWr_follows (by simpa using (show ∀ p ∈ ([.ftc, .regs, .fuses, .mem, .trn, .jrn, .pit, .flt, .pole, .loss, .dry, .sec, .bells, .col, .ports, .slots, .canopies, .seams, .cross, .time, .clk, .pwr, .spillq] : List Piece), K p = false from hK)) (Follows.refl s)

theorem execRegRd_all {s : State} {a} {b} (hK : ∀ p ∈ mayChange (.regRd a b), K p = false) : OutFollows K s (exec (.regRd a b) s) :=
  show OutFollows K s (execRegRd a b s) from
  execRegRd_follows (by simpa using (show ∀ p ∈ ([.regs, .trn, .flt, .ports, .time] : List Piece), K p = false from hK)) (Follows.refl s)

theorem execRegWr_all {s : State} {a} {b} (hK : ∀ p ∈ mayChange (.regWr a b), K p = false) : OutFollows K s (exec (.regWr a b) s) :=
  show OutFollows K s (execRegWr a b s) from
  execRegWr_follows (by simpa using (show ∀ p ∈ ([.ftc, .regs, .fuses, .mem, .trn, .jrn, .pit, .flt, .pole, .loss, .dry, .sec, .bells, .col, .ports, .slots, .canopies, .seams, .cross, .time, .clk, .pwr, .spillq] : List Piece), K p = false from hK)) (Follows.refl s)

theorem execBellResetRelease_all {s : State} {a} {b} {c} (hK : ∀ p ∈ mayChange (.bellResetRelease a b c), K p = false) : OutFollows K s (exec (.bellResetRelease a b c) s) :=
  show OutFollows K s (execBellResetRelease a b c s) from
  execBellResetRelease_follows (by simpa using (show ∀ p ∈ ([.regs, .mem, .trn, .jrn, .flt, .loss, .dry, .sec, .bells, .ports, .slots, .canopies, .cross, .pwr, .spillq] : List Piece), K p = false from hK)) (Follows.refl s)

theorem execBankRefresh_all {s : State} {a} {b} {c} {d} (hK : ∀ p ∈ mayChange (.bankRefresh a b c d), K p = false) : OutFollows K s (exec (.bankRefresh a b c d) s) :=
  show OutFollows K s (execBankRefresh a b c d s) from
  execBankRefresh_follows (by simpa using (show ∀ p ∈ ([.bells] : List Piece), K p = false from hK)) (Follows.refl s)

theorem execDramInitDone_all {s : State} {a} (hK : ∀ p ∈ mayChange (.dramInitDone a), K p = false) : OutFollows K s (exec (.dramInitDone a) s) :=
  show OutFollows K s (execDramInitDone a s) from
  execDramInitDone_follows (by simpa using (show ∀ p ∈ ([.regs, .mem, .bells] : List Piece), K p = false from hK)) (Follows.refl s)

theorem execScrubStep_all {s : State} {a} {b} (hK : ∀ p ∈ mayChange (.scrubStep a b), K p = false) : OutFollows K s (exec (.scrubStep a b) s) :=
  show OutFollows K s (execScrubStep a b s) from
  execScrubStep_follows (by simpa using (show ∀ p ∈ ([.regs, .mem, .flt, .dry, .bells] : List Piece), K p = false from hK)) (Follows.refl s)

theorem execRunLaunchAtBell_all {s : State} {a} {b} {c} (hK : ∀ p ∈ mayChange (.runLaunchAtBell a b c), K p = false) : OutFollows K s (exec (.runLaunchAtBell a b c) s) :=
  show OutFollows K s (execRunLaunchAtBell a b c s) from
  execRunLaunchAtBell_follows (by simpa using (show ∀ p ∈ ([.bells] : List Piece), K p = false from hK)) (Follows.refl s)

theorem execRunQueueEntryFree_all {s : State} {a} (hK : ∀ p ∈ mayChange (.runQueueEntryFree a), K p = false) : OutFollows K s (exec (.runQueueEntryFree a) s) :=
  show OutFollows K s (execRunQueueEntryFree a s) from
  execRunQueueEntryFree_follows (by simpa using (show ∀ p ∈ ([.bells] : List Piece), K p = false from hK)) (Follows.refl s)

theorem execDescriptorFetch_all {s : State} {a} {b} {c} (hK : ∀ p ∈ mayChange (.descriptorFetch a b c), K p = false) : OutFollows K s (exec (.descriptorFetch a b c) s) :=
  show OutFollows K s (execDescriptorFetch a b c s) from
  execDescriptorFetch_follows (by simpa using (show ∀ p ∈ ([.regs, .mem, .trn, .jrn, .flt, .bells, .col, .ports, .pwr] : List Piece), K p = false from hK)) (Follows.refl s)

theorem execDescriptorComplete_all {s : State} {a} {b} (hK : ∀ p ∈ mayChange (.descriptorComplete a b), K p = false) : OutFollows K s (exec (.descriptorComplete a b) s) :=
  show OutFollows K s (execDescriptorComplete a b s) from
  execDescriptorComplete_follows (by simpa using (show ∀ p ∈ ([.regs, .jrn, .bells] : List Piece), K p = false from hK)) (Follows.refl s)

theorem execOpNop_all {s : State} {a} {b} (hK : ∀ p ∈ mayChange (.opNop a b), K p = false) : OutFollows K s (exec (.opNop a b) s) :=
  show OutFollows K s (execOpNop a b s) from
  execOpNop_follows (by simpa using (show ∀ p ∈ ([.regs, .mem, .trn, .jrn, .flt, .bells, .col, .ports] : List Piece), K p = false from hK)) (Follows.refl s)

theorem execOpMatmul_all {s : State} {a} {b} {c} (hK : ∀ p ∈ mayChange (.opMatmul a b c), K p = false) : OutFollows K s (exec (.opMatmul a b c) s) :=
  show OutFollows K s (execOpMatmul a b c s) from
  execOpMatmul_follows (by simpa using (show ∀ p ∈ ([.regs, .mem, .trn, .jrn, .flt, .dry, .bells, .col, .ports] : List Piece), K p = false from hK)) (Follows.refl s)

theorem execOpAttn_all {s : State} {a} {b} {c} (hK : ∀ p ∈ mayChange (.opAttn a b c), K p = false) : OutFollows K s (exec (.opAttn a b c) s) :=
  show OutFollows K s (execOpAttn a b c s) from
  execOpAttn_follows (by simpa using (show ∀ p ∈ ([.regs, .mem, .trn, .jrn, .flt, .dry, .bells, .col, .ports] : List Piece), K p = false from hK)) (Follows.refl s)

theorem execOpSoftmax_all {s : State} {a} {b} {c} (hK : ∀ p ∈ mayChange (.opSoftmax a b c), K p = false) : OutFollows K s (exec (.opSoftmax a b c) s) :=
  show OutFollows K s (execOpSoftmax a b c s) from
  execOpSoftmax_follows (by simpa using (show ∀ p ∈ ([.regs, .mem, .trn, .jrn, .flt, .dry, .bells, .col, .ports] : List Piece), K p = false from hK)) (Follows.refl s)

theorem execOpNorm_all {s : State} {a} {b} {c} (hK : ∀ p ∈ mayChange (.opNorm a b c), K p = false) : OutFollows K s (exec (.opNorm a b c) s) :=
  show OutFollows K s (execOpNorm a b c s) from
  execOpNorm_follows (by simpa using (show ∀ p ∈ ([.regs, .mem, .trn, .jrn, .flt, .dry, .bells, .col, .ports] : List Piece), K p = false from hK)) (Follows.refl s)

theorem execOpRope_all {s : State} {a} {b} {c} (hK : ∀ p ∈ mayChange (.opRope a b c), K p = false) : OutFollows K s (exec (.opRope a b c) s) :=
  show OutFollows K s (execOpRope a b c s) from
  execOpRope_follows (by simpa using (show ∀ p ∈ ([.regs, .mem, .trn, .jrn, .flt, .dry, .bells, .col, .ports] : List Piece), K p = false from hK)) (Follows.refl s)

theorem execOpEltwise_all {s : State} {a} {b} {c} (hK : ∀ p ∈ mayChange (.opEltwise a b c), K p = false) : OutFollows K s (exec (.opEltwise a b c) s) :=
  show OutFollows K s (execOpEltwise a b c s) from
  execOpEltwise_follows (by simpa using (show ∀ p ∈ ([.regs, .mem, .trn, .jrn, .flt, .dry, .bells, .col, .ports] : List Piece), K p = false from hK)) (Follows.refl s)

theorem execOpQuant_all {s : State} {a} {b} {c} (hK : ∀ p ∈ mayChange (.opQuant a b c), K p = false) : OutFollows K s (exec (.opQuant a b c) s) :=
  show OutFollows K s (execOpQuant a b c s) from
  execOpQuant_follows (by simpa using (show ∀ p ∈ ([.regs, .mem, .trn, .jrn, .flt, .dry, .bells, .col, .ports] : List Piece), K p = false from hK)) (Follows.refl s)

theorem execOpMoeGate_all {s : State} {a} {b} {c} (hK : ∀ p ∈ mayChange (.opMoeGate a b c), K p = false) : OutFollows K s (exec (.opMoeGate a b c) s) :=
  show OutFollows K s (execOpMoeGate a b c s) from
  execOpMoeGate_follows (by simpa using (show ∀ p ∈ ([.regs, .mem, .trn, .jrn, .flt, .dry, .bells, .col, .ports] : List Piece), K p = false from hK)) (Follows.refl s)

theorem execOpMoeDispatch_all {s : State} {a} {b} {c} (hK : ∀ p ∈ mayChange (.opMoeDispatch a b c), K p = false) : OutFollows K s (exec (.opMoeDispatch a b c) s) :=
  show OutFollows K s (execOpMoeDispatch a b c s) from
  execOpMoeDispatch_follows (by simpa using (show ∀ p ∈ ([.regs, .mem, .trn, .jrn, .flt, .dry, .bells, .col, .ports] : List Piece), K p = false from hK)) (Follows.refl s)

theorem execMoeDispatchReceive_all {s : State} {a} (hK : ∀ p ∈ mayChange (.moeDispatchReceive a), K p = false) : OutFollows K s (exec (.moeDispatchReceive a) s) :=
  show OutFollows K s (execMoeDispatchReceive a s) from
  execMoeDispatchReceive_follows (by simpa using (show ∀ p ∈ ([.mem, .bells] : List Piece), K p = false from hK)) (Follows.refl s)

theorem execOpSample_all {s : State} {a} {b} {c} (hK : ∀ p ∈ mayChange (.opSample a b c), K p = false) : OutFollows K s (exec (.opSample a b c) s) :=
  show OutFollows K s (execOpSample a b c s) from
  execOpSample_follows (by simpa using (show ∀ p ∈ ([.regs, .mem, .trn, .jrn, .flt, .dry, .bells, .col, .ports] : List Piece), K p = false from hK)) (Follows.refl s)

theorem execOpKvAppend_all {s : State} {a} {b} {c} (hK : ∀ p ∈ mayChange (.opKvAppend a b c), K p = false) : OutFollows K s (exec (.opKvAppend a b c) s) :=
  show OutFollows K s (execOpKvAppend a b c s) from
  execOpKvAppend_follows (by simpa using (show ∀ p ∈ ([.regs, .mem, .trn, .jrn, .flt, .dry, .bells, .col, .ports] : List Piece), K p = false from hK)) (Follows.refl s)

theorem execOpStage_all {s : State} {a} {b} {c} (hK : ∀ p ∈ mayChange (.opStage a b c), K p = false) : OutFollows K s (exec (.opStage a b c) s) :=
  show OutFollows K s (execOpStage a b c s) from
  execOpStage_follows (by simpa using (show ∀ p ∈ ([.regs, .mem, .trn, .jrn, .flt, .dry, .bells, .col, .ports] : List Piece), K p = false from hK)) (Follows.refl s)

theorem execOpExpmax_all {s : State} {a} {b} {c} (hK : ∀ p ∈ mayChange (.opExpmax a b c), K p = false) : OutFollows K s (exec (.opExpmax a b c) s) :=
  show OutFollows K s (execOpExpmax a b c s) from
  execOpExpmax_follows (by simpa using (show ∀ p ∈ ([.regs, .mem, .trn, .jrn, .flt, .dry, .bells, .col, .ports] : List Piece), K p = false from hK)) (Follows.refl s)

theorem execOpSync_all {s : State} {a} {b} (hK : ∀ p ∈ mayChange (.opSync a b), K p = false) : OutFollows K s (exec (.opSync a b) s) :=
  show OutFollows K s (execOpSync a b s) from
  execOpSync_follows (by simpa using (show ∀ p ∈ ([.regs, .mem, .trn, .jrn, .flt, .bells, .col, .ports] : List Piece), K p = false from hK)) (Follows.refl s)

theorem execBelDrain_all {s : State} {a} {b} (hK : ∀ p ∈ mayChange (.belDrain a b), K p = false) : OutFollows K s (exec (.belDrain a b) s) :=
  show OutFollows K s (execBelDrain a b s) from
  execBelDrain_follows (by simpa using (show ∀ p ∈ ([.regs, .bells] : List Piece), K p = false from hK)) (Follows.refl s)

theorem execWoRun_all {s : State} {a} {b} (hK : ∀ p ∈ mayChange (.woRun a b), K p = false) : OutFollows K s (exec (.woRun a b) s) :=
  show OutFollows K s (execWoRun a b s) from
  execWoRun_follows (by simpa using (show ∀ p ∈ ([.regs, .trn, .jrn, .flt, .ports] : List Piece), K p = false from hK)) (Follows.refl s)

theorem execWoCommit_all {s : State} {a} {b} (hK : ∀ p ∈ mayChange (.woCommit a b), K p = false) : OutFollows K s (exec (.woCommit a b) s) :=
  show OutFollows K s (execWoCommit a b s) from
  execWoCommit_follows (by simpa using (show ∀ p ∈ ([.regs, .trn, .jrn, .flt, .ports] : List Piece), K p = false from hK)) (Follows.refl s)

theorem execWoDiscard_all {s : State} {a} {b} (hK : ∀ p ∈ mayChange (.woDiscard a b), K p = false) : OutFollows K s (exec (.woDiscard a b) s) :=
  show OutFollows K s (execWoDiscard a b s) from
  execWoDiscard_follows (by simpa using (show ∀ p ∈ ([.regs, .trn, .jrn, .flt, .ports] : List Piece), K p = false from hK)) (Follows.refl s)

theorem execWoOpen_all {s : State} {a} {b} (hK : ∀ p ∈ mayChange (.woOpen a b), K p = false) : OutFollows K s (exec (.woOpen a b) s) :=
  show OutFollows K s (execWoOpen a b s) from
  execWoOpen_follows (by simpa using (show ∀ p ∈ ([.regs, .trn, .jrn, .flt, .ports] : List Piece), K p = false from hK)) (Follows.refl s)

theorem execWoClose_all {s : State} {a} {b} (hK : ∀ p ∈ mayChange (.woClose a b), K p = false) : OutFollows K s (exec (.woClose a b) s) :=
  show OutFollows K s (execWoClose a b s) from
  execWoClose_follows (by simpa using (show ∀ p ∈ ([.regs, .trn, .jrn, .flt, .ports] : List Piece), K p = false from hK)) (Follows.refl s)

theorem execLaunchTickReached_all {s : State} {a} {b} (hK : ∀ p ∈ mayChange (.launchTickReached a b), K p = false) : OutFollows K s (exec (.launchTickReached a b) s) :=
  show OutFollows K s (execLaunchTickReached a b s) from
  execLaunchTickReached_follows (by simpa using (show ∀ p ∈ ([.regs, .trn, .jrn, .flt, .ports] : List Piece), K p = false from hK)) (Follows.refl s)

theorem execLaunch_all {s : State} {a} {b} (hK : ∀ p ∈ mayChange (.launch a b), K p = false) : OutFollows K s (exec (.launch a b) s) :=
  show OutFollows K s (execLaunch a b s) from
  execLaunch_follows (by simpa using (show ∀ p ∈ ([.regs, .trn, .jrn, .flt, .ports] : List Piece), K p = false from hK)) (Follows.refl s)

theorem execCommitCopyDone_all {s : State} {a} (hK : ∀ p ∈ mayChange (.commitCopyDone a), K p = false) : OutFollows K s (exec (.commitCopyDone a) s) :=
  show OutFollows K s (execCommitCopyDone a s) from
  execCommitCopyDone_follows (by simpa using (show ∀ p ∈ ([.regs, .mem, .trn, .jrn, .flt, .ports] : List Piece), K p = false from hK)) (Follows.refl s)

theorem execCommitSlotReadRelease_all {s : State} {a} {b} {c} (hK : ∀ p ∈ mayChange (.commitSlotReadRelease a b c), K p = false) : OutFollows K s (exec (.commitSlotReadRelease a b c) s) :=
  show OutFollows K s (execCommitSlotReadRelease a b c s) from
  execCommitSlotReadRelease_follows (by simpa using (show ∀ p ∈ ([.regs, .mem, .trn, .flt, .dry, .bells, .ports] : List Piece), K p = false from hK)) (Follows.refl s)

theorem execRunComplete_all {s : State} {a} {b} (hK : ∀ p ∈ mayChange (.runComplete a b), K p = false) : OutFollows K s (exec (.runComplete a b) s) :=
  show OutFollows K s (execRunComplete a b s) from
  execRunComplete_follows (by simpa using (show ∀ p ∈ ([.regs, .trn, .jrn, .flt, .ports] : List Piece), K p = false from hK)) (Follows.refl s)

theorem execPartReport_all {s : State} {a} {b} (hK : ∀ p ∈ mayChange (.partReport a b), K p = false) : OutFollows K s (exec (.partReport a b) s) :=
  show OutFollows K s (execPartReport a b s) from
  execPartReport_follows (by simpa using (show ∀ p ∈ ([.regs, .trn, .jrn, .flt, .ports] : List Piece), K p = false from hK)) (Follows.refl s)

theorem execKvMirrorMsg_all {s : State} {a} {b} (hK : ∀ p ∈ mayChange (.kvMirrorMsg a b), K p = false) : OutFollows K s (exec (.kvMirrorMsg a b) s) :=
  show OutFollows K s (execKvMirrorMsg a b s) from
  execKvMirrorMsg_follows (by simpa using (show ∀ p ∈ ([.regs, .mem, .trn, .jrn, .flt, .ports] : List Piece), K p = false from hK)) (Follows.refl s)

theorem execExpPartial_all {s : State} {a} {b} {c} (hK : ∀ p ∈ mayChange (.expPartial a b c), K p = false) : OutFollows K s (exec (.expPartial a b c) s) :=
  show OutFollows K s (execExpPartial a b c s) from
  execExpPartial_follows (by simpa using (show ∀ p ∈ ([.regs, .mem, .trn, .jrn, .flt, .col, .ports] : List Piece), K p = false from hK)) (Follows.refl s)

theorem execExpResult_all {s : State} {a} {b} (hK : ∀ p ∈ mayChange (.expResult a b), K p = false) : OutFollows K s (exec (.expResult a b) s) :=
  show OutFollows K s (execExpResult a b s) from
  execExpResult_follows (by simpa using (show ∀ p ∈ ([.regs, .mem, .trn, .jrn, .flt, .col, .ports] : List Piece), K p = false from hK)) (Follows.refl s)

theorem execColPartial_all {s : State} {a} {b} {c} (hK : ∀ p ∈ mayChange (.colPartial a b c), K p = false) : OutFollows K s (exec (.colPartial a b c) s) :=
  show OutFollows K s (execColPartial a b c s) from
  execColPartial_follows (by simpa using (show ∀ p ∈ ([.regs, .mem, .trn, .jrn, .flt, .col, .ports] : List Piece), K p = false from hK)) (Follows.refl s)

theorem execColResult_all {s : State} {a} {b} (hK : ∀ p ∈ mayChange (.colResult a b), K p = false) : OutFollows K s (exec (.colResult a b) s) :=
  show OutFollows K s (execColResult a b s) from
  execColResult_follows (by simpa using (show ∀ p ∈ ([.regs, .mem, .trn, .jrn, .flt, .col, .ports] : List Piece), K p = false from hK)) (Follows.refl s)

theorem execColAbort_all {s : State} {a} {b} (hK : ∀ p ∈ mayChange (.colAbort a b), K p = false) : OutFollows K s (exec (.colAbort a b) s) :=
  show OutFollows K s (execColAbort a b s) from
  execColAbort_follows (by simpa using (show ∀ p ∈ ([.regs, .mem, .trn, .jrn, .flt, .col, .ports] : List Piece), K p = false from hK)) (Follows.refl s)

theorem execCollectiveStall_all {s : State} {a} (hK : ∀ p ∈ mayChange (.collectiveStall a), K p = false) : OutFollows K s (exec (.collectiveStall a) s) :=
  show OutFollows K s (execCollectiveStall a s) from
  execCollectiveStall_follows (by simpa using (show ∀ p ∈ ([.flt, .col] : List Piece), K p = false from hK)) (Follows.refl s)

theorem execOpenShadow_all {s : State} {a} (hK : ∀ p ∈ mayChange (.openShadow a), K p = false) : OutFollows K s (exec (.openShadow a) s) :=
  show OutFollows K s (execOpenShadow a s) from
  execOpenShadow_follows (by simpa using (show ∀ p ∈ ([.regs, .trn, .pit] : List Piece), K p = false from hK)) (Follows.refl s)

theorem execShadowDataWrite_all {s : State} {a} {b} (hK : ∀ p ∈ mayChange (.shadowDataWrite a b), K p = false) : OutFollows K s (exec (.shadowDataWrite a b) s) :=
  show OutFollows K s (execShadowDataWrite a b s) from
  execShadowDataWrite_follows (by simpa using (show ∀ p ∈ ([.regs, .pit] : List Piece), K p = false from hK)) (Follows.refl s)

theorem execVerify_all {s : State} {a} (hK : ∀ p ∈ mayChange (.verify a), K p = false) : OutFollows K s (exec (.verify a) s) :=
  show OutFollows K s (execVerify a s) from
  execVerify_follows (by simpa using (show ∀ p ∈ ([.regs, .trn, .pit, .flt, .ports] : List Piece), K p = false from hK)) (Follows.refl s)

theorem execVerifyDone_all {s : State} (hK : ∀ p ∈ mayChange .verifyDone, K p = false) : OutFollows K s (exec .verifyDone s) :=
  show OutFollows K s (execVerifyDone s) from
  execVerifyDone_follows (by simpa using (show ∀ p ∈ ([.regs, .trn, .pit] : List Piece), K p = false from hK)) (Follows.refl s)

theorem execPitchQueryMsg_all {s : State} {a} {b} (hK : ∀ p ∈ mayChange (.pitchQueryMsg a b), K p = false) : OutFollows K s (exec (.pitchQueryMsg a b) s) :=
  show OutFollows K s (execPitchQueryMsg a b s) from
  execPitchQueryMsg_follows (by simpa using (show ∀ p ∈ ([.regs, .trn, .flt, .ports] : List Piece), K p = false from hK)) (Follows.refl s)

theorem execPeerWaitTimeout_all {s : State} {a} (hK : ∀ p ∈ mayChange (.peerWaitTimeout a), K p = false) : OutFollows K s (exec (.peerWaitTimeout a) s) :=
  show OutFollows K s (execPeerWaitTimeout a s) from
  execPeerWaitTimeout_follows (by simpa using (show ∀ p ∈ ([.pit] : List Piece), K p = false from hK)) (Follows.refl s)

theorem execArm_all {s : State} {a} (hK : ∀ p ∈ mayChange (.arm a), K p = false) : OutFollows K s (exec (.arm a) s) :=
  show OutFollows K s (execArm a s) from
  execArm_follows (by simpa using (show ∀ p ∈ ([.regs, .pit] : List Piece), K p = false from hK)) (Follows.refl s)

theorem execDisarm_all {s : State} {a} (hK : ∀ p ∈ mayChange (.disarm a), K p = false) : OutFollows K s (exec (.disarm a) s) :=
  show OutFollows K s (execDisarm a s) from
  execDisarm_follows (by simpa using (show ∀ p ∈ ([.regs, .pit] : List Piece), K p = false from hK)) (Follows.refl s)

theorem execDrop_all {s : State} {a} (hK : ∀ p ∈ mayChange (.drop a), K p = false) : OutFollows K s (exec (.drop a) s) :=
  show OutFollows K s (execDrop a s) from
  execDrop_follows (by simpa using (show ∀ p ∈ ([.regs, .trn, .pit] : List Piece), K p = false from hK)) (Follows.refl s)

theorem execFullActivation_all {s : State} (hK : ∀ p ∈ mayChange .fullActivation, K p = false) : OutFollows K s (exec .fullActivation s) :=
  show OutFollows K s (execFullActivation s) from
  execFullActivation_follows (by simpa using (show ∀ p ∈ ([.regs, .trn, .jrn, .pit, .flt, .loss, .dry, .sec, .bells, .col, .ports, .canopies, .seams, .cross, .clk, .pwr, .spillq] : List Piece), K p = false from hK)) (Follows.refl s)

theorem execRemapArm_all {s : State} {a} {b} (hK : ∀ p ∈ mayChange (.remapArm a b), K p = false) : OutFollows K s (exec (.remapArm a b) s) :=
  show OutFollows K s (execRemapArm a b s) from
  execRemapArm_follows (by simpa using (show ∀ p ∈ ([.regs, .pit, .flt] : List Piece), K p = false from hK)) (Follows.refl s)

theorem execRemapDisarm_all {s : State} {a} {b} (hK : ∀ p ∈ mayChange (.remapDisarm a b), K p = false) : OutFollows K s (exec (.remapDisarm a b) s) :=
  show OutFollows K s (execRemapDisarm a b s) from
  execRemapDisarm_follows (by simpa using (show ∀ p ∈ ([.regs, .pit] : List Piece), K p = false from hK)) (Follows.refl s)

theorem execRemapActivation_all {s : State} (hK : ∀ p ∈ mayChange .remapActivation, K p = false) : OutFollows K s (exec .remapActivation s) :=
  show OutFollows K s (execRemapActivation s) from
  execRemapActivation_follows (by simpa using (show ∀ p ∈ ([.regs, .mem, .trn, .jrn, .pit, .flt, .loss, .dry, .bells, .col, .ports, .canopies] : List Piece), K p = false from hK)) (Follows.refl s)

theorem execLiveWrite_all {s : State} {a} (hK : ∀ p ∈ mayChange (.liveWrite a), K p = false) : OutFollows K s (exec (.liveWrite a) s) :=
  show OutFollows K s (execLiveWrite a s) from
  execLiveWrite_follows (by simpa using (show ∀ p ∈ ([.regs, .pit] : List Piece), K p = false from hK)) (Follows.refl s)

theorem execLiveApply_all {s : State} (hK : ∀ p ∈ mayChange .liveApply, K p = false) : OutFollows K s (exec .liveApply s) :=
  show OutFollows K s (execLiveApply s) from
  execLiveApply_follows (by simpa using (show ∀ p ∈ ([.regs, .pit] : List Piece), K p = false from hK)) (Follows.refl s)

theorem execImageInfo_all {s : State} {a} {b} (hK : ∀ p ∈ mayChange (.imageInfo a b), K p = false) : OutFollows K s (exec (.imageInfo a b) s) :=
  show OutFollows K s (execImageInfo a b s) from
  execImageInfo_follows (by simpa using (show ∀ p ∈ ([.regs, .trn, .flt, .loss, .ports] : List Piece), K p = false from hK)) (Follows.refl s)

theorem execZfpForward_all {s : State} {a} {b} (hK : ∀ p ∈ mayChange (.zfpForward a b), K p = false) : OutFollows K s (exec (.zfpForward a b) s) :=
  show OutFollows K s (execZfpForward a b s) from
  execZfpForward_follows (by simpa using (show ∀ p ∈ ([.regs, .trn, .flt, .ports] : List Piece), K p = false from hK)) (Follows.refl s)

theorem execZfpResponse_all {s : State} {a} {b} (hK : ∀ p ∈ mayChange (.zfpResponse a b), K p = false) : OutFollows K s (exec (.zfpResponse a b) s) :=
  show OutFollows K s (execZfpResponse a b s) from
  execZfpResponse_follows (by simpa using (show ∀ p ∈ ([.regs, .mem, .trn, .jrn, .pit, .flt, .loss, .dry, .bells, .col, .ports] : List Piece), K p = false from hK)) (Follows.refl s)

theorem execRequestTimeout_all {s : State} {a} (hK : ∀ p ∈ mayChange (.requestTimeout a), K p = false) : OutFollows K s (exec (.requestTimeout a) s) :=
  show OutFollows K s (execRequestTimeout a s) from
  execRequestTimeout_follows (by simpa using (show ∀ p ∈ ([.regs, .mem, .trn, .jrn, .flt, .loss, .bells, .col, .ports] : List Piece), K p = false from hK)) (Follows.refl s)

theorem execInResetResend_all {s : State} {a} (hK : ∀ p ∈ mayChange (.inResetResend a), K p = false) : OutFollows K s (exec (.inResetResend a) s) :=
  show OutFollows K s (execInResetResend a s) from
  execInResetResend_follows (by simpa using (show ∀ p ∈ ([.regs, .mem, .trn, .jrn, .flt, .loss, .bells, .col, .ports] : List Piece), K p = false from hK)) (Follows.refl s)

theorem execBusyResend_all {s : State} {a} (hK : ∀ p ∈ mayChange (.busyResend a), K p = false) : OutFollows K s (exec (.busyResend a) s) :=
  show OutFollows K s (execBusyResend a s) from
  execBusyResend_follows (by simpa using (show ∀ p ∈ ([.regs, .mem, .trn, .jrn, .flt, .loss, .bells, .col, .ports] : List Piece), K p = false from hK)) (Follows.refl s)

theorem execDedupKeyExpire_all {s : State} {a} {b} {c} (hK : ∀ p ∈ mayChange (.dedupKeyExpire a b c), K p = false) : OutFollows K s (exec (.dedupKeyExpire a b c) s) :=
  show OutFollows K s (execDedupKeyExpire a b c s) from
  execDedupKeyExpire_follows (by simpa using (show ∀ p ∈ ([.trn] : List Piece), K p = false from hK)) (Follows.refl s)

theorem execJrnMirrorMsg_all {s : State} {a} {b} (hK : ∀ p ∈ mayChange (.jrnMirrorMsg a b), K p = false) : OutFollows K s (exec (.jrnMirrorMsg a b) s) :=
  show OutFollows K s (execJrnMirrorMsg a b s) from
  execJrnMirrorMsg_follows (by simpa using (show ∀ p ∈ ([.regs, .trn, .jrn, .flt, .ports] : List Piece), K p = false from hK)) (Follows.refl s)

theorem execMirrorTimeout_all {s : State} {a} (hK : ∀ p ∈ mayChange (.mirrorTimeout a), K p = false) : OutFollows K s (exec (.mirrorTimeout a) s) :=
  show OutFollows K s (execMirrorTimeout a s) from
  execMirrorTimeout_follows (by simpa using (show ∀ p ∈ ([.regs, .trn, .jrn, .flt, .ports] : List Piece), K p = false from hK)) (Follows.refl s)

theorem execJournalRelease_all {s : State} {a} (hK : ∀ p ∈ mayChange (.journalRelease a), K p = false) : OutFollows K s (exec (.journalRelease a) s) :=
  show OutFollows K s (execJournalRelease a s) from
  execJournalRelease_follows (by simpa using (show ∀ p ∈ ([.regs, .trn, .flt, .ports] : List Piece), K p = false from hK)) (Follows.refl s)

theorem execCompletionSend_all {s : State} {a} {b} (hK : ∀ p ∈ mayChange (.completionSend a b), K p = false) : OutFollows K s (exec (.completionSend a b) s) :=
  show OutFollows K s (execCompletionSend a b s) from
  execCompletionSend_follows (by simpa using (show ∀ p ∈ ([.regs, .trn, .jrn, .flt, .ports] : List Piece), K p = false from hK)) (Follows.refl s)

theorem execCompAck_all {s : State} {a} {b} (hK : ∀ p ∈ mayChange (.compAck a b), K p = false) : OutFollows K s (exec (.compAck a b) s) :=
  show OutFollows K s (execCompAck a b s) from
  execCompAck_follows (by simpa using (show ∀ p ∈ ([.regs, .trn, .jrn, .flt, .ports] : List Piece), K p = false from hK)) (Follows.refl s)

theorem execHostBind_all {s : State} {a} {b} (hK : ∀ p ∈ mayChange (.hostBind a b), K p = false) : OutFollows K s (exec (.hostBind a b) s) :=
  show OutFollows K s (execHostBind a b s) from
  execHostBind_follows (by simpa using (show ∀ p ∈ ([.regs, .trn, .flt, .ports] : List Piece), K p = false from hK)) (Follows.refl s)

theorem execEthFrame_all {s : State} {a} {b} {c} (hK : ∀ p ∈ mayChange (.ethFrame a b c), K p = false) : OutFollows K s (exec (.ethFrame a b c) s) :=
  show OutFollows K s (execEthFrame a b c s) from
  execEthFrame_follows (by simpa using (show ∀ p ∈ ([.regs, .trn, .flt, .ports] : List Piece), K p = false from hK)) (Follows.refl s)

theorem execNeighborSolicitation_all {s : State} {a} {b} {c} (hK : ∀ p ∈ mayChange (.neighborSolicitation a b c), K p = false) : OutFollows K s (exec (.neighborSolicitation a b c) s) :=
  show OutFollows K s (execNeighborSolicitation a b c s) from
  execNeighborSolicitation_follows (by simpa using (show ∀ p ∈ ([.regs, .trn, .flt, .ports] : List Piece), K p = false from hK)) (Follows.refl s)

theorem execEchoRequest_all {s : State} {a} {b} {c} (hK : ∀ p ∈ mayChange (.echoRequest a b c), K p = false) : OutFollows K s (exec (.echoRequest a b c) s) :=
  show OutFollows K s (execEchoRequest a b c s) from
  execEchoRequest_follows (by simpa using (show ∀ p ∈ ([.regs, .trn, .flt, .ports] : List Piece), K p = false from hK)) (Follows.refl s)

theorem execDataFlit_all {s : State} {a} {b} (hK : ∀ p ∈ mayChange (.dataFlit a b), K p = false) : OutFollows K s (exec (.dataFlit a b) s) :=
  show OutFollows K s (execDataFlit a b s) from
  execDataFlit_follows (by simpa using (show ∀ p ∈ ([.regs, .trn, .flt, .loss, .ports, .canopies, .spillq] : List Piece), K p = false from hK)) (Follows.refl s)

theorem execCtrlFlit_all {s : State} {a} {b} (hK : ∀ p ∈ mayChange (.ctrlFlit a b), K p = false) : OutFollows K s (exec (.ctrlFlit a b) s) :=
  show OutFollows K s (execCtrlFlit a b s) from
  execCtrlFlit_follows (by simpa using (show ∀ p ∈ ([.regs, .trn, .flt, .loss, .ports, .canopies, .spillq] : List Piece), K p = false from hK)) (Follows.refl s)

theorem execIdleFlit_all {s : State} {a} {b} (hK : ∀ p ∈ mayChange (.idleFlit a b), K p = false) : OutFollows K s (exec (.idleFlit a b) s) :=
  show OutFollows K s (execIdleFlit a b s) from
  execIdleFlit_follows (by simpa using (show ∀ p ∈ ([.regs, .trn, .flt, .loss, .ports, .canopies, .spillq] : List Piece), K p = false from hK)) (Follows.refl s)

theorem execNakResendTimeout_all {s : State} {a} {b} (hK : ∀ p ∈ mayChange (.nakResendTimeout a b), K p = false) : OutFollows K s (exec (.nakResendTimeout a b) s) :=
  show OutFollows K s (execNakResendTimeout a b s) from
  execNakResendTimeout_follows (by simpa using (show ∀ p ∈ ([.ports] : List Piece), K p = false from hK)) (Follows.refl s)

theorem execAckStallReplay_all {s : State} {a} {b} (hK : ∀ p ∈ mayChange (.ackStallReplay a b), K p = false) : OutFollows K s (exec (.ackStallReplay a b) s) :=
  show OutFollows K s (execAckStallReplay a b s) from
  execAckStallReplay_follows (by simpa using (show ∀ p ∈ ([.regs, .trn, .flt, .loss, .ports, .canopies] : List Piece), K p = false from hK)) (Follows.refl s)

theorem execMarkerInterval_all {s : State} {a} (hK : ∀ p ∈ mayChange (.markerInterval a), K p = false) : OutFollows K s (exec (.markerInterval a) s) :=
  show OutFollows K s (execMarkerInterval a s) from
  execMarkerInterval_follows (by simpa using (show ∀ p ∈ ([.regs, .flt, .dry, .ports] : List Piece), K p = false from hK)) (Follows.refl s)

theorem execMarkerReceive_all {s : State} {a} {b} {c} {d} (hK : ∀ p ∈ mayChange (.markerReceive a b c d), K p = false) : OutFollows K s (exec (.markerReceive a b c d) s) :=
  show OutFollows K s (execMarkerReceive a b c d s) from
  execMarkerReceive_follows (by simpa using (show ∀ p ∈ ([.regs, .flt, .dry, .ports, .canopies] : List Piece), K p = false from hK)) (Follows.refl s)

theorem execSpillGrant_all {s : State} {a} (hK : ∀ p ∈ mayChange (.spillGrant a), K p = false) : OutFollows K s (exec (.spillGrant a) s) :=
  show OutFollows K s (execSpillGrant a s) from
  execSpillGrant_follows (by simpa using (show ∀ p ∈ ([.regs, .spillq] : List Piece), K p = false from hK)) (Follows.refl s)

theorem execSpillRelease_all {s : State} {a} (hK : ∀ p ∈ mayChange (.spillRelease a), K p = false) : OutFollows K s (exec (.spillRelease a) s) :=
  show OutFollows K s (execSpillRelease a s) from
  execSpillRelease_follows (by simpa using (show ∀ p ∈ ([.regs] : List Piece), K p = false from hK)) (Follows.refl s)

theorem execParamMsg_all {s : State} {a} {b} (hK : ∀ p ∈ mayChange (.paramMsg a b), K p = false) : OutFollows K s (exec (.paramMsg a b) s) :=
  show OutFollows K s (execParamMsg a b s) from
  execParamMsg_follows (by simpa using (show ∀ p ∈ ([.regs, .trn, .flt, .loss, .dry, .sec, .ports, .canopies, .spillq] : List Piece), K p = false from hK)) (Follows.refl s)

theorem execAuditMsg_all {s : State} {a} {b} (hK : ∀ p ∈ mayChange (.auditMsg a b), K p = false) : OutFollows K s (exec (.auditMsg a b) s) :=
  show OutFollows K s (execAuditMsg a b s) from
  execAuditMsg_follows (by simpa using (show ∀ p ∈ ([.regs, .trn, .flt, .loss, .ports, .canopies] : List Piece), K p = false from hK)) (Follows.refl s)

theorem execCreditAudit_all {s : State} {a} (hK : ∀ p ∈ mayChange (.creditAudit a), K p = false) : OutFollows K s (exec (.creditAudit a) s) :=
  show OutFollows K s (execCreditAudit a s) from
  execCreditAudit_follows (by simpa using (show ∀ p ∈ ([.ports] : List Piece), K p = false from hK)) (Follows.refl s)

theorem execLaneFailMsg_all {s : State} {a} {b} (hK : ∀ p ∈ mayChange (.laneFailMsg a b), K p = false) : OutFollows K s (exec (.laneFailMsg a b) s) :=
  show OutFollows K s (execLaneFailMsg a b s) from
  execLaneFailMsg_follows (by simpa using (show ∀ p ∈ ([.regs, .trn, .flt, .loss, .ports, .canopies] : List Piece), K p = false from hK)) (Follows.refl s)

theorem execWrongLockMsg_all {s : State} {a} {b} (hK : ∀ p ∈ mayChange (.wrongLockMsg a b), K p = false) : OutFollows K s (exec (.wrongLockMsg a b) s) :=
  show OutFollows K s (execWrongLockMsg a b s) from
  execWrongLockMsg_follows (by simpa using (show ∀ p ∈ ([.regs, .trn, .flt, .loss, .dry, .ports, .canopies] : List Piece), K p = false from hK)) (Follows.refl s)

theorem execCalReqMsg_all {s : State} {a} {b} (hK : ∀ p ∈ mayChange (.calReqMsg a b), K p = false) : OutFollows K s (exec (.calReqMsg a b) s) :=
  show OutFollows K s (execCalReqMsg a b s) from
  execCalReqMsg_follows (by simpa using (show ∀ p ∈ ([.regs, .ports] : List Piece), K p = false from hK)) (Follows.refl s)

theorem execCalDoneMsg_all {s : State} {a} {b} (hK : ∀ p ∈ mayChange (.calDoneMsg a b), K p = false) : OutFollows K s (exec (.calDoneMsg a b) s) :=
  show OutFollows K s (execCalDoneMsg a b s) from
  execCalDoneMsg_follows (by simpa using (show ∀ p ∈ ([.regs, .ports] : List Piece), K p = false from hK)) (Follows.refl s)

theorem execStopMsg_all {s : State} {a} {b} (hK : ∀ p ∈ mayChange (.stopMsg a b), K p = false) : OutFollows K s (exec (.stopMsg a b) s) :=
  show OutFollows K s (execStopMsg a b s) from
  execStopMsg_follows (by simpa using (show ∀ p ∈ ([.regs, .ports] : List Piece), K p = false from hK)) (Follows.refl s)

theorem execThrottleMsg_all {s : State} {a} {b} (hK : ∀ p ∈ mayChange (.throttleMsg a b), K p = false) : OutFollows K s (exec (.throttleMsg a b) s) :=
  show OutFollows K s (execThrottleMsg a b s) from
  execThrottleMsg_follows (by simpa using (show ∀ p ∈ ([.regs, .ports] : List Piece), K p = false from hK)) (Follows.refl s)

theorem execResumeMsg_all {s : State} {a} {b} (hK : ∀ p ∈ mayChange (.resumeMsg a b), K p = false) : OutFollows K s (exec (.resumeMsg a b) s) :=
  show OutFollows K s (execResumeMsg a b s) from
  execResumeMsg_follows (by simpa using (show ∀ p ∈ ([.regs, .ports] : List Piece), K p = false from hK)) (Follows.refl s)

theorem execIdleReqMsg_all {s : State} {a} {b} (hK : ∀ p ∈ mayChange (.idleReqMsg a b), K p = false) : OutFollows K s (exec (.idleReqMsg a b) s) :=
  show OutFollows K s (execIdleReqMsg a b s) from
  execIdleReqMsg_follows (by simpa using (show ∀ p ∈ ([.regs, .ports] : List Piece), K p = false from hK)) (Follows.refl s)

theorem execIdleAckMsg_all {s : State} {a} {b} (hK : ∀ p ∈ mayChange (.idleAckMsg a b), K p = false) : OutFollows K s (exec (.idleAckMsg a b) s) :=
  show OutFollows K s (execIdleAckMsg a b s) from
  execIdleAckMsg_follows (by simpa using (show ∀ p ∈ ([.regs, .ports, .canopies] : List Piece), K p = false from hK)) (Follows.refl s)

theorem execRetrainReqMsg_all {s : State} {a} {b} (hK : ∀ p ∈ mayChange (.retrainReqMsg a b), K p = false) : OutFollows K s (exec (.retrainReqMsg a b) s) :=
  show OutFollows K s (execRetrainReqMsg a b s) from
  execRetrainReqMsg_follows (by simpa using (show ∀ p ∈ ([.regs, .trn, .flt, .loss, .ports, .canopies] : List Piece), K p = false from hK)) (Follows.refl s)

theorem execLaneFailureDetect_all {s : State} {a} {b} {c} {d} (hK : ∀ p ∈ mayChange (.laneFailureDetect a b c d), K p = false) : OutFollows K s (exec (.laneFailureDetect a b c d) s) :=
  show OutFollows K s (execLaneFailureDetect a b c d s) from
  execLaneFailureDetect_follows (by simpa using (show ∀ p ∈ ([.regs, .flt, .dry, .ports, .canopies] : List Piece), K p = false from hK)) (Follows.refl s)

theorem execLaneFailResend_all {s : State} {a} {b} (hK : ∀ p ∈ mayChange (.laneFailResend a b), K p = false) : OutFollows K s (exec (.laneFailResend a b) s) :=
  show OutFollows K s (execLaneFailResend a b s) from
  execLaneFailResend_follows (by simpa using (show ∀ p ∈ ([.regs, .trn, .flt, .loss, .ports, .canopies] : List Piece), K p = false from hK)) (Follows.refl s)

theorem execLinkEnable_all {s : State} {a} (hK : ∀ p ∈ mayChange (.linkEnable a), K p = false) : OutFollows K s (exec (.linkEnable a) s) :=
  show OutFollows K s (execLinkEnable a s) from
  execLinkEnable_follows (by simpa using (show ∀ p ∈ ([.regs, .ports, .canopies] : List Piece), K p = false from hK)) (Follows.refl s)

theorem execLightDetect_all {s : State} {a} {b} (hK : ∀ p ∈ mayChange (.lightDetect a b), K p = false) : OutFollows K s (exec (.lightDetect a b) s) :=
  show OutFollows K s (execLightDetect a b s) from
  execLightDetect_follows (by simpa using (show ∀ p ∈ ([.regs, .ports] : List Piece), K p = false from hK)) (Follows.refl s)

theorem execClockLock_all {s : State} {a} {b} (hK : ∀ p ∈ mayChange (.clockLock a b), K p = false) : OutFollows K s (exec (.clockLock a b) s) :=
  show OutFollows K s (execClockLock a b s) from
  execClockLock_follows (by simpa using (show ∀ p ∈ ([.regs, .ports] : List Piece), K p = false from hK)) (Follows.refl s)

theorem execAlignDone_all {s : State} {a} {b} {c} (hK : ∀ p ∈ mayChange (.alignDone a b c), K p = false) : OutFollows K s (exec (.alignDone a b c) s) :=
  show OutFollows K s (execAlignDone a b c s) from
  execAlignDone_follows (by simpa using (show ∀ p ∈ ([.regs, .trn, .flt, .loss, .ports, .canopies] : List Piece), K p = false from hK)) (Follows.refl s)

theorem execTrainingTimeout_all {s : State} {a} (hK : ∀ p ∈ mayChange (.trainingTimeout a), K p = false) : OutFollows K s (exec (.trainingTimeout a) s) :=
  show OutFollows K s (execTrainingTimeout a s) from
  execTrainingTimeout_follows (by simpa using (show ∀ p ∈ ([.regs, .trn, .flt, .loss, .ports, .canopies] : List Piece), K p = false from hK)) (Follows.refl s)

theorem execTrainingRetry_all {s : State} {a} (hK : ∀ p ∈ mayChange (.trainingRetry a), K p = false) : OutFollows K s (exec (.trainingRetry a) s) :=
  show OutFollows K s (execTrainingRetry a s) from
  execTrainingRetry_follows (by simpa using (show ∀ p ∈ ([.ports] : List Piece), K p = false from hK)) (Follows.refl s)

theorem execIdleQuietTimeout_all {s : State} {a} (hK : ∀ p ∈ mayChange (.idleQuietTimeout a), K p = false) : OutFollows K s (exec (.idleQuietTimeout a) s) :=
  show OutFollows K s (execIdleQuietTimeout a s) from
  execIdleQuietTimeout_follows (by simpa using (show ∀ p ∈ ([.ports] : List Piece), K p = false from hK)) (Follows.refl s)

theorem execIdleExit_all {s : State} {a} {b} (hK : ∀ p ∈ mayChange (.idleExit a b), K p = false) : OutFollows K s (exec (.idleExit a b) s) :=
  show OutFollows K s (execIdleExit a b s) from
  execIdleExit_follows (by simpa using (show ∀ p ∈ ([.regs, .ports] : List Piece), K p = false from hK)) (Follows.refl s)

theorem execRetrain_all {s : State} {a} (hK : ∀ p ∈ mayChange (.retrain a), K p = false) : OutFollows K s (exec (.retrain a) s) :=
  show OutFollows K s (execRetrain a s) from
  execRetrain_follows (by simpa using (show ∀ p ∈ ([.regs, .trn, .flt, .loss, .ports, .canopies] : List Piece), K p = false from hK)) (Follows.refl s)

theorem execRestart_all {s : State} {a} (hK : ∀ p ∈ mayChange (.restart a), K p = false) : OutFollows K s (exec (.restart a) s) :=
  show OutFollows K s (execRestart a s) from
  execRestart_follows (by simpa using (show ∀ p ∈ ([.regs, .ports, .canopies] : List Piece), K p = false from hK)) (Follows.refl s)

theorem execLinkReset_all {s : State} {a} (hK : ∀ p ∈ mayChange (.linkReset a), K p = false) : OutFollows K s (exec (.linkReset a) s) :=
  show OutFollows K s (execLinkReset a s) from
  execLinkReset_follows (by simpa using (show ∀ p ∈ ([.regs, .trn, .flt, .loss, .dry, .sec, .ports, .canopies, .time, .spillq] : List Piece), K p = false from hK)) (Follows.refl s)

theorem execRingSearch_all {s : State} {a} {b} {c} (hK : ∀ p ∈ mayChange (.ringSearch a b c), K p = false) : OutFollows K s (exec (.ringSearch a b c) s) :=
  show OutFollows K s (execRingSearch a b c s) from
  execRingSearch_follows (by simpa using (show ∀ p ∈ ([.regs, .canopies] : List Piece), K p = false from hK)) (Follows.refl s)

theorem execRingSearchDone_all {s : State} {a} {b} (hK : ∀ p ∈ mayChange (.ringSearchDone a b), K p = false) : OutFollows K s (exec (.ringSearchDone a b) s) :=
  show OutFollows K s (execRingSearchDone a b s) from
  execRingSearchDone_follows (by simpa using (show ∀ p ∈ ([.regs, .flt, .dry, .canopies] : List Piece), K p = false from hK)) (Follows.refl s)

theorem execLockLoopUpdate_all {s : State} {a} {b} {c} (hK : ∀ p ∈ mayChange (.lockLoopUpdate a b c), K p = false) : OutFollows K s (exec (.lockLoopUpdate a b c) s) :=
  show OutFollows K s (execLockLoopUpdate a b c s) from
  execLockLoopUpdate_follows (by simpa using (show ∀ p ∈ ([.regs, .trn, .flt, .loss, .dry, .ports, .canopies] : List Piece), K p = false from hK)) (Follows.refl s)

theorem execXtMatrixSave_all {s : State} {a} (hK : ∀ p ∈ mayChange (.xtMatrixSave a), K p = false) : OutFollows K s (exec (.xtMatrixSave a) s) :=
  show OutFollows K s (execXtMatrixSave a s) from
  execXtMatrixSave_follows (by simpa using (show ∀ p ∈ ([.dry, .canopies] : List Piece), K p = false from hK)) (Follows.refl s)

theorem execRelockAttempt_all {s : State} {a} {b} (hK : ∀ p ∈ mayChange (.relockAttempt a b), K p = false) : OutFollows K s (exec (.relockAttempt a b) s) :=
  show OutFollows K s (execRelockAttempt a b s) from
  execRelockAttempt_follows (by simpa using (show ∀ p ∈ ([.canopies] : List Piece), K p = false from hK)) (Follows.refl s)

theorem execRelockEnd_all {s : State} {a} {b} {c} {d} (hK : ∀ p ∈ mayChange (.relockEnd a b c d), K p = false) : OutFollows K s (exec (.relockEnd a b c d) s) :=
  show OutFollows K s (execRelockEnd a b c d s) from
  execRelockEnd_follows (by simpa using (show ∀ p ∈ ([.regs, .flt, .dry, .ports, .canopies] : List Piece), K p = false from hK)) (Follows.refl s)

theorem execCalibrationWindow_all {s : State} {a} {b} (hK : ∀ p ∈ mayChange (.calibrationWindow a b), K p = false) : OutFollows K s (exec (.calibrationWindow a b) s) :=
  show OutFollows K s (execCalibrationWindow a b s) from
  execCalibrationWindow_follows (by simpa using (show ∀ p ∈ ([.regs, .ports, .canopies] : List Piece), K p = false from hK)) (Follows.refl s)

theorem execCalibrationWindowDone_all {s : State} {a} {b} {c} {d} {e} (hK : ∀ p ∈ mayChange (.calibrationWindowDone a b c d e), K p = false) : OutFollows K s (exec (.calibrationWindowDone a b c d e) s) :=
  show OutFollows K s (execCalibrationWindowDone a b c d e s) from
  execCalibrationWindowDone_follows (by simpa using (show ∀ p ∈ ([.regs, .ports, .canopies] : List Piece), K p = false from hK)) (Follows.refl s)

theorem execCalOverdue_all {s : State} {a} {b} (hK : ∀ p ∈ mayChange (.calOverdue a b), K p = false) : OutFollows K s (exec (.calOverdue a b) s) :=
  show OutFollows K s (execCalOverdue a b s) from
  execCalOverdue_follows (by simpa using (show ∀ p ∈ ([.flt, .canopies] : List Piece), K p = false from hK)) (Follows.refl s)

theorem execCalSummary_all {s : State} {a} (hK : ∀ p ∈ mayChange (.calSummary a), K p = false) : OutFollows K s (exec (.calSummary a) s) :=
  show OutFollows K s (execCalSummary a s) from
  execCalSummary_follows (by simpa using (show ∀ p ∈ ([.regs, .dry, .canopies, .seams] : List Piece), K p = false from hK)) (Follows.refl s)

theorem execLossOfSignal_all {s : State} {a} {b} (hK : ∀ p ∈ mayChange (.lossOfSignal a b), K p = false) : OutFollows K s (exec (.lossOfSignal a b) s) :=
  show OutFollows K s (execLossOfSignal a b s) from
  execLossOfSignal_follows (by simpa using (show ∀ p ∈ ([.regs, .flt, .ports, .canopies] : List Piece), K p = false from hK)) (Follows.refl s)

theorem execPortDarkTimeout_all {s : State} {a} (hK : ∀ p ∈ mayChange (.portDarkTimeout a), K p = false) : OutFollows K s (exec (.portDarkTimeout a) s) :=
  show OutFollows K s (execPortDarkTimeout a s) from
  execPortDarkTimeout_follows (by simpa using (show ∀ p ∈ ([.regs, .flt, .ports, .canopies] : List Piece), K p = false from hK)) (Follows.refl s)

theorem execRxPowerCheck_all {s : State} {a} {b} {c} {d} (hK : ∀ p ∈ mayChange (.rxPowerCheck a b c d), K p = false) : OutFollows K s (exec (.rxPowerCheck a b c d) s) :=
  show OutFollows K s (execRxPowerCheck a b c d s) from
  execRxPowerCheck_follows (by simpa using (show ∀ p ∈ ([.flt, .canopies] : List Piece), K p = false from hK)) (Follows.refl s)

theorem execStageCheck_all {s : State} {a} {b} {c} {d} {e} (hK : ∀ p ∈ mayChange (.stageCheck a b c d e), K p = false) : OutFollows K s (exec (.stageCheck a b c d e) s) :=
  show OutFollows K s (execStageCheck a b c d e s) from
  execStageCheck_follows (by simpa using (show ∀ p ∈ ([.flt] : List Piece), K p = false from hK)) (Follows.refl s)

theorem execLanternWear_all {s : State} {a} {b} {c} (hK : ∀ p ∈ mayChange (.lanternWear a b c), K p = false) : OutFollows K s (exec (.lanternWear a b c) s) :=
  show OutFollows K s (execLanternWear a b c s) from
  execLanternWear_follows (by simpa using (show ∀ p ∈ ([.regs, .flt] : List Piece), K p = false from hK)) (Follows.refl s)

theorem execLanternSwitchOver_all {s : State} {a} {b} (hK : ∀ p ∈ mayChange (.lanternSwitchOver a b), K p = false) : OutFollows K s (exec (.lanternSwitchOver a b) s) :=
  show OutFollows K s (execLanternSwitchOver a b s) from
  execLanternSwitchOver_follows (by simpa using (show ∀ p ∈ ([.regs, .trn, .flt, .loss, .dry, .ports, .canopies] : List Piece), K p = false from hK)) (Follows.refl s)

theorem execCombReferenceFault_all {s : State} {a} (hK : ∀ p ∈ mayChange (.combReferenceFault a), K p = false) : OutFollows K s (exec (.combReferenceFault a) s) :=
  show OutFollows K s (execCombReferenceFault a s) from
  execCombReferenceFault_follows (by simpa using (show ∀ p ∈ ([.regs, .flt] : List Piece), K p = false from hK)) (Follows.refl s)

theorem execLantSwitch_all {s : State} {a} (hK : ∀ p ∈ mayChange (.lantSwitch a), K p = false) : OutFollows K s (exec (.lantSwitch a) s) :=
  show OutFollows K s (execLantSwitch a s) from
  execLantSwitch_follows (by simpa using (show ∀ p ∈ ([.regs, .flt, .dry, .canopies] : List Piece), K p = false from hK)) (Follows.refl s)

theorem execCalAll_all {s : State} {a} (hK : ∀ p ∈ mayChange (.calAll a), K p = false) : OutFollows K s (exec (.calAll a) s) :=
  show OutFollows K s (execCalAll a s) from
  execCalAll_follows (by simpa using (show ∀ p ∈ ([.canopies] : List Piece), K p = false from hK)) (Follows.refl s)

theorem execLaneCalReq_all {s : State} {a} (hK : ∀ p ∈ mayChange (.laneCalReq a), K p = false) : OutFollows K s (exec (.laneCalReq a) s) :=
  show OutFollows K s (execLaneCalReq a s) from
  execLaneCalReq_follows (by simpa using (show ∀ p ∈ ([.canopies] : List Piece), K p = false from hK)) (Follows.refl s)

theorem execMonitorMeasure_all {s : State} {a} {b} (hK : ∀ p ∈ mayChange (.monitorMeasure a b), K p = false) : OutFollows K s (exec (.monitorMeasure a b) s) :=
  show OutFollows K s (execMonitorMeasure a b s) from
  execMonitorMeasure_follows (by simpa using (show ∀ p ∈ ([.regs] : List Piece), K p = false from hK)) (Follows.refl s)

theorem execMonitorMeasureDone_all {s : State} {a} {b} (hK : ∀ p ∈ mayChange (.monitorMeasureDone a b), K p = false) : OutFollows K s (exec (.monitorMeasureDone a b) s) :=
  show OutFollows K s (execMonitorMeasureDone a b s) from
  execMonitorMeasureDone_follows (by simpa using (show ∀ p ∈ ([.regs] : List Piece), K p = false from hK)) (Follows.refl s)

theorem execXtFactory_all {s : State} {a} (hK : ∀ p ∈ mayChange (.xtFactory a), K p = false) : OutFollows K s (exec (.xtFactory a) s) :=
  show OutFollows K s (execXtFactory a s) from
  execXtFactory_follows (by simpa using (show ∀ p ∈ ([.dry, .canopies] : List Piece), K p = false from hK)) (Follows.refl s)

theorem execFlapOpenStart_all {s : State} {a} (hK : ∀ p ∈ mayChange (.flapOpenStart a), K p = false) : OutFollows K s (exec (.flapOpenStart a) s) :=
  show OutFollows K s (execFlapOpenStart a s) from
  execFlapOpenStart_follows (by simpa using (show ∀ p ∈ ([.regs, .canopies] : List Piece), K p = false from hK)) (Follows.refl s)

theorem execFlapOpened_all {s : State} {a} (hK : ∀ p ∈ mayChange (.flapOpened a), K p = false) : OutFollows K s (exec (.flapOpened a) s) :=
  show OutFollows K s (execFlapOpened a s) from
  execFlapOpened_follows (by simpa using (show ∀ p ∈ ([.regs, .trn, .flt, .loss, .ports, .canopies] : List Piece), K p = false from hK)) (Follows.refl s)

theorem execFlapClose_all {s : State} {a} (hK : ∀ p ∈ mayChange (.flapClose a), K p = false) : OutFollows K s (exec (.flapClose a) s) :=
  show OutFollows K s (execFlapClose a s) from
  execFlapClose_follows (by simpa using (show ∀ p ∈ ([.regs, .canopies] : List Piece), K p = false from hK)) (Follows.refl s)

theorem execFlapClosed_all {s : State} {a} (hK : ∀ p ∈ mayChange (.flapClosed a), K p = false) : OutFollows K s (exec (.flapClosed a) s) :=
  show OutFollows K s (execFlapClosed a s) from
  execFlapClosed_follows (by simpa using (show ∀ p ∈ ([.regs, .trn, .flt, .loss, .ports, .canopies] : List Piece), K p = false from hK)) (Follows.refl s)

theorem execFlapStuck_all {s : State} {a} (hK : ∀ p ∈ mayChange (.flapStuck a), K p = false) : OutFollows K s (exec (.flapStuck a) s) :=
  show OutFollows K s (execFlapStuck a s) from
  execFlapStuck_follows (by simpa using (show ∀ p ∈ ([.regs, .flt, .dry, .canopies] : List Piece), K p = false from hK)) (Follows.refl s)

theorem execTransitWindow_all {s : State} {a} {b} {c} (hK : ∀ p ∈ mayChange (.transitWindow a b c), K p = false) : OutFollows K s (exec (.transitWindow a b c) s) :=
  show OutFollows K s (execTransitWindow a b c s) from
  execTransitWindow_follows (by simpa using (show ∀ p ∈ ([.regs, .flt, .ports, .canopies] : List Piece), K p = false from hK)) (Follows.refl s)

theorem execTransitWindowEnd_all {s : State} {a} {b} (hK : ∀ p ∈ mayChange (.transitWindowEnd a b), K p = false) : OutFollows K s (exec (.transitWindowEnd a b) s) :=
  show OutFollows K s (execTransitWindowEnd a b s) from
  execTransitWindowEnd_follows (by simpa using (show ∀ p ∈ ([.ports] : List Piece), K p = false from hK)) (Follows.refl s)

theorem execSeamFlit_all {s : State} {a} {b} {c} (hK : ∀ p ∈ mayChange (.seamFlit a b c), K p = false) : OutFollows K s (exec (.seamFlit a b c) s) :=
  show OutFollows K s (execSeamFlit a b c s) from
  execSeamFlit_follows (by simpa using (show ∀ p ∈ ([.regs, .seams] : List Piece), K p = false from hK)) (Follows.refl s)

theorem execSeamReplayTimeout_all {s : State} {a} {b} (hK : ∀ p ∈ mayChange (.seamReplayTimeout a b), K p = false) : OutFollows K s (exec (.seamReplayTimeout a b) s) :=
  show OutFollows K s (execSeamReplayTimeout a b s) from
  execSeamReplayTimeout_follows (by simpa using (show ∀ p ∈ ([.regs, .seams] : List Piece), K p = false from hK)) (Follows.refl s)

theorem execSeamMarker_all {s : State} {a} {b} (hK : ∀ p ∈ mayChange (.seamMarker a b), K p = false) : OutFollows K s (exec (.seamMarker a b) s) :=
  show OutFollows K s (execSeamMarker a b s) from
  execSeamMarker_follows (by simpa using (show ∀ p ∈ ([.regs, .dry, .seams] : List Piece), K p = false from hK)) (Follows.refl s)

theorem execSeamLaneFail_all {s : State} {a} {b} {c} (hK : ∀ p ∈ mayChange (.seamLaneFail a b c), K p = false) : OutFollows K s (exec (.seamLaneFail a b c) s) :=
  show OutFollows K s (execSeamLaneFail a b c s) from
  execSeamLaneFail_follows (by simpa using (show ∀ p ∈ ([.regs, .seams] : List Piece), K p = false from hK)) (Follows.refl s)

theorem execSeamLaneFailureDetect_all {s : State} {a} {b} {c} {d} (hK : ∀ p ∈ mayChange (.seamLaneFailureDetect a b c d), K p = false) : OutFollows K s (exec (.seamLaneFailureDetect a b c d) s) :=
  show OutFollows K s (execSeamLaneFailureDetect a b c d s) from
  execSeamLaneFailureDetect_follows (by simpa using (show ∀ p ∈ ([.regs, .flt, .seams] : List Piece), K p = false from hK)) (Follows.refl s)

theorem execSeamCalReq_all {s : State} {a} {b} {c} (hK : ∀ p ∈ mayChange (.seamCalReq a b c), K p = false) : OutFollows K s (exec (.seamCalReq a b c) s) :=
  show OutFollows K s (execSeamCalReq a b c s) from
  execSeamCalReq_follows (by simpa using (show ∀ p ∈ ([.regs, .seams] : List Piece), K p = false from hK)) (Follows.refl s)

theorem execSeamCalDone_all {s : State} {a} {b} {c} (hK : ∀ p ∈ mayChange (.seamCalDone a b c), K p = false) : OutFollows K s (exec (.seamCalDone a b c) s) :=
  show OutFollows K s (execSeamCalDone a b c s) from
  execSeamCalDone_follows (by simpa using (show ∀ p ∈ ([.regs, .seams] : List Piece), K p = false from hK)) (Follows.refl s)

theorem execSeamRetrainReq_all {s : State} {a} {b} {c} (hK : ∀ p ∈ mayChange (.seamRetrainReq a b c), K p = false) : OutFollows K s (exec (.seamRetrainReq a b c) s) :=
  show OutFollows K s (execSeamRetrainReq a b c s) from
  execSeamRetrainReq_follows (by simpa using (show ∀ p ∈ ([.regs, .seams] : List Piece), K p = false from hK)) (Follows.refl s)

theorem execSeamCalWaitTimeout_all {s : State} {a} (hK : ∀ p ∈ mayChange (.seamCalWaitTimeout a), K p = false) : OutFollows K s (exec (.seamCalWaitTimeout a) s) :=
  show OutFollows K s (execSeamCalWaitTimeout a s) from
  execSeamCalWaitTimeout_follows (by simpa using (show ∀ p ∈ ([.flt, .seams] : List Piece), K p = false from hK)) (Follows.refl s)

theorem execSeamTrainStart_all {s : State} {a} (hK : ∀ p ∈ mayChange (.seamTrainStart a), K p = false) : OutFollows K s (exec (.seamTrainStart a) s) :=
  show OutFollows K s (execSeamTrainStart a s) from
  execSeamTrainStart_follows (by simpa using (show ∀ p ∈ ([.regs, .seams] : List Piece), K p = false from hK)) (Follows.refl s)

theorem execSeamTestDone_all {s : State} {a} {b} {c} (hK : ∀ p ∈ mayChange (.seamTestDone a b c), K p = false) : OutFollows K s (exec (.seamTestDone a b c) s) :=
  show OutFollows K s (execSeamTestDone a b c s) from
  execSeamTestDone_follows (by simpa using (show ∀ p ∈ ([.regs, .seams] : List Piece), K p = false from hK)) (Follows.refl s)

theorem execSeamAlignDone_all {s : State} {a} {b} (hK : ∀ p ∈ mayChange (.seamAlignDone a b), K p = false) : OutFollows K s (exec (.seamAlignDone a b) s) :=
  show OutFollows K s (execSeamAlignDone a b s) from
  execSeamAlignDone_follows (by simpa using (show ∀ p ∈ ([.regs, .flt, .dry, .seams, .cross] : List Piece), K p = false from hK)) (Follows.refl s)

theorem execSeamAlignTimeout_all {s : State} {a} (hK : ∀ p ∈ mayChange (.seamAlignTimeout a), K p = false) : OutFollows K s (exec (.seamAlignTimeout a) s) :=
  show OutFollows K s (execSeamAlignTimeout a s) from
  execSeamAlignTimeout_follows (by simpa using (show ∀ p ∈ ([.regs, .seams] : List Piece), K p = false from hK)) (Follows.refl s)

theorem execSeamHeld_all {s : State} {a} (hK : ∀ p ∈ mayChange (.seamHeld a), K p = false) : OutFollows K s (exec (.seamHeld a) s) :=
  show OutFollows K s (execSeamHeld a s) from
  execSeamHeld_follows (by simpa using (show ∀ p ∈ ([.regs, .mem, .trn, .jrn, .flt, .loss, .dry, .sec, .bells, .col, .ports, .canopies, .cross, .pwr, .spillq] : List Piece), K p = false from hK)) (Follows.refl s)

theorem execPeerResetIndication_all {s : State} {a} {b} {c} (hK : ∀ p ∈ mayChange (.peerResetIndication a b c), K p = false) : OutFollows K s (exec (.peerResetIndication a b c) s) :=
  show OutFollows K s (execPeerResetIndication a b c s) from
  execPeerResetIndication_follows (by simpa using (show ∀ p ∈ ([.regs, .trn, .jrn, .flt, .loss, .dry, .sec, .ports, .slots, .canopies, .seams, .cross, .spillq] : List Piece), K p = false from hK)) (Follows.refl s)

theorem execRearmReq_all {s : State} {a} {b} {c} (hK : ∀ p ∈ mayChange (.rearmReq a b c), K p = false) : OutFollows K s (exec (.rearmReq a b c) s) :=
  show OutFollows K s (execRearmReq a b c s) from
  execRearmReq_follows (by simpa using (show ∀ p ∈ ([.regs, .mem, .bells, .seams, .cross] : List Piece), K p = false from hK)) (Follows.refl s)

theorem execRearmAck_all {s : State} {a} {b} {c} (hK : ∀ p ∈ mayChange (.rearmAck a b c), K p = false) : OutFollows K s (exec (.rearmAck a b c) s) :=
  show OutFollows K s (execRearmAck a b c s) from
  execRearmAck_follows (by simpa using (show ∀ p ∈ ([.regs, .mem, .bells, .seams, .cross] : List Piece), K p = false from hK)) (Follows.refl s)

theorem execRearmTimeout_all {s : State} {a} (hK : ∀ p ∈ mayChange (.rearmTimeout a), K p = false) : OutFollows K s (exec (.rearmTimeout a) s) :=
  show OutFollows K s (execRearmTimeout a s) from
  execRearmTimeout_follows (by simpa using (show ∀ p ∈ ([.regs, .trn, .flt, .loss, .dry, .sec, .ports, .slots, .canopies, .seams, .cross, .spillq] : List Piece), K p = false from hK)) (Follows.refl s)

theorem execSeamRetrain_all {s : State} {a} (hK : ∀ p ∈ mayChange (.seamRetrain a), K p = false) : OutFollows K s (exec (.seamRetrain a) s) :=
  show OutFollows K s (execSeamRetrain a s) from
  execSeamRetrain_follows (by simpa using (show ∀ p ∈ ([.regs, .seams] : List Piece), K p = false from hK)) (Follows.refl s)

theorem execSeamLinkReset_all {s : State} {a} (hK : ∀ p ∈ mayChange (.seamLinkReset a), K p = false) : OutFollows K s (exec (.seamLinkReset a) s) :=
  show OutFollows K s (execSeamLinkReset a s) from
  execSeamLinkReset_follows (by simpa using (show ∀ p ∈ ([.regs, .trn, .dry, .sec, .seams, .cross] : List Piece), K p = false from hK)) (Follows.refl s)

theorem execSeamCalAll_all {s : State} {a} (hK : ∀ p ∈ mayChange (.seamCalAll a), K p = false) : OutFollows K s (exec (.seamCalAll a) s) :=
  show OutFollows K s (execSeamCalAll a s) from
  execSeamCalAll_follows (by simpa using (show ∀ p ∈ ([.seams] : List Piece), K p = false from hK)) (Follows.refl s)

theorem execSlotDiscovery_all {s : State} {a} {b} {c} {d} (hK : ∀ p ∈ mayChange (.slotDiscovery a b c d), K p = false) : OutFollows K s (exec (.slotDiscovery a b c d) s) :=
  show OutFollows K s (execSlotDiscovery a b c d s) from
  execSlotDiscovery_follows (by simpa using (show ∀ p ∈ ([.regs, .trn, .flt, .loss, .dry, .sec, .ports, .slots, .canopies, .seams, .cross, .pwr, .spillq] : List Piece), K p = false from hK)) (Follows.refl s)

theorem execSlotRetrain_all {s : State} {a} (hK : ∀ p ∈ mayChange (.slotRetrain a), K p = false) : OutFollows K s (exec (.slotRetrain a) s) :=
  show OutFollows K s (execSlotRetrain a s) from
  execSlotRetrain_follows (by simpa using (show ∀ p ∈ ([.regs, .seams, .cross] : List Piece), K p = false from hK)) (Follows.refl s)

theorem execSlotLinkReset_all {s : State} {a} (hK : ∀ p ∈ mayChange (.slotLinkReset a), K p = false) : OutFollows K s (exec (.slotLinkReset a) s) :=
  show OutFollows K s (execSlotLinkReset a s) from
  execSlotLinkReset_follows (by simpa using (show ∀ p ∈ ([.regs, .trn, .flt, .loss, .dry, .sec, .ports, .canopies, .cross, .spillq] : List Piece), K p = false from hK)) (Follows.refl s)

theorem execAdmitAllow_all {s : State} {a} (hK : ∀ p ∈ mayChange (.admitAllow a), K p = false) : OutFollows K s (exec (.admitAllow a) s) :=
  show OutFollows K s (execAdmitAllow a s) from
  execAdmitAllow_follows (by simpa using (show ∀ p ∈ ([.regs] : List Piece), K p = false from hK)) (Follows.refl s)

theorem execSlotPartnerFault_all {s : State} {a} {b} (hK : ∀ p ∈ mayChange (.slotPartnerFault a b), K p = false) : OutFollows K s (exec (.slotPartnerFault a b) s) :=
  show OutFollows K s (execSlotPartnerFault a b s) from
  execSlotPartnerFault_follows (by simpa using (show ∀ p ∈ ([.flt] : List Piece), K p = false from hK)) (Follows.refl s)

theorem execTapBypass_all {s : State} (hK : ∀ p ∈ mayChange .tapBypass, K p = false) : OutFollows K s (exec .tapBypass s) :=
  show OutFollows K s (execTapBypass s) from
  execTapBypass_follows (by simpa using (show ∀ p ∈ ([.tap] : List Piece), K p = false from hK)) (Follows.refl s)

theorem execTapIdcode_all {s : State} (hK : ∀ p ∈ mayChange .tapIdcode, K p = false) : OutFollows K s (exec .tapIdcode s) :=
  show OutFollows K s (execTapIdcode s) from
  execTapIdcode_follows (by simpa using (show ∀ p ∈ ([.tap] : List Piece), K p = false from hK)) (Follows.refl s)

theorem execTapSamplePreload_all {s : State} {a} (hK : ∀ p ∈ mayChange (.tapSamplePreload a), K p = false) : OutFollows K s (exec (.tapSamplePreload a) s) :=
  show OutFollows K s (execTapSamplePreload a s) from
  execTapSamplePreload_follows (by simpa using (show ∀ p ∈ ([.tap] : List Piece), K p = false from hK)) (Follows.refl s)

theorem execTapSegmentInsert_all {s : State} {a} (hK : ∀ p ∈ mayChange (.tapSegmentInsert a), K p = false) : OutFollows K s (exec (.tapSegmentInsert a) s) :=
  show OutFollows K s (execTapSegmentInsert a s) from
  execTapSegmentInsert_follows (by simpa using (show ∀ p ∈ ([.tap] : List Piece), K p = false from hK)) (Follows.refl s)

theorem execTapExtest_all {s : State} {a} (hK : ∀ p ∈ mayChange (.tapExtest a), K p = false) : OutFollows K s (exec (.tapExtest a) s) :=
  show OutFollows K s (execTapExtest a s) from
  execTapExtest_follows (by simpa using (show ∀ p ∈ ([.tap] : List Piece), K p = false from hK)) (Follows.refl s)

theorem execTapClamp_all {s : State} {a} (hK : ∀ p ∈ mayChange (.tapClamp a), K p = false) : OutFollows K s (exec (.tapClamp a) s) :=
  show OutFollows K s (execTapClamp a s) from
  execTapClamp_follows (by simpa using (show ∀ p ∈ ([.tap] : List Piece), K p = false from hK)) (Follows.refl s)

theorem execTapHighz_all {s : State} (hK : ∀ p ∈ mayChange .tapHighz, K p = false) : OutFollows K s (exec .tapHighz s) :=
  show OutFollows K s (execTapHighz s) from
  execTapHighz_follows (by simpa using (show ∀ p ∈ ([.tap] : List Piece), K p = false from hK)) (Follows.refl s)

theorem execTapReset_all {s : State} (hK : ∀ p ∈ mayChange .tapReset, K p = false) : OutFollows K s (exec .tapReset s) :=
  show OutFollows K s (execTapReset s) from
  execTapReset_follows (by simpa using (show ∀ p ∈ ([.tap] : List Piece), K p = false from hK)) (Follows.refl s)

theorem execTimeSyncSend_all {s : State} {a} (hK : ∀ p ∈ mayChange (.timeSyncSend a), K p = false) : OutFollows K s (exec (.timeSyncSend a) s) :=
  show OutFollows K s (execTimeSyncSend a s) from
  execTimeSyncSend_follows (by simpa using (show ∀ p ∈ ([.ports, .time] : List Piece), K p = false from hK)) (Follows.refl s)

theorem execTimeDelaysWallSend_all {s : State} {a} (hK : ∀ p ∈ mayChange (.timeDelaysWallSend a), K p = false) : OutFollows K s (exec (.timeDelaysWallSend a) s) :=
  show OutFollows K s (execTimeDelaysWallSend a s) from
  execTimeDelaysWallSend_follows (by simpa using (show ∀ p ∈ ([.ports] : List Piece), K p = false from hK)) (Follows.refl s)

theorem execDelaysMsg_all {s : State} {a} {b} (hK : ∀ p ∈ mayChange (.delaysMsg a b), K p = false) : OutFollows K s (exec (.delaysMsg a b) s) :=
  show OutFollows K s (execDelaysMsg a b s) from
  execDelaysMsg_follows (by simpa using (show ∀ p ∈ ([.regs, .ports, .time] : List Piece), K p = false from hK)) (Follows.refl s)

theorem execWallMsg_all {s : State} {a} {b} (hK : ∀ p ∈ mayChange (.wallMsg a b), K p = false) : OutFollows K s (exec (.wallMsg a b) s) :=
  show OutFollows K s (execWallMsg a b s) from
  execWallMsg_follows (by simpa using (show ∀ p ∈ ([.regs, .ports] : List Piece), K p = false from hK)) (Follows.refl s)

theorem execServoUpdate_all {s : State} (hK : ∀ p ∈ mayChange .servoUpdate, K p = false) : OutFollows K s (exec .servoUpdate s) :=
  show OutFollows K s (execServoUpdate s) from
  execServoUpdate_follows (by simpa using (show ∀ p ∈ ([.regs, .trn, .flt, .loss, .ports, .time] : List Piece), K p = false from hK)) (Follows.refl s)

theorem execUpstreamLoss_all {s : State} (hK : ∀ p ∈ mayChange .upstreamLoss, K p = false) : OutFollows K s (exec .upstreamLoss s) :=
  show OutFollows K s (execUpstreamLoss s) from
  execUpstreamLoss_follows (by simpa using (show ∀ p ∈ ([.regs, .trn, .flt, .loss, .ports, .time] : List Piece), K p = false from hK)) (Follows.refl s)

theorem execHoldoverTimeout_all {s : State} (hK : ∀ p ∈ mayChange .holdoverTimeout, K p = false) : OutFollows K s (exec .holdoverTimeout s) :=
  show OutFollows K s (execHoldoverTimeout s) from
  execHoldoverTimeout_follows (by simpa using (show ∀ p ∈ ([.regs, .trn, .flt, .loss, .ports] : List Piece), K p = false from hK)) (Follows.refl s)

theorem execNoUpstreamTimeout_all {s : State} (hK : ∀ p ∈ mayChange .noUpstreamTimeout, K p = false) : OutFollows K s (exec .noUpstreamTimeout s) :=
  show OutFollows K s (execNoUpstreamTimeout s) from
  execNoUpstreamTimeout_follows (by simpa using (show ∀ p ∈ ([.regs, .trn, .flt, .loss, .ports, .time] : List Piece), K p = false from hK)) (Follows.refl s)

theorem execReferencePllLock_all {s : State} {a} (hK : ∀ p ∈ mayChange (.referencePllLock a), K p = false) : OutFollows K s (exec (.referencePllLock a) s) :=
  show OutFollows K s (execReferencePllLock a s) from
  execReferencePllLock_follows (by simpa using (show ∀ p ∈ ([.ftc, .regs, .trn, .flt, .loss, .dry, .ports, .time, .clk] : List Piece), K p = false from hK)) (Follows.refl s)

theorem execFtcLoad_all {s : State} (hK : ∀ p ∈ mayChange .ftcLoad, K p = false) : OutFollows K s (exec .ftcLoad s) :=
  show OutFollows K s (execFtcLoad s) from
  execFtcLoad_follows (by simpa using (show ∀ p ∈ ([.time] : List Piece), K p = false from hK)) (Follows.refl s)

theorem execFtcNowRead_all {s : State} (hK : ∀ p ∈ mayChange .ftcNowRead, K p = false) : OutFollows K s (exec .ftcNowRead s) :=
  show OutFollows K s (execFtcNowRead s) from
  execFtcNowRead_follows (by simpa using (show ∀ p ∈ ([.time] : List Piece), K p = false from hK)) (Follows.refl s)

theorem execReferenceTrip_all {s : State} {a} {b} (hK : ∀ p ∈ mayChange (.referenceTrip a b), K p = false) : OutFollows K s (exec (.referenceTrip a b) s) :=
  show OutFollows K s (execReferenceTrip a b s) from
  execReferenceTrip_follows (by simpa using (show ∀ p ∈ ([.regs, .flt, .dry, .ports, .clk] : List Piece), K p = false from hK)) (Follows.refl s)

theorem execFastOscTrip_all {s : State} (hK : ∀ p ∈ mayChange .fastOscTrip, K p = false) : OutFollows K s (exec .fastOscTrip s) :=
  show OutFollows K s (execFastOscTrip s) from
  execFastOscTrip_follows (by simpa using (show ∀ p ∈ ([.regs, .flt, .dry, .time, .clk] : List Piece), K p = false from hK)) (Follows.refl s)

theorem execSlowOscTrip_all {s : State} (hK : ∀ p ∈ mayChange .slowOscTrip, K p = false) : OutFollows K s (exec .slowOscTrip s) :=
  show OutFollows K s (execSlowOscTrip s) from
  execSlowOscTrip_follows (by simpa using (show ∀ p ∈ ([.regs, .flt] : List Piece), K p = false from hK)) (Follows.refl s)

theorem execBellPllTrip_all {s : State} {a} {b} (hK : ∀ p ∈ mayChange (.bellPllTrip a b), K p = false) : OutFollows K s (exec (.bellPllTrip a b) s) :=
  show OutFollows K s (execBellPllTrip a b s) from
  execBellPllTrip_follows (by simpa using (show ∀ p ∈ ([.regs, .mem, .trn, .jrn, .flt, .loss, .dry, .sec, .bells, .col, .ports, .canopies, .cross, .clk, .pwr, .spillq] : List Piece), K p = false from hK)) (Follows.refl s)

theorem execFastReady_all {s : State} (hK : ∀ p ∈ mayChange .fastReady, K p = false) : OutFollows K s (exec .fastReady s) :=
  show OutFollows K s (execFastReady s) from
  execFastReady_follows (by simpa using (show ∀ p ∈ ([.regs, .clk] : List Piece), K p = false from hK)) (Follows.refl s)

theorem execFallbackTimeout_all {s : State} (hK : ∀ p ∈ mayChange .fallbackTimeout, K p = false) : OutFollows K s (exec .fallbackTimeout s) :=
  show OutFollows K s (execFallbackTimeout s) from
  execFallbackTimeout_follows (by simpa using (show ∀ p ∈ ([.regs, .dry, .time, .clk] : List Piece), K p = false from hK)) (Follows.refl s)

theorem execMuxSwitchTimeout_all {s : State} {a} (hK : ∀ p ∈ mayChange (.muxSwitchTimeout a), K p = false) : OutFollows K s (exec (.muxSwitchTimeout a) s) :=
  show OutFollows K s (execMuxSwitchTimeout a s) from
  execMuxSwitchTimeout_follows (by simpa using (show ∀ p ∈ ([.ftc, .regs, .mem, .trn, .jrn, .flt, .pole, .loss, .dry, .sec, .bells, .col, .ports, .canopies, .cross, .time, .clk, .spillq] : List Piece), K p = false from hK)) (Follows.refl s)

theorem execClkMuxForce_all {s : State} {a} (hK : ∀ p ∈ mayChange (.clkMuxForce a), K p = false) : OutFollows K s (exec (.clkMuxForce a) s) :=
  show OutFollows K s (execClkMuxForce a s) from
  execClkMuxForce_follows (by simpa using (show ∀ p ∈ ([.ftc, .regs, .mem, .trn, .jrn, .flt, .pole, .loss, .dry, .sec, .bells, .col, .ports, .canopies, .cross, .time, .clk, .spillq] : List Piece), K p = false from hK)) (Follows.refl s)

theorem execInputUndervoltage_all {s : State} {a} (hK : ∀ p ∈ mayChange (.inputUndervoltage a), K p = false) : OutFollows K s (exec (.inputUndervoltage a) s) :=
  show OutFollows K s (execInputUndervoltage a s) from
  execInputUndervoltage_follows (by simpa using (show ∀ p ∈ ([.regs, .trn, .flt, .pole, .dry, .bells, .ports, .slots, .canopies, .tap, .time, .pwr] : List Piece), K p = false from hK)) (Follows.refl s)

theorem execInputOvervoltage_all {s : State} {a} (hK : ∀ p ∈ mayChange (.inputOvervoltage a), K p = false) : OutFollows K s (exec (.inputOvervoltage a) s) :=
  show OutFollows K s (execInputOvervoltage a s) from
  execInputOvervoltage_follows (by simpa using (show ∀ p ∈ ([.regs, .flt, .pole, .dry, .bells, .ports, .slots, .canopies, .time, .pwr] : List Piece), K p = false from hK)) (Follows.refl s)

theorem execInputOutOfRange_all {s : State} {a} (hK : ∀ p ∈ mayChange (.inputOutOfRange a), K p = false) : OutFollows K s (exec (.inputOutOfRange a) s) :=
  show OutFollows K s (execInputOutOfRange a s) from
  execInputOutOfRange_follows (by simpa using (show ∀ p ∈ ([.regs, .flt] : List Piece), K p = false from hK)) (Follows.refl s)

theorem execInputQualified_all {s : State} {a} (hK : ∀ p ∈ mayChange (.inputQualified a), K p = false) : OutFollows K s (exec (.inputQualified a) s) :=
  show OutFollows K s (execInputQualified a s) from
  execInputQualified_follows (by simpa using (show ∀ p ∈ ([.ftc, .regs, .mem, .trn, .jrn, .pit, .flt, .pole, .loss, .dry, .sec, .bells, .col, .ports, .slots, .canopies, .seams, .cross, .time, .clk, .pwr, .spillq] : List Piece), K p = false from hK)) (Follows.refl s)

theorem execInputOvercurrent_all {s : State} {a} {b} (hK : ∀ p ∈ mayChange (.inputOvercurrent a b), K p = false) : OutFollows K s (exec (.inputOvercurrent a b) s) :=
  show OutFollows K s (execInputOvercurrent a b s) from
  execInputOvercurrent_follows (by simpa using (show ∀ p ∈ ([.regs, .flt, .pole, .dry, .bells, .ports, .slots, .canopies, .time, .pwr] : List Piece), K p = false from hK)) (Follows.refl s)

theorem execPowerFail_all {s : State} {a} {b} {c} (hK : ∀ p ∈ mayChange (.powerFail a b c), K p = false) : OutFollows K s (exec (.powerFail a b c) s) :=
  show OutFollows K s (execPowerFail a b c s) from
  execPowerFail_follows (by simpa using (show ∀ p ∈ ([.regs, .flt, .pole, .dry, .bells, .ports, .slots, .canopies, .time, .pwr] : List Piece), K p = false from hK)) (Follows.refl s)

theorem execAuxPowerChange_all {s : State} {a} (hK : ∀ p ∈ mayChange (.auxPowerChange a), K p = false) : OutFollows K s (exec (.auxPowerChange a) s) :=
  show OutFollows K s (execAuxPowerChange a s) from
  execAuxPowerChange_follows (by simpa using (show ∀ p ∈ ([.regs, .trn, .flt, .pole, .dry, .bells, .ports, .slots, .canopies, .tap, .time, .pwr] : List Piece), K p = false from hK)) (Follows.refl s)

theorem execDomainStateRequest_all {s : State} {a} {b} (hK : ∀ p ∈ mayChange (.domainStateRequest a b), K p = false) : OutFollows K s (exec (.domainStateRequest a b) s) :=
  show OutFollows K s (execDomainStateRequest a b s) from
  execDomainStateRequest_follows (by simpa using (show ∀ p ∈ ([.regs, .mem, .trn, .jrn, .pit, .flt, .loss, .dry, .sec, .bells, .col, .ports, .slots, .canopies, .seams, .cross, .pwr, .spillq] : List Piece), K p = false from hK)) (Follows.refl s)

theorem execEngineGroupIdle_all {s : State} {a} {b} (hK : ∀ p ∈ mayChange (.engineGroupIdle a b), K p = false) : OutFollows K s (exec (.engineGroupIdle a b) s) :=
  show OutFollows K s (execEngineGroupIdle a b s) from
  execEngineGroupIdle_follows (by simpa using (show ∀ p ∈ ([.pwr] : List Piece), K p = false from hK)) (Follows.refl s)

theorem execPowerGoodFail_all {s : State} {a} (hK : ∀ p ∈ mayChange (.powerGoodFail a), K p = false) : OutFollows K s (exec (.powerGoodFail a) s) :=
  show OutFollows K s (execPowerGoodFail a s) from
  execPowerGoodFail_follows (by simpa using (show ∀ p ∈ ([.regs, .mem, .trn, .jrn, .flt, .loss, .dry, .sec, .bells, .ports, .slots, .canopies, .cross, .pwr, .spillq] : List Piece), K p = false from hK)) (Follows.refl s)

theorem execDvfsStep_all {s : State} {a} (hK : ∀ p ∈ mayChange (.dvfsStep a), K p = false) : OutFollows K s (exec (.dvfsStep a) s) :=
  show OutFollows K s (execDvfsStep a s) from
  execDvfsStep_follows (by simpa using (show ∀ p ∈ ([.pwr] : List Piece), K p = false from hK)) (Follows.refl s)

theorem execDvfsStepEnd_all {s : State} {a} {b} (hK : ∀ p ∈ mayChange (.dvfsStepEnd a b), K p = false) : OutFollows K s (exec (.dvfsStepEnd a b) s) :=
  show OutFollows K s (execDvfsStepEnd a b s) from
  execDvfsStepEnd_follows (by simpa using (show ∀ p ∈ ([.regs, .flt, .pwr] : List Piece), K p = false from hK)) (Follows.refl s)

theorem execPowerLimitCheck_all {s : State} {a} {b} (hK : ∀ p ∈ mayChange (.powerLimitCheck a b), K p = false) : OutFollows K s (exec (.powerLimitCheck a b) s) :=
  show OutFollows K s (execPowerLimitCheck a b s) from
  execPowerLimitCheck_follows (by simpa using (show ∀ p ∈ ([.regs, .flt, .pwr] : List Piece), K p = false from hK)) (Follows.refl s)

theorem execBellPowerSample_all {s : State} {a} {b} {c} (hK : ∀ p ∈ mayChange (.bellPowerSample a b c), K p = false) : OutFollows K s (exec (.bellPowerSample a b c) s) :=
  show OutFollows K s (execBellPowerSample a b c s) from
  execBellPowerSample_follows (by simpa using (show ∀ p ∈ ([.regs, .canopies, .pwr] : List Piece), K p = false from hK)) (Follows.refl s)

theorem execSensorSample_all {s : State} {a} {b} {c} (hK : ∀ p ∈ mayChange (.sensorSample a b c), K p = false) : OutFollows K s (exec (.sensorSample a b c) s) :=
  show OutFollows K s (execSensorSample a b c s) from
  execSensorSample_follows (by simpa using (show ∀ p ∈ ([.regs, .trn, .flt, .pole, .loss, .dry, .bells, .ports, .slots, .canopies, .seams, .time, .pwr] : List Piece), K p = false from hK)) (Follows.refl s)

theorem execThrottleStep_all {s : State} {a} (hK : ∀ p ∈ mayChange (.throttleStep a), K p = false) : OutFollows K s (exec (.throttleStep a) s) :=
  show OutFollows K s (execThrottleStep a s) from
  execThrottleStep_follows (by simpa using (show ∀ p ∈ ([.regs, .flt, .ports, .pwr] : List Piece), K p = false from hK)) (Follows.refl s)

theorem execThmXcheck_all {s : State} {a} (hK : ∀ p ∈ mayChange (.thmXcheck a), K p = false) : OutFollows K s (exec (.thmXcheck a) s) :=
  show OutFollows K s (execThmXcheck a s) from
  execThmXcheck_follows (by simpa using (show ∀ p ∈ ([.regs, .mem, .trn, .jrn, .flt, .loss, .dry, .sec, .bells, .ports, .slots, .canopies, .cross, .pwr, .spillq] : List Piece), K p = false from hK)) (Follows.refl s)

theorem execThmRelease_all {s : State} (hK : ∀ p ∈ mayChange .thmRelease, K p = false) : OutFollows K s (exec .thmRelease s) :=
  show OutFollows K s (execThmRelease s) from
  execThmRelease_follows (by simpa using (show ∀ p ∈ ([.ftc, .regs, .mem, .trn, .jrn, .pit, .flt, .pole, .loss, .dry, .sec, .bells, .col, .ports, .slots, .canopies, .seams, .cross, .time, .clk, .pwr, .spillq] : List Piece), K p = false from hK)) (Follows.refl s)

theorem execFaultReport_all {s : State} {a} {b} {c} (hK : ∀ p ∈ mayChange (.faultReport a b c), K p = false) : OutFollows K s (exec (.faultReport a b c) s) :=
  show OutFollows K s (execFaultReport a b c s) from
  execFaultReport_follows (by simpa using (show ∀ p ∈ ([.regs, .mem, .trn, .jrn, .flt, .pole, .loss, .dry, .sec, .bells, .col, .ports, .slots, .canopies, .cross, .pwr, .spillq] : List Piece), K p = false from hK)) (Follows.refl s)

theorem execFaultAck_all {s : State} {a} (hK : ∀ p ∈ mayChange (.faultAck a), K p = false) : OutFollows K s (exec (.faultAck a) s) :=
  show OutFollows K s (execFaultAck a s) from
  execFaultAck_follows (by simpa using (show ∀ p ∈ ([.regs, .flt, .ports] : List Piece), K p = false from hK)) (Follows.refl s)

theorem execAckAll_all {s : State} (hK : ∀ p ∈ mayChange .ackAll, K p = false) : OutFollows K s (exec .ackAll s) :=
  show OutFollows K s (execAckAll s) from
  execAckAll_follows (by simpa using (show ∀ p ∈ ([.regs, .flt, .ports] : List Piece), K p = false from hK)) (Follows.refl s)

theorem execCollectorSelfFault_all {s : State} {a} (hK : ∀ p ∈ mayChange (.collectorSelfFault a), K p = false) : OutFollows K s (exec (.collectorSelfFault a) s) :=
  show OutFollows K s (execCollectorSelfFault a s) from
  execCollectorSelfFault_follows (by simpa using (show ∀ p ∈ ([.regs, .flt, .dry, .ports] : List Piece), K p = false from hK)) (Follows.refl s)

theorem execStrikeRecordWrite_all {s : State} {a} {b} {c} {d} (hK : ∀ p ∈ mayChange (.strikeRecordWrite a b c d), K p = false) : OutFollows K s (exec (.strikeRecordWrite a b c d) s) :=
  show OutFollows K s (execStrikeRecordWrite a b c d s) from
  execStrikeRecordWrite_follows (by simpa using (show ∀ p ∈ ([.regs, .flt, .dry] : List Piece), K p = false from hK)) (Follows.refl s)

theorem execStrikeCommand_all {s : State} {a} (hK : ∀ p ∈ mayChange (.strikeCommand a), K p = false) : OutFollows K s (exec (.strikeCommand a) s) :=
  show OutFollows K s (execStrikeCommand a s) from
  execStrikeCommand_follows (by simpa using (show ∀ p ∈ ([.regs, .flt, .dry, .ports] : List Piece), K p = false from hK)) (Follows.refl s)

theorem execFaultInject_all {s : State} (hK : ∀ p ∈ mayChange .faultInject, K p = false) : OutFollows K s (exec .faultInject s) :=
  show OutFollows K s (execFaultInject s) from
  execFaultInject_follows (by simpa using (show ∀ p ∈ ([.regs, .mem, .trn, .jrn, .flt, .pole, .loss, .dry, .sec, .bells, .col, .ports, .slots, .canopies, .cross, .pwr, .spillq] : List Piece), K p = false from hK)) (Follows.refl s)

theorem execPoleGiveUp_all {s : State} {a} {b} {c} {d} (hK : ∀ p ∈ mayChange (.poleGiveUp a b c d), K p = false) : OutFollows K s (exec (.poleGiveUp a b c d) s) :=
  show OutFollows K s (execPoleGiveUp a b c d s) from
  execPoleGiveUp_follows (by simpa using (show ∀ p ∈ ([.regs, .flt, .pole, .dry, .ports, .pwr] : List Piece), K p = false from hK)) (Follows.refl s)

theorem execPoleSelfTestDone_all {s : State} {a} {b} (hK : ∀ p ∈ mayChange (.poleSelfTestDone a b), K p = false) : OutFollows K s (exec (.poleSelfTestDone a b) s) :=
  show OutFollows K s (execPoleSelfTestDone a b s) from
  execPoleSelfTestDone_follows (by simpa using (show ∀ p ∈ ([.regs, .flt, .pole, .dry, .ports, .pwr] : List Piece), K p = false from hK)) (Follows.refl s)

theorem execPoleResyncDone_all {s : State} {a} (hK : ∀ p ∈ mayChange (.poleResyncDone a), K p = false) : OutFollows K s (exec (.poleResyncDone a) s) :=
  show OutFollows K s (execPoleResyncDone a s) from
  execPoleResyncDone_follows (by simpa using (show ∀ p ∈ ([.regs, .pole, .dry] : List Piece), K p = false from hK)) (Follows.refl s)

theorem execPoleDivergence_all {s : State} (hK : ∀ p ∈ mayChange .poleDivergence, K p = false) : OutFollows K s (exec .poleDivergence s) :=
  show OutFollows K s (execPoleDivergence s) from
  execPoleDivergence_follows (by simpa using (show ∀ p ∈ ([.regs, .flt, .pole] : List Piece), K p = false from hK)) (Follows.refl s)

theorem execPoleSwitch_all {s : State} (hK : ∀ p ∈ mayChange .poleSwitch, K p = false) : OutFollows K s (exec .poleSwitch s) :=
  show OutFollows K s (execPoleSwitch s) from
  execPoleSwitch_follows (by simpa using (show ∀ p ∈ ([.regs, .pole, .dry] : List Piece), K p = false from hK)) (Follows.refl s)

theorem execBuddyProbe_all {s : State} (hK : ∀ p ∈ mayChange .buddyProbe, K p = false) : OutFollows K s (exec .buddyProbe s) :=
  show OutFollows K s (execBuddyProbe s) from
  execBuddyProbe_follows (by simpa using (show ∀ p ∈ ([.regs, .trn, .flt, .loss, .ports] : List Piece), K p = false from hK)) (Follows.refl s)

theorem execRingIsolation_all {s : State} (hK : ∀ p ∈ mayChange .ringIsolation, K p = false) : OutFollows K s (exec .ringIsolation s) :=
  show OutFollows K s (execRingIsolation s) from
  execRingIsolation_follows (by simpa using (show ∀ p ∈ ([.regs, .flt, .dry, .ports] : List Piece), K p = false from hK)) (Follows.refl s)

theorem execUnitLostDeclare_all {s : State} {a} (hK : ∀ p ∈ mayChange (.unitLostDeclare a), K p = false) : OutFollows K s (exec (.unitLostDeclare a) s) :=
  show OutFollows K s (execUnitLostDeclare a s) from
  execUnitLostDeclare_follows (by simpa using (show ∀ p ∈ ([.regs, .trn, .jrn, .flt, .loss, .dry, .ports] : List Piece), K p = false from hK)) (Follows.refl s)

theorem execLostUnitWrite_all {s : State} {a} {b} {c} (hK : ∀ p ∈ mayChange (.lostUnitWrite a b c), K p = false) : OutFollows K s (exec (.lostUnitWrite a b c) s) :=
  show OutFollows K s (execLostUnitWrite a b c s) from
  execLostUnitWrite_follows (by simpa using (show ∀ p ∈ ([.regs, .trn, .jrn, .flt, .loss, .dry, .ports] : List Piece), K p = false from hK)) (Follows.refl s)

theorem execReloadDone_all {s : State} (hK : ∀ p ∈ mayChange .reloadDone, K p = false) : OutFollows K s (exec .reloadDone s) :=
  show OutFollows K s (execReloadDone s) from
  execReloadDone_follows (by simpa using (show ∀ p ∈ ([.regs, .loss] : List Piece), K p = false from hK)) (Follows.refl s)

theorem execReloadComplete_all {s : State} (hK : ∀ p ∈ mayChange .reloadComplete, K p = false) : OutFollows K s (exec .reloadComplete s) :=
  show OutFollows K s (execReloadComplete s) from
  execReloadComplete_follows (by simpa using (show ∀ p ∈ ([.regs, .trn, .pit, .flt, .ports] : List Piece), K p = false from hK)) (Follows.refl s)

theorem execAdoptWithoutRemap_all {s : State} (hK : ∀ p ∈ mayChange .adoptWithoutRemap, K p = false) : OutFollows K s (exec .adoptWithoutRemap s) :=
  show OutFollows K s (execAdoptWithoutRemap s) from
  execAdoptWithoutRemap_follows (by simpa using (show ∀ p ∈ ([.regs, .trn, .jrn, .flt, .loss, .ports] : List Piece), K p = false from hK)) (Follows.refl s)

theorem execDryDataRead_all {s : State} (hK : ∀ p ∈ mayChange .dryDataRead, K p = false) : OutFollows K s (exec .dryDataRead s) :=
  show OutFollows K s (execDryDataRead s) from
  execDryDataRead_follows (by simpa using (show ∀ p ∈ ([.regs] : List Piece), K p = false from hK)) (Follows.refl s)

theorem execErasePinned_all {s : State} (hK : ∀ p ∈ mayChange .erasePinned, K p = false) : OutFollows K s (exec .erasePinned s) :=
  show OutFollows K s (execErasePinned s) from
  execErasePinned_follows (by simpa using (show ∀ p ∈ ([.regs, .dry] : List Piece), K p = false from hK)) (Follows.refl s)

theorem execEraseRing_all {s : State} (hK : ∀ p ∈ mayChange .eraseRing, K p = false) : OutFollows K s (exec .eraseRing s) :=
  show OutFollows K s (execEraseRing s) from
  execEraseRing_follows (by simpa using (show ∀ p ∈ ([.regs, .dry] : List Piece), K p = false from hK)) (Follows.refl s)

theorem execGuyRegRead_all {s : State} {a} (hK : ∀ p ∈ mayChange (.guyRegRead a), K p = false) : OutFollows K s (exec (.guyRegRead a) s) :=
  show OutFollows K s (execGuyRegRead a s) from
  execGuyRegRead_follows (by simpa using (show ∀ p ∈ ([.regs, .time] : List Piece), K p = false from hK)) (Follows.refl s)

theorem execGuyRegWrite_all {s : State} {a} {b} (hK : ∀ p ∈ mayChange (.guyRegWrite a b), K p = false) : OutFollows K s (exec (.guyRegWrite a b) s) :=
  show OutFollows K s (execGuyRegWrite a b s) from
  execGuyRegWrite_follows (by simpa using (show ∀ p ∈ ([.ftc, .regs, .fuses, .mem, .trn, .jrn, .pit, .flt, .pole, .loss, .dry, .sec, .bells, .col, .ports, .slots, .canopies, .seams, .cross, .time, .clk, .pwr, .spillq] : List Piece), K p = false from hK)) (Follows.refl s)

theorem execGuyBlockWrite_all {s : State} {a} {b} (hK : ∀ p ∈ mayChange (.guyBlockWrite a b), K p = false) : OutFollows K s (exec (.guyBlockWrite a b) s) :=
  show OutFollows K s (execGuyBlockWrite a b s) from
  execGuyBlockWrite_follows (by simpa using (show ∀ p ∈ ([.ftc, .regs, .fuses, .mem, .trn, .jrn, .pit, .flt, .pole, .loss, .dry, .sec, .bells, .col, .ports, .slots, .canopies, .seams, .cross, .time, .clk, .pwr, .spillq] : List Piece), K p = false from hK)) (Follows.refl s)

theorem execGuyBlockRead_all {s : State} {a} {b} (hK : ∀ p ∈ mayChange (.guyBlockRead a b), K p = false) : OutFollows K s (exec (.guyBlockRead a b) s) :=
  show OutFollows K s (execGuyBlockRead a b s) from
  execGuyBlockRead_follows (by simpa using (show ∀ p ∈ ([.regs, .time] : List Piece), K p = false from hK)) (Follows.refl s)

theorem execGuyBind_all {s : State} {a} (hK : ∀ p ∈ mayChange (.guyBind a), K p = false) : OutFollows K s (exec (.guyBind a) s) :=
  show OutFollows K s (execGuyBind a s) from
  execGuyBind_follows (by simpa using (show ∀ p ∈ ([.regs, .fuses, .flt, .dry] : List Piece), K p = false from hK)) (Follows.refl s)

theorem execGuyUnlockNonce_all {s : State} (hK : ∀ p ∈ mayChange .guyUnlockNonce, K p = false) : OutFollows K s (exec .guyUnlockNonce s) :=
  show OutFollows K s (execGuyUnlockNonce s) from
  execGuyUnlockNonce_follows (by simpa using (show ∀ p ∈ ([.sec] : List Piece), K p = false from hK)) (Follows.refl s)

theorem execGuyUnlock_all {s : State} {a} {b} (hK : ∀ p ∈ mayChange (.guyUnlock a b), K p = false) : OutFollows K s (exec (.guyUnlock a b) s) :=
  show OutFollows K s (execGuyUnlock a b s) from
  execGuyUnlock_follows (by simpa using (show ∀ p ∈ ([.regs, .flt, .dry, .sec, .pins] : List Piece), K p = false from hK)) (Follows.refl s)

theorem execMctpControl_all {s : State} {a} (hK : ∀ p ∈ mayChange (.mctpControl a), K p = false) : OutFollows K s (exec (.mctpControl a) s) :=
  show OutFollows K s (execMctpControl a s) from
  execMctpControl_follows (by simpa using (show ∀ p ∈ ([.regs, .sec] : List Piece), K p = false from hK)) (Follows.refl s)

theorem execPldmPlatform_all {s : State} {a} (hK : ∀ p ∈ mayChange (.pldmPlatform a), K p = false) : OutFollows K s (exec (.pldmPlatform a) s) :=
  show OutFollows K s (execPldmPlatform a s) from
  execPldmPlatform_follows (by simpa using (show ∀ p ∈ ([.regs, .flt] : List Piece), K p = false from hK)) (Follows.refl s)

theorem execFirmwareUpdate_all {s : State} {a} (hK : ∀ p ∈ mayChange (.firmwareUpdate a), K p = false) : OutFollows K s (exec (.firmwareUpdate a) s) :=
  show OutFollows K s (execFirmwareUpdate a s) from
  execFirmwareUpdate_follows (by simpa using (show ∀ p ∈ ([.regs, .flt, .dry, .sec] : List Piece), K p = false from hK)) (Follows.refl s)

theorem execSpdmRequest_all {s : State} {a} (hK : ∀ p ∈ mayChange (.spdmRequest a), K p = false) : OutFollows K s (exec (.spdmRequest a) s) :=
  show OutFollows K s (execSpdmRequest a s) from
  execSpdmRequest_follows (Follows.refl s)

theorem execI3cAddressAssign_all {s : State} {a} {b} {c} (hK : ∀ p ∈ mayChange (.i3cAddressAssign a b c), K p = false) : OutFollows K s (exec (.i3cAddressAssign a b c) s) :=
  show OutFollows K s (execI3cAddressAssign a b c s) from
  execI3cAddressAssign_follows (by simpa using (show ∀ p ∈ ([.regs] : List Piece), K p = false from hK)) (Follows.refl s)

theorem execFwLvlCommit_all {s : State} {a} (hK : ∀ p ∈ mayChange (.fwLvlCommit a), K p = false) : OutFollows K s (exec (.fwLvlCommit a) s) :=
  show OutFollows K s (execFwLvlCommit a s) from
  execFwLvlCommit_follows (by simpa using (show ∀ p ∈ ([.regs, .fuses, .flt, .dry] : List Piece), K p = false from hK)) (Follows.refl s)

theorem execPitLvlCommit_all {s : State} {a} (hK : ∀ p ∈ mayChange (.pitLvlCommit a), K p = false) : OutFollows K s (exec (.pitLvlCommit a) s) :=
  show OutFollows K s (execPitLvlCommit a s) from
  execPitLvlCommit_follows (by simpa using (show ∀ p ∈ ([.regs, .fuses, .flt, .dry] : List Piece), K p = false from hK)) (Follows.refl s)

theorem execCertLvlCommit_all {s : State} {a} (hK : ∀ p ∈ mayChange (.certLvlCommit a), K p = false) : OutFollows K s (exec (.certLvlCommit a) s) :=
  show OutFollows K s (execCertLvlCommit a s) from
  execCertLvlCommit_follows (by simpa using (show ∀ p ∈ ([.regs, .fuses, .flt, .dry] : List Piece), K p = false from hK)) (Follows.refl s)

theorem execConfirm_all {s : State} (hK : ∀ p ∈ mayChange .confirm, K p = false) : OutFollows K s (exec .confirm s) :=
  show OutFollows K s (execConfirm s) from
  execConfirm_follows (by simpa using (show ∀ p ∈ ([.regs, .dry, .sec] : List Piece), K p = false from hK)) (Follows.refl s)

theorem execAbandon_all {s : State} (hK : ∀ p ∈ mayChange .abandon, K p = false) : OutFollows K s (exec .abandon s) :=
  show OutFollows K s (execAbandon s) from
  execAbandon_follows (by simpa using (show ∀ p ∈ ([.regs, .dry, .sec] : List Piece), K p = false from hK)) (Follows.refl s)

theorem execSecPinReset_all {s : State} (hK : ∀ p ∈ mayChange .secPinReset, K p = false) : OutFollows K s (exec .secPinReset s) :=
  show OutFollows K s (execSecPinReset s) from
  execSecPinReset_follows (by simpa using (show ∀ p ∈ ([.ftc, .regs, .mem, .trn, .jrn, .pit, .flt, .pole, .loss, .dry, .sec, .bells, .col, .ports, .slots, .canopies, .seams, .cross, .time, .clk, .pwr, .spillq] : List Piece), K p = false from hK)) (Follows.refl s)

theorem execSecPowerOnReset_all {s : State} (hK : ∀ p ∈ mayChange .secPowerOnReset, K p = false) : OutFollows K s (exec .secPowerOnReset s) :=
  show OutFollows K s (execSecPowerOnReset s) from
  execSecPowerOnReset_follows (by simpa using (show ∀ p ∈ ([.ftc, .regs, .mem, .trn, .jrn, .pit, .flt, .pole, .loss, .dry, .sec, .bells, .col, .ports, .slots, .canopies, .seams, .cross, .time, .clk, .pwr, .spillq] : List Piece), K p = false from hK)) (Follows.refl s)

theorem execPinReset_all {s : State} (hK : ∀ p ∈ mayChange .pinReset, K p = false) : OutFollows K s (exec .pinReset s) :=
  show OutFollows K s (execPinReset s) from
  execPinReset_follows (by simpa using (show ∀ p ∈ ([.ftc, .regs, .mem, .trn, .jrn, .pit, .flt, .pole, .loss, .dry, .sec, .pins, .bells, .col, .ports, .slots, .canopies, .seams, .cross, .time, .clk, .pwr, .spillq] : List Piece), K p = false from hK)) (Follows.refl s)

theorem execResetNRelease_all {s : State} (hK : ∀ p ∈ mayChange .resetNRelease, K p = false) : OutFollows K s (exec .resetNRelease s) :=
  show OutFollows K s (execResetNRelease s) from
  execResetNRelease_follows (by simpa using (show ∀ p ∈ ([.regs, .mem, .trn, .jrn, .flt, .pole, .loss, .dry, .sec, .pins, .bells, .ports, .slots, .canopies, .cross, .clk, .pwr, .spillq] : List Piece), K p = false from hK)) (Follows.refl s)

theorem execPowerOnReset_all {s : State} (hK : ∀ p ∈ mayChange .powerOnReset, K p = false) : OutFollows K s (exec .powerOnReset s) :=
  show OutFollows K s (execPowerOnReset s) from
  execPowerOnReset_follows (by simpa using (show ∀ p ∈ ([.ftc, .regs, .mem, .trn, .jrn, .pit, .flt, .pole, .loss, .dry, .sec, .bells, .col, .ports, .slots, .canopies, .seams, .cross, .time, .clk, .pwr, .spillq] : List Piece), K p = false from hK)) (Follows.refl s)

theorem execTestModeFall_all {s : State} (hK : ∀ p ∈ mayChange .testModeFall, K p = false) : OutFollows K s (exec .testModeFall s) :=
  show OutFollows K s (execTestModeFall s) from
  execTestModeFall_follows (by simpa using (show ∀ p ∈ ([.ftc, .regs, .mem, .trn, .jrn, .pit, .flt, .pole, .loss, .dry, .sec, .pins, .bells, .col, .ports, .slots, .canopies, .seams, .cross, .time, .clk, .pwr, .spillq] : List Piece), K p = false from hK)) (Follows.refl s)

theorem execRegisterWrite_all {s : State} {a} {b} {c} (hK : ∀ p ∈ mayChange (.registerWrite a b c), K p = false) : OutFollows K s (exec (.registerWrite a b c) s) :=
  show OutFollows K s (execRegisterWrite a b c s) from
  execRegisterWrite_follows (by simpa using (show ∀ p ∈ ([.ftc, .regs, .fuses, .mem, .trn, .jrn, .pit, .flt, .pole, .loss, .dry, .sec, .bells, .col, .ports, .slots, .canopies, .seams, .cross, .time, .clk, .pwr, .spillq] : List Piece), K p = false from hK)) (Follows.refl s)

theorem execTimeSync_all {s : State} {a} {b} {c} (hK : ∀ p ∈ mayChange (.timeSync a b c), K p = false) : OutFollows K s (exec (.timeSync a b c) s) :=
  show OutFollows K s (execTimeSync a b c s) from
  execTimeSync_follows (by simpa using (show ∀ p ∈ ([.ftc, .regs, .trn, .flt, .loss, .ports, .time] : List Piece), K p = false from hK)) (Follows.refl s)

theorem execFlitInterval_all {s : State} {a} {b} (hK : ∀ p ∈ mayChange (.flitInterval a b), K p = false) : OutFollows K s (exec (.flitInterval a b) s) :=
  show OutFollows K s (execFlitInterval a b s) from
  execFlitInterval_follows (by simpa using (show ∀ p ∈ ([.regs, .mem, .trn, .flt, .loss, .dry, .sec, .bells, .ports, .canopies, .seams, .time, .spillq] : List Piece), K p = false from hK)) (Follows.refl s)

theorem execLossOfSignalEnd_all {s : State} {a} {b} (hK : ∀ p ∈ mayChange (.lossOfSignalEnd a b), K p = false) : OutFollows K s (exec (.lossOfSignalEnd a b) s) :=
  show OutFollows K s (execLossOfSignalEnd a b s) from
  execLossOfSignalEnd_follows (by simpa using (show ∀ p ∈ ([.regs, .ports, .canopies] : List Piece), K p = false from hK)) (Follows.refl s)

theorem execStandbyLanternLost_all {s : State} {a} (hK : ∀ p ∈ mayChange (.standbyLanternLost a), K p = false) : OutFollows K s (exec (.standbyLanternLost a) s) :=
  show OutFollows K s (execStandbyLanternLost a s) from
  execStandbyLanternLost_follows (by simpa using (show ∀ p ∈ ([.regs, .flt] : List Piece), K p = false from hK)) (Follows.refl s)

theorem execEthernetPcsLock_all {s : State} {a} {b} {c} (hK : ∀ p ∈ mayChange (.ethernetPcsLock a b c), K p = false) : OutFollows K s (exec (.ethernetPcsLock a b c) s) :=
  show OutFollows K s (execEthernetPcsLock a b c s) from
  execEthernetPcsLock_follows (by simpa using (show ∀ p ∈ ([.ports] : List Piece), K p = false from hK)) (Follows.refl s)

theorem execRetrainPortDown_all {s : State} {a} (hK : ∀ p ∈ mayChange (.retrainPortDown a), K p = false) : OutFollows K s (exec (.retrainPortDown a) s) :=
  show OutFollows K s (execRetrainPortDown a s) from
  execRetrainPortDown_follows (by simpa using (show ∀ p ∈ ([.regs, .trn, .flt, .loss, .ports] : List Piece), K p = false from hK)) (Follows.refl s)

theorem execSeamMarkerReceive_all {s : State} {a} {b} {c} {d} (hK : ∀ p ∈ mayChange (.seamMarkerReceive a b c d), K p = false) : OutFollows K s (exec (.seamMarkerReceive a b c d) s) :=
  show OutFollows K s (execSeamMarkerReceive a b c d s) from
  execSeamMarkerReceive_follows (by simpa using (show ∀ p ∈ ([.regs, .flt, .seams, .cross] : List Piece), K p = false from hK)) (Follows.refl s)

theorem execSlotModuleLoss_all {s : State} {a} {b} (hK : ∀ p ∈ mayChange (.slotModuleLoss a b), K p = false) : OutFollows K s (exec (.slotModuleLoss a b) s) :=
  show OutFollows K s (execSlotModuleLoss a b s) from
  execSlotModuleLoss_follows (by simpa using (show ∀ p ∈ ([.regs, .trn, .flt, .loss, .dry, .sec, .ports, .slots, .canopies, .spillq] : List Piece), K p = false from hK)) (Follows.refl s)

theorem execAlwaysOnPowerUp_all {s : State} {a} (hK : ∀ p ∈ mayChange (.alwaysOnPowerUp a), K p = false) : OutFollows K s (exec (.alwaysOnPowerUp a) s) :=
  show OutFollows K s (execAlwaysOnPowerUp a s) from
  execAlwaysOnPowerUp_follows (by simpa using (show ∀ p ∈ ([.regs, .pins, .pwr] : List Piece), K p = false from hK)) (Follows.refl s)

/-- Every command keeps the queue, the time, the canonical forms and the bounds, and every piece of the state that it does not change. -/
theorem exec_follows (i : Instr) (s : State) (hK : ∀ p ∈ mayChange i, K p = false) : OutFollows K s (exec i s) := by
  cases i with
  | rd _ _ _ => exact execRd_all hK
  | wr _ _ _ => exact execWr_all hK
  | regRd _ _ => exact execRegRd_all hK
  | regWr _ _ => exact execRegWr_all hK
  | bellResetRelease _ _ _ => exact execBellResetRelease_all hK
  | bankRefresh _ _ _ _ => exact execBankRefresh_all hK
  | dramInitDone _ => exact execDramInitDone_all hK
  | scrubStep _ _ => exact execScrubStep_all hK
  | runLaunchAtBell _ _ _ => exact execRunLaunchAtBell_all hK
  | runQueueEntryFree _ => exact execRunQueueEntryFree_all hK
  | descriptorFetch _ _ _ => exact execDescriptorFetch_all hK
  | descriptorComplete _ _ => exact execDescriptorComplete_all hK
  | opNop _ _ => exact execOpNop_all hK
  | opMatmul _ _ _ => exact execOpMatmul_all hK
  | opAttn _ _ _ => exact execOpAttn_all hK
  | opSoftmax _ _ _ => exact execOpSoftmax_all hK
  | opNorm _ _ _ => exact execOpNorm_all hK
  | opRope _ _ _ => exact execOpRope_all hK
  | opEltwise _ _ _ => exact execOpEltwise_all hK
  | opQuant _ _ _ => exact execOpQuant_all hK
  | opMoeGate _ _ _ => exact execOpMoeGate_all hK
  | opMoeDispatch _ _ _ => exact execOpMoeDispatch_all hK
  | moeDispatchReceive _ => exact execMoeDispatchReceive_all hK
  | opSample _ _ _ => exact execOpSample_all hK
  | opKvAppend _ _ _ => exact execOpKvAppend_all hK
  | opStage _ _ _ => exact execOpStage_all hK
  | opExpmax _ _ _ => exact execOpExpmax_all hK
  | opSync _ _ => exact execOpSync_all hK
  | belDrain _ _ => exact execBelDrain_all hK
  | woRun _ _ => exact execWoRun_all hK
  | woCommit _ _ => exact execWoCommit_all hK
  | woDiscard _ _ => exact execWoDiscard_all hK
  | woOpen _ _ => exact execWoOpen_all hK
  | woClose _ _ => exact execWoClose_all hK
  | launchTickReached _ _ => exact execLaunchTickReached_all hK
  | launch _ _ => exact execLaunch_all hK
  | commitCopyDone _ => exact execCommitCopyDone_all hK
  | commitSlotReadRelease _ _ _ => exact execCommitSlotReadRelease_all hK
  | runComplete _ _ => exact execRunComplete_all hK
  | partReport _ _ => exact execPartReport_all hK
  | kvMirrorMsg _ _ => exact execKvMirrorMsg_all hK
  | expPartial _ _ _ => exact execExpPartial_all hK
  | expResult _ _ => exact execExpResult_all hK
  | colPartial _ _ _ => exact execColPartial_all hK
  | colResult _ _ => exact execColResult_all hK
  | colAbort _ _ => exact execColAbort_all hK
  | collectiveStall _ => exact execCollectiveStall_all hK
  | openShadow _ => exact execOpenShadow_all hK
  | shadowDataWrite _ _ => exact execShadowDataWrite_all hK
  | verify _ => exact execVerify_all hK
  | verifyDone => exact execVerifyDone_all hK
  | pitchQueryMsg _ _ => exact execPitchQueryMsg_all hK
  | peerWaitTimeout _ => exact execPeerWaitTimeout_all hK
  | arm _ => exact execArm_all hK
  | disarm _ => exact execDisarm_all hK
  | drop _ => exact execDrop_all hK
  | fullActivation => exact execFullActivation_all hK
  | remapArm _ _ => exact execRemapArm_all hK
  | remapDisarm _ _ => exact execRemapDisarm_all hK
  | remapActivation => exact execRemapActivation_all hK
  | liveWrite _ => exact execLiveWrite_all hK
  | liveApply => exact execLiveApply_all hK
  | imageInfo _ _ => exact execImageInfo_all hK
  | zfpForward _ _ => exact execZfpForward_all hK
  | zfpResponse _ _ => exact execZfpResponse_all hK
  | requestTimeout _ => exact execRequestTimeout_all hK
  | inResetResend _ => exact execInResetResend_all hK
  | busyResend _ => exact execBusyResend_all hK
  | dedupKeyExpire _ _ _ => exact execDedupKeyExpire_all hK
  | jrnMirrorMsg _ _ => exact execJrnMirrorMsg_all hK
  | mirrorTimeout _ => exact execMirrorTimeout_all hK
  | journalRelease _ => exact execJournalRelease_all hK
  | completionSend _ _ => exact execCompletionSend_all hK
  | compAck _ _ => exact execCompAck_all hK
  | hostBind _ _ => exact execHostBind_all hK
  | ethFrame _ _ _ => exact execEthFrame_all hK
  | neighborSolicitation _ _ _ => exact execNeighborSolicitation_all hK
  | echoRequest _ _ _ => exact execEchoRequest_all hK
  | dataFlit _ _ => exact execDataFlit_all hK
  | ctrlFlit _ _ => exact execCtrlFlit_all hK
  | idleFlit _ _ => exact execIdleFlit_all hK
  | nakResendTimeout _ _ => exact execNakResendTimeout_all hK
  | ackStallReplay _ _ => exact execAckStallReplay_all hK
  | markerInterval _ => exact execMarkerInterval_all hK
  | markerReceive _ _ _ _ => exact execMarkerReceive_all hK
  | spillGrant _ => exact execSpillGrant_all hK
  | spillRelease _ => exact execSpillRelease_all hK
  | paramMsg _ _ => exact execParamMsg_all hK
  | auditMsg _ _ => exact execAuditMsg_all hK
  | creditAudit _ => exact execCreditAudit_all hK
  | laneFailMsg _ _ => exact execLaneFailMsg_all hK
  | wrongLockMsg _ _ => exact execWrongLockMsg_all hK
  | calReqMsg _ _ => exact execCalReqMsg_all hK
  | calDoneMsg _ _ => exact execCalDoneMsg_all hK
  | stopMsg _ _ => exact execStopMsg_all hK
  | throttleMsg _ _ => exact execThrottleMsg_all hK
  | resumeMsg _ _ => exact execResumeMsg_all hK
  | idleReqMsg _ _ => exact execIdleReqMsg_all hK
  | idleAckMsg _ _ => exact execIdleAckMsg_all hK
  | retrainReqMsg _ _ => exact execRetrainReqMsg_all hK
  | laneFailureDetect _ _ _ _ => exact execLaneFailureDetect_all hK
  | laneFailResend _ _ => exact execLaneFailResend_all hK
  | linkEnable _ => exact execLinkEnable_all hK
  | lightDetect _ _ => exact execLightDetect_all hK
  | clockLock _ _ => exact execClockLock_all hK
  | alignDone _ _ _ => exact execAlignDone_all hK
  | trainingTimeout _ => exact execTrainingTimeout_all hK
  | trainingRetry _ => exact execTrainingRetry_all hK
  | idleQuietTimeout _ => exact execIdleQuietTimeout_all hK
  | idleExit _ _ => exact execIdleExit_all hK
  | retrain _ => exact execRetrain_all hK
  | restart _ => exact execRestart_all hK
  | linkReset _ => exact execLinkReset_all hK
  | ringSearch _ _ _ => exact execRingSearch_all hK
  | ringSearchDone _ _ => exact execRingSearchDone_all hK
  | lockLoopUpdate _ _ _ => exact execLockLoopUpdate_all hK
  | xtMatrixSave _ => exact execXtMatrixSave_all hK
  | relockAttempt _ _ => exact execRelockAttempt_all hK
  | relockEnd _ _ _ _ => exact execRelockEnd_all hK
  | calibrationWindow _ _ => exact execCalibrationWindow_all hK
  | calibrationWindowDone _ _ _ _ _ => exact execCalibrationWindowDone_all hK
  | calOverdue _ _ => exact execCalOverdue_all hK
  | calSummary _ => exact execCalSummary_all hK
  | lossOfSignal _ _ => exact execLossOfSignal_all hK
  | portDarkTimeout _ => exact execPortDarkTimeout_all hK
  | rxPowerCheck _ _ _ _ => exact execRxPowerCheck_all hK
  | stageCheck _ _ _ _ _ => exact execStageCheck_all hK
  | lanternWear _ _ _ => exact execLanternWear_all hK
  | lanternSwitchOver _ _ => exact execLanternSwitchOver_all hK
  | combReferenceFault _ => exact execCombReferenceFault_all hK
  | lantSwitch _ => exact execLantSwitch_all hK
  | calAll _ => exact execCalAll_all hK
  | laneCalReq _ => exact execLaneCalReq_all hK
  | monitorMeasure _ _ => exact execMonitorMeasure_all hK
  | monitorMeasureDone _ _ => exact execMonitorMeasureDone_all hK
  | xtFactory _ => exact execXtFactory_all hK
  | flapOpenStart _ => exact execFlapOpenStart_all hK
  | flapOpened _ => exact execFlapOpened_all hK
  | flapClose _ => exact execFlapClose_all hK
  | flapClosed _ => exact execFlapClosed_all hK
  | flapStuck _ => exact execFlapStuck_all hK
  | transitWindow _ _ _ => exact execTransitWindow_all hK
  | transitWindowEnd _ _ => exact execTransitWindowEnd_all hK
  | seamFlit _ _ _ => exact execSeamFlit_all hK
  | seamReplayTimeout _ _ => exact execSeamReplayTimeout_all hK
  | seamMarker _ _ => exact execSeamMarker_all hK
  | seamLaneFail _ _ _ => exact execSeamLaneFail_all hK
  | seamLaneFailureDetect _ _ _ _ => exact execSeamLaneFailureDetect_all hK
  | seamCalReq _ _ _ => exact execSeamCalReq_all hK
  | seamCalDone _ _ _ => exact execSeamCalDone_all hK
  | seamRetrainReq _ _ _ => exact execSeamRetrainReq_all hK
  | seamCalWaitTimeout _ => exact execSeamCalWaitTimeout_all hK
  | seamTrainStart _ => exact execSeamTrainStart_all hK
  | seamTestDone _ _ _ => exact execSeamTestDone_all hK
  | seamAlignDone _ _ => exact execSeamAlignDone_all hK
  | seamAlignTimeout _ => exact execSeamAlignTimeout_all hK
  | seamHeld _ => exact execSeamHeld_all hK
  | peerResetIndication _ _ _ => exact execPeerResetIndication_all hK
  | rearmReq _ _ _ => exact execRearmReq_all hK
  | rearmAck _ _ _ => exact execRearmAck_all hK
  | rearmTimeout _ => exact execRearmTimeout_all hK
  | seamRetrain _ => exact execSeamRetrain_all hK
  | seamLinkReset _ => exact execSeamLinkReset_all hK
  | seamCalAll _ => exact execSeamCalAll_all hK
  | slotDiscovery _ _ _ _ => exact execSlotDiscovery_all hK
  | slotRetrain _ => exact execSlotRetrain_all hK
  | slotLinkReset _ => exact execSlotLinkReset_all hK
  | admitAllow _ => exact execAdmitAllow_all hK
  | slotPartnerFault _ _ => exact execSlotPartnerFault_all hK
  | tapBypass => exact execTapBypass_all hK
  | tapIdcode => exact execTapIdcode_all hK
  | tapSamplePreload _ => exact execTapSamplePreload_all hK
  | tapSegmentInsert _ => exact execTapSegmentInsert_all hK
  | tapExtest _ => exact execTapExtest_all hK
  | tapClamp _ => exact execTapClamp_all hK
  | tapHighz => exact execTapHighz_all hK
  | tapReset => exact execTapReset_all hK
  | timeSyncSend _ => exact execTimeSyncSend_all hK
  | timeDelaysWallSend _ => exact execTimeDelaysWallSend_all hK
  | delaysMsg _ _ => exact execDelaysMsg_all hK
  | wallMsg _ _ => exact execWallMsg_all hK
  | servoUpdate => exact execServoUpdate_all hK
  | upstreamLoss => exact execUpstreamLoss_all hK
  | holdoverTimeout => exact execHoldoverTimeout_all hK
  | noUpstreamTimeout => exact execNoUpstreamTimeout_all hK
  | referencePllLock _ => exact execReferencePllLock_all hK
  | ftcLoad => exact execFtcLoad_all hK
  | ftcNowRead => exact execFtcNowRead_all hK
  | referenceTrip _ _ => exact execReferenceTrip_all hK
  | fastOscTrip => exact execFastOscTrip_all hK
  | slowOscTrip => exact execSlowOscTrip_all hK
  | bellPllTrip _ _ => exact execBellPllTrip_all hK
  | fastReady => exact execFastReady_all hK
  | fallbackTimeout => exact execFallbackTimeout_all hK
  | muxSwitchTimeout _ => exact execMuxSwitchTimeout_all hK
  | clkMuxForce _ => exact execClkMuxForce_all hK
  | inputUndervoltage _ => exact execInputUndervoltage_all hK
  | inputOvervoltage _ => exact execInputOvervoltage_all hK
  | inputOutOfRange _ => exact execInputOutOfRange_all hK
  | inputQualified _ => exact execInputQualified_all hK
  | inputOvercurrent _ _ => exact execInputOvercurrent_all hK
  | powerFail _ _ _ => exact execPowerFail_all hK
  | auxPowerChange _ => exact execAuxPowerChange_all hK
  | domainStateRequest _ _ => exact execDomainStateRequest_all hK
  | engineGroupIdle _ _ => exact execEngineGroupIdle_all hK
  | powerGoodFail _ => exact execPowerGoodFail_all hK
  | dvfsStep _ => exact execDvfsStep_all hK
  | dvfsStepEnd _ _ => exact execDvfsStepEnd_all hK
  | powerLimitCheck _ _ => exact execPowerLimitCheck_all hK
  | bellPowerSample _ _ _ => exact execBellPowerSample_all hK
  | sensorSample _ _ _ => exact execSensorSample_all hK
  | throttleStep _ => exact execThrottleStep_all hK
  | thmXcheck _ => exact execThmXcheck_all hK
  | thmRelease => exact execThmRelease_all hK
  | faultReport _ _ _ => exact execFaultReport_all hK
  | faultAck _ => exact execFaultAck_all hK
  | ackAll => exact execAckAll_all hK
  | collectorSelfFault _ => exact execCollectorSelfFault_all hK
  | strikeRecordWrite _ _ _ _ => exact execStrikeRecordWrite_all hK
  | strikeCommand _ => exact execStrikeCommand_all hK
  | faultInject => exact execFaultInject_all hK
  | poleGiveUp _ _ _ _ => exact execPoleGiveUp_all hK
  | poleSelfTestDone _ _ => exact execPoleSelfTestDone_all hK
  | poleResyncDone _ => exact execPoleResyncDone_all hK
  | poleDivergence => exact execPoleDivergence_all hK
  | poleSwitch => exact execPoleSwitch_all hK
  | buddyProbe => exact execBuddyProbe_all hK
  | ringIsolation => exact execRingIsolation_all hK
  | unitLostDeclare _ => exact execUnitLostDeclare_all hK
  | lostUnitWrite _ _ _ => exact execLostUnitWrite_all hK
  | reloadDone => exact execReloadDone_all hK
  | reloadComplete => exact execReloadComplete_all hK
  | adoptWithoutRemap => exact execAdoptWithoutRemap_all hK
  | dryDataRead => exact execDryDataRead_all hK
  | erasePinned => exact execErasePinned_all hK
  | eraseRing => exact execEraseRing_all hK
  | guyRegRead _ => exact execGuyRegRead_all hK
  | guyRegWrite _ _ => exact execGuyRegWrite_all hK
  | guyBlockWrite _ _ => exact execGuyBlockWrite_all hK
  | guyBlockRead _ _ => exact execGuyBlockRead_all hK
  | guyBind _ => exact execGuyBind_all hK
  | guyUnlockNonce => exact execGuyUnlockNonce_all hK
  | guyUnlock _ _ => exact execGuyUnlock_all hK
  | mctpControl _ => exact execMctpControl_all hK
  | pldmPlatform _ => exact execPldmPlatform_all hK
  | firmwareUpdate _ => exact execFirmwareUpdate_all hK
  | spdmRequest _ => exact execSpdmRequest_all hK
  | i3cAddressAssign _ _ _ => exact execI3cAddressAssign_all hK
  | fwLvlCommit _ => exact execFwLvlCommit_all hK
  | pitLvlCommit _ => exact execPitLvlCommit_all hK
  | certLvlCommit _ => exact execCertLvlCommit_all hK
  | confirm => exact execConfirm_all hK
  | abandon => exact execAbandon_all hK
  | secPinReset => exact execSecPinReset_all hK
  | secPowerOnReset => exact execSecPowerOnReset_all hK
  | pinReset => exact execPinReset_all hK
  | resetNRelease => exact execResetNRelease_all hK
  | powerOnReset => exact execPowerOnReset_all hK
  | testModeFall => exact execTestModeFall_all hK
  | registerWrite _ _ _ => exact execRegisterWrite_all hK
  | timeSync _ _ _ => exact execTimeSync_all hK
  | flitInterval _ _ => exact execFlitInterval_all hK
  | lossOfSignalEnd _ _ => exact execLossOfSignalEnd_all hK
  | standbyLanternLost _ => exact execStandbyLanternLost_all hK
  | ethernetPcsLock _ _ _ => exact execEthernetPcsLock_all hK
  | retrainPortDown _ => exact execRetrainPortDown_all hK
  | seamMarkerReceive _ _ _ _ => exact execSeamMarkerReceive_all hK
  | slotModuleLoss _ _ => exact execSlotModuleLoss_all hK
  | alwaysOnPowerUp _ => exact execAlwaysOnPowerUp_all hK

end Sys2Proof.Machine
end

