-- ==== Sys2Proof/Laws/State.lean ====
section
/-!
SUPPORT. What each update of the state leaves of every field: one lemma per update and field, so that no later proof unfolds a record update.
-/

namespace Sys2Proof.Machine

open Sys2Proof

@[simp] theorem State.setReg_pending (s : State) (a : Nat) (w : Word) : (s.setReg a w).pending = s.pending := rfl
@[simp] theorem State.setReg_free (s : State) (a : Nat) (w : Word) : (s.setReg a w).free = s.free := rfl
@[simp] theorem State.setReg_now (s : State) (a : Nat) (w : Word) : (s.setReg a w).now = s.now := rfl
@[simp] theorem State.setReg_ftc (s : State) (a : Nat) (w : Word) : (s.setReg a w).ftc = s.ftc := rfl
theorem State.setReg_regs (s : State) (a : Nat) (w : Word) : (s.setReg a w).regs = SMap.set resetWord s.regs a w := rfl
@[simp] theorem State.setReg_fuses (s : State) (a : Nat) (w : Word) : (s.setReg a w).fuses = s.fuses := rfl
@[simp] theorem State.setReg_mem (s : State) (a : Nat) (w : Word) : (s.setReg a w).mem = s.mem := rfl
@[simp] theorem State.setReg_out (s : State) (a : Nat) (w : Word) : (s.setReg a w).out = s.out := rfl
@[simp] theorem State.setReg_trn (s : State) (a : Nat) (w : Word) : (s.setReg a w).trn = s.trn := rfl
@[simp] theorem State.setReg_jrn (s : State) (a : Nat) (w : Word) : (s.setReg a w).jrn = s.jrn := rfl
@[simp] theorem State.setReg_pit (s : State) (a : Nat) (w : Word) : (s.setReg a w).pit = s.pit := rfl
@[simp] theorem State.setReg_flt (s : State) (a : Nat) (w : Word) : (s.setReg a w).flt = s.flt := rfl
@[simp] theorem State.setReg_pole (s : State) (a : Nat) (w : Word) : (s.setReg a w).pole = s.pole := rfl
@[simp] theorem State.setReg_loss (s : State) (a : Nat) (w : Word) : (s.setReg a w).loss = s.loss := rfl
@[simp] theorem State.setReg_dry (s : State) (a : Nat) (w : Word) : (s.setReg a w).dry = s.dry := rfl
@[simp] theorem State.setReg_sec (s : State) (a : Nat) (w : Word) : (s.setReg a w).sec = s.sec := rfl
@[simp] theorem State.setReg_pins (s : State) (a : Nat) (w : Word) : (s.setReg a w).pins = s.pins := rfl
@[simp] theorem State.setReg_bells (s : State) (a : Nat) (w : Word) : (s.setReg a w).bells = s.bells := rfl
@[simp] theorem State.setReg_col (s : State) (a : Nat) (w : Word) : (s.setReg a w).col = s.col := rfl
@[simp] theorem State.setReg_ports (s : State) (a : Nat) (w : Word) : (s.setReg a w).ports = s.ports := rfl
@[simp] theorem State.setReg_slots (s : State) (a : Nat) (w : Word) : (s.setReg a w).slots = s.slots := rfl
@[simp] theorem State.setReg_canopies (s : State) (a : Nat) (w : Word) : (s.setReg a w).canopies = s.canopies := rfl
@[simp] theorem State.setReg_seams (s : State) (a : Nat) (w : Word) : (s.setReg a w).seams = s.seams := rfl
@[simp] theorem State.setReg_cross (s : State) (a : Nat) (w : Word) : (s.setReg a w).cross = s.cross := rfl
@[simp] theorem State.setReg_tap (s : State) (a : Nat) (w : Word) : (s.setReg a w).tap = s.tap := rfl
@[simp] theorem State.setReg_time (s : State) (a : Nat) (w : Word) : (s.setReg a w).time = s.time := rfl
@[simp] theorem State.setReg_clk (s : State) (a : Nat) (w : Word) : (s.setReg a w).clk = s.clk := rfl
@[simp] theorem State.setReg_pwr (s : State) (a : Nat) (w : Word) : (s.setReg a w).pwr = s.pwr := rfl
@[simp] theorem State.setReg_spillq (s : State) (a : Nat) (w : Word) : (s.setReg a w).spillq = s.spillq := rfl

@[simp] theorem State.setFld_pending (s : State) (a : Nat) (f : Fld) (v : Nat) : (s.setFld a f v).pending = s.pending := rfl
@[simp] theorem State.setFld_free (s : State) (a : Nat) (f : Fld) (v : Nat) : (s.setFld a f v).free = s.free := rfl
@[simp] theorem State.setFld_now (s : State) (a : Nat) (f : Fld) (v : Nat) : (s.setFld a f v).now = s.now := rfl
@[simp] theorem State.setFld_ftc (s : State) (a : Nat) (f : Fld) (v : Nat) : (s.setFld a f v).ftc = s.ftc := rfl
@[simp] theorem State.setFld_fuses (s : State) (a : Nat) (f : Fld) (v : Nat) : (s.setFld a f v).fuses = s.fuses := rfl
@[simp] theorem State.setFld_mem (s : State) (a : Nat) (f : Fld) (v : Nat) : (s.setFld a f v).mem = s.mem := rfl
@[simp] theorem State.setFld_out (s : State) (a : Nat) (f : Fld) (v : Nat) : (s.setFld a f v).out = s.out := rfl
@[simp] theorem State.setFld_trn (s : State) (a : Nat) (f : Fld) (v : Nat) : (s.setFld a f v).trn = s.trn := rfl
@[simp] theorem State.setFld_jrn (s : State) (a : Nat) (f : Fld) (v : Nat) : (s.setFld a f v).jrn = s.jrn := rfl
@[simp] theorem State.setFld_pit (s : State) (a : Nat) (f : Fld) (v : Nat) : (s.setFld a f v).pit = s.pit := rfl
@[simp] theorem State.setFld_flt (s : State) (a : Nat) (f : Fld) (v : Nat) : (s.setFld a f v).flt = s.flt := rfl
@[simp] theorem State.setFld_pole (s : State) (a : Nat) (f : Fld) (v : Nat) : (s.setFld a f v).pole = s.pole := rfl
@[simp] theorem State.setFld_loss (s : State) (a : Nat) (f : Fld) (v : Nat) : (s.setFld a f v).loss = s.loss := rfl
@[simp] theorem State.setFld_dry (s : State) (a : Nat) (f : Fld) (v : Nat) : (s.setFld a f v).dry = s.dry := rfl
@[simp] theorem State.setFld_sec (s : State) (a : Nat) (f : Fld) (v : Nat) : (s.setFld a f v).sec = s.sec := rfl
@[simp] theorem State.setFld_pins (s : State) (a : Nat) (f : Fld) (v : Nat) : (s.setFld a f v).pins = s.pins := rfl
@[simp] theorem State.setFld_bells (s : State) (a : Nat) (f : Fld) (v : Nat) : (s.setFld a f v).bells = s.bells := rfl
@[simp] theorem State.setFld_col (s : State) (a : Nat) (f : Fld) (v : Nat) : (s.setFld a f v).col = s.col := rfl
@[simp] theorem State.setFld_ports (s : State) (a : Nat) (f : Fld) (v : Nat) : (s.setFld a f v).ports = s.ports := rfl
@[simp] theorem State.setFld_slots (s : State) (a : Nat) (f : Fld) (v : Nat) : (s.setFld a f v).slots = s.slots := rfl
@[simp] theorem State.setFld_canopies (s : State) (a : Nat) (f : Fld) (v : Nat) : (s.setFld a f v).canopies = s.canopies := rfl
@[simp] theorem State.setFld_seams (s : State) (a : Nat) (f : Fld) (v : Nat) : (s.setFld a f v).seams = s.seams := rfl
@[simp] theorem State.setFld_cross (s : State) (a : Nat) (f : Fld) (v : Nat) : (s.setFld a f v).cross = s.cross := rfl
@[simp] theorem State.setFld_tap (s : State) (a : Nat) (f : Fld) (v : Nat) : (s.setFld a f v).tap = s.tap := rfl
@[simp] theorem State.setFld_time (s : State) (a : Nat) (f : Fld) (v : Nat) : (s.setFld a f v).time = s.time := rfl
@[simp] theorem State.setFld_clk (s : State) (a : Nat) (f : Fld) (v : Nat) : (s.setFld a f v).clk = s.clk := rfl
@[simp] theorem State.setFld_pwr (s : State) (a : Nat) (f : Fld) (v : Nat) : (s.setFld a f v).pwr = s.pwr := rfl
@[simp] theorem State.setFld_spillq (s : State) (a : Nat) (f : Fld) (v : Nat) : (s.setFld a f v).spillq = s.spillq := rfl

@[simp] theorem State.addFld_pending (s : State) (a : Nat) (f : Fld) (v : Nat) : (s.addFld a f v).pending = s.pending := rfl
@[simp] theorem State.addFld_free (s : State) (a : Nat) (f : Fld) (v : Nat) : (s.addFld a f v).free = s.free := rfl
@[simp] theorem State.addFld_now (s : State) (a : Nat) (f : Fld) (v : Nat) : (s.addFld a f v).now = s.now := rfl
@[simp] theorem State.addFld_ftc (s : State) (a : Nat) (f : Fld) (v : Nat) : (s.addFld a f v).ftc = s.ftc := rfl
@[simp] theorem State.addFld_fuses (s : State) (a : Nat) (f : Fld) (v : Nat) : (s.addFld a f v).fuses = s.fuses := rfl
@[simp] theorem State.addFld_mem (s : State) (a : Nat) (f : Fld) (v : Nat) : (s.addFld a f v).mem = s.mem := rfl
@[simp] theorem State.addFld_out (s : State) (a : Nat) (f : Fld) (v : Nat) : (s.addFld a f v).out = s.out := rfl
@[simp] theorem State.addFld_trn (s : State) (a : Nat) (f : Fld) (v : Nat) : (s.addFld a f v).trn = s.trn := rfl
@[simp] theorem State.addFld_jrn (s : State) (a : Nat) (f : Fld) (v : Nat) : (s.addFld a f v).jrn = s.jrn := rfl
@[simp] theorem State.addFld_pit (s : State) (a : Nat) (f : Fld) (v : Nat) : (s.addFld a f v).pit = s.pit := rfl
@[simp] theorem State.addFld_flt (s : State) (a : Nat) (f : Fld) (v : Nat) : (s.addFld a f v).flt = s.flt := rfl
@[simp] theorem State.addFld_pole (s : State) (a : Nat) (f : Fld) (v : Nat) : (s.addFld a f v).pole = s.pole := rfl
@[simp] theorem State.addFld_loss (s : State) (a : Nat) (f : Fld) (v : Nat) : (s.addFld a f v).loss = s.loss := rfl
@[simp] theorem State.addFld_dry (s : State) (a : Nat) (f : Fld) (v : Nat) : (s.addFld a f v).dry = s.dry := rfl
@[simp] theorem State.addFld_sec (s : State) (a : Nat) (f : Fld) (v : Nat) : (s.addFld a f v).sec = s.sec := rfl
@[simp] theorem State.addFld_pins (s : State) (a : Nat) (f : Fld) (v : Nat) : (s.addFld a f v).pins = s.pins := rfl
@[simp] theorem State.addFld_bells (s : State) (a : Nat) (f : Fld) (v : Nat) : (s.addFld a f v).bells = s.bells := rfl
@[simp] theorem State.addFld_col (s : State) (a : Nat) (f : Fld) (v : Nat) : (s.addFld a f v).col = s.col := rfl
@[simp] theorem State.addFld_ports (s : State) (a : Nat) (f : Fld) (v : Nat) : (s.addFld a f v).ports = s.ports := rfl
@[simp] theorem State.addFld_slots (s : State) (a : Nat) (f : Fld) (v : Nat) : (s.addFld a f v).slots = s.slots := rfl
@[simp] theorem State.addFld_canopies (s : State) (a : Nat) (f : Fld) (v : Nat) : (s.addFld a f v).canopies = s.canopies := rfl
@[simp] theorem State.addFld_seams (s : State) (a : Nat) (f : Fld) (v : Nat) : (s.addFld a f v).seams = s.seams := rfl
@[simp] theorem State.addFld_cross (s : State) (a : Nat) (f : Fld) (v : Nat) : (s.addFld a f v).cross = s.cross := rfl
@[simp] theorem State.addFld_tap (s : State) (a : Nat) (f : Fld) (v : Nat) : (s.addFld a f v).tap = s.tap := rfl
@[simp] theorem State.addFld_time (s : State) (a : Nat) (f : Fld) (v : Nat) : (s.addFld a f v).time = s.time := rfl
@[simp] theorem State.addFld_clk (s : State) (a : Nat) (f : Fld) (v : Nat) : (s.addFld a f v).clk = s.clk := rfl
@[simp] theorem State.addFld_pwr (s : State) (a : Nat) (f : Fld) (v : Nat) : (s.addFld a f v).pwr = s.pwr := rfl
@[simp] theorem State.addFld_spillq (s : State) (a : Nat) (f : Fld) (v : Nat) : (s.addFld a f v).spillq = s.spillq := rfl

@[simp] theorem State.bump_pending (s : State) (a : Nat) : (s.bump a).pending = s.pending := rfl
@[simp] theorem State.bump_free (s : State) (a : Nat) : (s.bump a).free = s.free := rfl
@[simp] theorem State.bump_now (s : State) (a : Nat) : (s.bump a).now = s.now := rfl
@[simp] theorem State.bump_ftc (s : State) (a : Nat) : (s.bump a).ftc = s.ftc := rfl
@[simp] theorem State.bump_fuses (s : State) (a : Nat) : (s.bump a).fuses = s.fuses := rfl
@[simp] theorem State.bump_mem (s : State) (a : Nat) : (s.bump a).mem = s.mem := rfl
@[simp] theorem State.bump_out (s : State) (a : Nat) : (s.bump a).out = s.out := rfl
@[simp] theorem State.bump_trn (s : State) (a : Nat) : (s.bump a).trn = s.trn := rfl
@[simp] theorem State.bump_jrn (s : State) (a : Nat) : (s.bump a).jrn = s.jrn := rfl
@[simp] theorem State.bump_pit (s : State) (a : Nat) : (s.bump a).pit = s.pit := rfl
@[simp] theorem State.bump_flt (s : State) (a : Nat) : (s.bump a).flt = s.flt := rfl
@[simp] theorem State.bump_pole (s : State) (a : Nat) : (s.bump a).pole = s.pole := rfl
@[simp] theorem State.bump_loss (s : State) (a : Nat) : (s.bump a).loss = s.loss := rfl
@[simp] theorem State.bump_dry (s : State) (a : Nat) : (s.bump a).dry = s.dry := rfl
@[simp] theorem State.bump_sec (s : State) (a : Nat) : (s.bump a).sec = s.sec := rfl
@[simp] theorem State.bump_pins (s : State) (a : Nat) : (s.bump a).pins = s.pins := rfl
@[simp] theorem State.bump_bells (s : State) (a : Nat) : (s.bump a).bells = s.bells := rfl
@[simp] theorem State.bump_col (s : State) (a : Nat) : (s.bump a).col = s.col := rfl
@[simp] theorem State.bump_ports (s : State) (a : Nat) : (s.bump a).ports = s.ports := rfl
@[simp] theorem State.bump_slots (s : State) (a : Nat) : (s.bump a).slots = s.slots := rfl
@[simp] theorem State.bump_canopies (s : State) (a : Nat) : (s.bump a).canopies = s.canopies := rfl
@[simp] theorem State.bump_seams (s : State) (a : Nat) : (s.bump a).seams = s.seams := rfl
@[simp] theorem State.bump_cross (s : State) (a : Nat) : (s.bump a).cross = s.cross := rfl
@[simp] theorem State.bump_tap (s : State) (a : Nat) : (s.bump a).tap = s.tap := rfl
@[simp] theorem State.bump_time (s : State) (a : Nat) : (s.bump a).time = s.time := rfl
@[simp] theorem State.bump_clk (s : State) (a : Nat) : (s.bump a).clk = s.clk := rfl
@[simp] theorem State.bump_pwr (s : State) (a : Nat) : (s.bump a).pwr = s.pwr := rfl
@[simp] theorem State.bump_spillq (s : State) (a : Nat) : (s.bump a).spillq = s.spillq := rfl

@[simp] theorem State.capture_pending (s : State) (a v : Nat) : (s.capture a v).pending = s.pending := by
  unfold State.capture; split <;> rfl
@[simp] theorem State.capture_free (s : State) (a v : Nat) : (s.capture a v).free = s.free := by
  unfold State.capture; split <;> rfl
@[simp] theorem State.capture_now (s : State) (a v : Nat) : (s.capture a v).now = s.now := by
  unfold State.capture; split <;> rfl
@[simp] theorem State.capture_ftc (s : State) (a v : Nat) : (s.capture a v).ftc = s.ftc := by
  unfold State.capture; split <;> rfl
@[simp] theorem State.capture_fuses (s : State) (a v : Nat) : (s.capture a v).fuses = s.fuses := by
  unfold State.capture; split <;> rfl
@[simp] theorem State.capture_mem (s : State) (a v : Nat) : (s.capture a v).mem = s.mem := by
  unfold State.capture; split <;> rfl
@[simp] theorem State.capture_out (s : State) (a v : Nat) : (s.capture a v).out = s.out := by
  unfold State.capture; split <;> rfl
@[simp] theorem State.capture_trn (s : State) (a v : Nat) : (s.capture a v).trn = s.trn := by
  unfold State.capture; split <;> rfl
@[simp] theorem State.capture_jrn (s : State) (a v : Nat) : (s.capture a v).jrn = s.jrn := by
  unfold State.capture; split <;> rfl
@[simp] theorem State.capture_pit (s : State) (a v : Nat) : (s.capture a v).pit = s.pit := by
  unfold State.capture; split <;> rfl
@[simp] theorem State.capture_flt (s : State) (a v : Nat) : (s.capture a v).flt = s.flt := by
  unfold State.capture; split <;> rfl
@[simp] theorem State.capture_pole (s : State) (a v : Nat) : (s.capture a v).pole = s.pole := by
  unfold State.capture; split <;> rfl
@[simp] theorem State.capture_loss (s : State) (a v : Nat) : (s.capture a v).loss = s.loss := by
  unfold State.capture; split <;> rfl
@[simp] theorem State.capture_dry (s : State) (a v : Nat) : (s.capture a v).dry = s.dry := by
  unfold State.capture; split <;> rfl
@[simp] theorem State.capture_sec (s : State) (a v : Nat) : (s.capture a v).sec = s.sec := by
  unfold State.capture; split <;> rfl
@[simp] theorem State.capture_pins (s : State) (a v : Nat) : (s.capture a v).pins = s.pins := by
  unfold State.capture; split <;> rfl
@[simp] theorem State.capture_bells (s : State) (a v : Nat) : (s.capture a v).bells = s.bells := by
  unfold State.capture; split <;> rfl
@[simp] theorem State.capture_col (s : State) (a v : Nat) : (s.capture a v).col = s.col := by
  unfold State.capture; split <;> rfl
@[simp] theorem State.capture_ports (s : State) (a v : Nat) : (s.capture a v).ports = s.ports := by
  unfold State.capture; split <;> rfl
@[simp] theorem State.capture_slots (s : State) (a v : Nat) : (s.capture a v).slots = s.slots := by
  unfold State.capture; split <;> rfl
@[simp] theorem State.capture_canopies (s : State) (a v : Nat) : (s.capture a v).canopies = s.canopies := by
  unfold State.capture; split <;> rfl
@[simp] theorem State.capture_seams (s : State) (a v : Nat) : (s.capture a v).seams = s.seams := by
  unfold State.capture; split <;> rfl
@[simp] theorem State.capture_cross (s : State) (a v : Nat) : (s.capture a v).cross = s.cross := by
  unfold State.capture; split <;> rfl
@[simp] theorem State.capture_tap (s : State) (a v : Nat) : (s.capture a v).tap = s.tap := by
  unfold State.capture; split <;> rfl
@[simp] theorem State.capture_time (s : State) (a v : Nat) : (s.capture a v).time = s.time := by
  unfold State.capture; split <;> rfl
@[simp] theorem State.capture_clk (s : State) (a v : Nat) : (s.capture a v).clk = s.clk := by
  unfold State.capture; split <;> rfl
@[simp] theorem State.capture_pwr (s : State) (a v : Nat) : (s.capture a v).pwr = s.pwr := by
  unfold State.capture; split <;> rfl
@[simp] theorem State.capture_spillq (s : State) (a v : Nat) : (s.capture a v).spillq = s.spillq := by
  unfold State.capture; split <;> rfl

@[simp] theorem State.setPair_pending (s : State) (lo hi v : Nat) : (s.setPair lo hi v).pending = s.pending := rfl
@[simp] theorem State.setPair_free (s : State) (lo hi v : Nat) : (s.setPair lo hi v).free = s.free := rfl
@[simp] theorem State.setPair_now (s : State) (lo hi v : Nat) : (s.setPair lo hi v).now = s.now := rfl
@[simp] theorem State.setPair_ftc (s : State) (lo hi v : Nat) : (s.setPair lo hi v).ftc = s.ftc := rfl
@[simp] theorem State.setPair_fuses (s : State) (lo hi v : Nat) : (s.setPair lo hi v).fuses = s.fuses := rfl
@[simp] theorem State.setPair_mem (s : State) (lo hi v : Nat) : (s.setPair lo hi v).mem = s.mem := rfl
@[simp] theorem State.setPair_out (s : State) (lo hi v : Nat) : (s.setPair lo hi v).out = s.out := rfl
@[simp] theorem State.setPair_trn (s : State) (lo hi v : Nat) : (s.setPair lo hi v).trn = s.trn := rfl
@[simp] theorem State.setPair_jrn (s : State) (lo hi v : Nat) : (s.setPair lo hi v).jrn = s.jrn := rfl
@[simp] theorem State.setPair_pit (s : State) (lo hi v : Nat) : (s.setPair lo hi v).pit = s.pit := rfl
@[simp] theorem State.setPair_flt (s : State) (lo hi v : Nat) : (s.setPair lo hi v).flt = s.flt := rfl
@[simp] theorem State.setPair_pole (s : State) (lo hi v : Nat) : (s.setPair lo hi v).pole = s.pole := rfl
@[simp] theorem State.setPair_loss (s : State) (lo hi v : Nat) : (s.setPair lo hi v).loss = s.loss := rfl
@[simp] theorem State.setPair_dry (s : State) (lo hi v : Nat) : (s.setPair lo hi v).dry = s.dry := rfl
@[simp] theorem State.setPair_sec (s : State) (lo hi v : Nat) : (s.setPair lo hi v).sec = s.sec := rfl
@[simp] theorem State.setPair_pins (s : State) (lo hi v : Nat) : (s.setPair lo hi v).pins = s.pins := rfl
@[simp] theorem State.setPair_bells (s : State) (lo hi v : Nat) : (s.setPair lo hi v).bells = s.bells := rfl
@[simp] theorem State.setPair_col (s : State) (lo hi v : Nat) : (s.setPair lo hi v).col = s.col := rfl
@[simp] theorem State.setPair_ports (s : State) (lo hi v : Nat) : (s.setPair lo hi v).ports = s.ports := rfl
@[simp] theorem State.setPair_slots (s : State) (lo hi v : Nat) : (s.setPair lo hi v).slots = s.slots := rfl
@[simp] theorem State.setPair_canopies (s : State) (lo hi v : Nat) : (s.setPair lo hi v).canopies = s.canopies := rfl
@[simp] theorem State.setPair_seams (s : State) (lo hi v : Nat) : (s.setPair lo hi v).seams = s.seams := rfl
@[simp] theorem State.setPair_cross (s : State) (lo hi v : Nat) : (s.setPair lo hi v).cross = s.cross := rfl
@[simp] theorem State.setPair_tap (s : State) (lo hi v : Nat) : (s.setPair lo hi v).tap = s.tap := rfl
@[simp] theorem State.setPair_time (s : State) (lo hi v : Nat) : (s.setPair lo hi v).time = s.time := rfl
@[simp] theorem State.setPair_clk (s : State) (lo hi v : Nat) : (s.setPair lo hi v).clk = s.clk := rfl
@[simp] theorem State.setPair_pwr (s : State) (lo hi v : Nat) : (s.setPair lo hi v).pwr = s.pwr := rfl
@[simp] theorem State.setPair_spillq (s : State) (lo hi v : Nat) : (s.setPair lo hi v).spillq = s.spillq := rfl

@[simp] theorem State.emit_pending (s : State) (o : Out) : (s.emit o).pending = s.pending := rfl
@[simp] theorem State.emit_free (s : State) (o : Out) : (s.emit o).free = s.free := rfl
@[simp] theorem State.emit_now (s : State) (o : Out) : (s.emit o).now = s.now := rfl
@[simp] theorem State.emit_ftc (s : State) (o : Out) : (s.emit o).ftc = s.ftc := rfl
@[simp] theorem State.emit_regs (s : State) (o : Out) : (s.emit o).regs = s.regs := rfl
@[simp] theorem State.emit_fuses (s : State) (o : Out) : (s.emit o).fuses = s.fuses := rfl
@[simp] theorem State.emit_mem (s : State) (o : Out) : (s.emit o).mem = s.mem := rfl
theorem State.emit_out (s : State) (o : Out) : (s.emit o).out = s.out ++ [o] := rfl
@[simp] theorem State.emit_trn (s : State) (o : Out) : (s.emit o).trn = s.trn := rfl
@[simp] theorem State.emit_jrn (s : State) (o : Out) : (s.emit o).jrn = s.jrn := rfl
@[simp] theorem State.emit_pit (s : State) (o : Out) : (s.emit o).pit = s.pit := rfl
@[simp] theorem State.emit_flt (s : State) (o : Out) : (s.emit o).flt = s.flt := rfl
@[simp] theorem State.emit_pole (s : State) (o : Out) : (s.emit o).pole = s.pole := rfl
@[simp] theorem State.emit_loss (s : State) (o : Out) : (s.emit o).loss = s.loss := rfl
@[simp] theorem State.emit_dry (s : State) (o : Out) : (s.emit o).dry = s.dry := rfl
@[simp] theorem State.emit_sec (s : State) (o : Out) : (s.emit o).sec = s.sec := rfl
@[simp] theorem State.emit_pins (s : State) (o : Out) : (s.emit o).pins = s.pins := rfl
@[simp] theorem State.emit_bells (s : State) (o : Out) : (s.emit o).bells = s.bells := rfl
@[simp] theorem State.emit_col (s : State) (o : Out) : (s.emit o).col = s.col := rfl
@[simp] theorem State.emit_ports (s : State) (o : Out) : (s.emit o).ports = s.ports := rfl
@[simp] theorem State.emit_slots (s : State) (o : Out) : (s.emit o).slots = s.slots := rfl
@[simp] theorem State.emit_canopies (s : State) (o : Out) : (s.emit o).canopies = s.canopies := rfl
@[simp] theorem State.emit_seams (s : State) (o : Out) : (s.emit o).seams = s.seams := rfl
@[simp] theorem State.emit_cross (s : State) (o : Out) : (s.emit o).cross = s.cross := rfl
@[simp] theorem State.emit_tap (s : State) (o : Out) : (s.emit o).tap = s.tap := rfl
@[simp] theorem State.emit_time (s : State) (o : Out) : (s.emit o).time = s.time := rfl
@[simp] theorem State.emit_clk (s : State) (o : Out) : (s.emit o).clk = s.clk := rfl
@[simp] theorem State.emit_pwr (s : State) (o : Out) : (s.emit o).pwr = s.pwr := rfl
@[simp] theorem State.emit_spillq (s : State) (o : Out) : (s.emit o).spillq = s.spillq := rfl

@[simp] theorem State.setMem_pending (s : State) (b off : Nat) (v : Byte) : (s.setMem b off v).pending = s.pending := rfl
@[simp] theorem State.setMem_free (s : State) (b off : Nat) (v : Byte) : (s.setMem b off v).free = s.free := rfl
@[simp] theorem State.setMem_now (s : State) (b off : Nat) (v : Byte) : (s.setMem b off v).now = s.now := rfl
@[simp] theorem State.setMem_ftc (s : State) (b off : Nat) (v : Byte) : (s.setMem b off v).ftc = s.ftc := rfl
@[simp] theorem State.setMem_regs (s : State) (b off : Nat) (v : Byte) : (s.setMem b off v).regs = s.regs := rfl
@[simp] theorem State.setMem_fuses (s : State) (b off : Nat) (v : Byte) : (s.setMem b off v).fuses = s.fuses := rfl
theorem State.setMem_mem (s : State) (b off : Nat) (v : Byte) : (s.setMem b off v).mem = SMap.set (fun _ => 0) s.mem (cell b off) v := rfl
@[simp] theorem State.setMem_out (s : State) (b off : Nat) (v : Byte) : (s.setMem b off v).out = s.out := rfl
@[simp] theorem State.setMem_trn (s : State) (b off : Nat) (v : Byte) : (s.setMem b off v).trn = s.trn := rfl
@[simp] theorem State.setMem_jrn (s : State) (b off : Nat) (v : Byte) : (s.setMem b off v).jrn = s.jrn := rfl
@[simp] theorem State.setMem_pit (s : State) (b off : Nat) (v : Byte) : (s.setMem b off v).pit = s.pit := rfl
@[simp] theorem State.setMem_flt (s : State) (b off : Nat) (v : Byte) : (s.setMem b off v).flt = s.flt := rfl
@[simp] theorem State.setMem_pole (s : State) (b off : Nat) (v : Byte) : (s.setMem b off v).pole = s.pole := rfl
@[simp] theorem State.setMem_loss (s : State) (b off : Nat) (v : Byte) : (s.setMem b off v).loss = s.loss := rfl
@[simp] theorem State.setMem_dry (s : State) (b off : Nat) (v : Byte) : (s.setMem b off v).dry = s.dry := rfl
@[simp] theorem State.setMem_sec (s : State) (b off : Nat) (v : Byte) : (s.setMem b off v).sec = s.sec := rfl
@[simp] theorem State.setMem_pins (s : State) (b off : Nat) (v : Byte) : (s.setMem b off v).pins = s.pins := rfl
@[simp] theorem State.setMem_bells (s : State) (b off : Nat) (v : Byte) : (s.setMem b off v).bells = s.bells := rfl
@[simp] theorem State.setMem_col (s : State) (b off : Nat) (v : Byte) : (s.setMem b off v).col = s.col := rfl
@[simp] theorem State.setMem_ports (s : State) (b off : Nat) (v : Byte) : (s.setMem b off v).ports = s.ports := rfl
@[simp] theorem State.setMem_slots (s : State) (b off : Nat) (v : Byte) : (s.setMem b off v).slots = s.slots := rfl
@[simp] theorem State.setMem_canopies (s : State) (b off : Nat) (v : Byte) : (s.setMem b off v).canopies = s.canopies := rfl
@[simp] theorem State.setMem_seams (s : State) (b off : Nat) (v : Byte) : (s.setMem b off v).seams = s.seams := rfl
@[simp] theorem State.setMem_cross (s : State) (b off : Nat) (v : Byte) : (s.setMem b off v).cross = s.cross := rfl
@[simp] theorem State.setMem_tap (s : State) (b off : Nat) (v : Byte) : (s.setMem b off v).tap = s.tap := rfl
@[simp] theorem State.setMem_time (s : State) (b off : Nat) (v : Byte) : (s.setMem b off v).time = s.time := rfl
@[simp] theorem State.setMem_clk (s : State) (b off : Nat) (v : Byte) : (s.setMem b off v).clk = s.clk := rfl
@[simp] theorem State.setMem_pwr (s : State) (b off : Nat) (v : Byte) : (s.setMem b off v).pwr = s.pwr := rfl
@[simp] theorem State.setMem_spillq (s : State) (b off : Nat) (v : Byte) : (s.setMem b off v).spillq = s.spillq := rfl

@[simp] theorem State.setPairSt_pending (s : State) (i : Nat) (p : Pair) : (s.setPairSt i p).pending = s.pending := rfl
@[simp] theorem State.setPairSt_free (s : State) (i : Nat) (p : Pair) : (s.setPairSt i p).free = s.free := rfl
@[simp] theorem State.setPairSt_now (s : State) (i : Nat) (p : Pair) : (s.setPairSt i p).now = s.now := rfl
@[simp] theorem State.setPairSt_ftc (s : State) (i : Nat) (p : Pair) : (s.setPairSt i p).ftc = s.ftc := rfl
@[simp] theorem State.setPairSt_regs (s : State) (i : Nat) (p : Pair) : (s.setPairSt i p).regs = s.regs := rfl
@[simp] theorem State.setPairSt_fuses (s : State) (i : Nat) (p : Pair) : (s.setPairSt i p).fuses = s.fuses := rfl
@[simp] theorem State.setPairSt_mem (s : State) (i : Nat) (p : Pair) : (s.setPairSt i p).mem = s.mem := rfl
@[simp] theorem State.setPairSt_out (s : State) (i : Nat) (p : Pair) : (s.setPairSt i p).out = s.out := rfl
@[simp] theorem State.setPairSt_trn (s : State) (i : Nat) (p : Pair) : (s.setPairSt i p).trn = s.trn := rfl
@[simp] theorem State.setPairSt_jrn (s : State) (i : Nat) (p : Pair) : (s.setPairSt i p).jrn = s.jrn := rfl
@[simp] theorem State.setPairSt_pit (s : State) (i : Nat) (p : Pair) : (s.setPairSt i p).pit = s.pit := rfl
@[simp] theorem State.setPairSt_pole (s : State) (i : Nat) (p : Pair) : (s.setPairSt i p).pole = s.pole := rfl
@[simp] theorem State.setPairSt_loss (s : State) (i : Nat) (p : Pair) : (s.setPairSt i p).loss = s.loss := rfl
@[simp] theorem State.setPairSt_dry (s : State) (i : Nat) (p : Pair) : (s.setPairSt i p).dry = s.dry := rfl
@[simp] theorem State.setPairSt_sec (s : State) (i : Nat) (p : Pair) : (s.setPairSt i p).sec = s.sec := rfl
@[simp] theorem State.setPairSt_pins (s : State) (i : Nat) (p : Pair) : (s.setPairSt i p).pins = s.pins := rfl
@[simp] theorem State.setPairSt_bells (s : State) (i : Nat) (p : Pair) : (s.setPairSt i p).bells = s.bells := rfl
@[simp] theorem State.setPairSt_col (s : State) (i : Nat) (p : Pair) : (s.setPairSt i p).col = s.col := rfl
@[simp] theorem State.setPairSt_ports (s : State) (i : Nat) (p : Pair) : (s.setPairSt i p).ports = s.ports := rfl
@[simp] theorem State.setPairSt_slots (s : State) (i : Nat) (p : Pair) : (s.setPairSt i p).slots = s.slots := rfl
@[simp] theorem State.setPairSt_canopies (s : State) (i : Nat) (p : Pair) : (s.setPairSt i p).canopies = s.canopies := rfl
@[simp] theorem State.setPairSt_seams (s : State) (i : Nat) (p : Pair) : (s.setPairSt i p).seams = s.seams := rfl
@[simp] theorem State.setPairSt_cross (s : State) (i : Nat) (p : Pair) : (s.setPairSt i p).cross = s.cross := rfl
@[simp] theorem State.setPairSt_tap (s : State) (i : Nat) (p : Pair) : (s.setPairSt i p).tap = s.tap := rfl
@[simp] theorem State.setPairSt_time (s : State) (i : Nat) (p : Pair) : (s.setPairSt i p).time = s.time := rfl
@[simp] theorem State.setPairSt_clk (s : State) (i : Nat) (p : Pair) : (s.setPairSt i p).clk = s.clk := rfl
@[simp] theorem State.setPairSt_pwr (s : State) (i : Nat) (p : Pair) : (s.setPairSt i p).pwr = s.pwr := rfl
@[simp] theorem State.setPairSt_spillq (s : State) (i : Nat) (p : Pair) : (s.setPairSt i p).spillq = s.spillq := rfl

@[simp] theorem State.raise_pending (s : State) (i : Nat) (l : List Byte) : (s.raise i l).pending = s.pending := rfl
@[simp] theorem State.raise_free (s : State) (i : Nat) (l : List Byte) : (s.raise i l).free = s.free := rfl
@[simp] theorem State.raise_now (s : State) (i : Nat) (l : List Byte) : (s.raise i l).now = s.now := rfl
@[simp] theorem State.raise_ftc (s : State) (i : Nat) (l : List Byte) : (s.raise i l).ftc = s.ftc := rfl
@[simp] theorem State.raise_regs (s : State) (i : Nat) (l : List Byte) : (s.raise i l).regs = s.regs := rfl
@[simp] theorem State.raise_fuses (s : State) (i : Nat) (l : List Byte) : (s.raise i l).fuses = s.fuses := rfl
@[simp] theorem State.raise_mem (s : State) (i : Nat) (l : List Byte) : (s.raise i l).mem = s.mem := rfl
@[simp] theorem State.raise_out (s : State) (i : Nat) (l : List Byte) : (s.raise i l).out = s.out := rfl
@[simp] theorem State.raise_trn (s : State) (i : Nat) (l : List Byte) : (s.raise i l).trn = s.trn := rfl
@[simp] theorem State.raise_jrn (s : State) (i : Nat) (l : List Byte) : (s.raise i l).jrn = s.jrn := rfl
@[simp] theorem State.raise_pit (s : State) (i : Nat) (l : List Byte) : (s.raise i l).pit = s.pit := rfl
@[simp] theorem State.raise_pole (s : State) (i : Nat) (l : List Byte) : (s.raise i l).pole = s.pole := rfl
@[simp] theorem State.raise_loss (s : State) (i : Nat) (l : List Byte) : (s.raise i l).loss = s.loss := rfl
@[simp] theorem State.raise_dry (s : State) (i : Nat) (l : List Byte) : (s.raise i l).dry = s.dry := rfl
@[simp] theorem State.raise_sec (s : State) (i : Nat) (l : List Byte) : (s.raise i l).sec = s.sec := rfl
@[simp] theorem State.raise_pins (s : State) (i : Nat) (l : List Byte) : (s.raise i l).pins = s.pins := rfl
@[simp] theorem State.raise_bells (s : State) (i : Nat) (l : List Byte) : (s.raise i l).bells = s.bells := rfl
@[simp] theorem State.raise_col (s : State) (i : Nat) (l : List Byte) : (s.raise i l).col = s.col := rfl
@[simp] theorem State.raise_ports (s : State) (i : Nat) (l : List Byte) : (s.raise i l).ports = s.ports := rfl
@[simp] theorem State.raise_slots (s : State) (i : Nat) (l : List Byte) : (s.raise i l).slots = s.slots := rfl
@[simp] theorem State.raise_canopies (s : State) (i : Nat) (l : List Byte) : (s.raise i l).canopies = s.canopies := rfl
@[simp] theorem State.raise_seams (s : State) (i : Nat) (l : List Byte) : (s.raise i l).seams = s.seams := rfl
@[simp] theorem State.raise_cross (s : State) (i : Nat) (l : List Byte) : (s.raise i l).cross = s.cross := rfl
@[simp] theorem State.raise_tap (s : State) (i : Nat) (l : List Byte) : (s.raise i l).tap = s.tap := rfl
@[simp] theorem State.raise_time (s : State) (i : Nat) (l : List Byte) : (s.raise i l).time = s.time := rfl
@[simp] theorem State.raise_clk (s : State) (i : Nat) (l : List Byte) : (s.raise i l).clk = s.clk := rfl
@[simp] theorem State.raise_pwr (s : State) (i : Nat) (l : List Byte) : (s.raise i l).pwr = s.pwr := rfl
@[simp] theorem State.raise_spillq (s : State) (i : Nat) (l : List Byte) : (s.raise i l).spillq = s.spillq := rfl

@[simp] theorem State.pulse_pending (s : State) (i : Nat) (l : List Byte) : (s.pulse i l).pending = s.pending := rfl
@[simp] theorem State.pulse_free (s : State) (i : Nat) (l : List Byte) : (s.pulse i l).free = s.free := rfl
@[simp] theorem State.pulse_now (s : State) (i : Nat) (l : List Byte) : (s.pulse i l).now = s.now := rfl
@[simp] theorem State.pulse_ftc (s : State) (i : Nat) (l : List Byte) : (s.pulse i l).ftc = s.ftc := rfl
@[simp] theorem State.pulse_regs (s : State) (i : Nat) (l : List Byte) : (s.pulse i l).regs = s.regs := rfl
@[simp] theorem State.pulse_fuses (s : State) (i : Nat) (l : List Byte) : (s.pulse i l).fuses = s.fuses := rfl
@[simp] theorem State.pulse_mem (s : State) (i : Nat) (l : List Byte) : (s.pulse i l).mem = s.mem := rfl
@[simp] theorem State.pulse_out (s : State) (i : Nat) (l : List Byte) : (s.pulse i l).out = s.out := rfl
@[simp] theorem State.pulse_trn (s : State) (i : Nat) (l : List Byte) : (s.pulse i l).trn = s.trn := rfl
@[simp] theorem State.pulse_jrn (s : State) (i : Nat) (l : List Byte) : (s.pulse i l).jrn = s.jrn := rfl
@[simp] theorem State.pulse_pit (s : State) (i : Nat) (l : List Byte) : (s.pulse i l).pit = s.pit := rfl
@[simp] theorem State.pulse_pole (s : State) (i : Nat) (l : List Byte) : (s.pulse i l).pole = s.pole := rfl
@[simp] theorem State.pulse_loss (s : State) (i : Nat) (l : List Byte) : (s.pulse i l).loss = s.loss := rfl
@[simp] theorem State.pulse_dry (s : State) (i : Nat) (l : List Byte) : (s.pulse i l).dry = s.dry := rfl
@[simp] theorem State.pulse_sec (s : State) (i : Nat) (l : List Byte) : (s.pulse i l).sec = s.sec := rfl
@[simp] theorem State.pulse_pins (s : State) (i : Nat) (l : List Byte) : (s.pulse i l).pins = s.pins := rfl
@[simp] theorem State.pulse_bells (s : State) (i : Nat) (l : List Byte) : (s.pulse i l).bells = s.bells := rfl
@[simp] theorem State.pulse_col (s : State) (i : Nat) (l : List Byte) : (s.pulse i l).col = s.col := rfl
@[simp] theorem State.pulse_ports (s : State) (i : Nat) (l : List Byte) : (s.pulse i l).ports = s.ports := rfl
@[simp] theorem State.pulse_slots (s : State) (i : Nat) (l : List Byte) : (s.pulse i l).slots = s.slots := rfl
@[simp] theorem State.pulse_canopies (s : State) (i : Nat) (l : List Byte) : (s.pulse i l).canopies = s.canopies := rfl
@[simp] theorem State.pulse_seams (s : State) (i : Nat) (l : List Byte) : (s.pulse i l).seams = s.seams := rfl
@[simp] theorem State.pulse_cross (s : State) (i : Nat) (l : List Byte) : (s.pulse i l).cross = s.cross := rfl
@[simp] theorem State.pulse_tap (s : State) (i : Nat) (l : List Byte) : (s.pulse i l).tap = s.tap := rfl
@[simp] theorem State.pulse_time (s : State) (i : Nat) (l : List Byte) : (s.pulse i l).time = s.time := rfl
@[simp] theorem State.pulse_clk (s : State) (i : Nat) (l : List Byte) : (s.pulse i l).clk = s.clk := rfl
@[simp] theorem State.pulse_pwr (s : State) (i : Nat) (l : List Byte) : (s.pulse i l).pwr = s.pwr := rfl
@[simp] theorem State.pulse_spillq (s : State) (i : Nat) (l : List Byte) : (s.pulse i l).spillq = s.spillq := rfl

@[simp] theorem State.lower_pending (s : State) (i : Nat) : (s.lower i).pending = s.pending := rfl
@[simp] theorem State.lower_free (s : State) (i : Nat) : (s.lower i).free = s.free := rfl
@[simp] theorem State.lower_now (s : State) (i : Nat) : (s.lower i).now = s.now := rfl
@[simp] theorem State.lower_ftc (s : State) (i : Nat) : (s.lower i).ftc = s.ftc := rfl
@[simp] theorem State.lower_regs (s : State) (i : Nat) : (s.lower i).regs = s.regs := rfl
@[simp] theorem State.lower_fuses (s : State) (i : Nat) : (s.lower i).fuses = s.fuses := rfl
@[simp] theorem State.lower_mem (s : State) (i : Nat) : (s.lower i).mem = s.mem := rfl
@[simp] theorem State.lower_out (s : State) (i : Nat) : (s.lower i).out = s.out := rfl
@[simp] theorem State.lower_trn (s : State) (i : Nat) : (s.lower i).trn = s.trn := rfl
@[simp] theorem State.lower_jrn (s : State) (i : Nat) : (s.lower i).jrn = s.jrn := rfl
@[simp] theorem State.lower_pit (s : State) (i : Nat) : (s.lower i).pit = s.pit := rfl
@[simp] theorem State.lower_pole (s : State) (i : Nat) : (s.lower i).pole = s.pole := rfl
@[simp] theorem State.lower_loss (s : State) (i : Nat) : (s.lower i).loss = s.loss := rfl
@[simp] theorem State.lower_dry (s : State) (i : Nat) : (s.lower i).dry = s.dry := rfl
@[simp] theorem State.lower_sec (s : State) (i : Nat) : (s.lower i).sec = s.sec := rfl
@[simp] theorem State.lower_pins (s : State) (i : Nat) : (s.lower i).pins = s.pins := rfl
@[simp] theorem State.lower_bells (s : State) (i : Nat) : (s.lower i).bells = s.bells := rfl
@[simp] theorem State.lower_col (s : State) (i : Nat) : (s.lower i).col = s.col := rfl
@[simp] theorem State.lower_ports (s : State) (i : Nat) : (s.lower i).ports = s.ports := rfl
@[simp] theorem State.lower_slots (s : State) (i : Nat) : (s.lower i).slots = s.slots := rfl
@[simp] theorem State.lower_canopies (s : State) (i : Nat) : (s.lower i).canopies = s.canopies := rfl
@[simp] theorem State.lower_seams (s : State) (i : Nat) : (s.lower i).seams = s.seams := rfl
@[simp] theorem State.lower_cross (s : State) (i : Nat) : (s.lower i).cross = s.cross := rfl
@[simp] theorem State.lower_tap (s : State) (i : Nat) : (s.lower i).tap = s.tap := rfl
@[simp] theorem State.lower_time (s : State) (i : Nat) : (s.lower i).time = s.time := rfl
@[simp] theorem State.lower_clk (s : State) (i : Nat) : (s.lower i).clk = s.clk := rfl
@[simp] theorem State.lower_pwr (s : State) (i : Nat) : (s.lower i).pwr = s.pwr := rfl
@[simp] theorem State.lower_spillq (s : State) (i : Nat) : (s.lower i).spillq = s.spillq := rfl

@[simp] theorem State.setBell_pending (s : State) (b : Nat) (v : BellSt) : (s.setBell b v).pending = s.pending := rfl
@[simp] theorem State.setBell_free (s : State) (b : Nat) (v : BellSt) : (s.setBell b v).free = s.free := rfl
@[simp] theorem State.setBell_now (s : State) (b : Nat) (v : BellSt) : (s.setBell b v).now = s.now := rfl
@[simp] theorem State.setBell_ftc (s : State) (b : Nat) (v : BellSt) : (s.setBell b v).ftc = s.ftc := rfl
@[simp] theorem State.setBell_regs (s : State) (b : Nat) (v : BellSt) : (s.setBell b v).regs = s.regs := rfl
@[simp] theorem State.setBell_fuses (s : State) (b : Nat) (v : BellSt) : (s.setBell b v).fuses = s.fuses := rfl
@[simp] theorem State.setBell_mem (s : State) (b : Nat) (v : BellSt) : (s.setBell b v).mem = s.mem := rfl
@[simp] theorem State.setBell_out (s : State) (b : Nat) (v : BellSt) : (s.setBell b v).out = s.out := rfl
@[simp] theorem State.setBell_trn (s : State) (b : Nat) (v : BellSt) : (s.setBell b v).trn = s.trn := rfl
@[simp] theorem State.setBell_jrn (s : State) (b : Nat) (v : BellSt) : (s.setBell b v).jrn = s.jrn := rfl
@[simp] theorem State.setBell_pit (s : State) (b : Nat) (v : BellSt) : (s.setBell b v).pit = s.pit := rfl
@[simp] theorem State.setBell_flt (s : State) (b : Nat) (v : BellSt) : (s.setBell b v).flt = s.flt := rfl
@[simp] theorem State.setBell_pole (s : State) (b : Nat) (v : BellSt) : (s.setBell b v).pole = s.pole := rfl
@[simp] theorem State.setBell_loss (s : State) (b : Nat) (v : BellSt) : (s.setBell b v).loss = s.loss := rfl
@[simp] theorem State.setBell_dry (s : State) (b : Nat) (v : BellSt) : (s.setBell b v).dry = s.dry := rfl
@[simp] theorem State.setBell_sec (s : State) (b : Nat) (v : BellSt) : (s.setBell b v).sec = s.sec := rfl
@[simp] theorem State.setBell_pins (s : State) (b : Nat) (v : BellSt) : (s.setBell b v).pins = s.pins := rfl
theorem State.setBell_bells (s : State) (b : Nat) (v : BellSt) : (s.setBell b v).bells = SMap.set (fun _ => {}) s.bells b v := rfl
@[simp] theorem State.setBell_col (s : State) (b : Nat) (v : BellSt) : (s.setBell b v).col = s.col := rfl
@[simp] theorem State.setBell_ports (s : State) (b : Nat) (v : BellSt) : (s.setBell b v).ports = s.ports := rfl
@[simp] theorem State.setBell_slots (s : State) (b : Nat) (v : BellSt) : (s.setBell b v).slots = s.slots := rfl
@[simp] theorem State.setBell_canopies (s : State) (b : Nat) (v : BellSt) : (s.setBell b v).canopies = s.canopies := rfl
@[simp] theorem State.setBell_seams (s : State) (b : Nat) (v : BellSt) : (s.setBell b v).seams = s.seams := rfl
@[simp] theorem State.setBell_cross (s : State) (b : Nat) (v : BellSt) : (s.setBell b v).cross = s.cross := rfl
@[simp] theorem State.setBell_tap (s : State) (b : Nat) (v : BellSt) : (s.setBell b v).tap = s.tap := rfl
@[simp] theorem State.setBell_time (s : State) (b : Nat) (v : BellSt) : (s.setBell b v).time = s.time := rfl
@[simp] theorem State.setBell_clk (s : State) (b : Nat) (v : BellSt) : (s.setBell b v).clk = s.clk := rfl
@[simp] theorem State.setBell_pwr (s : State) (b : Nat) (v : BellSt) : (s.setBell b v).pwr = s.pwr := rfl
@[simp] theorem State.setBell_spillq (s : State) (b : Nat) (v : BellSt) : (s.setBell b v).spillq = s.spillq := rfl

@[simp] theorem State.setPort_pending (s : State) (p : Nat) (v : PortSt) : (s.setPort p v).pending = s.pending := rfl
@[simp] theorem State.setPort_free (s : State) (p : Nat) (v : PortSt) : (s.setPort p v).free = s.free := rfl
@[simp] theorem State.setPort_now (s : State) (p : Nat) (v : PortSt) : (s.setPort p v).now = s.now := rfl
@[simp] theorem State.setPort_ftc (s : State) (p : Nat) (v : PortSt) : (s.setPort p v).ftc = s.ftc := rfl
@[simp] theorem State.setPort_regs (s : State) (p : Nat) (v : PortSt) : (s.setPort p v).regs = s.regs := rfl
@[simp] theorem State.setPort_fuses (s : State) (p : Nat) (v : PortSt) : (s.setPort p v).fuses = s.fuses := rfl
@[simp] theorem State.setPort_mem (s : State) (p : Nat) (v : PortSt) : (s.setPort p v).mem = s.mem := rfl
@[simp] theorem State.setPort_out (s : State) (p : Nat) (v : PortSt) : (s.setPort p v).out = s.out := rfl
@[simp] theorem State.setPort_trn (s : State) (p : Nat) (v : PortSt) : (s.setPort p v).trn = s.trn := rfl
@[simp] theorem State.setPort_jrn (s : State) (p : Nat) (v : PortSt) : (s.setPort p v).jrn = s.jrn := rfl
@[simp] theorem State.setPort_pit (s : State) (p : Nat) (v : PortSt) : (s.setPort p v).pit = s.pit := rfl
@[simp] theorem State.setPort_flt (s : State) (p : Nat) (v : PortSt) : (s.setPort p v).flt = s.flt := rfl
@[simp] theorem State.setPort_pole (s : State) (p : Nat) (v : PortSt) : (s.setPort p v).pole = s.pole := rfl
@[simp] theorem State.setPort_loss (s : State) (p : Nat) (v : PortSt) : (s.setPort p v).loss = s.loss := rfl
@[simp] theorem State.setPort_dry (s : State) (p : Nat) (v : PortSt) : (s.setPort p v).dry = s.dry := rfl
@[simp] theorem State.setPort_sec (s : State) (p : Nat) (v : PortSt) : (s.setPort p v).sec = s.sec := rfl
@[simp] theorem State.setPort_pins (s : State) (p : Nat) (v : PortSt) : (s.setPort p v).pins = s.pins := rfl
@[simp] theorem State.setPort_bells (s : State) (p : Nat) (v : PortSt) : (s.setPort p v).bells = s.bells := rfl
@[simp] theorem State.setPort_col (s : State) (p : Nat) (v : PortSt) : (s.setPort p v).col = s.col := rfl
theorem State.setPort_ports (s : State) (p : Nat) (v : PortSt) : (s.setPort p v).ports = SMap.set (fun _ => {}) s.ports p v := rfl
@[simp] theorem State.setPort_slots (s : State) (p : Nat) (v : PortSt) : (s.setPort p v).slots = s.slots := rfl
@[simp] theorem State.setPort_canopies (s : State) (p : Nat) (v : PortSt) : (s.setPort p v).canopies = s.canopies := rfl
@[simp] theorem State.setPort_seams (s : State) (p : Nat) (v : PortSt) : (s.setPort p v).seams = s.seams := rfl
@[simp] theorem State.setPort_cross (s : State) (p : Nat) (v : PortSt) : (s.setPort p v).cross = s.cross := rfl
@[simp] theorem State.setPort_tap (s : State) (p : Nat) (v : PortSt) : (s.setPort p v).tap = s.tap := rfl
@[simp] theorem State.setPort_time (s : State) (p : Nat) (v : PortSt) : (s.setPort p v).time = s.time := rfl
@[simp] theorem State.setPort_clk (s : State) (p : Nat) (v : PortSt) : (s.setPort p v).clk = s.clk := rfl
@[simp] theorem State.setPort_pwr (s : State) (p : Nat) (v : PortSt) : (s.setPort p v).pwr = s.pwr := rfl
@[simp] theorem State.setPort_spillq (s : State) (p : Nat) (v : PortSt) : (s.setPort p v).spillq = s.spillq := rfl

@[simp] theorem State.setSlot_pending (s : State) (k : Nat) (v : SlotSt) : (s.setSlot k v).pending = s.pending := rfl
@[simp] theorem State.setSlot_free (s : State) (k : Nat) (v : SlotSt) : (s.setSlot k v).free = s.free := rfl
@[simp] theorem State.setSlot_now (s : State) (k : Nat) (v : SlotSt) : (s.setSlot k v).now = s.now := rfl
@[simp] theorem State.setSlot_ftc (s : State) (k : Nat) (v : SlotSt) : (s.setSlot k v).ftc = s.ftc := rfl
@[simp] theorem State.setSlot_regs (s : State) (k : Nat) (v : SlotSt) : (s.setSlot k v).regs = s.regs := rfl
@[simp] theorem State.setSlot_fuses (s : State) (k : Nat) (v : SlotSt) : (s.setSlot k v).fuses = s.fuses := rfl
@[simp] theorem State.setSlot_mem (s : State) (k : Nat) (v : SlotSt) : (s.setSlot k v).mem = s.mem := rfl
@[simp] theorem State.setSlot_out (s : State) (k : Nat) (v : SlotSt) : (s.setSlot k v).out = s.out := rfl
@[simp] theorem State.setSlot_trn (s : State) (k : Nat) (v : SlotSt) : (s.setSlot k v).trn = s.trn := rfl
@[simp] theorem State.setSlot_jrn (s : State) (k : Nat) (v : SlotSt) : (s.setSlot k v).jrn = s.jrn := rfl
@[simp] theorem State.setSlot_pit (s : State) (k : Nat) (v : SlotSt) : (s.setSlot k v).pit = s.pit := rfl
@[simp] theorem State.setSlot_flt (s : State) (k : Nat) (v : SlotSt) : (s.setSlot k v).flt = s.flt := rfl
@[simp] theorem State.setSlot_pole (s : State) (k : Nat) (v : SlotSt) : (s.setSlot k v).pole = s.pole := rfl
@[simp] theorem State.setSlot_loss (s : State) (k : Nat) (v : SlotSt) : (s.setSlot k v).loss = s.loss := rfl
@[simp] theorem State.setSlot_dry (s : State) (k : Nat) (v : SlotSt) : (s.setSlot k v).dry = s.dry := rfl
@[simp] theorem State.setSlot_sec (s : State) (k : Nat) (v : SlotSt) : (s.setSlot k v).sec = s.sec := rfl
@[simp] theorem State.setSlot_pins (s : State) (k : Nat) (v : SlotSt) : (s.setSlot k v).pins = s.pins := rfl
@[simp] theorem State.setSlot_bells (s : State) (k : Nat) (v : SlotSt) : (s.setSlot k v).bells = s.bells := rfl
@[simp] theorem State.setSlot_col (s : State) (k : Nat) (v : SlotSt) : (s.setSlot k v).col = s.col := rfl
@[simp] theorem State.setSlot_ports (s : State) (k : Nat) (v : SlotSt) : (s.setSlot k v).ports = s.ports := rfl
theorem State.setSlot_slots (s : State) (k : Nat) (v : SlotSt) : (s.setSlot k v).slots = SMap.set (fun _ => {}) s.slots k v := rfl
@[simp] theorem State.setSlot_canopies (s : State) (k : Nat) (v : SlotSt) : (s.setSlot k v).canopies = s.canopies := rfl
@[simp] theorem State.setSlot_seams (s : State) (k : Nat) (v : SlotSt) : (s.setSlot k v).seams = s.seams := rfl
@[simp] theorem State.setSlot_cross (s : State) (k : Nat) (v : SlotSt) : (s.setSlot k v).cross = s.cross := rfl
@[simp] theorem State.setSlot_tap (s : State) (k : Nat) (v : SlotSt) : (s.setSlot k v).tap = s.tap := rfl
@[simp] theorem State.setSlot_time (s : State) (k : Nat) (v : SlotSt) : (s.setSlot k v).time = s.time := rfl
@[simp] theorem State.setSlot_clk (s : State) (k : Nat) (v : SlotSt) : (s.setSlot k v).clk = s.clk := rfl
@[simp] theorem State.setSlot_pwr (s : State) (k : Nat) (v : SlotSt) : (s.setSlot k v).pwr = s.pwr := rfl
@[simp] theorem State.setSlot_spillq (s : State) (k : Nat) (v : SlotSt) : (s.setSlot k v).spillq = s.spillq := rfl

@[simp] theorem State.setSeam_pending (s : State) (b : Nat) (v : SeamSt) : (s.setSeam b v).pending = s.pending := rfl
@[simp] theorem State.setSeam_free (s : State) (b : Nat) (v : SeamSt) : (s.setSeam b v).free = s.free := rfl
@[simp] theorem State.setSeam_now (s : State) (b : Nat) (v : SeamSt) : (s.setSeam b v).now = s.now := rfl
@[simp] theorem State.setSeam_ftc (s : State) (b : Nat) (v : SeamSt) : (s.setSeam b v).ftc = s.ftc := rfl
@[simp] theorem State.setSeam_regs (s : State) (b : Nat) (v : SeamSt) : (s.setSeam b v).regs = s.regs := rfl
@[simp] theorem State.setSeam_fuses (s : State) (b : Nat) (v : SeamSt) : (s.setSeam b v).fuses = s.fuses := rfl
@[simp] theorem State.setSeam_mem (s : State) (b : Nat) (v : SeamSt) : (s.setSeam b v).mem = s.mem := rfl
@[simp] theorem State.setSeam_out (s : State) (b : Nat) (v : SeamSt) : (s.setSeam b v).out = s.out := rfl
@[simp] theorem State.setSeam_trn (s : State) (b : Nat) (v : SeamSt) : (s.setSeam b v).trn = s.trn := rfl
@[simp] theorem State.setSeam_jrn (s : State) (b : Nat) (v : SeamSt) : (s.setSeam b v).jrn = s.jrn := rfl
@[simp] theorem State.setSeam_pit (s : State) (b : Nat) (v : SeamSt) : (s.setSeam b v).pit = s.pit := rfl
@[simp] theorem State.setSeam_flt (s : State) (b : Nat) (v : SeamSt) : (s.setSeam b v).flt = s.flt := rfl
@[simp] theorem State.setSeam_pole (s : State) (b : Nat) (v : SeamSt) : (s.setSeam b v).pole = s.pole := rfl
@[simp] theorem State.setSeam_loss (s : State) (b : Nat) (v : SeamSt) : (s.setSeam b v).loss = s.loss := rfl
@[simp] theorem State.setSeam_dry (s : State) (b : Nat) (v : SeamSt) : (s.setSeam b v).dry = s.dry := rfl
@[simp] theorem State.setSeam_sec (s : State) (b : Nat) (v : SeamSt) : (s.setSeam b v).sec = s.sec := rfl
@[simp] theorem State.setSeam_pins (s : State) (b : Nat) (v : SeamSt) : (s.setSeam b v).pins = s.pins := rfl
@[simp] theorem State.setSeam_bells (s : State) (b : Nat) (v : SeamSt) : (s.setSeam b v).bells = s.bells := rfl
@[simp] theorem State.setSeam_col (s : State) (b : Nat) (v : SeamSt) : (s.setSeam b v).col = s.col := rfl
@[simp] theorem State.setSeam_ports (s : State) (b : Nat) (v : SeamSt) : (s.setSeam b v).ports = s.ports := rfl
@[simp] theorem State.setSeam_slots (s : State) (b : Nat) (v : SeamSt) : (s.setSeam b v).slots = s.slots := rfl
@[simp] theorem State.setSeam_canopies (s : State) (b : Nat) (v : SeamSt) : (s.setSeam b v).canopies = s.canopies := rfl
theorem State.setSeam_seams (s : State) (b : Nat) (v : SeamSt) : (s.setSeam b v).seams = SMap.set (fun _ => {}) s.seams b v := rfl
@[simp] theorem State.setSeam_cross (s : State) (b : Nat) (v : SeamSt) : (s.setSeam b v).cross = s.cross := rfl
@[simp] theorem State.setSeam_tap (s : State) (b : Nat) (v : SeamSt) : (s.setSeam b v).tap = s.tap := rfl
@[simp] theorem State.setSeam_time (s : State) (b : Nat) (v : SeamSt) : (s.setSeam b v).time = s.time := rfl
@[simp] theorem State.setSeam_clk (s : State) (b : Nat) (v : SeamSt) : (s.setSeam b v).clk = s.clk := rfl
@[simp] theorem State.setSeam_pwr (s : State) (b : Nat) (v : SeamSt) : (s.setSeam b v).pwr = s.pwr := rfl
@[simp] theorem State.setSeam_spillq (s : State) (b : Nat) (v : SeamSt) : (s.setSeam b v).spillq = s.spillq := rfl

@[simp] theorem State.setCrossing_pending (s : State) (c : Nat) (v : CrossSt) : (s.setCrossing c v).pending = s.pending := rfl
@[simp] theorem State.setCrossing_free (s : State) (c : Nat) (v : CrossSt) : (s.setCrossing c v).free = s.free := rfl
@[simp] theorem State.setCrossing_now (s : State) (c : Nat) (v : CrossSt) : (s.setCrossing c v).now = s.now := rfl
@[simp] theorem State.setCrossing_ftc (s : State) (c : Nat) (v : CrossSt) : (s.setCrossing c v).ftc = s.ftc := rfl
@[simp] theorem State.setCrossing_regs (s : State) (c : Nat) (v : CrossSt) : (s.setCrossing c v).regs = s.regs := rfl
@[simp] theorem State.setCrossing_fuses (s : State) (c : Nat) (v : CrossSt) : (s.setCrossing c v).fuses = s.fuses := rfl
@[simp] theorem State.setCrossing_mem (s : State) (c : Nat) (v : CrossSt) : (s.setCrossing c v).mem = s.mem := rfl
@[simp] theorem State.setCrossing_out (s : State) (c : Nat) (v : CrossSt) : (s.setCrossing c v).out = s.out := rfl
@[simp] theorem State.setCrossing_trn (s : State) (c : Nat) (v : CrossSt) : (s.setCrossing c v).trn = s.trn := rfl
@[simp] theorem State.setCrossing_jrn (s : State) (c : Nat) (v : CrossSt) : (s.setCrossing c v).jrn = s.jrn := rfl
@[simp] theorem State.setCrossing_pit (s : State) (c : Nat) (v : CrossSt) : (s.setCrossing c v).pit = s.pit := rfl
@[simp] theorem State.setCrossing_flt (s : State) (c : Nat) (v : CrossSt) : (s.setCrossing c v).flt = s.flt := rfl
@[simp] theorem State.setCrossing_pole (s : State) (c : Nat) (v : CrossSt) : (s.setCrossing c v).pole = s.pole := rfl
@[simp] theorem State.setCrossing_loss (s : State) (c : Nat) (v : CrossSt) : (s.setCrossing c v).loss = s.loss := rfl
@[simp] theorem State.setCrossing_dry (s : State) (c : Nat) (v : CrossSt) : (s.setCrossing c v).dry = s.dry := rfl
@[simp] theorem State.setCrossing_sec (s : State) (c : Nat) (v : CrossSt) : (s.setCrossing c v).sec = s.sec := rfl
@[simp] theorem State.setCrossing_pins (s : State) (c : Nat) (v : CrossSt) : (s.setCrossing c v).pins = s.pins := rfl
@[simp] theorem State.setCrossing_bells (s : State) (c : Nat) (v : CrossSt) : (s.setCrossing c v).bells = s.bells := rfl
@[simp] theorem State.setCrossing_col (s : State) (c : Nat) (v : CrossSt) : (s.setCrossing c v).col = s.col := rfl
@[simp] theorem State.setCrossing_ports (s : State) (c : Nat) (v : CrossSt) : (s.setCrossing c v).ports = s.ports := rfl
@[simp] theorem State.setCrossing_slots (s : State) (c : Nat) (v : CrossSt) : (s.setCrossing c v).slots = s.slots := rfl
@[simp] theorem State.setCrossing_canopies (s : State) (c : Nat) (v : CrossSt) : (s.setCrossing c v).canopies = s.canopies := rfl
@[simp] theorem State.setCrossing_seams (s : State) (c : Nat) (v : CrossSt) : (s.setCrossing c v).seams = s.seams := rfl
theorem State.setCrossing_cross (s : State) (c : Nat) (v : CrossSt) : (s.setCrossing c v).cross = SMap.set (fun _ => {}) s.cross c v := rfl
@[simp] theorem State.setCrossing_tap (s : State) (c : Nat) (v : CrossSt) : (s.setCrossing c v).tap = s.tap := rfl
@[simp] theorem State.setCrossing_time (s : State) (c : Nat) (v : CrossSt) : (s.setCrossing c v).time = s.time := rfl
@[simp] theorem State.setCrossing_clk (s : State) (c : Nat) (v : CrossSt) : (s.setCrossing c v).clk = s.clk := rfl
@[simp] theorem State.setCrossing_pwr (s : State) (c : Nat) (v : CrossSt) : (s.setCrossing c v).pwr = s.pwr := rfl
@[simp] theorem State.setCrossing_spillq (s : State) (c : Nat) (v : CrossSt) : (s.setCrossing c v).spillq = s.spillq := rfl

@[simp] theorem State.setDom_pending (s : State) (d v : Nat) : (s.setDom d v).pending = s.pending := rfl
@[simp] theorem State.setDom_free (s : State) (d v : Nat) : (s.setDom d v).free = s.free := rfl
@[simp] theorem State.setDom_now (s : State) (d v : Nat) : (s.setDom d v).now = s.now := rfl
@[simp] theorem State.setDom_ftc (s : State) (d v : Nat) : (s.setDom d v).ftc = s.ftc := rfl
@[simp] theorem State.setDom_regs (s : State) (d v : Nat) : (s.setDom d v).regs = s.regs := rfl
@[simp] theorem State.setDom_fuses (s : State) (d v : Nat) : (s.setDom d v).fuses = s.fuses := rfl
@[simp] theorem State.setDom_mem (s : State) (d v : Nat) : (s.setDom d v).mem = s.mem := rfl
@[simp] theorem State.setDom_out (s : State) (d v : Nat) : (s.setDom d v).out = s.out := rfl
@[simp] theorem State.setDom_trn (s : State) (d v : Nat) : (s.setDom d v).trn = s.trn := rfl
@[simp] theorem State.setDom_jrn (s : State) (d v : Nat) : (s.setDom d v).jrn = s.jrn := rfl
@[simp] theorem State.setDom_pit (s : State) (d v : Nat) : (s.setDom d v).pit = s.pit := rfl
@[simp] theorem State.setDom_flt (s : State) (d v : Nat) : (s.setDom d v).flt = s.flt := rfl
@[simp] theorem State.setDom_pole (s : State) (d v : Nat) : (s.setDom d v).pole = s.pole := rfl
@[simp] theorem State.setDom_loss (s : State) (d v : Nat) : (s.setDom d v).loss = s.loss := rfl
@[simp] theorem State.setDom_dry (s : State) (d v : Nat) : (s.setDom d v).dry = s.dry := rfl
@[simp] theorem State.setDom_sec (s : State) (d v : Nat) : (s.setDom d v).sec = s.sec := rfl
@[simp] theorem State.setDom_pins (s : State) (d v : Nat) : (s.setDom d v).pins = s.pins := rfl
@[simp] theorem State.setDom_bells (s : State) (d v : Nat) : (s.setDom d v).bells = s.bells := rfl
@[simp] theorem State.setDom_col (s : State) (d v : Nat) : (s.setDom d v).col = s.col := rfl
@[simp] theorem State.setDom_ports (s : State) (d v : Nat) : (s.setDom d v).ports = s.ports := rfl
@[simp] theorem State.setDom_slots (s : State) (d v : Nat) : (s.setDom d v).slots = s.slots := rfl
@[simp] theorem State.setDom_canopies (s : State) (d v : Nat) : (s.setDom d v).canopies = s.canopies := rfl
@[simp] theorem State.setDom_seams (s : State) (d v : Nat) : (s.setDom d v).seams = s.seams := rfl
@[simp] theorem State.setDom_cross (s : State) (d v : Nat) : (s.setDom d v).cross = s.cross := rfl
@[simp] theorem State.setDom_tap (s : State) (d v : Nat) : (s.setDom d v).tap = s.tap := rfl
@[simp] theorem State.setDom_time (s : State) (d v : Nat) : (s.setDom d v).time = s.time := rfl
@[simp] theorem State.setDom_clk (s : State) (d v : Nat) : (s.setDom d v).clk = s.clk := rfl
@[simp] theorem State.setDom_spillq (s : State) (d v : Nat) : (s.setDom d v).spillq = s.spillq := rfl

@[simp] theorem State.setBellLive_pending (s : State) (b : Nat) (v : Bool) : (s.setBellLive b v).pending = s.pending := rfl
@[simp] theorem State.setBellLive_free (s : State) (b : Nat) (v : Bool) : (s.setBellLive b v).free = s.free := rfl
@[simp] theorem State.setBellLive_now (s : State) (b : Nat) (v : Bool) : (s.setBellLive b v).now = s.now := rfl
@[simp] theorem State.setBellLive_ftc (s : State) (b : Nat) (v : Bool) : (s.setBellLive b v).ftc = s.ftc := rfl
@[simp] theorem State.setBellLive_fuses (s : State) (b : Nat) (v : Bool) : (s.setBellLive b v).fuses = s.fuses := rfl
@[simp] theorem State.setBellLive_mem (s : State) (b : Nat) (v : Bool) : (s.setBellLive b v).mem = s.mem := rfl
@[simp] theorem State.setBellLive_out (s : State) (b : Nat) (v : Bool) : (s.setBellLive b v).out = s.out := rfl
@[simp] theorem State.setBellLive_trn (s : State) (b : Nat) (v : Bool) : (s.setBellLive b v).trn = s.trn := rfl
@[simp] theorem State.setBellLive_jrn (s : State) (b : Nat) (v : Bool) : (s.setBellLive b v).jrn = s.jrn := rfl
@[simp] theorem State.setBellLive_pit (s : State) (b : Nat) (v : Bool) : (s.setBellLive b v).pit = s.pit := rfl
@[simp] theorem State.setBellLive_flt (s : State) (b : Nat) (v : Bool) : (s.setBellLive b v).flt = s.flt := rfl
@[simp] theorem State.setBellLive_pole (s : State) (b : Nat) (v : Bool) : (s.setBellLive b v).pole = s.pole := rfl
@[simp] theorem State.setBellLive_loss (s : State) (b : Nat) (v : Bool) : (s.setBellLive b v).loss = s.loss := rfl
@[simp] theorem State.setBellLive_dry (s : State) (b : Nat) (v : Bool) : (s.setBellLive b v).dry = s.dry := rfl
@[simp] theorem State.setBellLive_sec (s : State) (b : Nat) (v : Bool) : (s.setBellLive b v).sec = s.sec := rfl
@[simp] theorem State.setBellLive_pins (s : State) (b : Nat) (v : Bool) : (s.setBellLive b v).pins = s.pins := rfl
@[simp] theorem State.setBellLive_bells (s : State) (b : Nat) (v : Bool) : (s.setBellLive b v).bells = s.bells := rfl
@[simp] theorem State.setBellLive_col (s : State) (b : Nat) (v : Bool) : (s.setBellLive b v).col = s.col := rfl
@[simp] theorem State.setBellLive_ports (s : State) (b : Nat) (v : Bool) : (s.setBellLive b v).ports = s.ports := rfl
@[simp] theorem State.setBellLive_slots (s : State) (b : Nat) (v : Bool) : (s.setBellLive b v).slots = s.slots := rfl
@[simp] theorem State.setBellLive_canopies (s : State) (b : Nat) (v : Bool) : (s.setBellLive b v).canopies = s.canopies := rfl
@[simp] theorem State.setBellLive_seams (s : State) (b : Nat) (v : Bool) : (s.setBellLive b v).seams = s.seams := rfl
@[simp] theorem State.setBellLive_cross (s : State) (b : Nat) (v : Bool) : (s.setBellLive b v).cross = s.cross := rfl
@[simp] theorem State.setBellLive_tap (s : State) (b : Nat) (v : Bool) : (s.setBellLive b v).tap = s.tap := rfl
@[simp] theorem State.setBellLive_time (s : State) (b : Nat) (v : Bool) : (s.setBellLive b v).time = s.time := rfl
@[simp] theorem State.setBellLive_clk (s : State) (b : Nat) (v : Bool) : (s.setBellLive b v).clk = s.clk := rfl
@[simp] theorem State.setBellLive_pwr (s : State) (b : Nat) (v : Bool) : (s.setBellLive b v).pwr = s.pwr := rfl
@[simp] theorem State.setBellLive_spillq (s : State) (b : Nat) (v : Bool) : (s.setBellLive b v).spillq = s.spillq := rfl

@[simp] theorem State.setSlotLive_pending (s : State) (k : Nat) (v : Bool) : (s.setSlotLive k v).pending = s.pending := rfl
@[simp] theorem State.setSlotLive_free (s : State) (k : Nat) (v : Bool) : (s.setSlotLive k v).free = s.free := rfl
@[simp] theorem State.setSlotLive_now (s : State) (k : Nat) (v : Bool) : (s.setSlotLive k v).now = s.now := rfl
@[simp] theorem State.setSlotLive_ftc (s : State) (k : Nat) (v : Bool) : (s.setSlotLive k v).ftc = s.ftc := rfl
@[simp] theorem State.setSlotLive_fuses (s : State) (k : Nat) (v : Bool) : (s.setSlotLive k v).fuses = s.fuses := rfl
@[simp] theorem State.setSlotLive_mem (s : State) (k : Nat) (v : Bool) : (s.setSlotLive k v).mem = s.mem := rfl
@[simp] theorem State.setSlotLive_out (s : State) (k : Nat) (v : Bool) : (s.setSlotLive k v).out = s.out := rfl
@[simp] theorem State.setSlotLive_trn (s : State) (k : Nat) (v : Bool) : (s.setSlotLive k v).trn = s.trn := rfl
@[simp] theorem State.setSlotLive_jrn (s : State) (k : Nat) (v : Bool) : (s.setSlotLive k v).jrn = s.jrn := rfl
@[simp] theorem State.setSlotLive_pit (s : State) (k : Nat) (v : Bool) : (s.setSlotLive k v).pit = s.pit := rfl
@[simp] theorem State.setSlotLive_flt (s : State) (k : Nat) (v : Bool) : (s.setSlotLive k v).flt = s.flt := rfl
@[simp] theorem State.setSlotLive_pole (s : State) (k : Nat) (v : Bool) : (s.setSlotLive k v).pole = s.pole := rfl
@[simp] theorem State.setSlotLive_loss (s : State) (k : Nat) (v : Bool) : (s.setSlotLive k v).loss = s.loss := rfl
@[simp] theorem State.setSlotLive_dry (s : State) (k : Nat) (v : Bool) : (s.setSlotLive k v).dry = s.dry := rfl
@[simp] theorem State.setSlotLive_sec (s : State) (k : Nat) (v : Bool) : (s.setSlotLive k v).sec = s.sec := rfl
@[simp] theorem State.setSlotLive_pins (s : State) (k : Nat) (v : Bool) : (s.setSlotLive k v).pins = s.pins := rfl
@[simp] theorem State.setSlotLive_bells (s : State) (k : Nat) (v : Bool) : (s.setSlotLive k v).bells = s.bells := rfl
@[simp] theorem State.setSlotLive_col (s : State) (k : Nat) (v : Bool) : (s.setSlotLive k v).col = s.col := rfl
@[simp] theorem State.setSlotLive_ports (s : State) (k : Nat) (v : Bool) : (s.setSlotLive k v).ports = s.ports := rfl
@[simp] theorem State.setSlotLive_slots (s : State) (k : Nat) (v : Bool) : (s.setSlotLive k v).slots = s.slots := rfl
@[simp] theorem State.setSlotLive_canopies (s : State) (k : Nat) (v : Bool) : (s.setSlotLive k v).canopies = s.canopies := rfl
@[simp] theorem State.setSlotLive_seams (s : State) (k : Nat) (v : Bool) : (s.setSlotLive k v).seams = s.seams := rfl
@[simp] theorem State.setSlotLive_cross (s : State) (k : Nat) (v : Bool) : (s.setSlotLive k v).cross = s.cross := rfl
@[simp] theorem State.setSlotLive_tap (s : State) (k : Nat) (v : Bool) : (s.setSlotLive k v).tap = s.tap := rfl
@[simp] theorem State.setSlotLive_time (s : State) (k : Nat) (v : Bool) : (s.setSlotLive k v).time = s.time := rfl
@[simp] theorem State.setSlotLive_clk (s : State) (k : Nat) (v : Bool) : (s.setSlotLive k v).clk = s.clk := rfl
@[simp] theorem State.setSlotLive_pwr (s : State) (k : Nat) (v : Bool) : (s.setSlotLive k v).pwr = s.pwr := rfl
@[simp] theorem State.setSlotLive_spillq (s : State) (k : Nat) (v : Bool) : (s.setSlotLive k v).spillq = s.spillq := rfl

@[simp] theorem State.onBell_pending (s : State) (b : Nat) (f : BellSt → BellSt) : (s.onBell b f).pending = s.pending := rfl
@[simp] theorem State.onBell_free (s : State) (b : Nat) (f : BellSt → BellSt) : (s.onBell b f).free = s.free := rfl
@[simp] theorem State.onBell_now (s : State) (b : Nat) (f : BellSt → BellSt) : (s.onBell b f).now = s.now := rfl
@[simp] theorem State.onBell_ftc (s : State) (b : Nat) (f : BellSt → BellSt) : (s.onBell b f).ftc = s.ftc := rfl
@[simp] theorem State.onBell_regs (s : State) (b : Nat) (f : BellSt → BellSt) : (s.onBell b f).regs = s.regs := rfl
@[simp] theorem State.onBell_fuses (s : State) (b : Nat) (f : BellSt → BellSt) : (s.onBell b f).fuses = s.fuses := rfl
@[simp] theorem State.onBell_mem (s : State) (b : Nat) (f : BellSt → BellSt) : (s.onBell b f).mem = s.mem := rfl
@[simp] theorem State.onBell_out (s : State) (b : Nat) (f : BellSt → BellSt) : (s.onBell b f).out = s.out := rfl
@[simp] theorem State.onBell_trn (s : State) (b : Nat) (f : BellSt → BellSt) : (s.onBell b f).trn = s.trn := rfl
@[simp] theorem State.onBell_jrn (s : State) (b : Nat) (f : BellSt → BellSt) : (s.onBell b f).jrn = s.jrn := rfl
@[simp] theorem State.onBell_pit (s : State) (b : Nat) (f : BellSt → BellSt) : (s.onBell b f).pit = s.pit := rfl
@[simp] theorem State.onBell_flt (s : State) (b : Nat) (f : BellSt → BellSt) : (s.onBell b f).flt = s.flt := rfl
@[simp] theorem State.onBell_pole (s : State) (b : Nat) (f : BellSt → BellSt) : (s.onBell b f).pole = s.pole := rfl
@[simp] theorem State.onBell_loss (s : State) (b : Nat) (f : BellSt → BellSt) : (s.onBell b f).loss = s.loss := rfl
@[simp] theorem State.onBell_dry (s : State) (b : Nat) (f : BellSt → BellSt) : (s.onBell b f).dry = s.dry := rfl
@[simp] theorem State.onBell_sec (s : State) (b : Nat) (f : BellSt → BellSt) : (s.onBell b f).sec = s.sec := rfl
@[simp] theorem State.onBell_pins (s : State) (b : Nat) (f : BellSt → BellSt) : (s.onBell b f).pins = s.pins := rfl
@[simp] theorem State.onBell_col (s : State) (b : Nat) (f : BellSt → BellSt) : (s.onBell b f).col = s.col := rfl
@[simp] theorem State.onBell_ports (s : State) (b : Nat) (f : BellSt → BellSt) : (s.onBell b f).ports = s.ports := rfl
@[simp] theorem State.onBell_slots (s : State) (b : Nat) (f : BellSt → BellSt) : (s.onBell b f).slots = s.slots := rfl
@[simp] theorem State.onBell_canopies (s : State) (b : Nat) (f : BellSt → BellSt) : (s.onBell b f).canopies = s.canopies := rfl
@[simp] theorem State.onBell_seams (s : State) (b : Nat) (f : BellSt → BellSt) : (s.onBell b f).seams = s.seams := rfl
@[simp] theorem State.onBell_cross (s : State) (b : Nat) (f : BellSt → BellSt) : (s.onBell b f).cross = s.cross := rfl
@[simp] theorem State.onBell_tap (s : State) (b : Nat) (f : BellSt → BellSt) : (s.onBell b f).tap = s.tap := rfl
@[simp] theorem State.onBell_time (s : State) (b : Nat) (f : BellSt → BellSt) : (s.onBell b f).time = s.time := rfl
@[simp] theorem State.onBell_clk (s : State) (b : Nat) (f : BellSt → BellSt) : (s.onBell b f).clk = s.clk := rfl
@[simp] theorem State.onBell_pwr (s : State) (b : Nat) (f : BellSt → BellSt) : (s.onBell b f).pwr = s.pwr := rfl
@[simp] theorem State.onBell_spillq (s : State) (b : Nat) (f : BellSt → BellSt) : (s.onBell b f).spillq = s.spillq := rfl

@[simp] theorem State.resetRegs_pending (s : State) (d : Dom) (h : Nat → Bool) : (s.resetRegs d h).pending = s.pending := rfl
@[simp] theorem State.resetRegs_free (s : State) (d : Dom) (h : Nat → Bool) : (s.resetRegs d h).free = s.free := rfl
@[simp] theorem State.resetRegs_now (s : State) (d : Dom) (h : Nat → Bool) : (s.resetRegs d h).now = s.now := rfl
@[simp] theorem State.resetRegs_ftc (s : State) (d : Dom) (h : Nat → Bool) : (s.resetRegs d h).ftc = s.ftc := rfl
@[simp] theorem State.resetRegs_fuses (s : State) (d : Dom) (h : Nat → Bool) : (s.resetRegs d h).fuses = s.fuses := rfl
@[simp] theorem State.resetRegs_mem (s : State) (d : Dom) (h : Nat → Bool) : (s.resetRegs d h).mem = s.mem := rfl
@[simp] theorem State.resetRegs_out (s : State) (d : Dom) (h : Nat → Bool) : (s.resetRegs d h).out = s.out := rfl
@[simp] theorem State.resetRegs_trn (s : State) (d : Dom) (h : Nat → Bool) : (s.resetRegs d h).trn = s.trn := rfl
@[simp] theorem State.resetRegs_jrn (s : State) (d : Dom) (h : Nat → Bool) : (s.resetRegs d h).jrn = s.jrn := rfl
@[simp] theorem State.resetRegs_pit (s : State) (d : Dom) (h : Nat → Bool) : (s.resetRegs d h).pit = s.pit := rfl
@[simp] theorem State.resetRegs_flt (s : State) (d : Dom) (h : Nat → Bool) : (s.resetRegs d h).flt = s.flt := rfl
@[simp] theorem State.resetRegs_pole (s : State) (d : Dom) (h : Nat → Bool) : (s.resetRegs d h).pole = s.pole := rfl
@[simp] theorem State.resetRegs_loss (s : State) (d : Dom) (h : Nat → Bool) : (s.resetRegs d h).loss = s.loss := rfl
@[simp] theorem State.resetRegs_dry (s : State) (d : Dom) (h : Nat → Bool) : (s.resetRegs d h).dry = s.dry := rfl
@[simp] theorem State.resetRegs_sec (s : State) (d : Dom) (h : Nat → Bool) : (s.resetRegs d h).sec = s.sec := rfl
@[simp] theorem State.resetRegs_pins (s : State) (d : Dom) (h : Nat → Bool) : (s.resetRegs d h).pins = s.pins := rfl
@[simp] theorem State.resetRegs_bells (s : State) (d : Dom) (h : Nat → Bool) : (s.resetRegs d h).bells = s.bells := rfl
@[simp] theorem State.resetRegs_col (s : State) (d : Dom) (h : Nat → Bool) : (s.resetRegs d h).col = s.col := rfl
@[simp] theorem State.resetRegs_ports (s : State) (d : Dom) (h : Nat → Bool) : (s.resetRegs d h).ports = s.ports := rfl
@[simp] theorem State.resetRegs_slots (s : State) (d : Dom) (h : Nat → Bool) : (s.resetRegs d h).slots = s.slots := rfl
@[simp] theorem State.resetRegs_canopies (s : State) (d : Dom) (h : Nat → Bool) : (s.resetRegs d h).canopies = s.canopies := rfl
@[simp] theorem State.resetRegs_seams (s : State) (d : Dom) (h : Nat → Bool) : (s.resetRegs d h).seams = s.seams := rfl
@[simp] theorem State.resetRegs_cross (s : State) (d : Dom) (h : Nat → Bool) : (s.resetRegs d h).cross = s.cross := rfl
@[simp] theorem State.resetRegs_tap (s : State) (d : Dom) (h : Nat → Bool) : (s.resetRegs d h).tap = s.tap := rfl
@[simp] theorem State.resetRegs_time (s : State) (d : Dom) (h : Nat → Bool) : (s.resetRegs d h).time = s.time := rfl
@[simp] theorem State.resetRegs_clk (s : State) (d : Dom) (h : Nat → Bool) : (s.resetRegs d h).clk = s.clk := rfl
@[simp] theorem State.resetRegs_pwr (s : State) (d : Dom) (h : Nat → Bool) : (s.resetRegs d h).pwr = s.pwr := rfl
@[simp] theorem State.resetRegs_spillq (s : State) (d : Dom) (h : Nat → Bool) : (s.resetRegs d h).spillq = s.spillq := rfl

@[simp] theorem State.setCanopy_pending (s : State) (k : Nat) (v : CanopySt) : (s.setCanopy k v).pending = s.pending := rfl
@[simp] theorem State.setCanopy_free (s : State) (k : Nat) (v : CanopySt) : (s.setCanopy k v).free = s.free := rfl
@[simp] theorem State.setCanopy_now (s : State) (k : Nat) (v : CanopySt) : (s.setCanopy k v).now = s.now := rfl
@[simp] theorem State.setCanopy_ftc (s : State) (k : Nat) (v : CanopySt) : (s.setCanopy k v).ftc = s.ftc := rfl
@[simp] theorem State.setCanopy_regs (s : State) (k : Nat) (v : CanopySt) : (s.setCanopy k v).regs = s.regs := rfl
@[simp] theorem State.setCanopy_fuses (s : State) (k : Nat) (v : CanopySt) : (s.setCanopy k v).fuses = s.fuses := rfl
@[simp] theorem State.setCanopy_mem (s : State) (k : Nat) (v : CanopySt) : (s.setCanopy k v).mem = s.mem := rfl
@[simp] theorem State.setCanopy_out (s : State) (k : Nat) (v : CanopySt) : (s.setCanopy k v).out = s.out := rfl
@[simp] theorem State.setCanopy_trn (s : State) (k : Nat) (v : CanopySt) : (s.setCanopy k v).trn = s.trn := rfl
@[simp] theorem State.setCanopy_jrn (s : State) (k : Nat) (v : CanopySt) : (s.setCanopy k v).jrn = s.jrn := rfl
@[simp] theorem State.setCanopy_pit (s : State) (k : Nat) (v : CanopySt) : (s.setCanopy k v).pit = s.pit := rfl
@[simp] theorem State.setCanopy_flt (s : State) (k : Nat) (v : CanopySt) : (s.setCanopy k v).flt = s.flt := rfl
@[simp] theorem State.setCanopy_pole (s : State) (k : Nat) (v : CanopySt) : (s.setCanopy k v).pole = s.pole := rfl
@[simp] theorem State.setCanopy_loss (s : State) (k : Nat) (v : CanopySt) : (s.setCanopy k v).loss = s.loss := rfl
@[simp] theorem State.setCanopy_dry (s : State) (k : Nat) (v : CanopySt) : (s.setCanopy k v).dry = s.dry := rfl
@[simp] theorem State.setCanopy_sec (s : State) (k : Nat) (v : CanopySt) : (s.setCanopy k v).sec = s.sec := rfl
@[simp] theorem State.setCanopy_pins (s : State) (k : Nat) (v : CanopySt) : (s.setCanopy k v).pins = s.pins := rfl
@[simp] theorem State.setCanopy_bells (s : State) (k : Nat) (v : CanopySt) : (s.setCanopy k v).bells = s.bells := rfl
@[simp] theorem State.setCanopy_col (s : State) (k : Nat) (v : CanopySt) : (s.setCanopy k v).col = s.col := rfl
@[simp] theorem State.setCanopy_ports (s : State) (k : Nat) (v : CanopySt) : (s.setCanopy k v).ports = s.ports := rfl
@[simp] theorem State.setCanopy_slots (s : State) (k : Nat) (v : CanopySt) : (s.setCanopy k v).slots = s.slots := rfl
@[simp] theorem State.setCanopy_seams (s : State) (k : Nat) (v : CanopySt) : (s.setCanopy k v).seams = s.seams := rfl
@[simp] theorem State.setCanopy_cross (s : State) (k : Nat) (v : CanopySt) : (s.setCanopy k v).cross = s.cross := rfl
@[simp] theorem State.setCanopy_tap (s : State) (k : Nat) (v : CanopySt) : (s.setCanopy k v).tap = s.tap := rfl
@[simp] theorem State.setCanopy_time (s : State) (k : Nat) (v : CanopySt) : (s.setCanopy k v).time = s.time := rfl
@[simp] theorem State.setCanopy_clk (s : State) (k : Nat) (v : CanopySt) : (s.setCanopy k v).clk = s.clk := rfl
@[simp] theorem State.setCanopy_pwr (s : State) (k : Nat) (v : CanopySt) : (s.setCanopy k v).pwr = s.pwr := rfl
@[simp] theorem State.setCanopy_spillq (s : State) (k : Nat) (v : CanopySt) : (s.setCanopy k v).spillq = s.spillq := rfl

@[simp] theorem State.modCanopy_pending (s : State) (k : Nat) (f : CanopySt → CanopySt) : (s.modCanopy k f).pending = s.pending := rfl
@[simp] theorem State.modCanopy_free (s : State) (k : Nat) (f : CanopySt → CanopySt) : (s.modCanopy k f).free = s.free := rfl
@[simp] theorem State.modCanopy_now (s : State) (k : Nat) (f : CanopySt → CanopySt) : (s.modCanopy k f).now = s.now := rfl
@[simp] theorem State.modCanopy_ftc (s : State) (k : Nat) (f : CanopySt → CanopySt) : (s.modCanopy k f).ftc = s.ftc := rfl
@[simp] theorem State.modCanopy_regs (s : State) (k : Nat) (f : CanopySt → CanopySt) : (s.modCanopy k f).regs = s.regs := rfl
@[simp] theorem State.modCanopy_fuses (s : State) (k : Nat) (f : CanopySt → CanopySt) : (s.modCanopy k f).fuses = s.fuses := rfl
@[simp] theorem State.modCanopy_mem (s : State) (k : Nat) (f : CanopySt → CanopySt) : (s.modCanopy k f).mem = s.mem := rfl
@[simp] theorem State.modCanopy_out (s : State) (k : Nat) (f : CanopySt → CanopySt) : (s.modCanopy k f).out = s.out := rfl
@[simp] theorem State.modCanopy_trn (s : State) (k : Nat) (f : CanopySt → CanopySt) : (s.modCanopy k f).trn = s.trn := rfl
@[simp] theorem State.modCanopy_jrn (s : State) (k : Nat) (f : CanopySt → CanopySt) : (s.modCanopy k f).jrn = s.jrn := rfl
@[simp] theorem State.modCanopy_pit (s : State) (k : Nat) (f : CanopySt → CanopySt) : (s.modCanopy k f).pit = s.pit := rfl
@[simp] theorem State.modCanopy_flt (s : State) (k : Nat) (f : CanopySt → CanopySt) : (s.modCanopy k f).flt = s.flt := rfl
@[simp] theorem State.modCanopy_pole (s : State) (k : Nat) (f : CanopySt → CanopySt) : (s.modCanopy k f).pole = s.pole := rfl
@[simp] theorem State.modCanopy_loss (s : State) (k : Nat) (f : CanopySt → CanopySt) : (s.modCanopy k f).loss = s.loss := rfl
@[simp] theorem State.modCanopy_dry (s : State) (k : Nat) (f : CanopySt → CanopySt) : (s.modCanopy k f).dry = s.dry := rfl
@[simp] theorem State.modCanopy_sec (s : State) (k : Nat) (f : CanopySt → CanopySt) : (s.modCanopy k f).sec = s.sec := rfl
@[simp] theorem State.modCanopy_pins (s : State) (k : Nat) (f : CanopySt → CanopySt) : (s.modCanopy k f).pins = s.pins := rfl
@[simp] theorem State.modCanopy_bells (s : State) (k : Nat) (f : CanopySt → CanopySt) : (s.modCanopy k f).bells = s.bells := rfl
@[simp] theorem State.modCanopy_col (s : State) (k : Nat) (f : CanopySt → CanopySt) : (s.modCanopy k f).col = s.col := rfl
@[simp] theorem State.modCanopy_ports (s : State) (k : Nat) (f : CanopySt → CanopySt) : (s.modCanopy k f).ports = s.ports := rfl
@[simp] theorem State.modCanopy_slots (s : State) (k : Nat) (f : CanopySt → CanopySt) : (s.modCanopy k f).slots = s.slots := rfl
@[simp] theorem State.modCanopy_seams (s : State) (k : Nat) (f : CanopySt → CanopySt) : (s.modCanopy k f).seams = s.seams := rfl
@[simp] theorem State.modCanopy_cross (s : State) (k : Nat) (f : CanopySt → CanopySt) : (s.modCanopy k f).cross = s.cross := rfl
@[simp] theorem State.modCanopy_tap (s : State) (k : Nat) (f : CanopySt → CanopySt) : (s.modCanopy k f).tap = s.tap := rfl
@[simp] theorem State.modCanopy_time (s : State) (k : Nat) (f : CanopySt → CanopySt) : (s.modCanopy k f).time = s.time := rfl
@[simp] theorem State.modCanopy_clk (s : State) (k : Nat) (f : CanopySt → CanopySt) : (s.modCanopy k f).clk = s.clk := rfl
@[simp] theorem State.modCanopy_pwr (s : State) (k : Nat) (f : CanopySt → CanopySt) : (s.modCanopy k f).pwr = s.pwr := rfl
@[simp] theorem State.modCanopy_spillq (s : State) (k : Nat) (f : CanopySt → CanopySt) : (s.modCanopy k f).spillq = s.spillq := rfl

@[simp] theorem State.modPort_pending (s : State) (p : Nat) (f : PortSt → PortSt) : (s.modPort p f).pending = s.pending := rfl
@[simp] theorem State.modPort_free (s : State) (p : Nat) (f : PortSt → PortSt) : (s.modPort p f).free = s.free := rfl
@[simp] theorem State.modPort_now (s : State) (p : Nat) (f : PortSt → PortSt) : (s.modPort p f).now = s.now := rfl
@[simp] theorem State.modPort_ftc (s : State) (p : Nat) (f : PortSt → PortSt) : (s.modPort p f).ftc = s.ftc := rfl
@[simp] theorem State.modPort_regs (s : State) (p : Nat) (f : PortSt → PortSt) : (s.modPort p f).regs = s.regs := rfl
@[simp] theorem State.modPort_fuses (s : State) (p : Nat) (f : PortSt → PortSt) : (s.modPort p f).fuses = s.fuses := rfl
@[simp] theorem State.modPort_mem (s : State) (p : Nat) (f : PortSt → PortSt) : (s.modPort p f).mem = s.mem := rfl
@[simp] theorem State.modPort_out (s : State) (p : Nat) (f : PortSt → PortSt) : (s.modPort p f).out = s.out := rfl
@[simp] theorem State.modPort_trn (s : State) (p : Nat) (f : PortSt → PortSt) : (s.modPort p f).trn = s.trn := rfl
@[simp] theorem State.modPort_jrn (s : State) (p : Nat) (f : PortSt → PortSt) : (s.modPort p f).jrn = s.jrn := rfl
@[simp] theorem State.modPort_pit (s : State) (p : Nat) (f : PortSt → PortSt) : (s.modPort p f).pit = s.pit := rfl
@[simp] theorem State.modPort_flt (s : State) (p : Nat) (f : PortSt → PortSt) : (s.modPort p f).flt = s.flt := rfl
@[simp] theorem State.modPort_pole (s : State) (p : Nat) (f : PortSt → PortSt) : (s.modPort p f).pole = s.pole := rfl
@[simp] theorem State.modPort_loss (s : State) (p : Nat) (f : PortSt → PortSt) : (s.modPort p f).loss = s.loss := rfl
@[simp] theorem State.modPort_dry (s : State) (p : Nat) (f : PortSt → PortSt) : (s.modPort p f).dry = s.dry := rfl
@[simp] theorem State.modPort_sec (s : State) (p : Nat) (f : PortSt → PortSt) : (s.modPort p f).sec = s.sec := rfl
@[simp] theorem State.modPort_pins (s : State) (p : Nat) (f : PortSt → PortSt) : (s.modPort p f).pins = s.pins := rfl
@[simp] theorem State.modPort_bells (s : State) (p : Nat) (f : PortSt → PortSt) : (s.modPort p f).bells = s.bells := rfl
@[simp] theorem State.modPort_col (s : State) (p : Nat) (f : PortSt → PortSt) : (s.modPort p f).col = s.col := rfl
@[simp] theorem State.modPort_slots (s : State) (p : Nat) (f : PortSt → PortSt) : (s.modPort p f).slots = s.slots := rfl
@[simp] theorem State.modPort_canopies (s : State) (p : Nat) (f : PortSt → PortSt) : (s.modPort p f).canopies = s.canopies := rfl
@[simp] theorem State.modPort_seams (s : State) (p : Nat) (f : PortSt → PortSt) : (s.modPort p f).seams = s.seams := rfl
@[simp] theorem State.modPort_cross (s : State) (p : Nat) (f : PortSt → PortSt) : (s.modPort p f).cross = s.cross := rfl
@[simp] theorem State.modPort_tap (s : State) (p : Nat) (f : PortSt → PortSt) : (s.modPort p f).tap = s.tap := rfl
@[simp] theorem State.modPort_time (s : State) (p : Nat) (f : PortSt → PortSt) : (s.modPort p f).time = s.time := rfl
@[simp] theorem State.modPort_clk (s : State) (p : Nat) (f : PortSt → PortSt) : (s.modPort p f).clk = s.clk := rfl
@[simp] theorem State.modPort_pwr (s : State) (p : Nat) (f : PortSt → PortSt) : (s.modPort p f).pwr = s.pwr := rfl
@[simp] theorem State.modPort_spillq (s : State) (p : Nat) (f : PortSt → PortSt) : (s.modPort p f).spillq = s.spillq := rfl

@[simp] theorem State.modSeam_pending (s : State) (b : Nat) (f : SeamSt → SeamSt) : (s.modSeam b f).pending = s.pending := rfl
@[simp] theorem State.modSeam_free (s : State) (b : Nat) (f : SeamSt → SeamSt) : (s.modSeam b f).free = s.free := rfl
@[simp] theorem State.modSeam_now (s : State) (b : Nat) (f : SeamSt → SeamSt) : (s.modSeam b f).now = s.now := rfl
@[simp] theorem State.modSeam_ftc (s : State) (b : Nat) (f : SeamSt → SeamSt) : (s.modSeam b f).ftc = s.ftc := rfl
@[simp] theorem State.modSeam_regs (s : State) (b : Nat) (f : SeamSt → SeamSt) : (s.modSeam b f).regs = s.regs := rfl
@[simp] theorem State.modSeam_fuses (s : State) (b : Nat) (f : SeamSt → SeamSt) : (s.modSeam b f).fuses = s.fuses := rfl
@[simp] theorem State.modSeam_mem (s : State) (b : Nat) (f : SeamSt → SeamSt) : (s.modSeam b f).mem = s.mem := rfl
@[simp] theorem State.modSeam_out (s : State) (b : Nat) (f : SeamSt → SeamSt) : (s.modSeam b f).out = s.out := rfl
@[simp] theorem State.modSeam_trn (s : State) (b : Nat) (f : SeamSt → SeamSt) : (s.modSeam b f).trn = s.trn := rfl
@[simp] theorem State.modSeam_jrn (s : State) (b : Nat) (f : SeamSt → SeamSt) : (s.modSeam b f).jrn = s.jrn := rfl
@[simp] theorem State.modSeam_pit (s : State) (b : Nat) (f : SeamSt → SeamSt) : (s.modSeam b f).pit = s.pit := rfl
@[simp] theorem State.modSeam_flt (s : State) (b : Nat) (f : SeamSt → SeamSt) : (s.modSeam b f).flt = s.flt := rfl
@[simp] theorem State.modSeam_pole (s : State) (b : Nat) (f : SeamSt → SeamSt) : (s.modSeam b f).pole = s.pole := rfl
@[simp] theorem State.modSeam_loss (s : State) (b : Nat) (f : SeamSt → SeamSt) : (s.modSeam b f).loss = s.loss := rfl
@[simp] theorem State.modSeam_dry (s : State) (b : Nat) (f : SeamSt → SeamSt) : (s.modSeam b f).dry = s.dry := rfl
@[simp] theorem State.modSeam_sec (s : State) (b : Nat) (f : SeamSt → SeamSt) : (s.modSeam b f).sec = s.sec := rfl
@[simp] theorem State.modSeam_pins (s : State) (b : Nat) (f : SeamSt → SeamSt) : (s.modSeam b f).pins = s.pins := rfl
@[simp] theorem State.modSeam_bells (s : State) (b : Nat) (f : SeamSt → SeamSt) : (s.modSeam b f).bells = s.bells := rfl
@[simp] theorem State.modSeam_col (s : State) (b : Nat) (f : SeamSt → SeamSt) : (s.modSeam b f).col = s.col := rfl
@[simp] theorem State.modSeam_ports (s : State) (b : Nat) (f : SeamSt → SeamSt) : (s.modSeam b f).ports = s.ports := rfl
@[simp] theorem State.modSeam_slots (s : State) (b : Nat) (f : SeamSt → SeamSt) : (s.modSeam b f).slots = s.slots := rfl
@[simp] theorem State.modSeam_canopies (s : State) (b : Nat) (f : SeamSt → SeamSt) : (s.modSeam b f).canopies = s.canopies := rfl
@[simp] theorem State.modSeam_cross (s : State) (b : Nat) (f : SeamSt → SeamSt) : (s.modSeam b f).cross = s.cross := rfl
@[simp] theorem State.modSeam_tap (s : State) (b : Nat) (f : SeamSt → SeamSt) : (s.modSeam b f).tap = s.tap := rfl
@[simp] theorem State.modSeam_time (s : State) (b : Nat) (f : SeamSt → SeamSt) : (s.modSeam b f).time = s.time := rfl
@[simp] theorem State.modSeam_clk (s : State) (b : Nat) (f : SeamSt → SeamSt) : (s.modSeam b f).clk = s.clk := rfl
@[simp] theorem State.modSeam_pwr (s : State) (b : Nat) (f : SeamSt → SeamSt) : (s.modSeam b f).pwr = s.pwr := rfl
@[simp] theorem State.modSeam_spillq (s : State) (b : Nat) (f : SeamSt → SeamSt) : (s.modSeam b f).spillq = s.spillq := rfl

@[simp] theorem State.modSeamDir_pending (s : State) (b d : Nat) (f : SeamDir → SeamDir) : (s.modSeamDir b d f).pending = s.pending := rfl
@[simp] theorem State.modSeamDir_free (s : State) (b d : Nat) (f : SeamDir → SeamDir) : (s.modSeamDir b d f).free = s.free := rfl
@[simp] theorem State.modSeamDir_now (s : State) (b d : Nat) (f : SeamDir → SeamDir) : (s.modSeamDir b d f).now = s.now := rfl
@[simp] theorem State.modSeamDir_ftc (s : State) (b d : Nat) (f : SeamDir → SeamDir) : (s.modSeamDir b d f).ftc = s.ftc := rfl
@[simp] theorem State.modSeamDir_regs (s : State) (b d : Nat) (f : SeamDir → SeamDir) : (s.modSeamDir b d f).regs = s.regs := rfl
@[simp] theorem State.modSeamDir_fuses (s : State) (b d : Nat) (f : SeamDir → SeamDir) : (s.modSeamDir b d f).fuses = s.fuses := rfl
@[simp] theorem State.modSeamDir_mem (s : State) (b d : Nat) (f : SeamDir → SeamDir) : (s.modSeamDir b d f).mem = s.mem := rfl
@[simp] theorem State.modSeamDir_out (s : State) (b d : Nat) (f : SeamDir → SeamDir) : (s.modSeamDir b d f).out = s.out := rfl
@[simp] theorem State.modSeamDir_trn (s : State) (b d : Nat) (f : SeamDir → SeamDir) : (s.modSeamDir b d f).trn = s.trn := rfl
@[simp] theorem State.modSeamDir_jrn (s : State) (b d : Nat) (f : SeamDir → SeamDir) : (s.modSeamDir b d f).jrn = s.jrn := rfl
@[simp] theorem State.modSeamDir_pit (s : State) (b d : Nat) (f : SeamDir → SeamDir) : (s.modSeamDir b d f).pit = s.pit := rfl
@[simp] theorem State.modSeamDir_flt (s : State) (b d : Nat) (f : SeamDir → SeamDir) : (s.modSeamDir b d f).flt = s.flt := rfl
@[simp] theorem State.modSeamDir_pole (s : State) (b d : Nat) (f : SeamDir → SeamDir) : (s.modSeamDir b d f).pole = s.pole := rfl
@[simp] theorem State.modSeamDir_loss (s : State) (b d : Nat) (f : SeamDir → SeamDir) : (s.modSeamDir b d f).loss = s.loss := rfl
@[simp] theorem State.modSeamDir_dry (s : State) (b d : Nat) (f : SeamDir → SeamDir) : (s.modSeamDir b d f).dry = s.dry := rfl
@[simp] theorem State.modSeamDir_sec (s : State) (b d : Nat) (f : SeamDir → SeamDir) : (s.modSeamDir b d f).sec = s.sec := rfl
@[simp] theorem State.modSeamDir_pins (s : State) (b d : Nat) (f : SeamDir → SeamDir) : (s.modSeamDir b d f).pins = s.pins := rfl
@[simp] theorem State.modSeamDir_bells (s : State) (b d : Nat) (f : SeamDir → SeamDir) : (s.modSeamDir b d f).bells = s.bells := rfl
@[simp] theorem State.modSeamDir_col (s : State) (b d : Nat) (f : SeamDir → SeamDir) : (s.modSeamDir b d f).col = s.col := rfl
@[simp] theorem State.modSeamDir_ports (s : State) (b d : Nat) (f : SeamDir → SeamDir) : (s.modSeamDir b d f).ports = s.ports := rfl
@[simp] theorem State.modSeamDir_slots (s : State) (b d : Nat) (f : SeamDir → SeamDir) : (s.modSeamDir b d f).slots = s.slots := rfl
@[simp] theorem State.modSeamDir_canopies (s : State) (b d : Nat) (f : SeamDir → SeamDir) : (s.modSeamDir b d f).canopies = s.canopies := rfl
@[simp] theorem State.modSeamDir_cross (s : State) (b d : Nat) (f : SeamDir → SeamDir) : (s.modSeamDir b d f).cross = s.cross := rfl
@[simp] theorem State.modSeamDir_tap (s : State) (b d : Nat) (f : SeamDir → SeamDir) : (s.modSeamDir b d f).tap = s.tap := rfl
@[simp] theorem State.modSeamDir_time (s : State) (b d : Nat) (f : SeamDir → SeamDir) : (s.modSeamDir b d f).time = s.time := rfl
@[simp] theorem State.modSeamDir_clk (s : State) (b d : Nat) (f : SeamDir → SeamDir) : (s.modSeamDir b d f).clk = s.clk := rfl
@[simp] theorem State.modSeamDir_pwr (s : State) (b d : Nat) (f : SeamDir → SeamDir) : (s.modSeamDir b d f).pwr = s.pwr := rfl
@[simp] theorem State.modSeamDir_spillq (s : State) (b d : Nat) (f : SeamDir → SeamDir) : (s.modSeamDir b d f).spillq = s.spillq := rfl

@[simp] theorem State.modSide_pending (s : State) (c : Nat) (d : Bool) (f : CrossSide → CrossSide) : (s.modSide c d f).pending = s.pending := rfl
@[simp] theorem State.modSide_free (s : State) (c : Nat) (d : Bool) (f : CrossSide → CrossSide) : (s.modSide c d f).free = s.free := rfl
@[simp] theorem State.modSide_now (s : State) (c : Nat) (d : Bool) (f : CrossSide → CrossSide) : (s.modSide c d f).now = s.now := rfl
@[simp] theorem State.modSide_ftc (s : State) (c : Nat) (d : Bool) (f : CrossSide → CrossSide) : (s.modSide c d f).ftc = s.ftc := rfl
@[simp] theorem State.modSide_regs (s : State) (c : Nat) (d : Bool) (f : CrossSide → CrossSide) : (s.modSide c d f).regs = s.regs := rfl
@[simp] theorem State.modSide_fuses (s : State) (c : Nat) (d : Bool) (f : CrossSide → CrossSide) : (s.modSide c d f).fuses = s.fuses := rfl
@[simp] theorem State.modSide_mem (s : State) (c : Nat) (d : Bool) (f : CrossSide → CrossSide) : (s.modSide c d f).mem = s.mem := rfl
@[simp] theorem State.modSide_out (s : State) (c : Nat) (d : Bool) (f : CrossSide → CrossSide) : (s.modSide c d f).out = s.out := rfl
@[simp] theorem State.modSide_trn (s : State) (c : Nat) (d : Bool) (f : CrossSide → CrossSide) : (s.modSide c d f).trn = s.trn := rfl
@[simp] theorem State.modSide_jrn (s : State) (c : Nat) (d : Bool) (f : CrossSide → CrossSide) : (s.modSide c d f).jrn = s.jrn := rfl
@[simp] theorem State.modSide_pit (s : State) (c : Nat) (d : Bool) (f : CrossSide → CrossSide) : (s.modSide c d f).pit = s.pit := rfl
@[simp] theorem State.modSide_flt (s : State) (c : Nat) (d : Bool) (f : CrossSide → CrossSide) : (s.modSide c d f).flt = s.flt := rfl
@[simp] theorem State.modSide_pole (s : State) (c : Nat) (d : Bool) (f : CrossSide → CrossSide) : (s.modSide c d f).pole = s.pole := rfl
@[simp] theorem State.modSide_loss (s : State) (c : Nat) (d : Bool) (f : CrossSide → CrossSide) : (s.modSide c d f).loss = s.loss := rfl
@[simp] theorem State.modSide_dry (s : State) (c : Nat) (d : Bool) (f : CrossSide → CrossSide) : (s.modSide c d f).dry = s.dry := rfl
@[simp] theorem State.modSide_sec (s : State) (c : Nat) (d : Bool) (f : CrossSide → CrossSide) : (s.modSide c d f).sec = s.sec := rfl
@[simp] theorem State.modSide_pins (s : State) (c : Nat) (d : Bool) (f : CrossSide → CrossSide) : (s.modSide c d f).pins = s.pins := rfl
@[simp] theorem State.modSide_bells (s : State) (c : Nat) (d : Bool) (f : CrossSide → CrossSide) : (s.modSide c d f).bells = s.bells := rfl
@[simp] theorem State.modSide_col (s : State) (c : Nat) (d : Bool) (f : CrossSide → CrossSide) : (s.modSide c d f).col = s.col := rfl
@[simp] theorem State.modSide_ports (s : State) (c : Nat) (d : Bool) (f : CrossSide → CrossSide) : (s.modSide c d f).ports = s.ports := rfl
@[simp] theorem State.modSide_slots (s : State) (c : Nat) (d : Bool) (f : CrossSide → CrossSide) : (s.modSide c d f).slots = s.slots := rfl
@[simp] theorem State.modSide_canopies (s : State) (c : Nat) (d : Bool) (f : CrossSide → CrossSide) : (s.modSide c d f).canopies = s.canopies := rfl
@[simp] theorem State.modSide_seams (s : State) (c : Nat) (d : Bool) (f : CrossSide → CrossSide) : (s.modSide c d f).seams = s.seams := rfl
@[simp] theorem State.modSide_tap (s : State) (c : Nat) (d : Bool) (f : CrossSide → CrossSide) : (s.modSide c d f).tap = s.tap := rfl
@[simp] theorem State.modSide_time (s : State) (c : Nat) (d : Bool) (f : CrossSide → CrossSide) : (s.modSide c d f).time = s.time := rfl
@[simp] theorem State.modSide_clk (s : State) (c : Nat) (d : Bool) (f : CrossSide → CrossSide) : (s.modSide c d f).clk = s.clk := rfl
@[simp] theorem State.modSide_pwr (s : State) (c : Nat) (d : Bool) (f : CrossSide → CrossSide) : (s.modSide c d f).pwr = s.pwr := rfl
@[simp] theorem State.modSide_spillq (s : State) (c : Nat) (d : Bool) (f : CrossSide → CrossSide) : (s.modSide c d f).spillq = s.spillq := rfl

@[simp] theorem State.setPole_pending (s : State) (b : Bool) (v : PoleState) : (s.setPole b v).pending = s.pending := rfl
@[simp] theorem State.setPole_free (s : State) (b : Bool) (v : PoleState) : (s.setPole b v).free = s.free := rfl
@[simp] theorem State.setPole_now (s : State) (b : Bool) (v : PoleState) : (s.setPole b v).now = s.now := rfl
@[simp] theorem State.setPole_ftc (s : State) (b : Bool) (v : PoleState) : (s.setPole b v).ftc = s.ftc := rfl
@[simp] theorem State.setPole_regs (s : State) (b : Bool) (v : PoleState) : (s.setPole b v).regs = s.regs := rfl
@[simp] theorem State.setPole_fuses (s : State) (b : Bool) (v : PoleState) : (s.setPole b v).fuses = s.fuses := rfl
@[simp] theorem State.setPole_mem (s : State) (b : Bool) (v : PoleState) : (s.setPole b v).mem = s.mem := rfl
@[simp] theorem State.setPole_out (s : State) (b : Bool) (v : PoleState) : (s.setPole b v).out = s.out := rfl
@[simp] theorem State.setPole_trn (s : State) (b : Bool) (v : PoleState) : (s.setPole b v).trn = s.trn := rfl
@[simp] theorem State.setPole_jrn (s : State) (b : Bool) (v : PoleState) : (s.setPole b v).jrn = s.jrn := rfl
@[simp] theorem State.setPole_pit (s : State) (b : Bool) (v : PoleState) : (s.setPole b v).pit = s.pit := rfl
@[simp] theorem State.setPole_flt (s : State) (b : Bool) (v : PoleState) : (s.setPole b v).flt = s.flt := rfl
@[simp] theorem State.setPole_loss (s : State) (b : Bool) (v : PoleState) : (s.setPole b v).loss = s.loss := rfl
@[simp] theorem State.setPole_dry (s : State) (b : Bool) (v : PoleState) : (s.setPole b v).dry = s.dry := rfl
@[simp] theorem State.setPole_sec (s : State) (b : Bool) (v : PoleState) : (s.setPole b v).sec = s.sec := rfl
@[simp] theorem State.setPole_pins (s : State) (b : Bool) (v : PoleState) : (s.setPole b v).pins = s.pins := rfl
@[simp] theorem State.setPole_bells (s : State) (b : Bool) (v : PoleState) : (s.setPole b v).bells = s.bells := rfl
@[simp] theorem State.setPole_col (s : State) (b : Bool) (v : PoleState) : (s.setPole b v).col = s.col := rfl
@[simp] theorem State.setPole_ports (s : State) (b : Bool) (v : PoleState) : (s.setPole b v).ports = s.ports := rfl
@[simp] theorem State.setPole_slots (s : State) (b : Bool) (v : PoleState) : (s.setPole b v).slots = s.slots := rfl
@[simp] theorem State.setPole_canopies (s : State) (b : Bool) (v : PoleState) : (s.setPole b v).canopies = s.canopies := rfl
@[simp] theorem State.setPole_seams (s : State) (b : Bool) (v : PoleState) : (s.setPole b v).seams = s.seams := rfl
@[simp] theorem State.setPole_cross (s : State) (b : Bool) (v : PoleState) : (s.setPole b v).cross = s.cross := rfl
@[simp] theorem State.setPole_tap (s : State) (b : Bool) (v : PoleState) : (s.setPole b v).tap = s.tap := rfl
@[simp] theorem State.setPole_time (s : State) (b : Bool) (v : PoleState) : (s.setPole b v).time = s.time := rfl
@[simp] theorem State.setPole_clk (s : State) (b : Bool) (v : PoleState) : (s.setPole b v).clk = s.clk := rfl
@[simp] theorem State.setPole_pwr (s : State) (b : Bool) (v : PoleState) : (s.setPole b v).pwr = s.pwr := rfl
@[simp] theorem State.setPole_spillq (s : State) (b : Bool) (v : PoleState) : (s.setPole b v).spillq = s.spillq := rfl

end Sys2Proof.Machine
end

