-- ==== Sys2Proof/Laws/Takes.lean ====
section
/-!
SUPPORT. What the reception of a message does, said once: a message that the device takes is served and its TID taken up.
-/

namespace Sys2Proof.Machine

open Sys2Proof

variable {s : State} {src : Entry} {raw : List Byte} {mtype : Nat} {m : Msg}

/-- A message whose bytes parse and that its entry may carry is handed on. -/
theorem State.receive_eq {k : Msg → State} (h1 : s.zfpFlows = true) (h2 : Msg.parse raw = some m) (h3 : s.partnerOk src m = true) :
    s.receive src raw k = k m := by
  simp [State.receive, h1, h2, h3]

/-- A request that the device takes is served. -/
theorem State.Takes.receiveReq {k : Msg → State} (h : s.Takes src raw mtype m) : s.receiveReq src raw mtype k = (k m).takeUp m := by
  obtain ⟨h1, h2, h3, h4, h5, h6, h7, h8⟩ := h
  simp only [State.receiveReq, State.receive_eq h1 h2 h3, h4, h5, h6, h7, h8]
  simp

end Sys2Proof.Machine
end

