-- ==== Sys2Proof/WellFormed.lean ====
section
/-!
DEFINITION. Well-formed commands: the operands that only the environment knows lie in the ranges that the manual gives them.
-/

namespace Sys2Proof

/-- A word of a Bell (R29, R43) and symbol numbers 0 to 35, or 36 for a word from the wrong address (R46). -/
def Upset.wf (u : Upset) : Bool := decide (u.word < 2 ^ 33) && u.syms.all fun x => decide (x ≤ 36)

/-- Optical lines of a port (R242): 1 to 18, none twice. -/
def linesWf (l : List Nat) : Bool := l.all (fun x => decide (1 ≤ x) && decide (x ≤ 18)) && decide l.Nodup

/-- Lanes of one direction of a Seam link (R285): 0 to 67, none twice. -/
def seamLanesWf (l : List Nat) : Bool := l.all (fun x => decide (x < 68)) && decide l.Nodup

/-- Heaters of a Canopy (R249): 0 to 143. -/
def heaterOk (h : Nat) : Bool := decide (h < 144)

/-- A sweep (R243, R245): a heater and 14-bit codes. -/
def Sweep.wf (x : Sweep) : Bool :=
  heaterOk x.heater && x.codes.all (fun c => decide (c < 2 ^ 14)) && x.gap.all fun c => decide (c < 2 ^ 14)

/-- A dispatched row (R102, R103): cluster numbers in 16 bits and ranks 0 to 15. -/
def MoeRow.wf (x : MoeRow) : Bool := decide (x.clusters < 2 ^ 16) && decide (x.r < 16)

/-- The operands of a command are in range. -/
def Instr.wf : Instr → Bool
  | .rd _ _ ups => ups.all Upset.wf
  | .wr _ _ ups => ups.all Upset.wf
  | .scrubStep _ ups => ups.all Upset.wf
  | .commitSlotReadRelease _ _ ups => ups.all Upset.wf
  | .opMatmul _ _ ups => ups.all Upset.wf
  | .opAttn _ _ ups => ups.all Upset.wf
  | .opSoftmax _ _ ups => ups.all Upset.wf
  | .opNorm _ _ ups => ups.all Upset.wf
  | .opRope _ _ ups => ups.all Upset.wf
  | .opEltwise _ _ ups => ups.all Upset.wf
  | .opQuant _ _ ups => ups.all Upset.wf
  | .opMoeGate _ _ ups => ups.all Upset.wf
  | .opMoeDispatch _ _ ups => ups.all Upset.wf
  | .opSample _ _ ups => ups.all Upset.wf
  | .opKvAppend _ _ ups => ups.all Upset.wf
  | .opStage _ _ ups => ups.all Upset.wf
  | .opExpmax _ _ ups => ups.all Upset.wf
  | .moeDispatchReceive row => row.wf
  | .lightDetect _ lit => linesWf lit
  | .clockLock _ lines => linesWf lines
  | .lossOfSignal _ lines => linesWf lines
  | .lossOfSignalEnd _ lines => linesWf lines
  | .ringSearchDone _ sweeps => sweeps.all Sweep.wf
  | .lockLoopUpdate _ req lost => req.all (fun e => heaterOk e.1) && lost.all heaterOk
  | .seamTestDone _ badRtx badBtx => seamLanesWf badRtx && seamLanesWf badBtx
  | .inputUndervoltage cv => decide (cv < 2 ^ 16)
  | .inputOvervoltage cv => decide (cv < 2 ^ 16)
  | .inputOutOfRange cv => decide (cv < 2 ^ 16)
  | .inputQualified cv => decide (cv < 2 ^ 16)
  | .inputOvercurrent cv ca => decide (cv < 2 ^ 16) && decide (ca < 2 ^ 16)
  | .powerFail _ cv ca => decide (cv < 2 ^ 16) && decide (ca < 2 ^ 16)
  | .slotDiscovery _ modules _ _ => decide (modules ≤ 4)
  | _ => true

end Sys2Proof
end

