-- ==== Sys2Proof/Tests/Slice0.lean ====
section
/-!
SUPPORT. The model's own tests: an ill-formed command for each check of WellFormed, values of the manual's worked examples, and for each
statement of the certificates that has hypotheses a state and operands that meet them (theorem wit_ and the statement's name).
-/

set_option maxRecDepth 100000
set_option Elab.async false

namespace Sys2Proof.Tests
open Sys2Proof Sys2Proof.Machine

/-- A small Pitch image: device 5, an empty program of Bell 0 with one NOP, one pipeline and one collective. -/
def nop : List Byte := fit 60 (zeros 48 ++ le 2 0xFFFF)
def image : Store := { bytes := [
    (12, 5), (128, 1), (137, 16), (144, 112), (208, 6), (217, 32), (225, 2), (288, 7), (297, 48), (305, 2), (368, 8), (377, 64), (385, 2), (448, 4),
    (457, 80), (464, 32), (4096, 5), (4104, 1), (4128, 1), (4129, 1), (4136, 2), (4144, 1), (4145, 1), (4159, 3), (8196, 1), (8198, 1), (8304, 255),
    (8305, 255), (8316, 199), (8317, 107), (8318, 48), (8319, 40), (12288, 1), (12296, 1), (12320, 1), (12324, 36), (12328, 5), (16384, 1),
    (16392, 1), (16400, 10), (16404, 32), (16436, 48), (20480, 8), (20482, 1), (20499, 10), (20500, 1)] }

/-- The device with that image in force, its FTC the root's, and Bell 0 in service. -/
def live : State :=
  let s : State := { State.reset with pit := { force := image }, now := 2000000000000, ftc := 2000000000000 }
  let t : State := ((((s.setFld R.PIT_STAT F.PIT_STAT_ACTIVE 1).setFld R.PIT_STAT F.PIT_STAT_READY 1).setFld R.FTC_STAT F.FTC_STAT_STATE 5).setBellLive 0 true).setFld
    (R.SEAM_STAT 0) F.SEAM_STAT_ARMED 1
  (t.setFld (R.BEL_STAT 0) F.BEL_STAT_DRAM_INIT_DONE 1).setBell 0 { inReset := false, initPending := false }

/-- A request to device 5 from device 6. -/
def msg (t : Nat) (body : List Byte) : Msg := { mtype := t, dstNode := 5, srcNode := 6, tid := 7, origTick := live.ftc % 2 ^ 32, body := body }

theorem takesOf {s : State} {src : Entry} {raw : List Byte} {t : Nat} {m : Msg} (h : s.zfpFlows = true ∧ Msg.parse raw = some m ∧ s.partnerOk src m = true ∧ m.mtype = t ∧
    m.resp = false ∧ s.epochOk m = true ∧ reservedNode m.dstNode = false ∧ s.jrn.adopting.contains m.dstNode = false) : s.Takes src raw t m := h

def wo : WorkOrder := { WorkOrder.decode (zeros 128) with stream := 1, seq := 1, type := 1, pipe := 1 }
def part (ph : Phase) : Part := { home := 5, gen := 0, wo := wo, tick := 0, phase := ph, bells := [0] }
def ent (st : JState) : JEntry := { node := 5, wo := wo, sub := msg 0x10 [], st := st, lead := true }
def home : HomeSt := { node := 5, nextSeq := 2, pipe := 2, shards := [5, 6] }
def withEntry (st : JState) : State := { live with jrn := { own := [(3, ent st)], streams := [{ id := 1, home := some home }] } }
def withPart (ph : Phase) : State := { live with jrn := { parts := [part ph], streams := [{ id := 1 }] } }
def act (op : Nat) (done : Bool) : Active := ⟨0, { Desc.decode (zeros 64) with opcode := op, collId := 1, next := 0xFFFF }, done⟩
def running (op : Nat) (done : Bool) : RunSt := { stream := 1, seq := 1, next := 0xFFFF, begun := true, cur := [act op done] }
def withRun (r : RunSt) : State := (withPart .running).setBell 0 { inReset := false, initPending := false, runs := [r] }
def inst (a : Option (Nat × Nat)) : ColInst := { coll := 1, stream := 1, seq := 1, gen := 0, anchGot := [(0, 32)], resGot := [(0, 32)], aborted := a }
def coll : Coll := (image.coll? 1).getD ⟨0, 0, false, 0, false, false, 0, 0, 0, 0, 0, 0, 0, 0, 0, 0, 0, [], []⟩
def pipe : Pipe := (image.pipe? 1).getD ⟨0, 0, 0, 0, [], [], []⟩
def sect : Sect := (image.program 0).getD ⟨0, 0, 0, 0, 0⟩
def req (m : Msg) (w : Wait) (n : Nat) : State := { live with trn := { reqs := [{ msg := m, port := none, deadline := 0, resends := n, wait := w, purpose := .reload }] } }
def req1 (m : Msg) (w : Wait) (n : Nat) : Req := { msg := m, port := none, deadline := 0, resends := n, wait := w, purpose := .reload }
def compReq : State := { live with trn := { reqs := [{ req1 (msg 0x12 []) .none 0 with purpose := .completion 1 0 }] } }
def engine : State := { live with pwr := { dom := [(12, 0)] } }
def sequencer (r : RunSt) : State := { withRun r with pwr := { dom := [(domBell 0 2, 0)] } }
def comp : Comp := { node := 5, stream := 1, hctx := 0, dseq := 1, body := [], flow := 0, owner := true }
def poles (a b : PoleState) : State := { live with pole := { stA := a, stB := b } }
def sync (a : Option (Nat × Nat)) : State := { withRun (running 0x0E false) with col := { insts := [inst a] } }

/-- A port in a link state; a Canopy that runs; a ring in a state. -/
def port (p st : Nat) (q : PortSt) : State := (live.setLnk p st).setPort p q
def flit : Held := { seq := 0, payload := [] }
def canopy : State := (live.setSlot 0 { inReset := false }).setCanopy 0 {}
def ringAt (r : Ring) : State := canopy.setRing 0 0 r
def paramOf (lines ver flags echo : Nat) : List Byte := le 1 1 ++ le 1 32 ++ zeros 2 ++ le 1 1 ++ le 1 ver ++ le 1 flags ++ zeros 1 ++ le 3 lines ++ zeros 17 ++ le 4 echo
def nineLines : State := (live.setCanopy 0 { rings := (List.range 9).map fun r => (r, { st := 2, line := r + 1 }) }).setLnk 0 4
def timeAt (st : Nat) : State := { (live.setLnk 0 5).setFld R.FTC_STAT F.FTC_STAT_STATE st with time := { counting := true } }
def loops : State :=
  let s : State := { { live with ftc := 0, pins := { resetN := true } } with pwr := { dom := [(124, 0)] } }
  (((((s.setSlot 0 { inReset := false }).setLnk 0 5).setLnk 1 5).setFld (R.LNK_PEER 0) F.LNK_PEER_NODE 5).setFld (R.LNK_PEER 0) F.LNK_PEER_PORT 1).setFld (R.LNK_PEER 1) F.LNK_PEER_NODE 5
def flapAt (v : Nat) : State := live.setFld (R.OPT_FLAP_STAT 0) F.OPT_FLAP_STAT_STATE v
def entry0 : Entry3 := ⟨0, 0, 2, 2, 1⟩

/-- A Seam link in a state, with one direction's two sides; flits, descriptors and frames. -/
def seam (st : Nat) (d : SeamDir) : State := (live.setFld (R.SEAM_STAT 0) F.SEAM_STAT_STATE st).setSeam 0 { d0 := d, d1 := d }
def flitOf (body : List Byte) : List Byte := body ++ le 8 (crc64 body)
def smsg (t x : Nat) : List Byte := le 1 t ++ le 1 16 ++ le 1 x ++ zeros 1 ++ le 1 1 ++ zeros 11
def rearm : State := (seam 3 {}).setCrossing 0 { armAt := some 0, die := { drained := true } }
def slotDesc : List Byte := let d : List Byte := le 4 0x4C535447 ++ le 2 0x1C6B ++ zeros 5 ++ le 1 1 ++ zeros 48
  d ++ le 4 (crc32 d)
def eth (t hop n : Nat) : List Byte := live.mac 31 ++ zeros 6 ++ [0x86, 0xDD] ++ icmpPacket (zeros 16) (zeros 16) hop t (zeros n)
def advert : List Byte := live.mac 31 ++ zeros 6 ++ [0x86, 0xDD] ++ icmpPacket (zeros 16) (zeros 16) 255 136 (zeros 20 ++ [2, 1] ++ zeros 6)
def bridge : State := live.setPort 31 { pcs := [1] }
def hot (r : Region) : State := { live with pwr := { region := [(16, r)] } }
def fwUp (v : Nat) : State := { live with sec := { running := some false } }.setFld R.SEC_FW_INFO F.SEC_FW_INFO_SVN v

/-- A device with no sensor samples agrees with itself, and its latch is released. -/
theorem agrees {s : State} (h : s.pwr.sens = []) (i : Nat) : s.sensorAgrees i = true := by
  have e (j : Nat) : (s.sensor j).samples.isEmpty = true := by unfold State.sensor; rw [h]; rfl
  unfold State.sensorAgrees
  simp only [e]
  split <;> rfl

theorem releases {s : State} (h : s.pwr.sens = []) (h1 : s.fld R.THM_LATCH F.THM_LATCH_VALID = 1)
    (h2 : (s.fld R.PWR_STAT F.PWR_STAT_VIN_LOW == 1 || s.fld R.PWR_STAT F.PWR_STAT_VIN_HIGH == 1
      || (s.pwr.failed && (s.fld R.PWR_STAT F.PWR_STAT_FAIL == 1 || s.fld R.PWR_STAT F.PWR_STAT_FAIL == 2))) = false) : s.releaseResult = 1 := by
  have e (j : Nat) : (s.sensor j).samples.isEmpty = true := by unfold State.sensor; rw [h]; rfl
  have a : (dieSensors 0).all s.sensorAgrees = true := List.all_eq_true.2 fun i _ => agrees h i
  unfold State.releaseResult
  simp [h1, h2, e, a]

/-- The same image with a delta in SPARE, one LIVE word of POLICY and a POLICY section; every other pipeline entry absent. -/
def image2 : Store := { bytes := [
    (12, 8), (128, 1), (137, 16), (144, 112), (208, 6), (217, 32), (225, 2), (288, 7), (297, 48), (305, 2), (368, 8), (377, 64), (385, 2), (448, 4),
    (457, 80), (464, 32), (528, 12), (537, 96), (544, 64), (608, 11), (617, 112), (624, 12), (688, 10), (697, 128), (704, 64), (4096, 5), (4104, 1),
    (4128, 1), (4129, 1), (4136, 2), (4144, 1), (4145, 1), (4159, 3), (8196, 1), (8198, 1), (8304, 255), (8305, 255), (8316, 199), (8317, 107),
    (8318, 48), (8319, 40), (12288, 1), (12296, 1), (12306, 255), (12307, 255), (12308, 255), (12309, 255), (12310, 255), (12311, 255), (12312, 255),
    (12313, 255), (12314, 255), (12315, 255), (12316, 255), (12317, 255), (12318, 255), (12319, 255), (12320, 1), (12324, 36), (12328, 5), (16384, 1),
    (16392, 1), (16400, 10), (16404, 32), (16436, 48), (20480, 8), (20482, 1), (20499, 10), (20500, 1), (24576, 1), (24596, 32), (28672, 1),
    (28676, 10)] }
def delta0 : Delta := (image2.deltas[0]?).getD ⟨0, 0, 0, 0, 0, 0, 0⟩
def fw : State := { live with sec := { live.sec with running := some false } }
def fw2 : State := { fw with pit := { live.pit with force := image2 } }
def shadow (st : Shadow) (img : Store) : State := { fw with pit := { live.pit with shState := st, shadow := img } }
def actAt (st : Shadow) (n : Nat) : State := (shadow st {}).setPair R.PIT_ACT_TICK_LO R.PIT_ACT_TICK_HI n
def remapAt (n m : Nat) : State :=
  (({ fw2 with pit := { fw2.pit with remap := some (n, 0) } } : State).setFld R.ID_DIE_LIVE F.ID_DIE_LIVE_SLOT_LIVE m)
def sectOf (st : Store) (i : Nat) : Sect := (st.sects[i]?).getD ⟨0, 0, 0, 0, 0⟩

/-- An image without extents needs no more than the Ridge SRAM has (R117). -/
theorem placed {s : State} {st : Store} (h : s.badUnits st = none) (he : st.extents = [])
    (hr : ((((List.range 8).filter s.bellLive).flatMap fun b => (List.range 256).map fun r => st.regionDemand b (r / 64) (r % 64) - regionMax).foldl (· + ·) 0) = 0) :
    s.placeCheck st = none := by
  have k := Config.journalBytes.isLt
  have d : st.ridgeDemand - 268435456 = 0 := by
    unfold Store.ridgeDemand
    simp only [he, List.filter_nil, List.map_nil, List.foldl_nil]
    omega
  unfold State.placeCheck State.shortfall
  simp only [h, hr, d]
  rfl

/-- A work order of a stream with a sequence number, closed by its CRC; the device with that stream and, where asked, its entry. -/
def order (seq : Nat) : List Byte :=
  let b : List Byte := ({ WorkOrder.decode (zeros 128) with stream := 1, seq := seq, type := 5 } : WorkOrder).encode.take 124
  b ++ le 4 (crc32 b)
def orderState (st : JState) : State :=
  let s : State := { live with jrn := { own := [(3, { ent st with wo := WorkOrder.decode (order 1) })], streams := [{ id := 1, home := some home }] } }
  s.setFld R.WSQ_MIRROR_STAT F.WSQ_MIRROR_STAT_BUDDY_OK 1
def orderMet (s : State) (src : Entry) (raw : List Byte) (m : Msg) (c : Instr) (t : State) : Prop :=
  s.Takes src raw 0x10 m ∧
  (c = .woCommit src raw ∧ (WorkOrder.decode m.body).type = 2 ∨ c = .woDiscard src raw ∧ (WorkOrder.decode m.body).type = 3 ∨
    c = .woOpen src raw ∧ (WorkOrder.decode m.body).type = 4 ∨ c = .woClose src raw ∧ (WorkOrder.decode m.body).type = 5 ∨
    c = .woRun src raw ∧ ¬(2 ≤ (WorkOrder.decode m.body).type ∧ (WorkOrder.decode m.body).type ≤ 5)) ∧
  (match s.admitOrder m.body (WorkOrder.decode m.body) with
    | .accept => t = s.journalOrder m (WorkOrder.decode m.body)
    | .again i => ∀ e, s.jrn.own.find? (fun x => x.1 == i) = some (i, e) → t = s.respond m 0 (submitBody true 0 (WorkOrder.decode m.body) e.acceptTick)
    | .silent => t = s
    | .refuse r => t = s.notAccepted m (WorkOrder.decode m.body) r) ∧
  (∀ i, s.admitOrder m.body (WorkOrder.decode m.body) = .again i → ∃ e, s.jrn.own.find? (fun x => x.1 == i) = some (i, e))
theorem orderOf {s : State} {src : Entry} {raw : List Byte} {m : Msg} {c : Instr} (h : s.Takes src raw 0x10 m)
    (hc : c = .woClose src raw ∧ (WorkOrder.decode m.body).type = 5 ∨ c = .woRun src raw ∧ ¬(2 ≤ (WorkOrder.decode m.body).type ∧ (WorkOrder.decode m.body).type ≤ 5))
    (ha : ∀ i, s.admitOrder m.body (WorkOrder.decode m.body) = .again i → ∃ e, s.jrn.own.find? (fun x => x.1 == i) = some (i, e)) :
    ∃ t, orderMet s src raw m c t := by
  have hc' : (c = .woCommit src raw ∧ (WorkOrder.decode m.body).type = 2 ∨ c = .woDiscard src raw ∧ (WorkOrder.decode m.body).type = 3 ∨
    c = .woOpen src raw ∧ (WorkOrder.decode m.body).type = 4 ∨ c = .woClose src raw ∧ (WorkOrder.decode m.body).type = 5 ∨
    c = .woRun src raw ∧ ¬(2 ≤ (WorkOrder.decode m.body).type ∧ (WorkOrder.decode m.body).type ≤ 5)) := by
    rcases hc with k | k
    · exact .inr (.inr (.inr (.inl k)))
    · exact .inr (.inr (.inr (.inr k)))
  unfold orderMet
  cases e : s.admitOrder m.body (WorkOrder.decode m.body) with
  | accept => exact ⟨_, h, hc', rfl, by simp⟩
  | silent => exact ⟨_, h, hc', rfl, by simp⟩
  | refuse r => exact ⟨_, h, hc', rfl, by simp⟩
  | again i =>
    obtain ⟨x, hx⟩ := ha i e
    exact ⟨s.respond m 0 (submitBody true 0 (WorkOrder.decode m.body) x.acceptTick), h, hc', fun y hy => by rw [hx] at hy; cases hy; rfl, fun j hj => by cases hj; exact ⟨x, hx⟩⟩

/-- An upset word number past a Bell, and a symbol number past the last. -/
def badWord : List Upset := [⟨0, 2 ^ 33, [0]⟩]
def badSym : List Upset := [⟨0, 0, [37]⟩]
/-- Ill-formed commands, one for each check of WellFormed, which the check refuses: a word number or a symbol outside a Bell, lines and lanes
outside their range or named twice, a heater that does not exist, a code of more than 14 bits, a voltage of more than 16 bits. -/
theorem test_illFormed_refused : (
  [.rd .ridge [] badWord, .wr .ridge [] badSym, .scrubStep 0 badWord, .commitSlotReadRelease 0 0 badSym, .opMatmul 0 0 badWord, .opAttn 0 0 badSym,
   .opSoftmax 0 0 badWord, .opNorm 0 0 badSym, .opRope 0 0 badWord, .opEltwise 0 0 badSym, .opQuant 0 0 badWord, .opMoeGate 0 0 badSym,
   .opMoeDispatch 0 0 badWord, .opSample 0 0 badSym, .opKvAppend 0 0 badWord, .opStage 0 0 badSym, .opExpmax 0 0 badWord,
   .moeDispatchReceive ⟨0, 2 ^ 16, 0, 0, 0, 0, 0, []⟩, .moeDispatchReceive ⟨0, 1, 0, 0, 0, 16, 0, []⟩] ++
  [.lightDetect 0 [0], .clockLock 0 [19], .lossOfSignal 0 [1, 1], .lossOfSignalEnd 0 [0], .ringSearchDone 0 [⟨144, [], none, 0⟩],
   .ringSearchDone 0 [⟨0, [2 ^ 14], none, 0⟩], .ringSearchDone 0 [⟨0, [], some (2 ^ 14), 0⟩], .lockLoopUpdate 0 [(144, 0)] [], .lockLoopUpdate 0 [] [144],
   .seamTestDone 0 [68] [], .seamTestDone 0 [] [1, 1], .inputUndervoltage (2 ^ 16), .inputOvervoltage (2 ^ 16), .inputOutOfRange (2 ^ 16),
   .inputQualified (2 ^ 16), .inputOvercurrent (2 ^ 16) 0, .inputOvercurrent 0 (2 ^ 16), .powerFail 0 (2 ^ 16) 0, .powerFail 0 0 (2 ^ 16), .slotDiscovery 0 5 0 none] : List Instr).all (fun c => !c.wf) = true := by decide +kernel
theorem test_wellFormed_accepted : ([.rd .ridge [] [⟨0, 0, [36]⟩], .lightDetect 0 [1, 18], .lockLoopUpdate 0 [(143, 0)] [0], .slotDiscovery 0 4 0 none] : List Instr).all Instr.wf = true := by
  decide +kernel

/-- R64, R61: the worked example of quantising a block to MXFP4 (10.0, −0.7 and 2.9): bytes 0x96 and 0x03, scale 0x80 in byte 16. -/
theorem test_mxfp4_block :
    let l := (writeRow 4 false ([.fin false 10 0, decodeElem 10 0xBF333333, decodeElem 10 0x4039999A] ++ List.replicate 29 Machine.Num.zero)).1
    l.take 3 = [0x96, 0x03, 0x00] ∧ l[16]? = some 0x80 ∧ l.length = 64 := by decide +kernel

/-- R69, R71: the worked example of an exact dot product with truncation: its block exponent, its sum and its conversion to BF16 and FP32. -/
def exRow (l : List (Nat × Nat)) : Row := readRow 0 64 (((List.range 64).map fun i => BitVec.ofNat 8 ((l.lookup i).getD 0)) ++ [0x7F, 0x5C])
def exA : Row := exRow [(0, 0x3C), (1, 0x34), (32, 0xBF), (33, 0x39)]
def exB : Row := exRow [(0, 0xC2), (1, 0x2A), (32, 0x07), (33, 0x01)]
theorem test_exactDot : rowExp 0 0 exA exB = some 17 ∧ (esfSum (rowTerms exA exB) 18).2 = flInexact ∧
    unsigned 128 (esfSum (rowTerms exA exB) 18).1 = 0xFFFFFFFFFFFF8F7FFFFFFFFFFFFFFFFD := by decide +kernel
theorem test_esfToBf16 : (encodeElem 8 false (esfNum (esfSum (rowTerms exA exB) 18).1 18)).1 = 0xC061 ∧
    (encodeElem 10 false (esfNum (esfSum (rowTerms exA exB) 18).1 18)).1 = 0xC0610000 := by decide +kernel

/-- R124: the worked example of three contributors, then two: both give 0x3F80_0001. -/
theorem test_contributors : (encodeElem 10 false (esfNum (2 ^ 77 + 2 ^ 54) 18)).1 = 0x3F800001 := by decide +kernel

/-- The counter block of the worked example of a draw at position 1,005. -/
theorem test_counterBlock : sampleBlock 0x2A41 1005 false 0 = [0x41, 0x2A, 0, 0, 0xED, 3, 0, 0, 0xFF] ++ zeros 7 := by decide +kernel

/-- R423, R425: the centre of the north-west land, a signal land, a pin of the Guy line and a shield land of the signal field. -/
theorem test_lands : landCentre 1 1 = (-475, 475) ∧ landOf 95 85 = some .frefP ∧ landOf 94 83 = some (.gaddr 2) ∧ landOf 94 84 = some .gnd ∧ landOf 97 1 = none := by decide

/-- R427: a Type B trunk joins position n to 13 − n, and with it port 4k + q of one device to port 4j + q of the other, both ways. -/
theorem test_trunk_joinsPorts : ∀ q : Fin 4, fibreAt 2 (q + 1) = .tx (8 + q) ∧ fibreAt 5 (13 - (q + 1)) = .rx (20 + q) := by decide

/-- R429: with RESET_N low FAULT_N is released, REFOUT is low, a transmitter is dark and the flaps are closed. -/
theorem test_pins_inReset : State.reset.faultPin = .released ∧ State.reset.refoutPin = .low ∧ State.reset.transmits 0 = false ∧ State.reset.flapsClosed 0 = true := by
  decide +kernel

/-- A step of the device on a waiting command, and the word of no row. -/
theorem test_noWord : decodeTableWord 16 0 = none ∧ State.reset.withFetchWord 16 0 = State.reset := by decide +kernel
theorem test_stepTakesTheFront : ∃ t, step { live with pending := [.drop false, .verify false] } = .next t ∧ t.pending = [.verify false] ∧ t.now = live.now :=
  ⟨_, rfl, by decide +kernel, by decide +kernel⟩

/-- Work orders that meet the hypotheses of OrdersAreJudged, one for each outcome: refused, accepted, answered again, and left unanswered. -/
theorem wit_OrdersAreJudged :
    (∃ t, orderMet live .ridge (msg 0x10 (zeros 128)).encode (msg 0x10 (zeros 128)) (.woRun .ridge (msg 0x10 (zeros 128)).encode) t ∧
      live.admitOrder (zeros 128) (WorkOrder.decode (zeros 128)) = .refuse 2) ∧
    (∃ t, orderMet (orderState .accepted) .ridge (msg 0x10 (order 2)).encode (msg 0x10 (order 2)) (.woClose .ridge (msg 0x10 (order 2)).encode) t ∧
      (orderState .accepted).admitOrder (order 2) (WorkOrder.decode (order 2)) = .accept) ∧
    (∃ t, orderMet (orderState .accepted) .ridge (msg 0x10 (order 1)).encode (msg 0x10 (order 1)) (.woClose .ridge (msg 0x10 (order 1)).encode) t ∧
      (orderState .accepted).admitOrder (order 1) (WorkOrder.decode (order 1)) = .again 3) ∧
    (∃ t, orderMet (orderState .awaiting) .ridge (msg 0x10 (order 1)).encode (msg 0x10 (order 1)) (.woClose .ridge (msg 0x10 (order 1)).encode) t ∧
      (orderState .awaiting).admitOrder (order 1) (WorkOrder.decode (order 1)) = .silent) := by
  have a : live.admitOrder (zeros 128) (WorkOrder.decode (zeros 128)) = .refuse 2 := by decide +kernel
  have b : (orderState .accepted).admitOrder (order 2) (WorkOrder.decode (order 2)) = .accept := by decide +kernel
  have c : (orderState .accepted).admitOrder (order 1) (WorkOrder.decode (order 1)) = .again 3 := by decide +kernel
  have d : (orderState .awaiting).admitOrder (order 1) (WorkOrder.decode (order 1)) = .silent := by decide +kernel
  obtain ⟨t, h⟩ := orderOf (s := live) (m := msg 0x10 (zeros 128)) (c := .woRun .ridge (msg 0x10 (zeros 128)).encode) (takesOf (by decide +kernel)) (.inr ⟨rfl, by decide +kernel⟩) (fun i hi => nomatch a.symm.trans hi)
  obtain ⟨u, k⟩ := orderOf (s := orderState .accepted) (m := msg 0x10 (order 2)) (c := .woClose .ridge (msg 0x10 (order 2)).encode) (takesOf (by decide +kernel)) (.inl ⟨rfl, by decide +kernel⟩) (fun i hi => nomatch b.symm.trans hi)
  obtain ⟨v, l⟩ := orderOf (s := orderState .accepted) (m := msg 0x10 (order 1)) (c := .woClose .ridge (msg 0x10 (order 1)).encode) (takesOf (by decide +kernel)) (.inl ⟨rfl, by decide +kernel⟩)
    (fun i hi => by cases c.symm.trans hi; exact ⟨_, rfl⟩)
  obtain ⟨w, m⟩ := orderOf (s := orderState .awaiting) (m := msg 0x10 (order 1)) (c := .woClose .ridge (msg 0x10 (order 1)).encode) (takesOf (by decide +kernel)) (.inl ⟨rfl, by decide +kernel⟩) (fun i hi => nomatch d.symm.trans hi)
  exact ⟨⟨t, h, a⟩, ⟨u, k, b⟩, ⟨v, l, c⟩, ⟨w, m, d⟩⟩

/-- States and operands that meet the hypotheses of LaunchAtItsTick. -/
theorem wit_LaunchAtItsTick : (∃ (s : State) (stream : Nat) (seq : Nat) (i : Nat) (e : JEntry), s.inStrike = false ∧ s.entry? stream seq = some (i, e) ∧ e.st = .accepted ∧ e.lead = true ∧ e.launchTick ≤ s.ftc ∧ s.lossHold stream = false ∧ s.activationDue = false ∧ (s.putEntry i { e with st := .launched, startTick := s.ftc, late := decide (e.launchTick < s.ftc) || (e.wo.launchTick != 0 && decide (e.wo.launchTick < s.ftc)) }).part? stream seq = none) ∧
    (∃ (s : State) (stream : Nat) (seq : Nat) (p : Part), s.inStrike = false ∧ s.entry? stream seq = none ∧ s.part? stream seq = some p ∧ p.phase = .armed ∧ p.tick ≤ s.ftc ∧ s.lossHold stream = false ∧ s.mustWait p = false) ∧
    (∃ (s : State) (t : State) (src : Entry) (raw : List Byte) (m : Msg) (w : WorkOrder) (p : _), w = WorkOrder.decode ((m.body.drop 9).take 128) ∧ t = ((s.adoptShard w).armPart m.srcNode (leAt m.body 0 1) (leAt m.body 1 8) w).respond m 0 [] ∧ s.Takes src raw 0x20 m ∧ t.part? w.stream w.seq = some p) :=
  ⟨⟨withEntry .accepted, 1, 1, 3, ent .accepted, by decide +kernel⟩,
    ⟨withPart .armed, 1, 1, part .armed, by decide +kernel⟩,
    ⟨live, _, .ridge, (msg 0x20 (zeros 8)).encode, msg 0x20 (zeros 8), _, { home := 6, gen := 0, wo := WorkOrder.decode [], tick := 0 }, rfl, rfl, takesOf (by decide +kernel), by decide +kernel⟩⟩

/-- States and operands that meet the hypotheses of PartsReport. -/
theorem wit_PartsReport : (∃ (s : State) (stream : Nat) (seq : Nat) (p : Part), ((p.phase = .ended ∨ p.phase = .running ∧ p.bells = [])) ∧ s.part? stream seq = some p ∧ p.mirrors = 0 ∧ s.inStrike = false) ∧
    (∃ (s : State) (t : State) (stream : Nat) (p : Part) (q : Part) (st : Stream), t = s.endCopy stream st p ∧ (s.jrn.parts.find? (fun p => p.wo.stream == stream && p.phase == Phase.copying) = some p) ∧ s.stream? stream = some st ∧ t.part? stream p.wo.seq = some q) ∧
    (∃ (s : State) (src : Entry) (raw : List Byte) (m : Msg) (i : Nat) (e : JEntry), s.Takes src raw 0x22 m ∧ (s.respond m 0 []).entry? (Report.decode m.srcNode m.body).1 (Report.decode m.srcNode m.body).2.1 = some (i, e) ∧ e.st = .launched ∧ (Report.decode m.srcNode m.body).2.2.gen = e.gen ∧ ((s.respond m 0 []).shardSet (Report.decode m.srcNode m.body).1).contains (Report.decode m.srcNode m.body).2.2.node = true ∧ (e.reports.any (fun q => q.node == (Report.decode m.srcNode m.body).2.2.node) = false)) :=
  ⟨⟨withPart .ended, 1, 1, part .ended, .inl (by decide +kernel), by decide +kernel⟩,
    ⟨withPart .copying, _, 1, part .copying, { part .copying with phase := .ended }, { id := 1 }, rfl, by decide +kernel⟩,
    ⟨withEntry .launched, .ridge, (msg 0x22 (le 4 1 ++ le 8 1 ++ zeros 12)).encode, msg 0x22 (le 4 1 ++ le 8 1 ++ zeros 12), 3, ent .launched, takesOf (by decide +kernel), by decide +kernel⟩⟩

/-- States and operands that meet the hypotheses of MirrorsAndCompletions. -/
theorem wit_MirrorsAndCompletions : (∃ (s : State) (src : Entry) (raw : List Byte) (m : Msg), s.Takes src raw 0x26 m) ∧
    (∃ (s : State) (src : Entry) (raw : List Byte) (m : Msg), s.Takes src raw 0x24 m) ∧
    (∃ (s : State) (idx : Nat) (e : JEntry), (s.jrn.own.find? (fun x => x.1 == idx) = some (idx, e)) ∧ e.st = .awaiting ∧ e.acceptAt + s.timeoutNs * (s.retries + 1) ≤ s.now) ∧
    (∃ (s : State) (idx : Nat) (e : JEntry), (s.jrn.own.find? (fun x => x.1 == idx) = some (idx, e)) ∧ e.st = .delivered ∧ 16000000 + e.acceptTick ≤ s.ftc ∧ s.mirrorOut idx = false) ∧
    (∃ (s : State) (stream : Nat) (hctx : Nat) (n : Nat) (c : Comp), s.inStrike = false ∧ ((s.compsOf stream hctx).find? (fun c => !c.sent) = some c) ∧ s.bridgeOf hctx = some n ∧ ((s.compsOf stream hctx).filter (·.sent)).length < 16) ∧
    (∃ (s : State) (src : Entry) (raw : List Byte) (m : Msg), s.zfpFlows = true ∧ Msg.parse raw = some m ∧ s.partnerOk src m = true ∧ m.mtype = 0x13 ∧ m.resp = true ∧ m.status = 0 ∧ m.body.length = 16) ∧
    (∃ (s : State) (src : Entry) (raw : List Byte) (m : Msg), s.Takes src raw 0x14 m ∧ s.dedupCheck m = .execute) :=
  ⟨⟨live, .ridge, (msg 0x26 (zeros 16)).encode, msg 0x26 (zeros 16), takesOf (by decide +kernel)⟩,
    ⟨live, .ridge, (msg 0x24 (zeros 8)).encode, msg 0x24 (zeros 8), takesOf (by decide +kernel)⟩,
    ⟨withEntry .awaiting, 3, ent .awaiting, by decide +kernel⟩,
    ⟨withEntry .delivered, 3, ent .delivered, by decide +kernel⟩,
    ⟨{ live with jrn := { comps := [comp] }, trn := { homes := [(0, some 9)] } }, 1, 0, 9, comp, by decide +kernel⟩,
    ⟨live, .ridge, ({ msg 0x13 (zeros 16) with resp := true }).encode, { msg 0x13 (zeros 16) with resp := true }, by decide +kernel⟩,
    ⟨live, .ridge, (msg 0x14 (zeros 16)).encode, msg 0x14 (zeros 16), takesOf (by decide +kernel), by decide +kernel⟩⟩

/-- States and operands that meet the hypotheses of PolesAndStrike. -/
theorem wit_PolesAndStrike : (∃ (key : BitVec 32), key ≠ 0x5354524B) ∧
    (∃ (s : State) (x : StrikeSt), s.flt.strike = some x ∧ x.steps = []) ∧
    (∃ (s : State) (b : Bool) (cause : Fin 8) (cycle : Nat), s.inStrike = false ∧ s.poleOf b = .active ∧ (s.pulse (if b then 3 else 2) (le 1 (b2n b) ++ le 1 cause.val ++ le 2 0 ++ le 8 cycle)).stbyOk = true ∧ ((s.pulse (if b then 3 else 2) (le 1 (b2n b) ++ le 1 cause.val ++ le 2 0 ++ le 8 cycle)).noteGiveUp b).2 < 3) ∧
    (∃ (s : State) (b : Bool), s.inStrike = false ∧ ((s.poleOf b = .active ∨ s.poleOf b = .standby))) ∧
    (∃ (s : State) (b : Bool), s.poleOf b = .test ∧ s.inStrike = false) ∧
    (∃ (s : State) (b : Bool), s.poleOf b = .resync ∧ s.inStrike = false) ∧
    (∃ (s : State), s.stbyOk = true ∧ s.inStrike = false) :=
  ⟨⟨0, by decide +kernel⟩,
    ⟨{ live with flt := { strike := some { cause := 30, at_ := 0, steps := [] } } }, { cause := 30, at_ := 0, steps := [] }, by decide +kernel⟩,
    ⟨poles .active .standby, false, 1, 0, by decide +kernel⟩,
    ⟨poles .active .standby, true, by decide +kernel⟩,
    ⟨poles .active .test, true, by decide +kernel⟩,
    ⟨poles .active .resync, true, by decide +kernel⟩,
    ⟨poles .active .standby, by decide +kernel⟩⟩

/-- States and operands that meet the hypotheses of DramKept. -/
theorem wit_DramKept : (∃ (s : State) (b : Fin 8), (s.bell b.val).initPending = true ∧ (s.bell b.val).inReset = false ∧ s.seamState b.val ≠ 3 ∧ ((((s.clearDram b.val).onBell b.val (fun x => { x with initPending := false, poison := [] })).setFld (R.BEL_STAT b.val) F.BEL_STAT_DRAM_INIT_DONE 1).seamState b.val ≠ 3)) ∧
    (∃ (s : State) (b : Fin 8) (die : Fin 4) (bse : Fin 64) (bank : Fin 16), (SMap.get (fun _ => 0) (s.bell b.val).refAt ((die.val * 64 + bse.val) * 16 + bank.val) + refreshNs (s.fld (R.BEL_REFRESH b.val) (F.BEL_REFRESH_RATE die.val)) ≤ s.now)) ∧
    (∃ (s : State) (b : Fin 8), (s.bell b.val).inReset = false ∧ (s.bell b.val).retired = false ∧ (s.bell b.val).initPending = false ∧ s.fld (R.BEL_SCRUB_CTL b.val) F.BEL_SCRUB_CTL_EN ≠ 0 ∧ s.inStrike = false ∧ ((s.scrubRoll b.val).bell b.val).scrubNext < scrubWords) :=
  ⟨⟨State.reset.setBell 0 { inReset := false }, 0, by decide +kernel⟩,
    ⟨{ live with now := 3900 }, 7, 3, 63, 15, by decide +kernel⟩,
    ⟨(live.setBell 0 { inReset := false, initPending := false, scrubFrom := some live.now }).setFld (R.BEL_SCRUB_CTL 0) F.BEL_SCRUB_CTL_EN 1, 0, by decide +kernel⟩⟩

/-- States and operands that meet the hypotheses of CollectivesAndReceives. -/
theorem wit_CollectivesAndReceives : (∃ (s : State) (src : Entry) (raw : List Byte) (e : Bool) (m : Msg) (c : Coll) (k : Nat) (i : Instr), s.Takes src raw 0x28 m ∧ ((k = 1 ∧ i = .expPartial src raw e ∨ k = 3 ∧ i = .colPartial src raw e)) ∧ s.inStrike = false ∧ s.colTakes (ColHdr.decode m.body) = true ∧ (ColHdr.decode m.body).kind = k ∧ (ColHdr.decode m.body).gen = ((s.respond m 0 []).reg R.COL_MAP_GEN).toNat % 256 ∧ (s.respond m 0 []).img.coll? (ColHdr.decode m.body).coll = some c ∧ (ColHdr.decode m.body).count ≠ 0 ∧ (ColHdr.decode m.body).off + (ColHdr.decode m.body).count ≤ c.elems ∧ (m.body.drop 32).length = payloadLen k (ColHdr.decode m.body).fmt (ColHdr.decode m.body).count) ∧
    (∃ (s : State) (src : Entry) (raw : List Byte) (m : Msg) (c : Coll) (k : Nat) (i : Instr), s.Takes src raw 0x28 m ∧ ((k = 2 ∧ i = .expResult src raw ∨ k = 4 ∧ i = .colResult src raw)) ∧ s.inStrike = false ∧ s.colTakes (ColHdr.decode m.body) = true ∧ (ColHdr.decode m.body).kind = k ∧ (ColHdr.decode m.body).gen = ((s.respond m 0 []).reg R.COL_MAP_GEN).toNat % 256 ∧ (s.respond m 0 []).img.coll? (ColHdr.decode m.body).coll = some c ∧ (ColHdr.decode m.body).count ≠ 0 ∧ (ColHdr.decode m.body).off + (ColHdr.decode m.body).count ≤ c.elems ∧ (m.body.drop 32).length = payloadLen k (ColHdr.decode m.body).fmt (ColHdr.decode m.body).count) ∧
    (∃ (s : State) (src : Entry) (raw : List Byte) (m : Msg) (c : Coll), s.Takes src raw 0x28 m ∧ s.inStrike = false ∧ s.colTakes (ColHdr.decode m.body) = true ∧ (ColHdr.decode m.body).kind = 5 ∧ (ColHdr.decode m.body).gen = ((s.respond m 0 []).reg R.COL_MAP_GEN).toNat % 256 ∧ (s.respond m 0 []).img.coll? (ColHdr.decode m.body).coll = some c) ∧
    (∃ (s : State) (n : Nat) (x : ColInst), s.col.insts[n]? = some x ∧ x.closed = false ∧ x.stalled = false ∧ x.lastMsg + 1000 * s.fld R.COL_TIMEOUT F.COL_TIMEOUT_US ≤ s.now ∧ s.inStrike = false) ∧
    (∃ (s : State) (b : Fin 8) (run : Nat) (r : RunSt) (a : Active) (x : ColInst) (c : Coll), s.bellRuns b.val = true ∧ (s.bell b.val).runs[run]? = some r ∧ (r.cur.find? (fun a => !a.done && a.d.opcode == 0x0E) = some a) ∧ s.inst? a.d.collId r.stream r.seq s.mapGen = some x ∧ s.img.coll? a.d.collId = some c ∧ x.aborted = none ∧ (x.delivered c (SMap.get (fun _ => 0) r.sent a.d.collId) = true)) ∧
    (∃ (s : State) (b : Fin 8) (run : Nat) (r : RunSt) (a : Active) (x : ColInst) (c : Coll) (err : _), s.bellRuns b.val = true ∧ (s.bell b.val).runs[run]? = some r ∧ (r.cur.find? (fun a => !a.done && a.d.opcode == 0x0E) = some a) ∧ s.inst? a.d.collId r.stream r.seq s.mapGen = some x ∧ s.img.coll? a.d.collId = some c ∧ x.aborted = some (1, err)) ∧
    (∃ (s : State) (b : Fin 8) (run : Nat) (r : RunSt) (a : Active) (x : ColInst) (c : Coll) (err : _), s.bellRuns b.val = true ∧ (s.bell b.val).runs[run]? = some r ∧ (r.cur.find? (fun a => !a.done && a.d.opcode == 0x0E) = some a) ∧ s.inst? a.d.collId r.stream r.seq s.mapGen = some x ∧ s.img.coll? a.d.collId = some c ∧ x.aborted = some (3, err)) ∧
    (∃ (s : State) (row : MoeRow), s.inStrike = false ∧ s.bellRuns row.bell.val = true ∧ s.moeOpen row.bell.val = true) :=
  ⟨⟨engine, .ridge, (msg 0x28 (le 1 3 ++ zeros 1 ++ le 1 10 ++ zeros 1 ++ le 4 1 ++ le 4 1 ++ le 8 1 ++ zeros 6 ++ le 2 1 ++ le 4 31 ++ zeros 4)).encode, false, msg 0x28 (le 1 3 ++ zeros 1 ++ le 1 10 ++ zeros 1 ++ le 4 1 ++ le 4 1 ++ le 8 1 ++ zeros 6 ++ le 2 1 ++ le 4 31 ++ zeros 4), coll, 3, .colPartial .ridge (msg 0x28 (le 1 3 ++ zeros 1 ++ le 1 10 ++ zeros 1 ++ le 4 1 ++ le 4 1 ++ le 8 1 ++ zeros 6 ++ le 2 1 ++ le 4 31 ++ zeros 4)).encode false, takesOf (by decide +kernel), .inr ⟨rfl, rfl⟩, by decide +kernel⟩,
    ⟨engine, .ridge, (msg 0x28 (le 1 2 ++ zeros 1 ++ le 1 10 ++ zeros 1 ++ le 4 1 ++ le 4 1 ++ le 8 1 ++ zeros 6 ++ le 2 1 ++ le 4 31 ++ zeros 2)).encode, msg 0x28 (le 1 2 ++ zeros 1 ++ le 1 10 ++ zeros 1 ++ le 4 1 ++ le 4 1 ++ le 8 1 ++ zeros 6 ++ le 2 1 ++ le 4 31 ++ zeros 2), coll, 2, .expResult .ridge (msg 0x28 (le 1 2 ++ zeros 1 ++ le 1 10 ++ zeros 1 ++ le 4 1 ++ le 4 1 ++ le 8 1 ++ zeros 6 ++ le 2 1 ++ le 4 31 ++ zeros 2)).encode, takesOf (by decide +kernel), .inl ⟨rfl, rfl⟩, by decide +kernel⟩,
    ⟨engine, .ridge, (msg 0x28 (le 1 5 ++ zeros 1 ++ le 1 10 ++ zeros 1 ++ le 4 1 ++ le 4 1 ++ le 8 1 ++ zeros 6 ++ le 2 1 ++ le 4 31 ++ zeros 0)).encode, msg 0x28 (le 1 5 ++ zeros 1 ++ le 1 10 ++ zeros 1 ++ le 4 1 ++ le 4 1 ++ le 8 1 ++ zeros 6 ++ le 2 1 ++ le 4 31 ++ zeros 0), coll, takesOf (by decide +kernel), by decide +kernel⟩,
    ⟨{ live with col := { insts := [inst none] } }, 0, inst none, by decide +kernel⟩,
    ⟨sync none, 0, 0, running 0x0E false, act 0x0E false, inst none, coll, by decide +kernel⟩,
    ⟨sync (some (1, 2)), 0, 0, running 0x0E false, act 0x0E false, inst (some (1, 2)), coll, 2, by decide +kernel⟩,
    ⟨sync (some (3, 2)), 0, 0, running 0x0E false, act 0x0E false, inst (some (3, 2)), coll, 2, by decide +kernel⟩,
    ⟨live, ⟨0, 1, 0, 64, 255, 0, 0, []⟩, by decide +kernel⟩⟩

/-- States and operands that meet the hypotheses of RunsGoThrough. -/
theorem wit_RunsGoThrough : (∃ (s : State) (b : Fin 8) (stream : Nat) (seq : Nat) (p : Part), s.part? stream seq = some p ∧ p.phase = .running ∧ p.bells.contains b.val = true ∧ s.bellRuns b.val = true ∧ ((s.bell b.val).runs.any (fun r => r.stream == stream && r.seq == seq) = false) ∧ (s.bell b.val).queue.contains (stream, seq) = false ∧ (s.bell b.val).held.contains (stream, seq) = false ∧ s.earlierRun b.val stream seq = false) ∧
    (∃ (s : State) (b : Fin 8) (x : Nat × Nat) (l : List (Nat × Nat)), (s.bell b.val).held = x :: l ∧ (s.bell b.val).queue.length < 64 ∧ s.bellRuns b.val = true) ∧
    (∃ (s : State) (s1 : State) (b : Fin 8) (run : Nat) (r : RunSt) (p : Part) (q : Pipe) (x : Sect) (d0 : Desc) (a : Bool × Desc), d0 = Desc.decode (s.img.descBytes x r.next) ∧ s1 = (if r.begun then s else s.runPrologue b.val p q.tokenOff) ∧ s.bellRuns b.val = true ∧ (s.bell b.val).runs[run]? = some r ∧ s.part? r.stream r.seq = some p ∧ s.img.pipe? p.wo.pipe = some q ∧ s.img.program b.val = some x ∧ r.next ≠ 0xFFFF ∧ p.wo.ntok ≤ p.input.length ∧ fetchable r d0 = true ∧ s.sequencerRuns b.val d0.clusters = true ∧ d0.crcOk = true ∧ a = applyRefs q p.wo b.val r.next d0 ∧ ((a.1 = true → s1.refOk b.val a.2 = true ∧ s1.refUseOk b.val q p.wo r.next a.2 = true))) ∧
    (∃ (s : State) (s1 : State) (b : Fin 8) (run : Nat) (r : RunSt) (a : Active), (s1 = (s.freshNat.2.addFld (R.BEL_CYC_BUSY b.val) whole s.freshNat.1).onBell b.val (fun x => x.used a.d.clusters s.now)) ∧ s.bellRuns b.val = true ∧ (s.bell b.val).runs[run]? = some r ∧ r.cur.find? (·.done) = some a ∧ s.stagePending b.val r = false) :=
  ⟨⟨withPart .running, 0, 1, 1, part .running, by decide +kernel⟩,
    ⟨live.setBell 0 { inReset := false, held := [(1, 1)] }, 0, (1, 1), [], by decide +kernel⟩,
    ⟨sequencer { running 0 false with next := 0, begun := false, cur := [] }, _, 0, 0, { running 0 false with next := 0, begun := false, cur := [] }, part .running, pipe, sect, _, (false, Desc.decode (nop ++ le 4 (crc32 nop))), rfl, rfl, by decide +kernel⟩,
    ⟨withRun (running 0 true), _, 0, 0, running 0 true, act 0 true, rfl, by decide +kernel⟩⟩

/-- States and operands that meet the hypotheses of OperationsRun. -/
theorem wit_OperationsRun : ∃ (s : State) (b : Fin 8) (run : Nat) (ups : List Upset) (r : RunSt) (a : Active) (p : Part) (i : Instr) (op : Nat) (f : Part → Desc → RunSt → State → Acc), ((i = .opNop b run ∧ op = 0 ∧ f = (fun _ _ _ t => { s := t }) ∨ i = .opMatmul b run ups ∧ op = 1 ∧ f = matmulOp b ups ∨ i = .opAttn b run ups ∧ op = 2 ∧ f = attnOp b ups ∨ i = .opSoftmax b run ups ∧ op = 3 ∧ f = softmaxOp b ups ∨ i = .opNorm b run ups ∧ op = 4 ∧ f = normOp b ups ∨ i = .opRope b run ups ∧ op = 5 ∧ f = ropeOp b ups ∨ i = .opEltwise b run ups ∧ op = 6 ∧ f = eltwiseOp b ups ∨ i = .opQuant b run ups ∧ op = 7 ∧ f = quantOp b ups ∨ i = .opMoeGate b run ups ∧ op = 8 ∧ f = moeGateOp b ups ∨ i = .opMoeDispatch b run ups ∧ op = 9 ∧ f = moeDispatchOp b ups ∨ i = .opSample b run ups ∧ op = 10 ∧ f = sampleOp b ups ∨ i = .opKvAppend b run ups ∧ op = 11 ∧ f = kvAppendOp b ups ∨ i = .opStage b run ups ∧ op = 12 ∧ f = stageOp b ups ∨ i = .opExpmax b run ups ∧ op = 13 ∧ f = expmaxOp b ups)) ∧ s.bellRuns b.val = true ∧ (s.bell b.val).runs[run]? = some r ∧ (r.cur.find? (fun a => !a.done && a.d.opcode == op) = some a) ∧ s.part? r.stream r.seq = some p ∧ clustersFree (s.bell b.val).runs run a = true ∧ s.canSend p a.d = true :=
  ⟨withRun (running 1 false), 0, 0, [], running 1 false, act 1 false, part .running, .opMatmul 0 0 [], 1, matmulOp 0 [], .inr (.inl ⟨rfl, rfl, rfl⟩), by decide +kernel⟩

/-- States and operands that meet the hypotheses of ServesBellMemory. -/
theorem wit_ServesBellMemory : (∃ (s : State) (src : Entry) (raw : List Byte) (m : Msg) (addr : Nat) (n : Nat) (k : Nat), s.Takes src raw 2 m ∧ rangeOf false m.body = some (addr, n) ∧ s.accessCheck src addr n false = none ∧ ((s.whereIs (bits addr 43 39) (addr % 2 ^ 39) n = .region k ∨ s.whereIs (bits addr 43 39) (addr % 2 ^ 39) n = .buffer k))) ∧
    (∃ (s : State) (src : Entry) (raw : List Byte) (m : Msg) (addr : Nat) (n : Nat) (c : Nat), s.Takes src raw 2 m ∧ rangeOf false m.body = some (addr, n) ∧ s.accessCheck src addr n false = some c) ∧
    (∃ (s : State) (node : Nat) (tid : Nat) (r : WaitRead), (s.trn.reads.find? (fun r => r.msg.srcNode == node && r.msg.tid == tid) = some r) ∧ s.copyFilled r.stream = true) ∧
    (∃ (s : State) (t : State) (src : Entry) (raw : List Byte) (ups : List Upset) (m : Msg) (addr : Nat) (n : Nat) (k : Nat) (e : Option RdErr), s.Takes src raw 4 m ∧ rangeOf true m.body = some (addr, n) ∧ s.accessCheck src addr n true = none ∧ s.whereIs (bits addr 43 39) (addr % 2 ^ 39) n = .region k ∧ s.dedupCheck m = .execute ∧ s.writeRange (bits addr 43 39 - 1) (addr % 2 ^ 39) (m.body.drop 16) ups = (t, e)) ∧
    (∃ (s : State) (src : Entry) (raw : List Byte) (m : Msg) (r : Msg) (addr : Nat) (n : Nat) (k : Nat), s.Takes src raw 4 m ∧ rangeOf true m.body = some (addr, n) ∧ s.whereIs (bits addr 43 39) (addr % 2 ^ 39) n = .region k ∧ s.dedupCheck m = .held r) :=
  ⟨⟨live, .ridge, (msg 2 (le 8 (2 ^ 39) ++ le 4 8 ++ zeros 4)).encode, msg 2 (le 8 (2 ^ 39) ++ le 4 8 ++ zeros 4), 2 ^ 39, 8, 0, takesOf (by decide +kernel), by decide +kernel⟩,
    ⟨live.setBell 0 {}, .ridge, (msg 2 (le 8 (2 ^ 39) ++ le 4 8 ++ zeros 4)).encode, msg 2 (le 8 (2 ^ 39) ++ le 4 8 ++ zeros 4), 2 ^ 39, 8, 7, takesOf (by decide +kernel), by decide +kernel⟩,
    ⟨{ live with trn := { reads := [⟨.ridge, msg 2 [], 1⟩] } }, 6, 7, ⟨.ridge, msg 2 [], 1⟩, by decide +kernel⟩,
    ⟨live, live.writeMem 0 0 (zeros 8), .ridge, (msg 4 (le 8 (2 ^ 39) ++ le 4 8 ++ zeros 4 ++ zeros 8)).encode, [], msg 4 (le 8 (2 ^ 39) ++ le 4 8 ++ zeros 4 ++ zeros 8), 2 ^ 39, 8, 0, none, takesOf (by decide +kernel), by decide +kernel⟩,
    ⟨{ live with trn := { dedup := [⟨6, 0, 7, some (msg 5 []), 0⟩] } }, .ridge, (msg 4 (le 8 (2 ^ 39) ++ le 4 8 ++ zeros 4 ++ zeros 8)).encode, msg 4 (le 8 (2 ^ 39) ++ le 4 8 ++ zeros 4 ++ zeros 8), msg 5 [], 2 ^ 39, 8, 0, takesOf (by decide +kernel), by decide +kernel⟩⟩

/-- States and operands that meet the hypotheses of RegisterMessagesServed. -/
theorem wit_RegisterMessagesServed : (∃ (s : State) (src : Entry) (raw : List Byte) (m : Msg) (a : Nat), s.Takes src raw 6 m ∧ m.body.length = 8 ∧ s.regAddr (leAt m.body 0 8) = .inr a) ∧
    (∃ (s : State) (src : Entry) (raw : List Byte) (m : Msg) (c : Nat), s.Takes src raw 6 m ∧ m.body.length = 8 ∧ s.regAddr (leAt m.body 0 8) = .inl c) ∧
    (∃ (s : State) (t : State) (src : Entry) (raw : List Byte) (m : Msg) (a : Nat) (st : Nat), s.ctlWrite src (m.srcDie == 0) a (leAt m.body 8 4) = (st, t) ∧ s.Takes src raw 8 m ∧ m.body.length = 16 ∧ leAt m.body 12 4 = 0 ∧ s.dedupCheck m = .execute ∧ s.regAddr (leAt m.body 0 8) = .inr a) :=
  ⟨⟨live, .ridge, (msg 6 (le 8 0x7F00000000)).encode, msg 6 (le 8 0x7F00000000), 0, takesOf (by decide +kernel), by decide +kernel⟩,
    ⟨live, .ridge, (msg 6 (zeros 8)).encode, msg 6 (zeros 8), 3, takesOf (by decide +kernel), by decide +kernel⟩,
    ⟨live, _, .ridge, (msg 8 (le 8 0x7F00000000 ++ zeros 8)).encode, msg 8 (le 8 0x7F00000000 ++ zeros 8), 0, (live.ctlWrite .ridge true 0 0).1, rfl, takesOf (by decide +kernel), by decide +kernel⟩⟩

/-- States and operands that meet the hypotheses of RequestsEnd. -/
theorem wit_RequestsEnd : (∃ (s : State) (src : Entry) (raw : List Byte) (m : Msg), ((∀ k, src = .slot k → m.resp = false)) ∧ s.zfpFlows = true ∧ Msg.parse raw = some m ∧ s.partnerOk src m = true) ∧
    (∃ (s : State) (src : Entry) (raw : List Byte) (m : Msg) (k : _), s.zfpFlows = true ∧ Msg.parse raw = some m ∧ s.partnerOk src m = true ∧ src = .slot k ∧ m.resp = true) ∧
    (∃ (s : State) (src : Entry) (raw : List Byte) (m : Msg) (r : Req), s.zfpFlows = true ∧ Msg.parse raw = some m ∧ s.partnerOk src m = true ∧ m.resp = true ∧ s.req? m.tid = some r ∧ m.mtype = r.msg.mtype + 1 ∧ m.dstNode = s.node) ∧
    (∃ (s : State) (tid : Nat) (r : Req) (a : _) (b : _), s.req? tid = some r ∧ r.deadline ≤ s.now ∧ s.inStrike = false ∧ r.wait = .none ∧ r.purpose = .completion a b) ∧
    (∃ (s : State) (tid : Nat) (r : Req), ((∀ a b, r.purpose ≠ .completion a b)) ∧ s.req? tid = some r ∧ r.deadline ≤ s.now ∧ s.inStrike = false ∧ r.wait = .none ∧ r.resends < s.retries) ∧
    (∃ (s : State) (tid : Nat) (r : Req), ((∀ a b, r.purpose ≠ .completion a b)) ∧ s.req? tid = some r ∧ r.deadline ≤ s.now ∧ s.inStrike = false ∧ r.wait = .none ∧ s.retries ≤ r.resends ∧ mclass r.msg.mtype = .selfDedup) ∧
    (∃ (s : State) (tid : Nat) (r : Req), ((∀ a b, r.purpose ≠ .completion a b)) ∧ s.req? tid = some r ∧ r.deadline ≤ s.now ∧ s.inStrike = false ∧ r.wait = .none ∧ s.retries ≤ r.resends ∧ mclass r.msg.mtype ≠ .selfDedup) ∧
    (∃ (s : State) (tid : Nat) (r : Req), s.req? tid = some r ∧ r.waitUntil ≤ s.now ∧ s.inStrike = false ∧ r.wait = .inReset ∧ s.age r.msg.origTick < 10000000) ∧
    (∃ (s : State) (tid : Nat) (r : Req), s.req? tid = some r ∧ r.waitUntil ≤ s.now ∧ s.inStrike = false ∧ r.wait = .busy ∧ s.age r.msg.origTick ≤ 12000000) :=
  ⟨⟨live, .ridge, (msg 2 ([])).encode, msg 2 ([]), by simp, by decide +kernel⟩,
    ⟨(live.setSlot 0 { inReset := false }), .slot 0, ({ msg 3 [] with resp := true }).encode, { msg 3 [] with resp := true }, 0, by decide +kernel⟩,
    ⟨req (msg 2 []) .none 0, .ridge, ({ msg 3 [] with resp := true }).encode, { msg 3 [] with resp := true }, req1 (msg 2 []) .none 0, by decide +kernel⟩,
    ⟨compReq, 7, { req1 (msg 0x12 []) .none 0 with purpose := .completion 1 0 }, 1, 0, by decide +kernel⟩,
    ⟨req (msg 2 []) .none 0, 7, req1 (msg 2 []) .none 0, by simp [req1], by decide +kernel⟩,
    ⟨req (msg 0x20 []) .none 99, 7, req1 (msg 0x20 []) .none 99, by simp [req1], by decide +kernel⟩,
    ⟨req (msg 2 []) .none 99, 7, req1 (msg 2 []) .none 99, by simp [req1], by decide +kernel⟩,
    ⟨req (msg 2 []) .inReset 0, 7, req1 (msg 2 []) .inReset 0, by decide +kernel⟩,
    ⟨req (msg 2 []) .busy 0, 7, req1 (msg 2 []) .busy 0, by decide +kernel⟩⟩

/-- States and operands that meet the hypotheses of GuyLineServes. -/
theorem wit_GuyLineServes : (∃ (s : State) (addr : BitVec 32), s.guyUp = true ∧ (s.ctlRead .guy addr.toNat).1 = 0) ∧
    (∃ (s : State) (addr : BitVec 32), s.guyUp = true ∧ (s.ctlRead .guy addr.toNat).1 ≠ 0) ∧
    (∃ (s : State), s.guyUp = true ∧ s.recovery = false) ∧
    (∃ (s : State) (words : List (BitVec 32)), s.guyUp = true ∧ s.recovery = false ∧ 1 ≤ words.length ∧ words.length ≤ 256) ∧
    (∃ (s : State) (n : _), s.guyUp = true ∧ s.recovery = false ∧ 1 ≤ n ∧ n ≤ 256) ∧
    (∃ (s : State) (setdasa : Bool) (static : BitVec 7) (dyn : BitVec 7), ((setdasa = true → static.toNat = 0x58 + s.pins.gaddr % 8)) ∧ s.guyUp = true ∧ s.fld R.SEC_GUY_STAT F.SEC_GUY_STAT_DYN_ADDR = 0 ∧ dyn ≠ 0) ∧
    (∃ (s : State) (eid : Byte), s.guyUp = true ∧ eid ≠ 0 ∧ eid ≠ 0xFF) ∧
    (∃ (s : State), s.guyUp = true ∧ s.recovery = false) ∧
    (∃ (s : State), s.guyUp = true) :=
  ⟨⟨live, 0, by decide +kernel⟩,
    ⟨live, 2, by decide +kernel⟩,
    ⟨live, by decide +kernel⟩,
    ⟨live, [0], by decide +kernel⟩,
    ⟨live, 256, by decide +kernel⟩,
    ⟨live, false, 0, 9, by decide, by decide +kernel⟩,
    ⟨live, 9, by decide +kernel⟩,
    ⟨live, by decide +kernel⟩,
    ⟨live, by decide +kernel⟩⟩

/-- States and operands that meet the hypotheses of FlitsAndReplay. -/
theorem wit_FlitsAndReplay : (∃ (s : State), s.inStrike = false) ∧
    (∃ (s : State) (p : Fin 40), s.inStrike = false ∧ s.lnk p.val = 5 ∧ s.inWindowNow p.val = true ∧ s.txW p.val ≠ 0 ∧ (s.port p.val).resume ≠ 2 ∧ ((s.port p.val).marks.find? (fun m => decide (m.1 ≤ s.ftc)) = none) ∧ s.markDue p.val = true) ∧
    (∃ (s : State) (p : Fin 40) (line : Fin 20) (marker : List Byte), s.inStrike = false ∧ 2 ≤ s.lnk p.val ∧ s.lnk p.val ≤ 5 ∧ s.portDark p.val = false ∧ s.hears p.val = true ∧ (s.port p.val).inverted.contains line.val = false ∧ marker.take 4 ≠ markSyncInv) ∧
    (∃ (s : State) (p : Fin 40) (line : Fin 20) (marker : List Byte), s.inStrike = false ∧ 2 ≤ s.lnk p.val ∧ s.lnk p.val ≤ 5 ∧ s.portDark p.val = false ∧ s.hears p.val = true ∧ (s.port p.val).inverted.contains line.val = false ∧ marker.take 4 = markSyncInv) ∧
    (∃ (s : State) (p : Fin 40) (t : Nat), s.inStrike = false ∧ s.isActive p.val = true ∧ t + s.rtt p.val + 500 ≤ s.linkNow p.val ∧ (s.port p.val).rxData.nakAt = some t) ∧
    (∃ (s : State) (p : Fin 40) (t : Nat), s.inStrike = false ∧ s.isActive p.val = true ∧ t + s.rtt p.val + 500 ≤ s.linkNow p.val ∧ (s.port p.val).rxCtrl.nakAt = some t) ∧
    (∃ (s : State) (p : Fin 40) (cbc : Bool) (x : TxSide), x = (if cbc then (s.port p.val).ctrl else (s.port p.val).data) ∧ s.inStrike = false ∧ s.isActive p.val = true ∧ x.held ≠ [] ∧ x.advAt + s.rtt p.val + 1000 ≤ s.linkNow p.val ∧ x.nak x.oldest (if cbc then 256 else 65536) (s.rtt p.val) (s.linkNow p.val) = .back ∧ 4 ≤ x.stalls) ∧
    (∃ (s : State) (p : Fin 40) (cbc : Bool) (x : TxSide), x = (if cbc then (s.port p.val).ctrl else (s.port p.val).data) ∧ s.inStrike = false ∧ s.isActive p.val = true ∧ x.held ≠ [] ∧ x.advAt + s.rtt p.val + 1000 ≤ s.linkNow p.val ∧ x.nak x.oldest (if cbc then 256 else 65536) (s.rtt p.val) (s.linkNow p.val) = .back ∧ x.stalls < 4) :=
  ⟨⟨live, by decide +kernel⟩,
    ⟨{ port 0 5 { txMap := [1] } with ftc := 16384 }, 0, by decide +kernel⟩,
    ⟨port 0 2 {}, 0, 0, [], by decide +kernel⟩,
    ⟨port 0 2 {}, 0, 0, markSyncInv, by decide +kernel⟩,
    ⟨port 0 5 { rxData := { nakAt := some 0 } }, 0, 0, by decide +kernel⟩,
    ⟨port 0 5 { rxCtrl := { nakAt := some 0 } }, 0, 0, by decide +kernel⟩,
    ⟨port 0 5 { data := { held := [flit], stalls := 4 } }, 0, false, _, rfl, by decide +kernel⟩,
    ⟨port 0 5 { ctrl := { held := [flit], stalls := 3 } }, 0, true, _, rfl, by decide +kernel⟩⟩

/-- States and operands that meet the hypotheses of LinkMessagesTaken. -/
theorem wit_LinkMessagesTaken : (∃ (s : State) (t : State) (p : Fin 40) (msg : List Byte) (c : Nat) (i : Instr) (u : State), (t = s.modPort p.val (fun q => { q with cbcIn := q.cbcIn.erase msg })) ∧ ((c = 3 ∧ i = .auditMsg p msg ∧ t.fld (R.LNK_STAT p.val) F.LNK_STAT_VER ≠ 1 ∧ u = [0, 1, 2, 3].foldl (fun t v => t.auditCounter p.val v msg) (t.bump (R.LNK_AUDIT_CNT p.val)) ∨ c = 4 ∧ i = .laneFailMsg p msg ∧ u = t.loseLane p.val (leAt msg 4 1) ∨ c = 5 ∧ i = .wrongLockMsg p msg ∧ u = t.loseTxLine p.val (leAt msg 6 1) ∨ c = 6 ∧ i = .calReqMsg p msg ∧ u = t.calMove p.val (leAt msg 4 1) ∨ c = 7 ∧ i = .calDoneMsg p msg ∧ u = t.calBack p.val (leAt msg 4 1) ∨ c = 8 ∧ i = .stopMsg p msg ∧ u = t.setStop p.val (leAt msg 4 1) true none ∨ c = 9 ∧ i = .throttleMsg p msg ∧ leAt msg 5 1 ≠ 0 ∧ u = t.setStop p.val (leAt msg 4 1) false (some (leAt msg 5 1)) ∨ c = 10 ∧ i = .resumeMsg p msg ∧ u = t.setStop p.val (leAt msg 4 1) false none ∨ c = 11 ∧ i = .idleReqMsg p msg ∧ t.quiet p.val = true ∧ u = t.sendCbc p.val (cbc4 0x0C) ∨ c = 12 ∧ i = .idleAckMsg p msg ∧ (t.portUse p.val = 2 ∨ t.portUse p.val = 4) ∧ p.val < 32 ∧ t.fld (R.LNK_IDLE p.val) F.LNK_IDLE_EN = 1 ∧ u = (t.abortWindows p.val).setLnk p.val 6 ∨ c = 13 ∧ i = .retrainReqMsg p msg ∧ u = t.retrain p.val 7)) ∧ s.inStrike = false ∧ s.isActive p.val = true ∧ leAt msg 0 1 = c ∧ cbcLen c = some (leAt msg 1 1) ∧ msg.length = leAt msg 1 1 ∧ leAt msg 2 2 = 0) ∧
    (∃ (s : State) (t : State) (p : Fin 40) (msg : List Byte), (t = (s.modPort p.val (fun q => { q with cbcIn := q.cbcIn.erase msg })).modPort p.val (fun q => { q with peerInfo := some (ImgInfo.read msg) })) ∧ s.inStrike = false ∧ s.isActive p.val = true ∧ leAt msg 0 1 = 2 ∧ cbcLen 2 = some (leAt msg 1 1) ∧ msg.length = leAt msg 1 1 ∧ leAt msg 2 2 = 0) ∧
    (∃ (s : State) (p : Fin 40) (msg : List Byte) (i : Instr), ((i = .auditMsg p msg ∨ i = .laneFailMsg p msg ∨ i = .wrongLockMsg p msg ∨ i = .calReqMsg p msg ∨ i = .calDoneMsg p msg ∨ i = .stopMsg p msg ∨ i = .throttleMsg p msg ∨ i = .resumeMsg p msg ∨ i = .idleReqMsg p msg ∨ i = .idleAckMsg p msg ∨ i = .retrainReqMsg p msg ∨ i = .imageInfo p msg)) ∧ s.inStrike = false ∧ s.isActive p.val = true ∧ msg.length ≠ leAt msg 1 1) :=
  ⟨⟨live.setLnk 0 5, _, 0, le 1 13 ++ le 1 8 ++ zeros 6, 13, .retrainReqMsg 0 (le 1 13 ++ le 1 8 ++ zeros 6), _, rfl, .inr (.inr (.inr (.inr (.inr (.inr (.inr (.inr (.inr (.inr ⟨rfl, rfl, rfl⟩))))))))), by decide +kernel⟩,
    ⟨live.setLnk 0 5, _, 0, le 1 2 ++ le 1 20 ++ zeros 18, rfl, by decide +kernel⟩,
    ⟨live.setLnk 0 5, 0, [0, 8], .imageInfo 0 [0, 8], by simp, by decide +kernel⟩⟩

/-- States and operands that meet the hypotheses of PortHousekeeping. -/
theorem wit_PortHousekeeping : (∃ (s : State) (p : Fin 32), s.inStrike = false ∧ (s.spillq.find? (fun q => s.img.stuffBell q == s.img.stuffBell p.val) = some p.val) ∧ ((List.range 32).any (fun q => s.img.stuffBell q == s.img.stuffBell p.val && s.fld (R.LNK_STAT q) F.LNK_STAT_SPILL == 1) = false) ∧ s.bellLive (s.img.stuffBell p.val) = true) ∧
    (∃ (s : State) (p : Fin 32) (t : Nat), s.inStrike = false ∧ s.fld (R.LNK_STAT p.val) F.LNK_STAT_SPILL = 1 ∧ (s.port p.val).spilled = 0 ∧ (s.port p.val).lowAt = some t ∧ 100000 + t ≤ s.now) ∧
    (∃ (s : State) (p : Fin 40), s.inStrike = false ∧ s.auditDue p.val = true ∧ s.isActive p.val = true ∧ s.fld (R.LNK_STAT p.val) F.LNK_STAT_VER ≠ 1) ∧
    (∃ (s : State) (p : Fin 40) (line : Fin 20) (f : LaneFail), s.inStrike = false ∧ ((s.port p.val).fails.find? (fun f => f.line == line.val) = some f) ∧ s.isActive p.val = true ∧ f.sentAt + s.rtt p.val + 1000 ≤ s.linkNow p.val) ∧
    (∃ (s : State) (p : Fin 32), s.inStrike = false ∧ s.quiet p.val = true) ∧
    (∃ (s : State) (p : Fin 32) (burst : Bool), s.inStrike = false ∧ s.lnk p.val = 6 ∧ ((burst = true ∨ (s.port p.val).cbcq ≠ []))) :=
  ⟨⟨{ live with spillq := [31] }, 31, by decide +kernel⟩,
    ⟨(live.setFld (R.LNK_STAT 31) F.LNK_STAT_SPILL 1).setPort 31 { lowAt := some 0 }, 31, 0, by decide +kernel⟩,
    ⟨{ live.setLnk 8 5 with ftc := 3000000 }.setFld (R.LNK_STAT 8) F.LNK_STAT_VER 2, 8, by decide +kernel⟩,
    ⟨port 0 5 { fails := [⟨19, 0, 0, 0, 3⟩] }, 0, 19, ⟨19, 0, 0, 0, 3⟩, by decide +kernel⟩,
    ⟨(live.setLnk 8 5).setFld (R.LNK_IDLE 8) F.LNK_IDLE_EN 1, 8, by decide +kernel⟩,
    ⟨live.setLnk 31 6, 31, true, by decide +kernel⟩⟩

/-- States and operands that meet the hypotheses of TrainingAdvances. -/
theorem wit_TrainingAdvances : (∃ (s : State) (p : Fin 40), s.inStrike = false ∧ s.lnk p.val = 0 ∧ s.mayTrain p.val = true ∧ p.val < 32) ∧
    (∃ (s : State) (p : Fin 40) (lines : List Nat), s.inStrike = false ∧ s.lnk p.val = 2 ∧ ((if s.compat p.val then 4 else 8) ≤ ((s.lines p.val).filter fun k => lines.contains k).length)) ∧
    (∃ (s : State) (p : Fin 40) (skew : Nat), s.inStrike = false ∧ s.lnk p.val = 3 ∧ 64 < skew) ∧
    (∃ (s : State) (p : Fin 40) (skew : Nat), s.inStrike = false ∧ s.lnk p.val = 3 ∧ skew ≤ 64) ∧
    (∃ (s : State) (p : Fin 40), s.inStrike = false ∧ 2 ≤ s.lnk p.val ∧ s.lnk p.val ≤ 4 ∧ (s.port p.val).since + (if s.lnk p.val = 3 then 10000 else 100000) ≤ s.linkNow p.val) ∧
    (∃ (s : State) (p : Fin 40), s.inStrike = false ∧ s.lnk p.val = 1 ∧ 8 ≤ s.fld (R.LNK_TRAIN_FAIL p.val) F.LNK_TRAIN_FAIL_CONSEC ∧ 1000000 + (s.port p.val).since ≤ s.linkNow p.val) ∧
    (∃ (s : State) (p : Fin 32) (t : Nat), s.inStrike = false ∧ s.isActive p.val = false ∧ (s.port p.val).retrainAt = some t ∧ 50000 + t ≤ s.now) ∧
    (∃ (s : State), s.inStrike = false) :=
  ⟨⟨(((live.setSlot 0 { inReset := false }).setFld (R.LNK_CTL 0) F.LNK_CTL_EN 1).setFld (R.UCI_STAT 0) F.UCI_STAT_PORTS 4), 0, by decide +kernel⟩,
    ⟨live.setLnk 39 2, 39, (List.range 9), by decide +kernel⟩,
    ⟨live.setLnk 39 3, 39, 65, by decide +kernel⟩,
    ⟨live.setLnk 39 3, 39, 64, by decide +kernel⟩,
    ⟨live.setLnk 0 3, 0, by decide +kernel⟩,
    ⟨(live.setLnk 0 1).setFld (R.LNK_TRAIN_FAIL 0) F.LNK_TRAIN_FAIL_CONSEC 8, 0, by decide +kernel⟩,
    ⟨live.setPort 31 { retrainAt := some 0 }, 31, 0, by decide +kernel⟩,
    ⟨live, by decide +kernel⟩⟩

/-- States and operands that meet the hypotheses of LightAndParameters. -/
theorem wit_LightAndParameters : (∃ (s : State) (t : State) (p : Fin 40) (lit : List Nat) (l : List Nat) (a : Nat) (n : Nat), (l = (List.range 19).filter (fun k => decide (1 ≤ k) && lit.contains k)) ∧ a = (if l = (s.port p.val).lit then (s.port p.val).litAt else s.linkNow p.val) ∧ t = s.setPort p.val { (s.port p.val) with lit := l, litAt := a } ∧ n = (if s.compat p.val then 8 else 16) ∧ s.inStrike = false ∧ s.lnk p.val ≠ 1) ∧
    (∃ (s : State) (t : State) (p : Fin 40) (lit : List Nat) (l : List Nat) (a : Nat) (n : Nat), (l = (List.range 19).filter (fun k => decide (1 ≤ k) && lit.contains k)) ∧ a = (if l = (s.port p.val).lit then (s.port p.val).litAt else s.linkNow p.val) ∧ t = s.setPort p.val { (s.port p.val) with lit := l, litAt := a } ∧ n = (if s.compat p.val then 8 else 16) ∧ s.inStrike = false ∧ s.lnk p.val = 1 ∧ ((s.fld (R.LNK_TRAIN_FAIL p.val) F.LNK_TRAIN_FAIL_CONSEC < 8 ∨ (s.port p.val).retryOk = true)) ∧ s.mayTrain p.val = true ∧ s.fld (R.OPT_STAT (basePort p.val / 4)) F.OPT_STAT_DARK = 0 ∧ ((n ≤ l.length ∨ n / 2 ≤ l.length ∧ 50000 + a ≤ s.linkNow p.val))) ∧
    (∃ (s : State) (t : State) (p : Fin 40) (line : Fin 20) (cause : Fin 5) (lane : Nat), (t = (s.setPort p.val { (s.port p.val) with rxOos := (s.port p.val).rxOos ++ [line.val], rxMap := (s.port p.val).rxMap.filter (fun x => x.2 != line.val) }).modPort p.val (fun q => { q with fails := q.fails ++ [⟨line.val, lane, cause.val, s.linkNow p.val, 1⟩], rxLost := q.rxLost.filter (fun x => x.2 != line.val) ++ [(lane, line.val)] })) ∧ s.inStrike = false ∧ cause.val ≠ 4 ∧ s.isActive p.val = true ∧ (s.port p.val).rxOos.contains line.val = false ∧ ((s.port p.val).rxMap.find? (fun x => x.2 == line.val) = some (lane, line.val))) ∧
    (∃ (s : State), s.inStrike = false) ∧
    (∃ (s : State) (p : Fin 40) (msg : List Byte), s.inStrike = false ∧ s.lnk p.val = 4 ∧ ((leAt msg 0 1 ≠ 1 ∨ leAt msg 1 1 ≠ 32 ∨ msg.length ≠ 32 ∨ leAt msg 2 2 ≠ 0))) ∧
    (∃ (s : State) (t : State) (p : Fin 40) (sent : Nat) (ver : Nat) (msg : List Byte) (other : Bool), (t = (s.setReg (R.LNK_PEER p.val) (BitVec.ofNat 32 (leAt msg 16 3 % 2 ^ 20 + leAt msg 15 1 % 32 * 2 ^ 20 + 2 ^ 31))).modPort p.val (fun q => { q with far := some msg, farAt := s.ftc, farSent := sent, txOos := q.txOos.filter (fun l => !bit (leAt msg 8 3) l), rttSum := if leAt msg 28 4 = 0 then q.rttSum else q.rttSum + (2 ^ 33 + s.ftc % 2 ^ 32 - leAt msg 28 4 - leAt msg 26 2) % 2 ^ 32 % 2 ^ 16, rttN := if leAt msg 28 4 = 0 then q.rttN else q.rttN + 1, cbcIn := q.cbcIn.erase msg })) ∧ other = (decide (p.val < 32) && s.isRing p.val && fget (s.reg (R.LNK_PEER p.val)) F.LNK_PEER_VALID == 1 && (fget (s.reg (R.LNK_PEER p.val)) F.LNK_PEER_NODE != leAt msg 16 3 % 2 ^ 20 || fget (s.reg (R.LNK_PEER p.val)) F.LNK_PEER_PORT != leAt msg 15 1 % 32)) ∧ ver = min 2 (leAt msg 5 1) ∧ other = true ∧ s.inStrike = false ∧ s.lnk p.val = 4 ∧ leAt msg 0 1 = 1 ∧ leAt msg 1 1 = 32 ∧ msg.length = 32 ∧ leAt msg 2 2 = 0) ∧
    (∃ (s : State) (t : State) (p : Fin 40) (sent : Nat) (ver : Nat) (msg : List Byte) (other : Bool), (t = (s.setReg (R.LNK_PEER p.val) (BitVec.ofNat 32 (leAt msg 16 3 % 2 ^ 20 + leAt msg 15 1 % 32 * 2 ^ 20 + 2 ^ 31))).modPort p.val (fun q => { q with far := some msg, farAt := s.ftc, farSent := sent, txOos := q.txOos.filter (fun l => !bit (leAt msg 8 3) l), rttSum := if leAt msg 28 4 = 0 then q.rttSum else q.rttSum + (2 ^ 33 + s.ftc % 2 ^ 32 - leAt msg 28 4 - leAt msg 26 2) % 2 ^ 32 % 2 ^ 16, rttN := if leAt msg 28 4 = 0 then q.rttN else q.rttN + 1, cbcIn := q.cbcIn.erase msg })) ∧ other = (decide (p.val < 32) && s.isRing p.val && fget (s.reg (R.LNK_PEER p.val)) F.LNK_PEER_VALID == 1 && (fget (s.reg (R.LNK_PEER p.val)) F.LNK_PEER_NODE != leAt msg 16 3 % 2 ^ 20 || fget (s.reg (R.LNK_PEER p.val)) F.LNK_PEER_PORT != leAt msg 15 1 % 32)) ∧ ver = min 2 (leAt msg 5 1) ∧ other = false ∧ s.inStrike = false ∧ s.lnk p.val = 4 ∧ leAt msg 0 1 = 1 ∧ leAt msg 1 1 = 32 ∧ msg.length = 32 ∧ leAt msg 2 2 = 0 ∧ ((ver < 1 ∨ ver < leAt msg 4 1))) ∧
    (∃ (s : State) (t : State) (p : Fin 40) (sent : Nat) (ver : Nat) (msg : List Byte) (other : Bool), (t = (s.setReg (R.LNK_PEER p.val) (BitVec.ofNat 32 (leAt msg 16 3 % 2 ^ 20 + leAt msg 15 1 % 32 * 2 ^ 20 + 2 ^ 31))).modPort p.val (fun q => { q with far := some msg, farAt := s.ftc, farSent := sent, txOos := q.txOos.filter (fun l => !bit (leAt msg 8 3) l), rttSum := if leAt msg 28 4 = 0 then q.rttSum else q.rttSum + (2 ^ 33 + s.ftc % 2 ^ 32 - leAt msg 28 4 - leAt msg 26 2) % 2 ^ 32 % 2 ^ 16, rttN := if leAt msg 28 4 = 0 then q.rttN else q.rttN + 1, cbcIn := q.cbcIn.erase msg })) ∧ other = (decide (p.val < 32) && s.isRing p.val && fget (s.reg (R.LNK_PEER p.val)) F.LNK_PEER_VALID == 1 && (fget (s.reg (R.LNK_PEER p.val)) F.LNK_PEER_NODE != leAt msg 16 3 % 2 ^ 20 || fget (s.reg (R.LNK_PEER p.val)) F.LNK_PEER_PORT != leAt msg 15 1 % 32)) ∧ ver = min 2 (leAt msg 5 1) ∧ other = false ∧ s.inStrike = false ∧ s.lnk p.val = 4 ∧ leAt msg 0 1 = 1 ∧ leAt msg 1 1 = 32 ∧ msg.length = 32 ∧ leAt msg 2 2 = 0 ∧ 1 ≤ ver ∧ leAt msg 4 1 ≤ ver ∧ (t.laneLines p.val 16).length < (if s.compat p.val then 4 else 8)) ∧
    (∃ (s : State) (t : State) (p : Fin 40) (sent : Nat) (ver : Nat) (msg : List Byte) (other : Bool), (t = (s.setReg (R.LNK_PEER p.val) (BitVec.ofNat 32 (leAt msg 16 3 % 2 ^ 20 + leAt msg 15 1 % 32 * 2 ^ 20 + 2 ^ 31))).modPort p.val (fun q => { q with far := some msg, farAt := s.ftc, farSent := sent, txOos := q.txOos.filter (fun l => !bit (leAt msg 8 3) l), rttSum := if leAt msg 28 4 = 0 then q.rttSum else q.rttSum + (2 ^ 33 + s.ftc % 2 ^ 32 - leAt msg 28 4 - leAt msg 26 2) % 2 ^ 32 % 2 ^ 16, rttN := if leAt msg 28 4 = 0 then q.rttN else q.rttN + 1, cbcIn := q.cbcIn.erase msg })) ∧ other = (decide (p.val < 32) && s.isRing p.val && fget (s.reg (R.LNK_PEER p.val)) F.LNK_PEER_VALID == 1 && (fget (s.reg (R.LNK_PEER p.val)) F.LNK_PEER_NODE != leAt msg 16 3 % 2 ^ 20 || fget (s.reg (R.LNK_PEER p.val)) F.LNK_PEER_PORT != leAt msg 15 1 % 32)) ∧ ver = min 2 (leAt msg 5 1) ∧ other = false ∧ s.inStrike = false ∧ s.lnk p.val = 4 ∧ leAt msg 0 1 = 1 ∧ leAt msg 1 1 = 32 ∧ msg.length = 32 ∧ leAt msg 2 2 = 0 ∧ 1 ≤ ver ∧ leAt msg 4 1 ≤ ver ∧ (if s.compat p.val then 4 else 8) ≤ (t.laneLines p.val 16).length ∧ bit (leAt msg 6 1) 2 = true ∧ leAt msg 28 4 ≠ 0) ∧
    (∃ (s : State) (t : State) (p : Fin 40) (sent : Nat) (ver : Nat) (msg : List Byte) (other : Bool), (t = (s.setReg (R.LNK_PEER p.val) (BitVec.ofNat 32 (leAt msg 16 3 % 2 ^ 20 + leAt msg 15 1 % 32 * 2 ^ 20 + 2 ^ 31))).modPort p.val (fun q => { q with far := some msg, farAt := s.ftc, farSent := sent, txOos := q.txOos.filter (fun l => !bit (leAt msg 8 3) l), rttSum := if leAt msg 28 4 = 0 then q.rttSum else q.rttSum + (2 ^ 33 + s.ftc % 2 ^ 32 - leAt msg 28 4 - leAt msg 26 2) % 2 ^ 32 % 2 ^ 16, rttN := if leAt msg 28 4 = 0 then q.rttN else q.rttN + 1, cbcIn := q.cbcIn.erase msg })) ∧ other = (decide (p.val < 32) && s.isRing p.val && fget (s.reg (R.LNK_PEER p.val)) F.LNK_PEER_VALID == 1 && (fget (s.reg (R.LNK_PEER p.val)) F.LNK_PEER_NODE != leAt msg 16 3 % 2 ^ 20 || fget (s.reg (R.LNK_PEER p.val)) F.LNK_PEER_PORT != leAt msg 15 1 % 32)) ∧ ver = min 2 (leAt msg 5 1) ∧ other = false ∧ s.inStrike = false ∧ s.lnk p.val = 4 ∧ leAt msg 0 1 = 1 ∧ leAt msg 1 1 = 32 ∧ msg.length = 32 ∧ leAt msg 2 2 = 0 ∧ 1 ≤ ver ∧ leAt msg 4 1 ≤ ver ∧ (if s.compat p.val then 4 else 8) ≤ (t.laneLines p.val 16).length ∧ ((bit (leAt msg 6 1) 2 = false ∨ leAt msg 28 4 = 0))) :=
  ⟨⟨live, _, 0, [1], _, _, _, rfl, rfl, rfl, rfl, by decide +kernel⟩,
    ⟨((live.setLnk 0 1).setFld (R.LNK_CTL 0) F.LNK_CTL_EN 1).setFld (R.UCI_STAT 0) F.UCI_STAT_PORTS 4, _, 0, List.range 20, _, _, _, rfl, rfl, rfl, rfl, by decide +kernel⟩,
    ⟨port 0 5 { rxMap := [(7, 0)] }, _, 0, 0, 3, 7, rfl, by decide +kernel⟩,
    ⟨live, by decide +kernel⟩,
    ⟨live.setLnk 0 4, 0, [], by decide +kernel⟩,
    ⟨((live.setLnk 0 4).setFld (R.LNK_PEER 0) F.LNK_PEER_VALID 1).setFld (R.LNK_PEER 0) F.LNK_PEER_NODE 9, _, 0, 0, _, paramOf 0 1 0 0, _, rfl, rfl, rfl, rfl, by decide +kernel⟩,
    ⟨live.setLnk 8 4, _, 8, 0, _, paramOf 0 0 0 0, _, rfl, rfl, rfl, rfl, by decide +kernel⟩,
    ⟨live.setLnk 39 4, _, 39, 0, _, paramOf 0 1 0 0, _, rfl, rfl, rfl, rfl, by decide +kernel⟩,
    ⟨nineLines, _, 0, 0, _, paramOf 1022 255 4 1, _, rfl, rfl, rfl, rfl, by decide +kernel⟩,
    ⟨nineLines, _, 0, 0, _, paramOf 1022 1 4 0, _, rfl, rfl, rfl, rfl, by decide +kernel⟩⟩

/-- States and operands that meet the hypotheses of RingsAreLocked. -/
theorem wit_RingsAreLocked : (∃ (s : State) (k : Fin 8), s.inStrike = false ∧ s.canopyRuns k.val = true) ∧
    (∃ (s : State) (k : Fin 8), s.inStrike = false ∧ s.canopyRuns k.val = true ∧ s.fld (R.OPT_STAT k.val) F.OPT_STAT_SEARCH_DONE = 0) ∧
    (∃ (s : State) (k : Fin 8), s.inStrike = false ∧ s.canopyRuns k.val = true) ∧
    (∃ (s : State) (k : Fin 8) (t : Nat), (((s.canopy k.val).xtAt = none ∨ (s.canopy k.val).xtAt = some t ∧ 60000000000 + t ≤ s.now)) ∧ ((s.canopy k.val).xtMoved.any (fun e => decide (82 ≤ e.2.natAbs)) = true)) ∧
    (∃ (s : State) (k : Fin 8) (h : Fin 144), s.inStrike = false ∧ (s.ring k.val h.val).st = 4 ∧ (s.ring k.val h.val).tries < 3 ∧ s.portDark (heaterPort k.val h.val) = false) ∧
    (∃ (s : State) (k : Fin 8) (h : Fin 144), s.inStrike = false ∧ (s.ring k.val h.val).st = 4 ∧ (s.ring k.val h.val).tries ≠ 0 ∧ 3 ≤ (s.ring k.val h.val).tries) :=
  ⟨⟨canopy, 0, by decide +kernel⟩,
    ⟨canopy, 0, by decide +kernel⟩,
    ⟨canopy, 0, by decide +kernel⟩,
    ⟨canopy.setCanopy 0 { xtMoved := [(0, -82)] }, 0, 0, .inl (by decide +kernel), by decide +kernel⟩,
    ⟨ringAt { st := 4, tries := 2 }, 0, 0, by decide +kernel⟩,
    ⟨ringAt { st := 4, tries := 3 }, 0, 0, by decide +kernel⟩⟩

/-- States and operands that meet the hypotheses of RingsAreCalibrated. -/
theorem wit_RingsAreCalibrated : (∃ (s : State) (k : Fin 8) (h : Fin 144), s.inStrike = false ∧ s.windowFree k.val h.val = true) ∧
    (∃ (s : State) (t : State) (k : Fin 8) (h : Fin 144) (c : Nat) (sl : Nat × Nat × Nat) (mv : List (Nat × Int)), t = s.endCalibration k.val h.val c sl mv ∧ s.inStrike = false ∧ (s.canopy k.val).wins.contains h.val = true ∧ heaterDir h.val ≠ 0) ∧
    (∃ (s : State) (t : State) (k : Fin 8) (h : Fin 144) (c : Nat) (sl : Nat × Nat × Nat) (mv : List (Nat × Int)) (u : _), t = s.endCalibration k.val h.val c sl mv ∧ s.inStrike = false ∧ (s.canopy k.val).wins.contains h.val = true ∧ heaterDir h.val = 0 ∧ ((t.port (heaterPort k.val h.val)).calUse.find? (fun u => u.home == (s.ring k.val h.val).line) = some u)) ∧
    (∃ (s : State) (k : Fin 8) (h : Fin 144) (a : Nat), s.inStrike = false ∧ ((s.canopy k.val).queue.find? (fun e => e.1 == h.val) = some (h.val, a, false)) ∧ 1000000000 + a < s.now) ∧
    (∃ (s : State) (k : Fin 8), 3600000000000 + (s.canopy k.val).hourAt ≤ s.now) ∧
    (∃ (s : State), s.inStrike = false) :=
  ⟨⟨({ ringAt { st := 2 } with canopies := [(0, { rings := [(0, { st := 2 })], queue := [(0, 0, false)] })] } : State).setLnk 0 5, 0, 0, by decide +kernel⟩,
    ⟨canopy.setCanopy 0 { wins := [18] }, _, 0, 18, 0, (0, 0, 0), [], rfl, by decide +kernel⟩,
    ⟨(canopy.setCanopy 0 { wins := [0] }).setPort 0 { calUse := [⟨0, 0, 17⟩] }, _, 0, 0, 0, (0, 0, 0), [], ⟨0, 0, 17⟩, rfl, by decide +kernel⟩,
    ⟨{ canopy with canopies := [(0, { queue := [(143, 0, false)] })] }, 0, 143, 0, by decide +kernel⟩,
    ⟨{ canopy with now := 3600000000000 }, 0, by decide +kernel⟩,
    ⟨canopy, by decide +kernel⟩⟩

/-- States and operands that meet the hypotheses of LightIsWatched. -/
theorem wit_LightIsWatched : (∃ (s : State) (t : State) (p : Fin 32) (lines : List Nat) (ls : List Nat), ls = lines.eraseDups.filter (s.port p.val).lit.contains ∧ (t = (s.modPort p.val fun q => { q with lit := q.lit.filter (fun k => !ls.contains k) }).ethLoss p.val ls) ∧ s.inStrike = false ∧ ls ≠ [] ∧ (SMap.get (fun _ => none) (s.canopy (p.val / 4)).dark (p.val % 4) = none)) ∧
    (∃ (s : State) (t : State) (p : Fin 32) (lines : List Nat) (ls : List Nat) (d : _) (at_ : _), ls = lines.eraseDups.filter (s.port p.val).lit.contains ∧ (t = (s.modPort p.val fun q => { q with lit := q.lit.filter (fun k => !ls.contains k) }).ethLoss p.val ls) ∧ s.inStrike = false ∧ ls ≠ [] ∧ (SMap.get (fun _ => none) (s.canopy (p.val / 4)).dark (p.val % 4) = some (d, at_))) ∧
    (∃ (s : State) (p : Fin 32) (d : List Nat) (t : Nat), s.inStrike = false ∧ (SMap.get (fun _ => none) (s.canopy (p.val / 4)).dark (p.val % 4) = some (d, t)) ∧ 10000 + t ≤ s.now) ∧
    (∃ (s : State) (p : Fin 32) (line : Fin 20) (power : Nat) (h : Nat), s.inStrike = false ∧ s.heaterOf p.val 1 line.val = some h ∧ (s.ring (p.val / 4) h).warnAt = none ∧ s.underWarn (p.val / 4) power = true) :=
  ⟨⟨live.setPort 0 { lit := [1] }, _, 0, [1], _, rfl, rfl, by decide +kernel⟩,
    ⟨({ live with canopies := [(0, { dark := [(0, some ([1], 0))] })] } : State).setPort 0 { lit := [1] }, _, 0, [1], _, [1], 0, rfl, rfl, by decide +kernel⟩,
    ⟨{ live with canopies := [(0, { dark := [(0, some ([1], 0))] })] }, 0, [1], 0, by decide +kernel⟩,
    ⟨(live.setCanopy 0 {}).setRing 0 18 { line := 1 }, 0, 1, 0, 18, by decide +kernel⟩⟩

/-- States and operands that meet the hypotheses of LanternsAndMonitors. -/
theorem wit_LanternsAndMonitors : (∃ (s : State), s.inStrike = false) ∧
    (∃ (s : State) (b : Fin 1001), s.inStrike = false ∧ b.val < 900) ∧
    (∃ (s : State) (k : Fin 8) (l : Fin 2) (b : Fin 1001), s.inStrike = false ∧ 900 ≤ b.val ∧ s.fld (R.OPT_LANT k.val l.val) F.OPT_LANT_WEAR = 0) ∧
    (∃ (s : State) (k : Fin 8), s.inStrike = false ∧ s.fld (R.OPT_STAT k.val) F.OPT_STAT_DARK = 0 ∧ s.fld (R.OPT_STAT k.val) F.OPT_STAT_STBY_OK = 1) ∧
    (∃ (s : State) (k : Fin 8), s.inStrike = false ∧ s.fld (R.OPT_STAT k.val) F.OPT_STAT_DARK = 0 ∧ s.fld (R.OPT_STAT k.val) F.OPT_STAT_STBY_OK = 0) ∧
    (∃ (s : State) (k : Fin 8), s.inStrike = false ∧ s.fld (R.OPT_STAT k.val) F.OPT_STAT_STBY_OK = 1) ∧
    (∃ (s : State), s.inStrike = false) :=
  ⟨⟨live, by decide +kernel⟩,
    ⟨live, 899, by decide +kernel⟩,
    ⟨live, 0, 1, 900, by decide +kernel⟩,
    ⟨live.setFld (R.OPT_STAT 0) F.OPT_STAT_STBY_OK 1, 0, by decide +kernel⟩,
    ⟨live.setFld (R.OPT_STAT 0) F.OPT_STAT_STBY_OK 0, 0, by decide +kernel⟩,
    ⟨live.setFld (R.OPT_STAT 0) F.OPT_STAT_STBY_OK 1, 0, by decide +kernel⟩,
    ⟨live, by decide +kernel⟩⟩

/-- States and operands that meet the hypotheses of TimeIsExchanged. -/
theorem wit_TimeIsExchanged : (∃ (s : State) (p : Fin 32) (x : TimePort) (fl : Nat) (tag : Nat), x = s.tport p.val ∧ fl = b2n (s.ftcState == 2 || s.ftcState == 5) + 2 * b2n (s.ftcState == 5) + 4 * b2n (s.ftcState == 3) ∧ tag = (if s.ftcState = 5 then s.fld R.FTC_CFG F.FTC_CFG_TAG else s.time.tag.getD 0) ∧ s.inStrike = false ∧ s.time.counting = true ∧ s.timePort p.val = true ∧ s.fires 4096 = true) ∧
    (∃ (s : State) (t : State) (p : Fin 32), t = (if s.isRing p.val then s.sendCbc p.val (timeMsg ( le 1 1 ++ le 1 (pairOut p.val) ++ zeros 2 ++ le 2 (s.tport (partner p.val)).dIn ++ le 2 (s.tport (partner p.val)).d0)) else s) ∧ s.inStrike = false ∧ s.time.counting = true ∧ s.timePort p.val = true ∧ s.fires 1048576 = true) ∧
    (∃ (s : State) (t : State) (u : State) (p : Fin 32) (msg : List Byte) (rx : Nat) (v : Bool) (e : Int × Int), (t = s.modPort p.val (fun q => { q with cbcIn := q.cbcIn.erase msg })) ∧ (v = (leAt msg 16 8 != 0 && SMap.get (fun _ => 0) (t.tport p.val).txAt (leAt msg 6 1) != 0)) ∧ (e = exchange (leAt msg 8 8) rx (SMap.get (fun _ => 0) (t.tport p.val).txAt (leAt msg 6 1)) (leAt msg 16 8) (t.tport p.val).asymI) ∧ u = t.setTport p.val ((t.tport p.val).heard msg rx t.ftc e.2 v) ∧ s.inStrike = false ∧ s.isActive p.val = true ∧ leAt msg 0 1 = 0x10 ∧ cbcLen 0x10 = some (leAt msg 1 1) ∧ msg.length = leAt msg 1 1 ∧ leAt msg 2 2 = 0 ∧ leAt msg 4 1 = 0 ∧ t.timePort p.val = true) ∧
    (∃ (s : State) (t : State) (p : Fin 32) (msg : List Byte), (t = s.modPort p.val (fun q => { q with cbcIn := q.cbcIn.erase msg })) ∧ s.inStrike = false ∧ s.isActive p.val = true ∧ leAt msg 0 1 = 0x10 ∧ cbcLen 0x10 = some (leAt msg 1 1) ∧ msg.length = leAt msg 1 1 ∧ leAt msg 2 2 = 0 ∧ t.timePort p.val = true ∧ leAt msg 4 1 = 1 ∧ t.isRing p.val = true) ∧
    (∃ (s : State) (t : State) (p : Fin 32) (msg : List Byte), (t = s.modPort p.val (fun q => { q with cbcIn := q.cbcIn.erase msg })) ∧ s.inStrike = false ∧ s.isActive p.val = true ∧ leAt msg 0 1 = 0x10 ∧ cbcLen 0x10 = some (leAt msg 1 1) ∧ msg.length = leAt msg 1 1 ∧ leAt msg 2 2 = 0 ∧ t.timePort p.val = true ∧ leAt msg 4 1 = 2 ∧ t.ftcState ≠ 5 ∧ p.val = t.upPort) :=
  ⟨⟨timeAt 5, 0, _, _, _, rfl, rfl, rfl, by decide +kernel⟩,
    ⟨{ (((live.setLnk 8 5).setFld R.FTC_UPLINK F.FTC_UPLINK_PORTS 0x100).setFld R.FTC_STAT F.FTC_STAT_WALL_OK 1) with time := { counting := true }, ftc := 1048576 }, _, 8, rfl, by decide +kernel⟩,
    ⟨timeAt 2, _, _, 0, le 1 0x10 ++ le 1 32 ++ zeros 2 ++ le 1 0 ++ zeros 27, 0, _, _, rfl, rfl, rfl, rfl, by decide +kernel⟩,
    ⟨timeAt 2, _, 0, le 1 0x10 ++ le 1 32 ++ zeros 2 ++ le 1 1 ++ zeros 27, rfl, by decide +kernel⟩,
    ⟨(timeAt 2).setFld R.FTC_STAT F.FTC_STAT_UP_PORT 0, _, 0, le 1 0x10 ++ le 1 32 ++ zeros 2 ++ le 1 2 ++ zeros 27, rfl, by decide +kernel⟩⟩

/-- States and operands that meet the hypotheses of TimeStateMoves. -/
theorem wit_TimeStateMoves : (∃ (s : State) (th : Int), s.inStrike = false ∧ s.time.avg = some th ∧ s.time.counting = true ∧ s.ftc % 65536 = 0 ∧ s.upPort ≠ 63 ∧ s.ftcState ≠ 0 ∧ s.ftcState ≠ 5) ∧
    (∃ (s : State), s.inStrike = false ∧ s.upPort < 32 ∧ s.ftcState ≠ 5 ∧ s.eligible s.upPort = false) ∧
    (∃ (s : State), s.inStrike = false ∧ s.ftcState = 3 ∧ 10000000000 + s.time.holdAt ≤ s.now) ∧
    (∃ (s : State), ((s.ftcState = 1 ∨ s.ftcState = 4)) ∧ s.inStrike = false ∧ s.upPort = 63 ∧ 1000000000 + s.time.noUpAt ≤ s.now) ∧
    (∃ (s : State) (t : State) (sp : Bool), t = ((s.setFld R.CLK_STAT F.CLK_STAT_RPLL_LOCK 1).setFld R.CLK_STAT F.CLK_STAT_SRC s.clk.src).setFld R.CLK_STAT F.CLK_STAT_SPREAD_SEEN (b2n sp) ∧ s.inStrike = false ∧ s.time.counting = false ∧ s.pins.resetN = true) :=
  ⟨⟨{ (timeAt 2).setFld R.FTC_STAT F.FTC_STAT_UP_PORT 0 with time := { counting := true, avg := some 0 }, ftc := 65536 }, 0, by decide +kernel⟩,
    ⟨(timeAt 2).setFld R.FTC_STAT F.FTC_STAT_UP_PORT 31, by decide +kernel⟩,
    ⟨timeAt 3, by decide +kernel⟩,
    ⟨(timeAt 4).setFld R.FTC_STAT F.FTC_STAT_UP_PORT 63, .inr (by decide +kernel), by decide +kernel⟩,
    ⟨{ State.reset with pins := { resetN := true } }, _, false, rfl, by decide +kernel⟩⟩

/-- States and operands that meet the hypotheses of FlapsAndWindows. -/
theorem wit_FlapsAndWindows : (∃ (s : State) (q : Fin 2), s.flap q.val = 0 ∧ s.flapShut q.val = false ∧ s.loopback (pairPort q.val) = true ∧ s.loopback (pairPort q.val + 1) = true ∧ s.ftc % 128 = 0) ∧
    (∃ (s : State) (q : Fin 2), s.flap q.val = 1) ∧
    (∃ (s : State) (q : Fin 2), ((s.flap q.val = 1 ∨ s.flap q.val = 2)) ∧ s.flapShut q.val = true) ∧
    (∃ (s : State) (q : Fin 2), s.flap q.val = 3) ∧
    (∃ (s : State) (q : Fin 2), ((s.flap q.val = 1 ∨ s.flap q.val = 3)) ∧ 5000000 + (s.canopy (pairCan q.val)).flapAt ≤ s.now) ∧
    (∃ (s : State) (q : Fin 4) (n : Nat) (e : Entry3), s.inStrike = false ∧ s.img.entry n = some e ∧ s.active = true ∧ e.pair = q.val ∧ s.windowNow e = true) ∧
    (∃ (s : State) (q : Fin 4) (n : Nat) (l : Nat) (e : Entry3), s.inStrike = false ∧ s.img.entry n = some e ∧ e.pair = q.val ∧ s.entryLink n e = some l ∧ (s.port l).winUntil ≤ s.ftc) :=
  ⟨⟨loops, 0, by decide +kernel⟩,
    ⟨flapAt 1, 0, by decide +kernel⟩,
    ⟨flapAt 2, 0, .inr (by decide +kernel), by decide +kernel⟩,
    ⟨flapAt 3, 0, by decide +kernel⟩,
    ⟨flapAt 3, 0, .inr (by decide +kernel), by decide +kernel⟩,
    ⟨{ live with ftc := 8193 }, 0, 0, entry0, by decide +kernel⟩,
    ⟨live, 0, 0, 32, entry0, by decide +kernel⟩⟩

/-- States and operands that meet the hypotheses of ReportsAndAcknowledgements. -/
theorem wit_ReportsAndAcknowledgements : (∃ (i : Fin 512) (eq : Bool), ((i.val ≠ 0 ∨ eq = true)) ∧ reservedSource i.val = false) ∧
    (∃ (s : State) (i : Fin 512), (s.pair i.val).active = true) ∧
    (∃ (s : State) (i : Fin 512), (s.pair i.val).pend = true ∧ (s.pair i.val).active = false ∧ (s.pair i.val).wire = false ∧ (s.pair i.val).degr = false ∧ (s.pair i.val).savedCap = none) :=
  ⟨⟨0, true, .inr rfl, by decide +kernel⟩,
    ⟨live.raise 511 [], 511, by decide +kernel⟩,
    ⟨live.setPairSt 511 { pend := true }, 511, by decide +kernel⟩⟩

/-- States and operands that meet the hypotheses of SeamFlitsTaken. -/
theorem wit_SeamFlitsTaken : (∃ (s : State), s.inStrike = false) ∧
    (∃ (s : State), s.inStrike = false) ∧
    (∃ (s : State) (t : State) (b : Fin 8) (toBell : Bool) (split : Nat) (raw : List Byte) (flit : List Byte), flit = ((s.seamDir b.val (dirOf toBell)).collect (s.seamW b.val) split (fit 256 raw)).1 ∧ t = s.setSeamDir b.val (dirOf toBell) ((s.seamDir b.val (dirOf toBell)).collect (s.seamW b.val) split (fit 256 raw)).2 ∧ s.inStrike = false ∧ s.seamState b.val = 3 ∧ leAt flit 248 8 ≠ crc64 (flit.take 248)) ∧
    (∃ (s : State) (t : State) (b : Fin 8) (toBell : Bool) (split : Nat) (raw : List Byte) (flit : List Byte), flit = ((s.seamDir b.val (dirOf toBell)).collect (s.seamW b.val) split (fit 256 raw)).1 ∧ t = s.setSeamDir b.val (dirOf toBell) ((s.seamDir b.val (dirOf toBell)).collect (s.seamW b.val) split (fit 256 raw)).2 ∧ s.inStrike = false ∧ s.seamState b.val = 3 ∧ leAt flit 248 8 = crc64 (flit.take 248) ∧ (t.crossing b.val).armed = true ∧ bits (leAt flit 0 8) 39 32 ≠ t.sideEpoch b.val (dirOf toBell)) ∧
    (∃ (s : State) (t : State) (b : Fin 8) (toBell : Bool) (split : Nat) (raw : List Byte) (flit : List Byte), flit = ((s.seamDir b.val (dirOf toBell)).collect (s.seamW b.val) split (fit 256 raw)).1 ∧ t = s.setSeamDir b.val (dirOf toBell) ((s.seamDir b.val (dirOf toBell)).collect (s.seamW b.val) split (fit 256 raw)).2 ∧ (((t.crossing b.val).armed = false ∨ bits (leAt flit 0 8) 39 32 = t.sideEpoch b.val (dirOf toBell))) ∧ s.inStrike = false ∧ s.seamState b.val = 3 ∧ leAt flit 248 8 = crc64 (flit.take 248)) ∧
    (∃ (s : State) (b : Fin 8) (fromBell : Bool), s.inStrike = false ∧ s.seamState b.val = 3 ∧ (s.seamDir b.val (b2n fromBell)).tx.held ≠ [] ∧ (s.seamDir b.val (b2n fromBell)).tx.advAt + 200 ≤ s.now ∧ (s.seamDir b.val (b2n fromBell)).tx.replay ≠ some (s.seamDir b.val (b2n fromBell)).tx.oldest ∧ 8 ≤ (s.seamDir b.val (b2n fromBell)).resends) ∧
    (∃ (s : State) (b : Fin 8) (fromBell : Bool), s.inStrike = false ∧ s.seamState b.val = 3 ∧ (s.seamDir b.val (b2n fromBell)).tx.held ≠ [] ∧ (s.seamDir b.val (b2n fromBell)).tx.advAt + 200 ≤ s.now ∧ (s.seamDir b.val (b2n fromBell)).tx.replay ≠ some (s.seamDir b.val (b2n fromBell)).tx.oldest ∧ (s.seamDir b.val (b2n fromBell)).resends < 8) :=
  ⟨⟨live, by decide +kernel⟩,
    ⟨live, by decide +kernel⟩,
    ⟨seam 3 {}, _, 0, true, 0, le 1 1, _, rfl, rfl, by decide +kernel⟩,
    ⟨(seam 3 {}).setCrossing 0 { armed := true }, _, 0, true, 0, flitOf (le 8 (2 ^ 32) ++ zeros 240), _, rfl, rfl, by decide +kernel⟩,
    ⟨seam 3 {}, _, 0, false, 0, flitOf (zeros 248), _, rfl, rfl, .inl (by decide +kernel), by decide +kernel⟩,
    ⟨seam 3 { tx := { held := [flit] }, resends := 8 }, 0, true, by decide +kernel⟩,
    ⟨seam 3 { tx := { held := [flit] }, resends := 7 }, 0, false, by decide +kernel⟩⟩

/-- States and operands that meet the hypotheses of SeamLanesKept. -/
theorem wit_SeamLanesKept : (∃ (s : State) (b : Fin 8) (fromBell : Bool), s.inStrike = false ∧ s.seamMarkDue b.val (b2n fromBell) = true) ∧
    (∃ (s : State) (b : Fin 8), (s.seamState b.val = 2 ∨ s.seamState b.val = 3) ∧ s.inStrike = false) ∧
    (∃ (s : State) (t : State) (b : Fin 8) (toBell : Bool) (msg : List Byte) (c : Nat), (t = s.modSeamDir b.val (dirOf toBell) (fun x => { x with cin := x.cin.erase msg })) ∧ s.inStrike = false ∧ s.seamState b.val = 3 ∧ msg.length = 16 ∧ leAt msg 0 1 = c ∧ leAt msg 1 1 = 16 ∧ c = 1 ∧ leAt msg 2 1 ≤ 67) ∧
    (∃ (s : State) (t : State) (b : Fin 8) (toBell : Bool) (msg : List Byte) (c : Nat), (t = s.modSeamDir b.val (dirOf toBell) (fun x => { x with cin := x.cin.erase msg })) ∧ s.inStrike = false ∧ s.seamState b.val = 3 ∧ msg.length = 16 ∧ leAt msg 0 1 = c ∧ leAt msg 1 1 = 16 ∧ c = 2 ∧ leAt msg 2 1 ≤ 67 ∧ (t.seamDir b.val (1 - dirOf toBell)).calUse = none) ∧
    (∃ (s : State) (t : State) (b : Fin 8) (toBell : Bool) (msg : List Byte) (c : Nat) (f : _) (sp : _), (t = s.modSeamDir b.val (dirOf toBell) (fun x => { x with cin := x.cin.erase msg })) ∧ s.inStrike = false ∧ s.seamState b.val = 3 ∧ msg.length = 16 ∧ leAt msg 0 1 = c ∧ leAt msg 1 1 = 16 ∧ c = 3 ∧ (t.seamDir b.val (1 - dirOf toBell)).calUse = some (f, leAt msg 2 1, sp)) ∧
    (∃ (s : State) (t : State) (b : Fin 8) (toBell : Bool) (msg : List Byte) (c : Nat), (t = s.modSeamDir b.val (dirOf toBell) (fun x => { x with cin := x.cin.erase msg })) ∧ s.inStrike = false ∧ s.seamState b.val = 3 ∧ msg.length = 16 ∧ leAt msg 0 1 = c ∧ leAt msg 1 1 = 16 ∧ c = 6) ∧
    (∃ (s : State) (b : Fin 8), s.inStrike = false ∧ s.seamState b.val ≠ 2) ∧
    (∃ (s : State) (b : Fin 8) (toBell : Bool) (lane : Fin 68), s.inStrike = false ∧ s.seamState b.val = 2 ∧ (s.seamDir b.val (dirOf toBell)).map.contains lane.val = true) ∧
    (∃ (s : State) (b : Fin 8) (d : _) (t0 : _), s.inStrike = false ∧ (s.seamDir b.val d).waitAt = some (t0, false) ∧ 1000000000 + t0 ≤ s.now) :=
  ⟨⟨seam 3 { iv := 4096 }, 0, true, by decide +kernel⟩,
    ⟨seam 2 {}, 0, .inl (by decide +kernel), by decide +kernel⟩,
    ⟨seam 3 {}, _, 0, true, smsg 1 67, 1, rfl, by decide +kernel⟩,
    ⟨seam 3 {}, _, 0, true, smsg 2 67, 2, rfl, by decide +kernel⟩,
    ⟨seam 3 { calUse := some (0, 67, 66) }, _, 0, true, smsg 3 67, 3, 0, 66, rfl, by decide +kernel⟩,
    ⟨seam 3 {}, _, 0, true, smsg 6 0, 6, rfl, by decide +kernel⟩,
    ⟨seam 3 {}, 0, by decide +kernel⟩,
    ⟨seam 2 { map := [67] }, 0, true, 67, by decide +kernel⟩,
    ⟨seam 3 { waitAt := some (0, false) }, 0, 1, 0, by decide +kernel⟩⟩

/-- States and operands that meet the hypotheses of SeamTrains. -/
theorem wit_SeamTrains : (∃ (s : State) (b : Fin 8), s.inStrike = false ∧ s.seamState b.val = 0 ∧ s.dom (20 + b.val / 2) = 0 ∧ s.dom (domBell b.val 1) = 0 ∧ (s.bell b.val).inReset = false ∧ (s.bell b.val).retired = false ∧ (s.bell b.val).strapFail = false ∧ s.fastClock = false) ∧
    (∃ (s : State) (b : Fin 8), s.inStrike = false ∧ s.seamState b.val = 1 ∧ (s.seam b.val).since + 5000 ≤ s.now) ∧
    (∃ (s : State) (b : Fin 8), s.inStrike = false ∧ s.seamState b.val = 2 ∧ s.seamAligned b.val = true) ∧
    (∃ (s : State) (b : Fin 8), s.inStrike = false ∧ s.seamState b.val = 2 ∧ 20000 + (s.seam b.val).since ≤ s.now) ∧
    (∃ (s : State) (b : Fin 8), s.seamState b.val = 4 ∧ (s.bell b.val).retired = false) :=
  ⟨⟨{ seam 0 {} with pwr := { dom := [(20, 0), (29, 0)] } }, 0, by decide +kernel⟩,
    ⟨seam 1 {}, 0, by decide +kernel⟩,
    ⟨seam 2 { rmap := [0], okMark := [(0, 2)] }, 0, by decide +kernel⟩,
    ⟨seam 2 {}, 0, by decide +kernel⟩,
    ⟨seam 4 {}, 0, by decide +kernel⟩⟩

/-- States and operands that meet the hypotheses of CrossingsRearm. -/
theorem wit_CrossingsRearm : (∃ (s : State) (t : State) (c : Fin 16) (toDie : Bool) (msg : List Byte) (y : CrossSide), (t = (if c.val < 8 then s.modSeamDir c.val (dirOf toDie) (fun x => { x with cin := x.cin.erase msg }) else s).modSide c.val toDie (fun z => { z with peer := leAt msg 2 1 })) ∧ y = (if toDie then (t.crossing c.val).die else (t.crossing c.val).ridge) ∧ s.inStrike = false ∧ s.rearming c.val = true ∧ msg.length = 16 ∧ leAt msg 1 1 = 16 ∧ leAt msg 2 1 = s.epochOf c.val (!toDie) ∧ leAt msg 0 1 = 4 ∧ bit (leAt msg 4 1) 0 = true ∧ y.drained = true) ∧
    (∃ (s : State) (t : State) (c : Fin 16) (toDie : Bool) (msg : List Byte) (y : CrossSide), (t = (if c.val < 8 then s.modSeamDir c.val (dirOf toDie) (fun x => { x with cin := x.cin.erase msg }) else s).modSide c.val toDie (fun z => { z with peer := leAt msg 2 1 })) ∧ y = (if toDie then (t.crossing c.val).die else (t.crossing c.val).ridge) ∧ ((bit (leAt msg 4 1) 0 = false ∨ y.drained = false)) ∧ s.inStrike = false ∧ s.rearming c.val = true ∧ msg.length = 16 ∧ leAt msg 1 1 = 16 ∧ leAt msg 2 1 = s.epochOf c.val (!toDie) ∧ leAt msg 0 1 = 4) ∧
    (∃ (s : State) (t : State) (c : Fin 16) (toDie : Bool) (msg : List Byte) (y : CrossSide), (t = (if c.val < 8 then s.modSeamDir c.val (dirOf toDie) (fun x => { x with cin := x.cin.erase msg }) else s).modSide c.val toDie (fun z => { z with peer := leAt msg 2 1 })) ∧ y = (if toDie then (t.crossing c.val).die else (t.crossing c.val).ridge) ∧ s.inStrike = false ∧ s.rearming c.val = true ∧ msg.length = 16 ∧ leAt msg 1 1 = 16 ∧ leAt msg 2 1 = s.epochOf c.val (!toDie) ∧ leAt msg 0 1 = 5) ∧
    (∃ (s : State) (c : Fin 16) (at_ : Nat), s.inStrike = false ∧ (s.crossing c.val).armAt = some at_ ∧ s.rearming c.val = true ∧ 1000000 + at_ ≤ s.now) :=
  ⟨⟨rearm, _, 0, true, smsg 4 0, _, rfl, rfl, by decide +kernel⟩,
    ⟨rearm, _, 0, false, smsg 4 0, _, rfl, rfl, .inr (by decide +kernel), by decide +kernel⟩,
    ⟨rearm, _, 0, true, smsg 5 0, _, rfl, rfl, by decide +kernel⟩,
    ⟨rearm, 0, 0, by decide +kernel⟩⟩

/-- States and operands that meet the hypotheses of SlotsAreAdmitted. -/
theorem wit_SlotsAreAdmitted : (∃ (s : State) (k : Fin 8) (modules : Nat) (cause : Nat) (good : List Nat) (desc : Option (List Byte)), (good = ((List.range 4).filter fun m => bit modules m)) ∧ cause = slotCause good (s.fld (R.UCI_ADMIT k.val) F.UCI_ADMIT_ALLOW == 1) desc ∧ s.inStrike = false ∧ s.slotOpen k.val = true ∧ cause ≠ 0) ∧
    (∃ (s : State) (k : Fin 8) (modules : Nat) (cause : Nat) (good : List Nat) (desc : Option (List Byte)), (good = ((List.range 4).filter fun m => bit modules m)) ∧ cause = slotCause good (s.fld (R.UCI_ADMIT k.val) F.UCI_ADMIT_ALLOW == 1) desc ∧ cause = 0 ∧ s.inStrike = false ∧ s.slotOpen k.val = true) ∧
    (∃ (s : State) (k : Fin 8) (m : Fin 4) (good : List Nat), (good = ((List.range 4).filter fun j => !bit (s.fld (R.UCI_REPAIR k.val) F.UCI_REPAIR_DISABLED) j && j != m.val)) ∧ (s.fld (R.UCI_STAT k.val) F.UCI_STAT_STATE = 3 ∨ s.fld (R.UCI_STAT k.val) F.UCI_STAT_STATE = 4) ∧ s.inStrike = false ∧ bit (s.fld (R.UCI_REPAIR k.val) F.UCI_REPAIR_DISABLED) m.val = false) ∧
    (∃ (s : State) (k : Fin 8), s.inStrike = false ∧ s.fld (R.UCI_STAT k.val) F.UCI_STAT_STATE = 3) ∧
    (∃ (s : State) (t : State) (k : Fin 8), t = s.setFld (R.UCI_ADMIT k.val) F.UCI_ADMIT_ALLOW 1) :=
  ⟨⟨{ live with pwr := { dom := [(24, 0)] } }, 0, 0, _, _, none, rfl, rfl, by decide +kernel⟩,
    ⟨{ live with pwr := { dom := [(24, 0)] } }, 0, 15, _, _, some slotDesc, rfl, rfl, rfl, by decide +kernel⟩,
    ⟨live.setFld (R.UCI_STAT 0) F.UCI_STAT_STATE 4, 0, 3, _, rfl, .inr (by decide +kernel), by decide +kernel⟩,
    ⟨live.setFld (R.UCI_STAT 7) F.UCI_STAT_STATE 3, 7, by decide +kernel⟩,
    ⟨live, _, 7, rfl⟩⟩

/-- States and operands that meet the hypotheses of TapInstructions. -/
theorem wit_TapInstructions : (∃ (s : State), s.pins.testMode = true ∧ s.fld R.SEC_STAT F.SEC_STAT_UNLOCK = 1) ∧
    (∃ (s : State) (levels : Nat) (c : Instr), (s.pins.testMode = false ∨ s.fld R.SEC_STAT F.SEC_STAT_UNLOCK ≠ 1) ∧ (c = .tapExtest levels ∨ c = .tapClamp levels ∨ c = .tapHighz)) :=
  ⟨⟨{ live with pins := { testMode := true } }.setFld R.SEC_STAT F.SEC_STAT_UNLOCK 1, by decide +kernel⟩,
    ⟨live, 0, .tapHighz, .inl rfl, .inr (.inr rfl)⟩⟩

/-- States and operands that meet the hypotheses of ClocksTrip. -/
theorem wit_ClocksTrip : (∃ (s : State) (code : Fin 8), s.fld R.CLK_STAT F.CLK_STAT_CLKLESS ≠ 1 ∧ s.clk.onFast = false ∧ s.clk.waitFast = none ∧ (s.clk.pend.any (fun e => e.1 == 0) = false) ∧ ((code.val < 3 ∧ s.fld R.CLK_STAT F.CLK_STAT_SRC = code.val ∨ code.val = 5 ∨ code.val = 6))) ∧
    (∃ (s : State) (t : State), t = ((s.setFld R.CLK_STAT F.CLK_STAT_FAST_READY 0).clockTrip 3 2).pulse 15 [] ∧ s.clk.onFast = true) ∧
    (∃ (s : State) (t : State), t = ((s.setFld R.CLK_STAT F.CLK_STAT_FAST_READY 0).clockTrip 3 2).pulse 15 [] ∧ s.clk.onFast = false) ∧
    (∃ (s : State) (u : State) (b : Fin 8) (kind : Fin 4), (u = (let t := (s.clockTrip (8 + b.val) kind.val).pulse (srcBell b.val 6) (le 1 kind.val);         { t with clk := { t.clk with bellTrip := SMap.set (fun _ => none) t.clk.bellTrip b.val (some s.now) } })) ∧ (s.bell b.val).inReset = false ∧ (SMap.get (fun _ => none) s.clk.bellTrip b.val = none)) ∧
    (∃ (s : State) (u : State) (b : Fin 8) (kind : Fin 4) (t0 : _), (u = (let t := (s.clockTrip (8 + b.val) kind.val).pulse (srcBell b.val 6) (le 1 kind.val);         { t with clk := { t.clk with bellTrip := SMap.set (fun _ => none) t.clk.bellTrip b.val (some s.now) } })) ∧ (s.bell b.val).inReset = false ∧ (SMap.get (fun _ => none) s.clk.bellTrip b.val = some t0) ∧ s.now < 1000000000 + t0) ∧
    (∃ (s : State) (u : State) (b : Fin 8) (kind : Fin 4) (t0 : _), (u = (let t := (s.clockTrip (8 + b.val) kind.val).pulse (srcBell b.val 6) (le 1 kind.val);         { t with clk := { t.clk with bellTrip := SMap.set (fun _ => none) t.clk.bellTrip b.val (some s.now) } })) ∧ (s.bell b.val).inReset = false ∧ (SMap.get (fun _ => none) s.clk.bellTrip b.val = some t0) ∧ 1000000000 + t0 ≤ s.now) ∧
    (∃ (s : State) (t : State), t = s.setFld R.CLK_STAT F.CLK_STAT_FAST_READY 1 ∧ s.clk.waitFast = none) ∧
    (∃ (s : State) (t : State) (t0 : _), t = s.setFld R.CLK_STAT F.CLK_STAT_FAST_READY 1 ∧ s.clk.waitFast = some t0 ∧ s.now ≤ 5000000 + t0) ∧
    (∃ (s : State) (t0 : Nat), s.clk.waitFast = some t0 ∧ 5000000 + t0 < s.now) ∧
    (∃ (s : State) (m : Fin 10), (s.clk.pend.any (fun e => e.1 == m.val && decide (e.2 + 160 ≤ s.now)) = true)) :=
  ⟨⟨live, 6, by decide +kernel⟩,
    ⟨{ live with clk := { onFast := true } }, _, rfl, by decide +kernel⟩,
    ⟨live, _, rfl, by decide +kernel⟩,
    ⟨live, _, 0, 3, rfl, by decide +kernel⟩,
    ⟨{ live with clk := { bellTrip := [(0, some live.now)] } }, _, 0, 3, live.now, rfl, by decide +kernel⟩,
    ⟨{ live with clk := { bellTrip := [(0, some 0)] } }, _, 0, 3, 0, rfl, by decide +kernel⟩,
    ⟨live, _, rfl, by decide +kernel⟩,
    ⟨{ live with clk := { waitFast := some live.now } }, _, live.now, rfl, by decide +kernel⟩,
    ⟨{ live with clk := { waitFast := some 0 } }, 0, by decide +kernel⟩,
    ⟨{ live with clk := { pend := [(9, 0)] } }, 9, by decide +kernel⟩⟩

/-- States and operands that meet the hypotheses of FramesAreTaken. -/
theorem wit_FramesAreTaken : (∃ (s : State) (p : Fin 32) (inst : Fin 2) (frame : List Byte) (i : Instr), ((i = .ethFrame p inst frame ∨ i = .neighborSolicitation p inst frame ∨ i = .echoRequest p inst frame)) ∧ ((Frame.parse frame).whole = false ∨ (Frame.parse frame).etype ≠ 0x86DD ∨ (Frame.parse frame).ver ≠ 6) ∧ s.inStrike = false ∧ s.ethUp p.val inst.val = true) ∧
    (∃ (s : State) (p : Fin 32) (inst : Fin 2) (frame : List Byte) (i : Instr), ((i = .ethFrame p inst frame ∨ i = .neighborSolicitation p inst frame ∨ i = .echoRequest p inst frame)) ∧ s.inStrike = false ∧ s.ethUp p.val inst.val = true ∧ (Frame.parse frame).whole = true ∧ (Frame.parse frame).etype = 0x86DD ∧ (Frame.parse frame).ver = 6 ∧ s.isSolicitation p.val (Frame.parse frame) = true) ∧
    (∃ (s : State) (p : Fin 32) (inst : Fin 2) (frame : List Byte) (i : Instr), ((i = .ethFrame p inst frame ∨ i = .neighborSolicitation p inst frame ∨ i = .echoRequest p inst frame)) ∧ s.inStrike = false ∧ s.ethUp p.val inst.val = true ∧ (Frame.parse frame).whole = true ∧ (Frame.parse frame).etype = 0x86DD ∧ (Frame.parse frame).ver = 6 ∧ s.isSolicitation p.val (Frame.parse frame) = false ∧ s.isEcho p.val (Frame.parse frame) = true) ∧
    (∃ (s : State) (p : Fin 32) (inst : Fin 2) (frame : List Byte) (i : Instr) (e : _), ((i = .ethFrame p inst frame ∨ i = .neighborSolicitation p inst frame ∨ i = .echoRequest p inst frame)) ∧ s.inStrike = false ∧ s.ethUp p.val inst.val = true ∧ (Frame.parse frame).whole = true ∧ (Frame.parse frame).etype = 0x86DD ∧ (Frame.parse frame).ver = 6 ∧ s.isSolicitation p.val (Frame.parse frame) = false ∧ s.isEcho p.val (Frame.parse frame) = false ∧ s.advertised? p.val (Frame.parse frame) = some e) ∧
    (∃ (s : State) (p : Fin 32) (inst : Fin 2) (frame : List Byte) (i : Instr), ((i = .ethFrame p inst frame ∨ i = .neighborSolicitation p inst frame ∨ i = .echoRequest p inst frame)) ∧ s.inStrike = false ∧ s.ethUp p.val inst.val = true ∧ (Frame.parse frame).whole = true ∧ (Frame.parse frame).etype = 0x86DD ∧ (Frame.parse frame).ver = 6 ∧ s.isSolicitation p.val (Frame.parse frame) = false ∧ s.isEcho p.val (Frame.parse frame) = false ∧ s.advertised? p.val (Frame.parse frame) = none) ∧
    (∃ (s : State) (p : Fin 32), s.inStrike = false ∧ s.active = true ∧ s.img.bridge = true ∧ s.img.portUse p.val = 3) :=
  ⟨⟨bridge, 31, 1, [], .ethFrame 31 1 [], .inl rfl, .inl (by decide +kernel), by decide +kernel⟩,
    ⟨bridge, 31, 1, eth 135 255 20, .neighborSolicitation 31 1 (eth 135 255 20), .inr (.inl rfl), by decide +kernel⟩,
    ⟨bridge, 31, 1, eth 128 64 4, .echoRequest 31 1 (eth 128 64 4), .inr (.inr rfl), by decide +kernel⟩,
    ⟨{ bridge with trn := { bridge.trn with ethWait := [(0, [])] } }, 31, 1, advert, .ethFrame 31 1 advert, (0, 0), .inl rfl, by decide +kernel⟩,
    ⟨bridge, 31, 1, eth 129 64 4, .ethFrame 31 1 (eth 129 64 4), .inl rfl, by decide +kernel⟩,
    ⟨bridge, 31, by decide +kernel⟩⟩

/-- States and operands that meet the hypotheses of InputIsWatched. -/
theorem wit_InputIsWatched : (∃ (s : State) (t : State) (cv : Nat), t = (s.powerFail 1 cv 0).setFld R.PWR_IN F.PWR_IN_VIN cv ∧ (cv ≠ 0 ∨ s.fld R.PWR_STAT F.PWR_STAT_AUX ≠ 0) ∧ s.pwr.aon = true ∧ cv < 3800) ∧
    (∃ (s : State) (t : State) (cv : Nat), t = (s.powerFail 1 cv 0).setFld R.PWR_IN F.PWR_IN_VIN cv ∧ s.pwr.aon = true ∧ cv < 3800 ∧ cv = 0 ∧ s.fld R.PWR_STAT F.PWR_STAT_AUX = 0) ∧
    (∃ (s : State) (cv : Nat), s.pwr.aon = true ∧ 6300 < cv ∧ cv ≤ 7200) ∧
    (∃ (s : State) (cv : Nat), s.pwr.aon = true ∧ 7200 < cv) ∧
    (∃ (s : State) (cv : Nat) (t : Nat → Nat → State), (t = (fun lo hi => ((s.setFld R.PWR_IN F.PWR_IN_VIN cv).setFld R.PWR_STAT F.PWR_STAT_VIN_LOW lo).setFld R.PWR_STAT F.PWR_STAT_VIN_HIGH hi)) ∧ s.pwr.aon = true ∧ s.pwr.failed = false ∧ 3800 ≤ cv ∧ cv < 4000) ∧
    (∃ (s : State) (cv : Nat) (t : Nat → Nat → State), (t = (fun lo hi => ((s.setFld R.PWR_IN F.PWR_IN_VIN cv).setFld R.PWR_STAT F.PWR_STAT_VIN_LOW lo).setFld R.PWR_STAT F.PWR_STAT_VIN_HIGH hi)) ∧ s.pwr.aon = true ∧ s.pwr.failed = false ∧ 6000 < cv ∧ cv ≤ 6300) ∧
    (∃ (s : State) (cv : Nat) (t : Nat → Nat → State), (t = (fun lo hi => ((s.setFld R.PWR_IN F.PWR_IN_VIN cv).setFld R.PWR_STAT F.PWR_STAT_VIN_LOW lo).setFld R.PWR_STAT F.PWR_STAT_VIN_HIGH hi)) ∧ s.pwr.aon = true ∧ s.pwr.failed = false ∧ 4000 ≤ cv ∧ cv ≤ 6000) ∧
    (∃ (s : State), s.pwr.aon = true ∧ s.pwr.failed = true) ∧
    (∃ (s : State) (ca : Nat), s.pwr.aon = true ∧ 5500 < ca) ∧
    (∃ (s : State) (cause : Fin 8), s.pwr.aon = true ∧ 1 ≤ cause.val ∧ cause.val ≤ 4) ∧
    (∃ (s : State) (t : State) (cv : Nat), t = ((s.setFld R.PWR_IN F.PWR_IN_VIN cv).setFld R.PWR_STAT F.PWR_STAT_VIN_LOW 0).setFld R.PWR_STAT F.PWR_STAT_VIN_HIGH 0 ∧ s.pwr.aon = true ∧ s.pwr.failed = true ∧ 4050 ≤ cv ∧ cv ≤ 5950) ∧
    (∃ (s : State) (on : Bool), ((on = true ∨ s.pwr.failed = false ∨ s.fld R.PWR_IN F.PWR_IN_VIN ≠ 0)) ∧ s.pwr.aon = true) ∧
    (∃ (s : State) (on : Bool), s.pwr.aon = true ∧ on = false ∧ s.pwr.failed = true ∧ s.fld R.PWR_IN F.PWR_IN_VIN = 0) :=
  ⟨⟨live, _, 3799, rfl, .inl (by decide), by decide +kernel⟩,
    ⟨live.setFld R.PWR_STAT F.PWR_STAT_AUX 0, _, 0, rfl, by decide +kernel⟩,
    ⟨live, 7200, by decide +kernel⟩,
    ⟨live, 7201, by decide +kernel⟩,
    ⟨live, 3800, _, rfl, by decide +kernel⟩,
    ⟨live, 6300, _, rfl, by decide +kernel⟩,
    ⟨live, 4000, _, rfl, by decide +kernel⟩,
    ⟨{ live with pwr := { failed := true } }, by decide +kernel⟩,
    ⟨live, 5501, by decide +kernel⟩,
    ⟨live, 4, by decide +kernel⟩,
    ⟨{ live with pwr := { failed := true } }, _, 4050, rfl, by decide +kernel⟩,
    ⟨live, true, .inl rfl, by decide +kernel⟩,
    ⟨({ live with pwr := { failed := true } } : State).setFld R.PWR_IN F.PWR_IN_VIN 0, false, by decide +kernel⟩⟩

/-- States and operands that meet the hypotheses of DomainsAndPower. -/
theorem wit_DomainsAndPower : (∃ (s : State), s.pwr.failed = false ∧ s.dom 7 ≠ 3) ∧
    (∃ (s : State) (b : Fin 8) (g : Fin 4), s.inStrike = false ∧ s.fld R.PWR_AUTO F.PWR_AUTO_ENG_EN = 1 ∧ s.dom (domBell b.val (7 + g.val)) = 0 ∧ ((s.bell b.val).runs.any (fun r => r.cur.any fun a => bits a.d.clusterMask (4 * g.val + 3) (4 * g.val) != 0) = false) ∧ (SMap.get (fun _ => 0) (s.bell b.val).engAt g.val + 1000 * s.fld R.PWR_AUTO F.PWR_AUTO_IDLE_US ≤ s.now)) ∧
    (∃ (s : State) (dom : Fin 148), ((28 ≤ dom.val → dom.val < 124 → s.fitted (bellOfDom dom.val) = true)) ∧ s.pwr.failed = false) ∧
    (∃ (s : State) (b : Fin 8), s.inStrike = false ∧ s.oppRuns b.val = true ∧ (SMap.get (fun _ => none) s.pwr.step b.val = none) ∧ s.opp b.val ≠ s.oppTarget b.val) ∧
    (∃ (s : State) (t : State) (b : Fin 8) (v : Nat), (t = { s with pwr := { s.pwr with step := SMap.set (fun _ => none) s.pwr.step b.val none } }) ∧ s.inStrike = false ∧ (SMap.get (fun _ => none) s.pwr.step b.val = some v)) ∧
    (∃ (s : State), s.inStrike = false) ∧
    (∃ (s : State) (b : Fin 8), s.inStrike = false ∧ s.dom (domBell b.val 0) ≠ 3) :=
  ⟨⟨{ live with pwr := { dom := [(7, 0)] } }, by decide +kernel⟩,
    ⟨{ live with pwr := { dom := [(38, 0)] } }.setFld R.PWR_AUTO F.PWR_AUTO_ENG_EN 1, 0, 3, by decide +kernel⟩,
    ⟨live, 147, by intro h1 h2; revert h2; decide, by decide +kernel⟩,
    ⟨{ live with pwr := { dom := [(30, 0)] } }.setOpp 0 0, 0, by decide +kernel⟩,
    ⟨{ live with pwr := { step := [(0, some 4)] } }, _, 0, 4, rfl, by decide +kernel⟩,
    ⟨live, by decide +kernel⟩,
    ⟨{ live with pwr := { dom := [(28, 0)] } }, 0, by decide +kernel⟩⟩

/-- States and operands that meet the hypotheses of ThermalsAreWatched. -/
theorem wit_ThermalsAreWatched : (∃ (s : State) (i : Fin 608) (reading : Int) (fail : Fin 3), (fail.val ≠ 0 ∨ reading < -80 ∨ 560 < reading) ∧ s.dieRead (sensorDie i.val) = true) ∧
    (∃ (s : State) (i : Fin 608) (reading : Int) (fail : Fin 3), s.dieRead (sensorDie i.val) = true ∧ fail.val = 0 ∧ -80 ≤ reading ∧ reading ≤ 560) ∧
    (∃ (s : State) (region : Fin 17) (t : _), s.inStrike = false ∧ (s.region region.val).on = true ∧ (s.region region.val).coolAt = some t ∧ 10000000 + t ≤ s.now) ∧
    (∃ (s : State) (region : Fin 17), s.inStrike = false ∧ (s.region region.val).on = true ∧ (s.region region.val).coolAt = none ∧ region.val ≠ 0 ∧ 1000000 + (s.region region.val).stepAt ≤ s.now) ∧
    (∃ (s : State) (region : Fin 17), s.inStrike = false ∧ (s.region region.val).on = false ∧ s.regionLim region.val < 5 ∧ 10000000 + (s.region region.val).stepAt ≤ s.now) ∧
    (∃ (s : State), s.pwr.aon = true) ∧
    (∃ (s : State), s.pwr.aon = true ∧ s.releaseResult ≠ 1) ∧
    (∃ (s : State), s.releaseResult = 1 ∧ s.pwr.aon = true) :=
  ⟨⟨live, 63, -81, 0, .inr (.inl (by decide)), by decide +kernel⟩,
    ⟨live, 63, 560, 0, by decide +kernel⟩,
    ⟨hot { on := true, coolAt := some 0 }, 16, 0, by decide +kernel⟩,
    ⟨hot { on := true }, 16, by decide +kernel⟩,
    ⟨{ hot {} with pwr := { thLim := [(16, 4)] } }, 16, by decide +kernel⟩,
    ⟨live, by decide +kernel⟩,
    ⟨live, by decide +kernel⟩,
    ⟨live.setFld R.THM_LATCH F.THM_LATCH_VALID 1, releases rfl (by decide +kernel) (by decide +kernel), by decide +kernel⟩⟩

/-- States and operands that meet the hypotheses of ResetsAreTaken. -/
theorem wit_ResetsAreTaken : (∃ (s : State), s.pins.resetN = true ∧ s.pwr.aon = true) ∧
    (∃ (s : State), s.pins.resetN = true ∧ s.pwr.aon = false) ∧
    (∃ (s : State), s.pins.resetN = false) ∧
    (∃ (s : State), s.pwr.aon = true) ∧
    (∃ (s : State) (t : State), t = { s with pins := { s.pins with testMode := false } } ∧ s.pwr.aon = true ∧ s.fld R.SEC_STAT F.SEC_STAT_UNLOCK = 1) ∧
    (∃ (s : State) (t : State), t = { s with pins := { s.pins with testMode := false } } ∧ s.fld R.SEC_STAT F.SEC_STAT_UNLOCK ≠ 1) ∧
    (∃ (s : State), s.pwr.aon = false) ∧
    (∃ (s : State) (b : Fin 8) (bstrap : Fin 16) (form : Bool), s.inStrike = false ∧ (s.bell b.val).inReset = true ∧ (s.bell b.val).retired = false ∧ (s.bell b.val).dead = false ∧ s.pins.resetN = true ∧ s.dom (domBell b.val 0) = 0 ∧ s.dom (domBell b.val 1) = 0 ∧ strapParity bstrap.val = true ∧ strapForm bstrap.val form = true ∧ strapPort bstrap.val b.val = true) ∧
    (∃ (s : State) (b : Fin 8) (bstrap : Fin 16) (form : Bool), (strapParity bstrap.val = false ∨ strapForm bstrap.val form = false ∨ strapPort bstrap.val b.val = false) ∧ s.inStrike = false ∧ (s.bell b.val).inReset = true ∧ (s.bell b.val).retired = false ∧ (s.bell b.val).dead = false ∧ s.pins.resetN = true ∧ s.dom (domBell b.val 0) = 0 ∧ s.dom (domBell b.val 1) = 0) :=
  ⟨⟨{ live with pins := { resetN := true } }, by decide +kernel⟩,
    ⟨{ live with pins := { resetN := true }, pwr := { aon := false } }, by decide +kernel⟩,
    ⟨live, by decide +kernel⟩,
    ⟨live, by decide +kernel⟩,
    ⟨live.setFld R.SEC_STAT F.SEC_STAT_UNLOCK 1, _, rfl, by decide +kernel⟩,
    ⟨live, _, rfl, by decide +kernel⟩,
    ⟨{ live with pwr := { aon := false } }, by decide +kernel⟩,
    ⟨{ State.reset with pins := { resetN := true }, pwr := { dom := [(112, 0), (113, 0)] } }, 7, 7, true, by decide +kernel⟩,
    ⟨{ State.reset with pins := { resetN := true }, pwr := { dom := [(112, 0), (113, 0)] } }, 7, 7, false, .inr (.inl (by decide)), by decide +kernel⟩⟩

/-- States and operands that meet the hypotheses of CommitsFollowTheTable. -/
theorem wit_CommitsFollowTheTable : (∃ (s : State), s.pwr.aon = true) ∧
    (∃ (s : State) (k : Level), s.levelBar k ≠ 0) ∧
    (∃ (s : State) (k : Level), s.levelBar k = 0 ∧ s.nextLevel k ≤ s.level k) ∧
    (∃ (s : State) (k : Level), s.levelBar k = 0 ∧ s.level k < s.nextLevel k ∧ 64 < s.nextLevel k) ∧
    (∃ (s : State) (k : Level) (fails : Bool), s.levelBar k = 0 ∧ s.level k < s.nextLevel k ∧ s.nextLevel k ≤ 64 ∧ fails = false) ∧
    (∃ (s : State) (k : Level) (fails : Bool), s.levelBar k = 0 ∧ s.level k < s.nextLevel k ∧ s.nextLevel k ≤ 64 ∧ fails = true) :=
  ⟨⟨live, by decide +kernel⟩,
    ⟨State.reset, .pit, by decide +kernel⟩,
    ⟨live, .pit, by decide +kernel⟩,
    ⟨fwUp 65, .fw, by decide +kernel⟩,
    ⟨fwUp 64, .fw, false, by decide +kernel⟩,
    ⟨fwUp 64, .fw, true, by decide +kernel⟩⟩

/-- States and operands that meet the hypotheses of FirmwareAndLocks. -/
theorem wit_FirmwareAndLocks : (∃ (s : State) (len : Nat), s.pwr.aon = true ∧ s.sec.upd = none ∧ len ≤ 0xF00000) ∧
    (∃ (s : State) (u : FwUpd) (off : Nat) (bytes : List Byte), s.pwr.aon = true ∧ s.sec.upd = some u ∧ off = u.got ∧ off + bytes.length ≤ u.len) ∧
    (∃ (s : State) (u : FwUpd) (off : Nat) (bytes : List Byte), (off ≠ u.got ∨ u.len < off + bytes.length) ∧ s.pwr.aon = true ∧ s.sec.upd = some u) ∧
    (∃ (s : State) (cert : List Byte), s.pwr.aon = true ∧ s.recovery = false ∧ cert.length ≠ 224) ∧
    (∃ (s : State) (cert : List Byte) (u : State), u = (s.pulse 31 (le 1 5)).dryEvent 0x0103 0 (le 8 (certKey cert) ++ le 1 0) ∧ s.pwr.aon = true ∧ s.recovery = false ∧ cert.length = 224 ∧ s.fuses.bound = false) ∧
    (∃ (s : State) (cert : List Byte) (u : State), u = (s.pulse 31 (le 1 5)).dryEvent 0x0103 0 (le 8 (certKey cert) ++ le 1 0) ∧ s.pwr.aon = true ∧ s.recovery = false ∧ cert.length = 224 ∧ s.fuses.bound = true) ∧
    (∃ (s : State), s.pwr.aon = true ∧ s.recovery = false) ∧
    (∃ (s : State) (t : State) (u : State) (token : List Byte) (testMode : Bool), t = { s with pins := { s.pins with testMode := testMode } } ∧ u = State.dryEvent { t with sec := { t.sec with nonce := none } } 0x0104 0 (le 1 (b2n (t.tokenOk token)) ++ le 1 (b2n testMode)) ∧ s.pwr.aon = true ∧ s.recovery = false ∧ token.length = 200) :=
  ⟨⟨live, 0, by decide +kernel⟩,
    ⟨{ live with sec := { live.sec with upd := some ⟨false, 8, 0⟩ } }, ⟨false, 8, 0⟩, 0, zeros 8, by decide +kernel⟩,
    ⟨{ live with sec := { live.sec with upd := some ⟨false, 8, 0⟩ } }, ⟨false, 8, 0⟩, 1, zeros 4, .inl (by decide), by decide +kernel⟩,
    ⟨live, [], by decide +kernel⟩,
    ⟨live, zeros 224, _, rfl, by decide +kernel⟩,
    ⟨{ live with fuses := { live.fuses with bound := true } }, zeros 224, _, rfl, by decide +kernel⟩,
    ⟨live, by decide +kernel⟩,
    ⟨live, _, _, zeros 200, true, rfl, rfl, by decide +kernel⟩⟩

/-- States and operands that meet the hypotheses of ShadowIsLoaded. -/
theorem wit_ShadowIsLoaded : (∃ (s : State) (guy : Bool) (data : BitVec 32) (c : Instr), ((c = .openShadow guy ∨ c = .shadowDataWrite guy data ∨ c = .verify guy ∨ c = .drop guy ∨ c = .arm guy ∨ c = .disarm guy)) ∧ s.sec.running ≠ none ∧ s.fld R.PIT_STAT F.PIT_STAT_OWNER ≠ 0 ∧ s.fld R.PIT_STAT F.PIT_STAT_OWNER ≠ ownerOf guy) ∧
    (∃ (s : State) (guy : Bool), ((s.fld R.PIT_STAT F.PIT_STAT_OWNER = 0 ∨ s.fld R.PIT_STAT F.PIT_STAT_OWNER = ownerOf guy)) ∧ s.sec.running ≠ none ∧ s.pit.shState ≠ .armed) ∧
    (∃ (s : State) (guy : Bool) (c : Instr), ((s.fld R.PIT_STAT F.PIT_STAT_OWNER = 0 ∨ s.fld R.PIT_STAT F.PIT_STAT_OWNER = ownerOf guy)) ∧ ((c = .openShadow guy ∨ c = .drop guy)) ∧ s.sec.running ≠ none ∧ s.pit.shState = .armed) ∧
    (∃ (s : State) (guy : Bool), ((s.fld R.PIT_STAT F.PIT_STAT_OWNER = 0 ∨ s.fld R.PIT_STAT F.PIT_STAT_OWNER = ownerOf guy)) ∧ s.sec.running ≠ none ∧ s.pit.shState ≠ .loading) ∧
    (∃ (s : State) (guy : Bool) (r : _), ((s.fld R.PIT_STAT F.PIT_STAT_OWNER = 0 ∨ s.fld R.PIT_STAT F.PIT_STAT_OWNER = ownerOf guy)) ∧ s.sec.running ≠ none ∧ s.pit.shState = .loading ∧ s.verifyImage s.pit.shadow = some r) ∧
    (∃ (s : State) (guy : Bool) (o : Nat), o = s.fld R.PIT_SHD_OFF F.PIT_SHD_OFF_OFF ∧ ((s.fld R.PIT_STAT F.PIT_STAT_OWNER = 0 ∨ s.fld R.PIT_STAT F.PIT_STAT_OWNER = ownerOf guy)) ∧ (s.pit.shState ≠ .loading ∨ s.pit.isSealed = true) ∧ s.sec.running ≠ none) ∧
    (∃ (s : State) (guy : Bool) (o : Nat), o = s.fld R.PIT_SHD_OFF F.PIT_SHD_OFF_OFF ∧ ((s.fld R.PIT_STAT F.PIT_STAT_OWNER = 0 ∨ s.fld R.PIT_STAT F.PIT_STAT_OWNER = ownerOf guy)) ∧ s.sec.running ≠ none ∧ s.pit.shState = .loading ∧ s.pit.isSealed = false ∧ o < 16777216) ∧
    (∃ (s : State) (r : VerRes), s.pit.res = some r ∧ s.pit.shState = .verifying ∧ r.code = 0) ∧
    (∃ (s : State) (ext : Nat) (place : Nat), (place = (s.pit.shadow.find 5).elim 0 (fun x => x.off + 8 + 32 * ext)) ∧ s.pit.shState = .verifying ∧ s.pit.res = none ∧ (s.pit.peers.any (fun e => e.1 == ext) = true) ∧ s.pit.peerBy ≤ s.now) :=
  ⟨⟨(shadow .loading {}).setFld R.PIT_STAT F.PIT_STAT_OWNER 2, false, 0, .openShadow false, .inl rfl, by decide +kernel⟩,
    ⟨shadow .empty {}, false, .inl (by decide +kernel), by decide +kernel⟩,
    ⟨shadow .armed {}, false, .openShadow false, .inl (by decide +kernel), .inl rfl, by decide +kernel⟩,
    ⟨shadow .empty {}, false, .inl (by decide +kernel), by decide +kernel⟩,
    ⟨shadow .loading {}, false, ((shadow .loading {}).verifyImage {}).getD { code := 0 }, .inl (by decide +kernel), by decide +kernel⟩,
    ⟨shadow .empty {}, false, _, rfl, .inl (by decide +kernel), .inl (by decide +kernel), by decide +kernel⟩,
    ⟨shadow .loading {}, false, _, rfl, .inl (by decide +kernel), by decide +kernel⟩,
    ⟨{ live with pit := { live.pit with shState := .verifying, res := some { code := 0 } } }, { code := 0 }, by decide +kernel⟩,
    ⟨{ live with pit := { live.pit with shState := .verifying, peers := [(0, 9)] } }, 0, _, rfl, by decide +kernel⟩⟩

/-- States and operands that meet the hypotheses of FullActivates. -/
theorem wit_FullActivates : (∃ (s : State) (guy : Bool), ((s.fld R.PIT_STAT F.PIT_STAT_OWNER = 0 ∨ s.fld R.PIT_STAT F.PIT_STAT_OWNER = ownerOf guy)) ∧ s.sec.running ≠ none ∧ s.pit.shState ≠ .verified) ∧
    (∃ (s : State) (guy : Bool), ((s.fld R.PIT_STAT F.PIT_STAT_OWNER = 0 ∨ s.fld R.PIT_STAT F.PIT_STAT_OWNER = ownerOf guy)) ∧ ((s.actTick % 128 ≠ 0 ∨ s.actTick < s.ftc + 1024)) ∧ s.sec.running ≠ none ∧ s.pit.shState = .verified) ∧
    (∃ (s : State) (guy : Bool), ((s.fld R.PIT_STAT F.PIT_STAT_OWNER = 0 ∨ s.fld R.PIT_STAT F.PIT_STAT_OWNER = ownerOf guy)) ∧ s.sec.running ≠ none ∧ s.pit.shState = .verified ∧ s.actTick % 128 = 0 ∧ s.ftc + 1024 ≤ s.actTick ∧ s.pit.remap ≠ none) ∧
    (∃ (s : State) (guy : Bool), ((s.fld R.PIT_STAT F.PIT_STAT_OWNER = 0 ∨ s.fld R.PIT_STAT F.PIT_STAT_OWNER = ownerOf guy)) ∧ s.sec.running ≠ none ∧ s.pit.shState = .verified ∧ s.actTick % 128 = 0 ∧ s.ftc + 1024 ≤ s.actTick ∧ s.pit.remap = none) ∧
    (∃ (s : State) (guy : Bool), ((s.fld R.PIT_STAT F.PIT_STAT_OWNER = 0 ∨ s.fld R.PIT_STAT F.PIT_STAT_OWNER = ownerOf guy)) ∧ s.sec.running ≠ none ∧ s.pit.shState = .armed ∧ s.ftc + 128 < s.actTick) ∧
    (∃ (s : State) (guy : Bool), ((s.fld R.PIT_STAT F.PIT_STAT_OWNER = 0 ∨ s.fld R.PIT_STAT F.PIT_STAT_OWNER = ownerOf guy)) ∧ s.sec.running ≠ none ∧ s.pit.shState = .armed ∧ s.actTick ≤ s.ftc + 128) ∧
    (∃ (s : State) (r : _), s.inStrike = false ∧ s.pit.shState = .armed ∧ s.actTick ≤ s.ftc ∧ s.placeCheck s.pit.shadow = some r) ∧
    (∃ (s : State), s.placeCheck s.pit.shadow = none ∧ (s.jrn.streams ≠ [] ∨ s.jrn.comps ≠ []) ∧ s.inStrike = false ∧ s.pit.shState = .armed ∧ s.actTick ≤ s.ftc) ∧
    (∃ (s : State), s.placeCheck s.pit.shadow = none ∧ s.inStrike = false ∧ s.pit.shState = .armed ∧ s.actTick ≤ s.ftc ∧ s.jrn.streams = [] ∧ s.jrn.comps = []) :=
  ⟨⟨shadow .empty {}, false, .inl (by decide +kernel), by decide +kernel⟩,
    ⟨shadow .verified {}, false, .inl (by decide +kernel), .inr (by decide +kernel), by decide +kernel⟩,
    ⟨{ actAt .verified 2000000001024 with pit := { (actAt .verified 2000000001024).pit with remap := some (0, 0) } }, false, .inl (by decide +kernel), by decide +kernel⟩,
    ⟨actAt .verified 2000000001024, false, .inl (by decide +kernel), by decide +kernel⟩,
    ⟨actAt .armed 2000000001024, false, .inl (by decide +kernel), by decide +kernel⟩,
    ⟨shadow .armed {}, false, .inl (by decide +kernel), by decide +kernel⟩,
    ⟨shadow .armed image, ((shadow .armed image).placeCheck image).getD { code := 0 }, by decide +kernel⟩,
    ⟨{ shadow .armed {} with jrn := { comps := [comp] } }, placed (by decide +kernel) (by decide +kernel) (by decide +kernel), .inr (by decide +kernel), by decide +kernel⟩,
    ⟨shadow .armed {}, placed (by decide +kernel) (by decide +kernel) (by decide +kernel), by decide +kernel⟩⟩

/-- States and operands that meet the hypotheses of RemapAndLive. -/
theorem wit_RemapAndLive : (∃ (s : State) (t : State) (delta : Fin 16), t = s.setFld R.PIT_REMAP F.PIT_REMAP_DELTA delta.val ∧ s.sec.running ≠ none ∧ t.delta? delta.val = none) ∧
    (∃ (s : State) (t : State) (delta : Fin 16) (d : _) (u : _), t = s.setFld R.PIT_REMAP F.PIT_REMAP_DELTA delta.val ∧ u = State.setFld { t with pit := { t.pit with remap := some (t.remapTick, delta.val) } } R.PIT_STAT F.PIT_STAT_REMAP_PEND 1 ∧ s.sec.running ≠ none ∧ t.delta? delta.val = some d ∧ t.deltaFits d = true ∧ t.tickPast t.remapTick = false) ∧
    (∃ (s : State) (t : State) (delta : Fin 16) (r : _), t = s.setFld R.PIT_REMAP F.PIT_REMAP_DELTA delta.val ∧ s.sec.running ≠ none ∧ t.pit.remap = some r ∧ t.ftc + 128 < r.1) ∧
    (∃ (s : State) (t : State) (delta : Fin 16), t = s.setFld R.PIT_REMAP F.PIT_REMAP_DELTA delta.val ∧ s.sec.running ≠ none ∧ t.pit.remap = none) ∧
    (∃ (s : State) (tick : Nat) (n : Nat) (d : Delta), s.placeCheck (s.img.applyDelta d) = none ∧ s.inStrike = false ∧ s.pit.remap = some (tick, n) ∧ tick ≤ s.ftc ∧ s.delta? n = some d) ∧
    (∃ (s : State) (tick : Nat) (n : Nat) (d : Delta) (r : _), s.inStrike = false ∧ s.pit.remap = some (tick, n) ∧ tick ≤ s.ftc ∧ s.delta? n = some d ∧ s.placeCheck (s.img.applyDelta d) = some r) ∧
    (∃ (s : State) (x : Sect) (o : Nat), s.cfgWord? = some (x, o) ∧ (s.img.liveWords.contains (x.type, o) && liveScope x.type o) = false) ∧
    (∃ (s : State) (data : BitVec 32) (x : Sect) (o : Nat), s.cfgWord? = some (x, o) ∧ (s.img.liveWords.contains (x.type, o) && liveScope x.type o) = true ∧ (if x.type = 10 then (s.img.write (x.off + o) (le 4 data.toNat)).badPolicy x else if x.type = 9 then (s.img.write (x.off + o) (le 4 data.toNat)).badSeverity x else (s.img.write (x.off + o) (le 4 data.toNat)).badRole x) = none) ∧
    (∃ (s : State) (t : State) (f : Store), t = (s.addFld R.PIT_LIVE_CNT whole s.pit.live.length).setFld R.PIT_LIVE_PEND F.PIT_LIVE_PEND_PEND 0 ∧ (f = s.pit.live.foldl (fun (t : Store) e => match t.sects[e.1]? with | some x => t.write (x.off + e.2.1) (le 4 e.2.2) | none => t) s.pit.force) ∧ s.liveDue = true ∧ s.activationDue = false) ∧
    (∃ (s : State) (src : Entry) (raw : List Byte) (m : Msg), s.Takes src raw 0x2A m) :=
  ⟨⟨fw, _, 0, rfl, by decide +kernel⟩,
    ⟨fw2.setPair R.PIT_REMAP_TICK_LO R.PIT_REMAP_TICK_HI 2000000001024, _, 0, delta0, _, rfl, rfl, by decide +kernel⟩,
    ⟨remapAt 2000000001024 0, _, 0, (2000000001024, 0), rfl, by decide +kernel⟩,
    ⟨fw, _, 0, rfl, by decide +kernel⟩,
    ⟨remapAt 0 255, 0, 0, delta0, placed (by decide +kernel) (by decide +kernel) (by decide +kernel), by decide +kernel⟩,
    ⟨remapAt 0 0, 0, 0, delta0, ((remapAt 0 0).placeCheck (image2.applyDelta delta0)).getD { code := 0 }, by decide +kernel⟩,
    ⟨live, sectOf image 0, 0, by decide +kernel⟩,
    ⟨fw2.setFld R.PIT_CFG_SEL F.PIT_CFG_SEL_SECT 7, 0, sectOf image2 7, 0, by decide +kernel⟩,
    ⟨{ live with pit := { live.pit with live := [(0, 0, 0)] } }, _, _, rfl, rfl, by decide +kernel⟩,
    ⟨live, .ridge, (msg 0x2A (zeros 8)).encode, msg 0x2A (zeros 8), takesOf (by decide +kernel)⟩⟩

/-- States and operands that meet the hypotheses of LossIsHandled. -/
theorem wit_LossIsHandled : (∃ (s : State), s.inStrike = false ∧ s.probes = true ∧ (s.loss.probeAt.all (fun t => decide (100000 + t ≤ s.now)) = true)) ∧
    (∃ (s : State), s.inStrike = false ∧ s.probes = true ∧ s.loss.armed = true ∧ 1500000 + max s.loss.lastProbe s.loss.countFrom ≤ s.now) ∧
    (∃ (s : State), s.inStrike = false) ∧
    (∃ (s : State) (x : Nat) (t : _), x = s.fld R.WSQ_PRED F.WSQ_PRED_NODE ∧ s.inStrike = false ∧ s.active = true ∧ s.shownLost x 0 = false ∧ s.loss.lost = none ∧ x ≠ s.node ∧ s.jrn.adopted.contains x = false ∧ s.downFor x 2000000 = true ∧ (SMap.get (fun _ => none) s.loss.probeSent x = some t) ∧ 100000 + t ≤ s.now) ∧
    (∃ (s : State) (b : Fin 8) (die : Fin 9), s.inStrike = false ∧ s.active = true ∧ die.val = b.val + 1 ∧ s.fitted b.val = true ∧ s.shownLost s.node die.val = false ∧ (((s.bell b.val).retired = true ∨ (s.bell b.val).inReset = true ∧ s.hasDelta b.val = true))) ∧
    (∃ (s : State), s.fld R.WSQ_RELOAD_STAT F.WSQ_RELOAD_STAT_STATE = 2) ∧
    (∃ (s : State) (t : State) (n : Nat) (k : Nat), n = s.fld R.WSQ_RELOAD_STAT F.WSQ_RELOAD_STAT_DELTA ∧ k = slotAt (s.ftc + s.fld R.WSQ_AGENT_CFG F.WSQ_AGENT_CFG_LEAD) ∧ t = ((s.castReg R.PIT_REMAP_TICK_LO (k % 2 ^ 32)).castReg R.PIT_REMAP_TICK_HI (k / 2 ^ 32)).castReg R.PIT_REMAP (n + 16) ∧ s.inStrike = false ∧ s.fld R.WSQ_RELOAD_STAT F.WSQ_RELOAD_STAT_STATE = 3 ∧ s.pit.remap = none) ∧
    (∃ (s : State) (x : Nat) (t : Nat), s.inStrike = false ∧ s.loss.lost = some (x, 0, t) ∧ x = s.fld R.WSQ_PRED F.WSQ_PRED_NODE ∧ (s.img.deltas.any (fun d => d.node == x && d.die == 0) = false) ∧ slotAt (t + s.fld R.WSQ_AGENT_CFG F.WSQ_AGENT_CFG_LEAD) ≤ s.ftc) :=
  ⟨⟨live, by decide +kernel⟩,
    ⟨{ live with loss := { armed := true } }, by decide +kernel⟩,
    ⟨live, by decide +kernel⟩,
    ⟨{ live.setFld R.WSQ_PRED F.WSQ_PRED_NODE 9 with loss := { probeSent := [(9, some 0)] } }, _, 0, rfl, by decide +kernel⟩,
    ⟨live.setBell 1 { retired := true }, 1, 2, by decide +kernel⟩,
    ⟨live.setFld R.WSQ_RELOAD_STAT F.WSQ_RELOAD_STAT_STATE 2, by decide +kernel⟩,
    ⟨live.setFld R.WSQ_RELOAD_STAT F.WSQ_RELOAD_STAT_STATE 3, _, _, _, rfl, rfl, rfl, by decide +kernel⟩,
    ⟨{ live.setFld R.WSQ_PRED F.WSQ_PRED_NODE 9 with loss := { lost := some (9, 0, 0) } }, 9, 0, by decide +kernel⟩⟩

/-- States and operands that meet the hypotheses of RegistersAreWritten. -/
theorem wit_RegistersAreWritten : (∃ (s : State) (addr : BitVec 32) (c : _), s.pwr.aon = true ∧ s.ctlCheck addr.toNat = some c) ∧
    (∃ (s : State) (src : Entry) (addr : BitVec 32), s.pwr.aon = true ∧ s.ctlCheck addr.toNat = none ∧ addr.toNat = R.WSQ_LOST_UNIT ∧ src ≠ .ridge) ∧
    (∃ (s : State) (src : Entry) (addr : BitVec 32), s.pwr.aon = true ∧ s.ctlCheck addr.toNat = none ∧ addr.toNat ≠ R.WSQ_LOST_UNIT ∧ guyReg addr.toNat = true ∧ src ≠ .guy) ∧
    (∃ (s : State) (src : Entry) (addr : BitVec 32), s.pwr.aon = true ∧ s.ctlCheck addr.toNat = none ∧ ((addr.toNat = R.WSQ_LOST_UNIT → src = .ridge)) ∧ ((guyReg addr.toNat = true → src = .guy))) :=
  ⟨⟨live, 1, 5, by decide +kernel⟩,
    ⟨{ live with pwr := { dom := [(1, 0)] } }, .guy, BitVec.ofNat 32 R.WSQ_LOST_UNIT, by decide +kernel⟩,
    ⟨{ live with pwr := { dom := [(1, 0)] } }, .ridge, BitVec.ofNat 32 R.SEC_COMMIT, by decide +kernel⟩,
    ⟨{ live with pwr := { dom := [(1, 0)] } }, .ridge, BitVec.ofNat 32 R.PIT_ACT_TICK_LO, by decide +kernel⟩⟩

/-- States and operands that meet the hypotheses of IdleStepTicks. -/
theorem wit_IdleStepTicks : (∃ (s : State), s.pending = [] ∧ s.time.counting = true ∧ s.time.skew = 0 ∧ s.time.loadDue = false) ∧
    (∃ (s : State), s.pending = [] ∧ s.time.counting = false) :=
  ⟨⟨{ live with time := { counting := true } }, by decide +kernel⟩,
    ⟨live, by decide +kernel⟩⟩

/-- States and operands that meet the hypotheses of EveryStepKeepsSound. -/
theorem wit_EveryStepKeepsSound : ∃ (s : State) (t : State), step s = .next t ∧ s.Sound :=
  ⟨State.reset, _, rfl, by unfold State.Sound State.Canonical State.Bounded Fuses.InRange; decide⟩

/-- States and operands that meet the hypotheses of LevelsNeverFall. -/
theorem wit_LevelsNeverFall : ∃ (s : State) (t : State), step s = .next t :=
  ⟨State.reset, _, rfl⟩

/-- States and operands that meet the hypotheses of CommandsKeepTheirFrame. -/
theorem wit_CommandsKeepTheirFrame : ∃ (c : Instr) (s : State) (t : State) (p : _), exec c s = .next t ∧ p ∉ mayChange c :=
  ⟨.erasePinned, live, _, .fuses, rfl, by decide⟩

/-- States and operands that meet the hypotheses of EncodingsRoundTrip. -/
theorem wit_EncodingsRoundTrip : (∃ (m : Msg), (m.ver = 1 ∨ m.ver = 2) ∧ m.mtype < 2 ^ 8 ∧ m.ttl < 2 ^ 8 ∧ m.dstNode < 2 ^ 20 ∧ m.dstDie < 2 ^ 5 ∧ m.srcNode < 2 ^ 20 ∧ m.srcDie < 2 ^ 5 ∧ m.epoch < 2 ^ 16 ∧ m.tid < 2 ^ 64 ∧ m.origTick < 2 ^ 32 ∧ m.status < 2 ^ 8 ∧ m.body.length ≤ 8192) ∧
    (∃ (l : List Byte) (c : Nat), 36 ≤ l.length ∧ c < 2 ^ 32 ∧ c ≠ crc32 (l.take (l.length - 4))) ∧
    (∃ (l : List Byte), (l.length ≠ 36 + leAt l 14 2 ∨ 8 ≤ leAt l 2 1 ∨ (leAt l 0 1 ≠ 1 ∧ leAt l 0 1 ≠ 2))) ∧
    (∃ (l : List Byte), l.length = 128 ∧ reservedZero l = true) :=
  ⟨⟨msg 2 [], .inr rfl, by decide +kernel⟩,
    ⟨(msg 2 []).encode, 0, by decide +kernel⟩,
    ⟨[], .inl (by decide)⟩,
    ⟨zeros 128, by decide +kernel⟩⟩

/-- States and operands that meet the hypotheses of WritesAreRead. -/
theorem wit_WritesAreRead : (∃ (s : State), s.Canonical) ∧
    (∃ (s : State) (off : Nat) (o : Nat) (l : List Byte), s.Canonical ∧ off + l.length ≤ 2 ^ 39 ∧ o < 2 ^ 39) ∧
    (∃ (s : State) (off : Nat) (l : List Byte), s.Canonical ∧ off + l.length ≤ 2 ^ 39) ∧
    (∃ (s : State) (o : Nat) (bytes : List Byte), s.Canonical ∧ o + bytes.length ≤ 2 ^ 39 ∧ inDram o = false) ∧
    (∃ (s : State) (b : Nat) (o : Nat) (bytes : List Byte) (a : _), s.Canonical ∧ o + bytes.length ≤ 2 ^ 39 ∧ (s.writeRange b o bytes []).2 = none ∧ a < 2 ^ 39) :=
  ⟨⟨State.reset, by unfold State.Canonical; decide⟩,
    ⟨State.reset, 0, 0, zeros 8, by unfold State.Canonical; decide, by decide +kernel⟩,
    ⟨State.reset, 0, zeros 8, by unfold State.Canonical; decide, by decide +kernel⟩,
    ⟨State.reset, 2 ^ 39 - 8, zeros 8, by unfold State.Canonical; decide, by decide +kernel⟩,
    ⟨State.reset, 0, 0, zeros 8, 0, by unfold State.Canonical; decide, by decide +kernel⟩⟩

/-- States and operands that meet the hypotheses of ExactSums. -/
theorem wit_ExactSums : (∃ (ts : List Machine.Num), (∃ t ∈ ts, t.isFin = false)) ∧
    (∃ (ts : List Machine.Num) (a : Int) (is : List (Int × Bool)), ts.length < 2 ^ 32 ∧ (ts.map (fun t => esfTerm t a) = is.map some) ∧ ((∀ x ∈ is, x.1.natAbs < 2 ^ 95))) :=
  ⟨⟨[.nan], ⟨.nan, by simp, rfl⟩⟩,
    ⟨[.fin false 1 0], 95, [(1, false)], by decide +kernel⟩⟩

/-- States and operands that meet the hypotheses of RowsCarryBlockScales. -/
theorem wit_RowsCarryBlockScales : (∃ (c : Nat) (k : Nat) (i : Nat) (l : List Byte) (x : Machine.Num), x = decodeElem c ((unpackCodes c k l).getD i 0) ∧ i < k ∧ isMx c = false) ∧
    (∃ (c : Nat) (k : Nat) (i : Nat) (l : List Byte) (x : Machine.Num) (sc : _), x = decodeElem c ((unpackCodes c k l).getD i 0) ∧ i < k ∧ isMx c = true ∧ sc = leAt l (dataLen c k + i / 32) 1 ∧ sc = 255) ∧
    (∃ (c : Nat) (k : Nat) (i : Nat) (l : List Byte) (x : Machine.Num) (sc : _), x = decodeElem c ((unpackCodes c k l).getD i 0) ∧ i < k ∧ isMx c = true ∧ sc = leAt l (dataLen c k + i / 32) 1 ∧ sc ≠ 255) :=
  ⟨⟨8, 1, 0, zeros 2, _, rfl, by decide +kernel⟩,
    ⟨0, 1, 0, zeros 32 ++ [255], _, 255, rfl, by decide +kernel⟩,
    ⟨0, 1, 0, zeros 32 ++ [127], _, 127, rfl, by decide +kernel⟩⟩

/-- States and operands that meet the hypotheses of ExactSumsAreOrderFree. -/
theorem wit_ExactSumsAreOrderFree : (∃ (ts : List Machine.Num) (us : List Machine.Num) (a : Int), ts.Perm us ∧ ((∀ t ∈ ts, ∀ i x, esfTerm t a = some (i, x) → i.natAbs < 2 ^ 95)) ∧ ts.length < 2 ^ 32) ∧
    (∃ (ts : List Machine.Num) (us : List Machine.Num) (a : Int), ((∀ t ∈ ts ++ us, ∀ i x, esfTerm t a = some (i, x) → i.natAbs < 2 ^ 95)) ∧ (ts ++ us).length < 2 ^ 32) :=
  ⟨⟨[.fin false 1 0, .fin true 1 1], [.fin true 1 1, .fin false 1 0], 95, List.Perm.swap _ _ _, fun t ht i x h => by simp at ht; rcases ht with rfl | rfl <;> (have e : i = _ := (congrArg Prod.fst (Option.some.inj h)).symm; subst e; decide +kernel), by decide +kernel⟩,
    ⟨[.fin false 1 0], [.fin true 1 1], 95, fun t ht i x h => by simp at ht; rcases ht with rfl | rfl <;> (have e : i = _ := (congrArg Prod.fst (Option.some.inj h)).symm; subst e; decide +kernel), by decide +kernel⟩⟩

/-- States and operands that meet the hypotheses of ConversionsRoundOnce. -/
theorem wit_ConversionsRoundOnce : (∃ (e : Int) (q : Int), q ≤ e) ∧
    (∃ (m : Nat) (e : Int) (q : Int), (2 * m = (2 * roundUnit m e q + 1) * 2 ^ (q - e).toNat ∨ 2 * roundUnit m e q * 2 ^ (q - e).toNat = 2 * m + 2 ^ (q - e).toNat) ∧ e < q) ∧
    (∃ (c : Nat) (code : Nat), c ≤ 5 ∧ code < 2 ^ elemBits c ∧ (decodeElem c code).isNan = false ∧ (c = 5 ∧ code = 0x80)) ∧
    (∃ (c : Nat) (code : Nat), c ≤ 5 ∧ code < 2 ^ elemBits c ∧ (decodeElem c code).isNan = false ∧ ¬ (c = 5 ∧ code = 0x80)) :=
  ⟨⟨0, 0, by decide +kernel⟩,
    ⟨1, -1, 0, .inl (by decide +kernel), by decide +kernel⟩,
    ⟨5, 0x80, by decide +kernel⟩,
    ⟨0, 0, by decide +kernel⟩⟩

/-- States and operands that meet the hypotheses of SeveritiesAreConfigured. -/
theorem wit_SeveritiesAreConfigured : (∃ (s : State), s.active = true) ∧
    (∃ (s : State), s.active = false) ∧
    (∃ (i : Nat), (i = 0 ∨ i = 6 ∨ i = 10 ∨ i = 14 ∨ i = 28 ∨ i = 30)) :=
  ⟨⟨live, by decide +kernel⟩,
    ⟨State.reset, by decide +kernel⟩,
    ⟨0, .inl rfl⟩⟩

end Sys2Proof.Tests
end

section
/-!
PROOF. What a write to a control address does, and what each reset does: the statements RegistersAreWritten and ResetsAreTaken.
-/

namespace Sys2Proof.Machine

open Sys2Proof

/-! The write of a control address: one rule for each answer of its checks. -/

section ControlWrite

variable {s : State} {src : Entry} {pole : Bool} {a c v : Nat}

/-- A failed check of the address comes before any other (R458). -/
theorem State.ctlWrite_of_ctlCheck_some (hc : s.ctlCheck a = some c) : s.ctlWrite src pole a v = (c, s.refuseAt src c 0 a) := by
  simp only [State.ctlWrite, hc]

/-- WSQ_LOST_UNIT is a Control Pole's to write (R395). -/
theorem State.ctlWrite_lostUnit_of_not_pole (hc : s.ctlCheck R.WSQ_LOST_UNIT = none) :
    s.ctlWrite src false R.WSQ_LOST_UNIT v = (4, s.refuseAt src 4 0 R.WSQ_LOST_UNIT) := by
  simp [State.ctlWrite, hc]

/-- A register with a GUY field is only counted when another line writes it (R403). -/
theorem State.ctlWrite_guyReg_of_not_guy (hc : s.ctlCheck a = none) (ha : a ≠ R.WSQ_LOST_UNIT) (hg : guyReg a = true) (hs : src ≠ .guy) :
    s.ctlWrite src pole a v = (8, s.bump R.SEC_GUY_DENY_CNT) := by
  simp [State.ctlWrite, hc, ha, hg, hs]

/-- A write that passes every check has the register's effect (R16). -/
theorem State.ctlWrite_of_admitted (hc : s.ctlCheck a = none) (hp : a = R.WSQ_LOST_UNIT → pole = true) (hg : guyReg a = true → src = .guy) :
    s.ctlWrite src pole a v = (0, s.writeReg (src == .guy) a v) := by
  have hpole : ¬ (a = R.WSQ_LOST_UNIT ∧ (!pole) = true) := fun ⟨ha, hn⟩ => by simp [hp ha] at hn
  have hguy : ¬ (guyReg a = true ∧ (!(src == .guy)) = true) := fun ⟨ha, hn⟩ => by simp [hg ha] at hn
  simp only [State.ctlWrite, hc, if_neg hpole, if_neg hguy]

end ControlWrite

/-- With power on the always-on domain, REGISTER_WRITE writes the control address; the Ridge's own line is a Control Pole's. -/
theorem exec_registerWrite {s : State} {src : Entry} {addr data : BitVec 32} (h : s.pwr.aon = true) :
    exec (.registerWrite src addr data) s = .next (s.ctlWrite src (src == .ridge) addr.toNat data.toNat).2 := by
  change execRegisterWrite src addr data s = _
  rw [execRegisterWrite, if_pos h]

/-- Settles O45: REGISTER_WRITE writes the control address, whose four answers are the four clauses. -/
theorem registersAreWritten : Obligations.RegistersAreWritten := by
  intro s src addr data haon
  rw [exec_registerWrite haon]
  refine ⟨fun c hc => ?refused, fun hc ha hs => ?notPole, fun hc ha hg hs => ?notGuy, fun hc hp hg => ?written⟩
  case refused => rw [State.ctlWrite_of_ctlCheck_some hc]
  case notPole =>
    rw [ha] at hc ⊢
    rw [beq_false_of_ne hs, State.ctlWrite_lostUnit_of_not_pole hc]
  case notGuy => rw [State.ctlWrite_guyReg_of_not_guy hc ha hg hs]
  case written => rw [State.ctlWrite_of_admitted hc (fun ha => beq_iff_eq.mpr (hp ha)) hg]

/-! The resets of the device (R17, R401, R415, R416, R420). -/

section DeviceResets

variable {s : State}

/-- RESET_N falls: the pin alone changes without always-on power, and with it the device is reset. -/
theorem exec_pinReset (h : s.pins.resetN = true) : exec .pinReset s =
    .next (if s.pwr.aon then { s with pins := { s.pins with resetN := false } }.pinReset 0 else { s with pins := { s.pins with resetN := false } }) := by
  change execPinReset s = _
  simp only [execPinReset, h, Bool.not_true, Bool.false_eq_true, if_false]

/-- RESET_N rises: start-up begins. -/
theorem exec_resetNRelease (h : s.pins.resetN = false) :
    exec .resetNRelease s = .next (State.startUp { s with pins := { s.pins with resetN := true } }) := by
  change execResetNRelease s = _
  simp only [execResetNRelease, h, Bool.false_eq_true, if_false]

/-- Main power is restored: the device has the power-on reset of request 4. -/
theorem exec_powerOnReset (h : s.pwr.aon = true) :
    exec .powerOnReset s = .next (State.powerOnReset { s with pwr := { s.pwr with failed := false } } 4) := by
  change execPowerOnReset s = _
  rw [execPowerOnReset, if_pos h]

/-- The key of SEC_RESET for a pin reset. -/
theorem exec_secPinReset (h : s.pwr.aon = true) : exec .secPinReset s = .next (s.pinReset 1) := by
  change execSecPinReset s = _
  rw [execSecPinReset, if_pos h]

/-- The key of SEC_RESET for a power-on reset. -/
theorem exec_secPowerOnReset (h : s.pwr.aon = true) : exec .secPowerOnReset s = .next (s.powerOnReset 1) := by
  change execSecPowerOnReset s = _
  rw [execSecPowerOnReset, if_pos h]

/-- TEST_MODE falls while an unlock is in force: the device is reset. -/
theorem exec_testModeFall_of_unlocked (haon : s.pwr.aon = true) (hu : s.fld R.SEC_STAT F.SEC_STAT_UNLOCK = 1) :
    exec .testModeFall s = .next (State.pinReset { s with pins := { s.pins with testMode := false } } 3) := by
  change execTestModeFall s = _
  rw [execTestModeFall, if_pos ⟨haon, hu⟩]

/-- TEST_MODE falls with no unlock in force: the pin alone changes. -/
theorem exec_testModeFall_of_locked (hu : s.fld R.SEC_STAT F.SEC_STAT_UNLOCK ≠ 1) :
    exec .testModeFall s = .next { s with pins := { s.pins with testMode := false } } := by
  change execTestModeFall s = _
  rw [execTestModeFall, if_neg fun h => hu h.2]

/-- Power comes to the always-on domain: GADDR is sampled, the slow oscillator runs and the main conversion is still failed
(the model's choice, log entry 108). -/
theorem exec_alwaysOnPowerUp {gaddr : Fin 8} (h : s.pwr.aon = false) : exec (.alwaysOnPowerUp gaddr) s = .next (State.setFld { s with
    pwr := { s.pwr with aon := true, failed := true }, pins := { s.pins with gaddr := gaddr.val } } R.CLK_STAT F.CLK_STAT_SLOW_OK 1) := by
  change execAlwaysOnPowerUp gaddr s = _
  simp only [execAlwaysOnPowerUp, h, Bool.false_eq_true, if_false]

end DeviceResets

/-! The release of one Bell from die reset (R24, R25). -/

section BellRelease

variable {s : State} {b : Fin 8} {bstrap : Fin 16} {form : Bool}

/-- Outside Strike, a command that Strike holds back runs. -/
theorem State.live_of_not_inStrike {k : State → State} (h : s.inStrike = false) : s.live k = k s := by
  simp only [State.live, h, Bool.false_eq_true, if_false]

/-- Bell b may leave die reset: it is held there, neither retired nor dead, RESET_N is high and its two first domains are on. -/
structure State.MayLeaveReset (s : State) (b : Nat) : Prop where
  inReset : (s.bell b).inReset = true
  notRetired : (s.bell b).retired = false
  notDead : (s.bell b).dead = false
  resetN : s.pins.resetN = true
  dom0 : s.dom (domBell b 0) = 0
  dom1 : s.dom (domBell b 1) = 0

/-- Outside Strike, a Bell that may leave reset does so if its straps pass their three checks; otherwise it stays there and is switched off with its pair. -/
theorem exec_bellResetRelease (hs : s.inStrike = false) (hb : s.MayLeaveReset b.val) : exec (.bellResetRelease b bstrap form) s =
    .next (if strapParity bstrap.val = true ∧ strapForm bstrap.val form = true ∧ strapPort bstrap.val b.val = true
      then (s.strapRead b.val bstrap.val form).bellReleased b.val (s.bell b.val)
      else ((((s.strapRead b.val bstrap.val form).setBell b.val { (s.bell b.val) with strapFail := true }).pulse
        (srcBell b.val 0) (le 1 b.val ++ le 1 bstrap.val)).bellOff b.val).pairOff b.val) := by
  obtain ⟨hr, hret, hdead, hn, hd0, hd1⟩ := hb
  change execBellResetRelease b bstrap form s = _
  simp [execBellResetRelease, State.live_of_not_inStrike hs, hr, hret, hdead, hn, hd0, hd1]

end BellRelease

/-- Settles O38: each clause is the rule of its command. -/
theorem resetsAreTaken : Obligations.ResetsAreTaken := by
  refine ⟨fun s hn => ⟨fun haon => ?_, fun haon => ?_⟩, fun s hn => exec_resetNRelease hn,
    fun s haon => ⟨exec_powerOnReset haon, exec_secPinReset haon, exec_secPowerOnReset haon⟩, ?_,
    fun s gaddr haon => exec_alwaysOnPowerUp haon, ?bell⟩
  · rw [exec_pinReset hn, if_pos haon]
  · rw [exec_pinReset hn, if_neg (by simp [haon])]
  · rintro s _ rfl
    exact ⟨exec_testModeFall_of_unlocked, exec_testModeFall_of_locked⟩
  case bell =>
    intro s b bstrap form hs hr hret hdead hn hd0 hd1
    rw [exec_bellResetRelease hs ⟨hr, hret, hdead, hn, hd0, hd1⟩]
    refine ⟨fun hpar hform hport => ?pass, fun hfail => ?fail⟩
    case pass => rw [if_pos ⟨hpar, hform, hport⟩]
    case fail =>
      have hbad : ¬ (strapParity bstrap.val = true ∧ strapForm bstrap.val form = true ∧ strapPort bstrap.val b.val = true) := by
        rintro ⟨hpar, hform, hport⟩
        simp [hpar, hform, hport] at hfail
      rw [if_neg hbad]

end Sys2Proof.Machine
end

section
/-!
PROOF. The accesses that arrive as messages: RD and WR of a Bell's memory, and REG_RD and REG_WR: the statements ServesBellMemory and
RegisterMessagesServed.
-/

namespace Sys2Proof.Machine

open Sys2Proof

/-! A class W request, served once per key (R179, R180). -/

section Window

variable {s t : State} {m r : Msg} {serve : State → State × Nat × List Byte × Bool} {st : Nat} {body : List Byte} {done : Bool}

/-- A new key: the request is served, its response is sent, and the key is held with it if the request was executed. -/
theorem State.window_of_execute (hd : s.dedupCheck m = .execute) (hs : serve s = (t, st, body, done)) :
    s.window m serve = (if done then t.holdKey m (t.response m st body) else t).switchIn .ridge (t.response m st body) := by
  simp only [State.window, hd, hs]

/-- A held key: the held response is sent again, and nothing is served. -/
theorem State.window_of_held (hd : s.dedupCheck m = .held r) : s.window m serve = (s.bump R.TRN_DUP_CNT).switchIn .ridge r := by
  simp only [State.window, hd]

end Window

/-! RD of a Bell's memory (R113, R174). -/

section BellRead

variable {s : State} {src : Entry} {raw : List Byte} {ups : List Upset} {m : Msg} {addr n k : Nat}

/-- The device takes an RD: it is served and taken up. -/
theorem exec_rd (h : s.Takes src raw 2 m) : exec (.rd src raw ups) s = .next ((s.serveRead src m ups).takeUp m) := by
  change execRd src raw ups s = _
  rw [execRd, h.receiveReq]

/-- An RD that a check refuses is counted, captured and answered with the check's STATUS (R32). -/
theorem State.serveRead_of_refused {c : Nat} (hr : rangeOf false m.body = some (addr, n)) (hc : s.accessCheck src addr n false = some c) :
    s.serveRead src m ups = (s.refuseAt src c (bits addr 43 39) (s.refusedAddr addr n)).respond m c [] := by
  simp only [State.serveRead, hr, hc]

/-- An admitted RD of DRAM or of a cluster buffer waits where a commit copy will fill a slot of its range, and is answered otherwise (R113). -/
theorem State.serveRead_of_memory (hr : rangeOf false m.body = some (addr, n)) (hc : s.accessCheck src addr n false = none)
    (hw : s.whereIs (bits addr 43 39) (addr % 2 ^ 39) n = .region k ∨ s.whereIs (bits addr 43 39) (addr % 2 ^ 39) n = .buffer k) :
    (∀ st, s.awaitedCopy (bits addr 43 39 - 1) (addr % 2 ^ 39) n = some st →
      s.serveRead src m ups = { s with trn := { s.trn with reads := s.trn.reads ++ [{ src := src, msg := m, stream := st }] } }) ∧
    (s.awaitedCopy (bits addr 43 39 - 1) (addr % 2 ^ 39) n = none → s.serveRead src m ups = s.answerRead m addr n ups) := by
  rcases hw with hw | hw <;> refine ⟨fun st ha => ?_, fun ha => ?_⟩ <;> simp only [State.serveRead, hr, hc, hw, ha]

/-- A read that waited for a commit copy is answered once its slot is filled (R113). -/
theorem exec_commitSlotReadRelease {node tid : Nat} {r : WaitRead} (hf : s.trn.reads.find? (fun r => r.msg.srcNode == node && r.msg.tid == tid) = some r)
    (hc : s.copyFilled r.stream = true) : exec (.commitSlotReadRelease node tid ups) s =
      .next (State.answerRead { s with trn := { s.trn with reads := s.trn.reads.erase r } } r.msg (leAt r.msg.body 0 8) (leAt r.msg.body 8 4) ups) := by
  change execCommitSlotReadRelease node tid ups s = _
  simp only [execCommitSlotReadRelease, hf, if_pos hc]

end BellRead

/-! WR of a Bell's memory (R54, R174, R179). -/

section BellWrite

variable {s t : State} {src : Entry} {raw : List Byte} {ups : List Upset} {m : Msg} {addr n k : Nat}

/-- The device takes a WR of DRAM: it is served once per key. -/
theorem exec_wr_of_region (h : s.Takes src raw 4 m) (hr : rangeOf true m.body = some (addr, n))
    (hw : s.whereIs (bits addr 43 39) (addr % 2 ^ 39) n = .region k) :
    exec (.wr src raw ups) s = .next ((s.window m fun t => t.serveWrite src m addr n ups).takeUp m) := by
  change execWr src raw ups s = _
  rw [execWr, h.receiveReq]
  simp only [hr]
  split
  · next j _ hj => exact absurd (hw.symm.trans hj) nofun
  · rfl

/-- An admitted WR of DRAM writes its range; a read error of a partial word gives STATUS 0x14, and the request is executed all the same. -/
theorem State.serveWrite_of_region {e : Option RdErr} (hc : s.accessCheck src addr n true = none)
    (hw : s.whereIs (bits addr 43 39) (addr % 2 ^ 39) n = .region k)
    (hx : s.writeRange (bits addr 43 39 - 1) (addr % 2 ^ 39) (m.body.drop 16) ups = (t, e)) :
    s.serveWrite src m addr n ups = (t, if e = none then 0 else 0x14, [], true) := by
  simp only [State.serveWrite, hc, hw, hx]

end BellWrite

/-- Settles O10: an RD by whether a check refuses it and a copy is awaited, a WR by whether its key is new. -/
theorem servesBellMemory : Obligations.ServesBellMemory := by
  refine ⟨⟨fun s src raw ups m addr n k ht hr hc hw => ?read, fun s src raw ups m addr n c ht hr hc => ?refused,
    fun s node tid ups r hf hc => exec_commitSlotReadRelease hf hc⟩,
    fun s t src raw ups m addr n k e ht hr hc hw hd hx => ?write, fun s src raw ups m r addr n k ht hr hw hd => ?again⟩
  case read =>
    obtain ⟨hwait, hanswer⟩ := State.serveRead_of_memory (ups := ups) hr hc hw
    rw [exec_rd ht]
    cases ha : s.awaitedCopy (bits addr 43 39 - 1) (addr % 2 ^ 39) n with
    | none => rw [hanswer ha]
    | some st => rw [hwait st ha]
  case refused => rw [exec_rd ht, State.serveRead_of_refused hr hc]
  case write =>
    rw [exec_wr_of_region ht hr hw, State.window_of_execute hd (State.serveWrite_of_region hc hw hx), if_pos rfl]
  case again => rw [exec_wr_of_region ht hr hw, State.window_of_held hd]

/-! The register messages (R177, R403, R458). -/

section RegisterMessages

variable {s t : State} {src : Entry} {raw : List Byte} {m : Msg} {a c st : Nat}

/-- A REG_RD of a control address reads its register, and answers the data where the STATUS is 0. -/
theorem exec_regRd_of_register (h : s.Takes src raw 6 m) (hl : m.body.length = 8) (ha : s.regAddr (leAt m.body 0 8) = .inr a) :
    exec (.regRd src raw) s = .next (((s.ctlRead src a).2.2.respond m (s.ctlRead src a).1
      (if (s.ctlRead src a).1 = 0 then le 4 (s.ctlRead src a).2.1 else [])).takeUp m) := by
  change execRegRd src raw s = _
  rw [execRegRd, h.receiveReq]
  simp only [ha, hl, ne_eq, not_true_eq_false, if_false]

/-- A REG_RD of an address that is no control address is counted, captured and answered with its STATUS. -/
theorem exec_regRd_of_refused (h : s.Takes src raw 6 m) (hl : m.body.length = 8) (ha : s.regAddr (leAt m.body 0 8) = .inl c) :
    exec (.regRd src raw) s = .next (((s.refuseAt src c (bits (leAt m.body 0 8) 43 39) (leAt m.body 0 8)).respond m c []).takeUp m) := by
  change execRegRd src raw s = _
  rw [execRegRd, h.receiveReq]
  simp only [ha, hl, ne_eq, not_true_eq_false, if_false]

/-- A REG_WR of a control address with a new key writes its register; its key is held only where the write was executed. -/
theorem exec_regWr_of_register (h : s.Takes src raw 8 m) (hl : m.body.length = 16) (hz : leAt m.body 12 4 = 0) (hd : s.dedupCheck m = .execute)
    (ha : s.regAddr (leAt m.body 0 8) = .inr a) (hw : s.ctlWrite src (m.srcDie == 0) a (leAt m.body 8 4) = (st, t)) :
    exec (.regWr src raw) s =
      .next (((if st = 0 then t.holdKey m (t.response m st []) else t).switchIn .ridge (t.response m st [])).takeUp m) := by
  have hlayout : ¬ (m.body.length ≠ 16 ∨ leAt m.body 12 4 ≠ 0) := by simp [hl, hz]
  change execRegWr src raw s = _
  rw [execRegWr, h.receiveReq]
  simp only [if_neg hlayout]
  rw [State.window_of_execute (t := t) (st := st) (body := []) (done := st == 0) hd (by simp only [ha, hw])]
  simp only [beq_iff_eq]

end RegisterMessages

/-- Settles O11: each clause is the rule of its message. -/
theorem registerMessagesServed : Obligations.RegisterMessagesServed :=
  ⟨fun _ _ _ _ _ => exec_regRd_of_register, fun _ _ _ _ _ => exec_regRd_of_refused, fun _ _ _ _ _ _ _ => exec_regWr_of_register⟩

end Sys2Proof.Machine
end

section
/-!
PROOF. The trips of the clocks, the fall-back to the fast oscillator and the forced switches of the clock multiplexers: the statement ClocksTrip.
-/

namespace Sys2Proof.Machine

open Sys2Proof

/-- The control logic runs from the reference: the device is not in clock-less hold, and no fall-back has been made or begun (R330, R333). -/
structure State.OnReference (s : State) : Prop where
  clocked : s.fld R.CLK_STAT F.CLK_STAT_CLKLESS ≠ 1
  notOnFast : s.clk.onFast = false
  notWaiting : s.clk.waitFast = none
  noSwitch : s.clk.pend.any (fun e => e.1 == 0) = false

/-- A Bell's PLL trip as noted (R330): captured, reported under the Bell's source 6, and its time kept. -/
def State.notePllTrip (s : State) (b kind : Nat) : State :=
  let t : State := (s.clockTrip (8 + b) kind).pulse (srcBell b 6) (le 1 kind)
  { t with clk := { t.clk with bellTrip := SMap.set (fun _ => none) t.clk.bellTrip b (some s.now) } }

section ClockTrips

variable {s : State} {t0 : Nat}

/-- A monitor of a reference in force, of the reference PLL or of the Ridge control clock trips while the control logic runs from it (R328, R330). -/
theorem exec_referenceTrip {code : Fin 8} {kind : Fin 4} (h : s.OnReference)
    (hcode : code.val < 3 ∧ s.fld R.CLK_STAT F.CLK_STAT_SRC = code.val ∨ code.val = 5 ∨ code.val = 6) :
    exec (.referenceTrip code kind) s = .next (s.referenceTrip code.val kind.val) := by
  obtain ⟨hclk, hfast, hwait, hpend⟩ := h
  have hon : ¬ (s.fld R.CLK_STAT F.CLK_STAT_CLKLESS = 1 ∨ s.clk.onFast = true ∨ s.clk.waitFast.isSome = true ∨
      s.clk.pend.any (fun e => e.1 == 0) = true) := by
    rw [hfast, hwait, hpend]; simp [hclk]
  change execReferenceTrip code kind s = _
  rw [execReferenceTrip, if_neg hon, if_pos hcode]

/-- The fast oscillator trips: clock-less hold follows exactly where the control logic runs from it (R330, R333). -/
theorem exec_fastOscTrip : exec .fastOscTrip s = .next (if s.clk.onFast
    then (((s.setFld R.CLK_STAT F.CLK_STAT_FAST_READY 0).clockTrip 3 2).pulse 15 []).clockless 3 2
    else ((s.setFld R.CLK_STAT F.CLK_STAT_FAST_READY 0).clockTrip 3 2).pulse 15 []) := rfl

/-- The slow oscillator's trip is only reported (R330). -/
theorem exec_slowOscTrip : exec .slowOscTrip s = .next (((s.setFld R.CLK_STAT F.CLK_STAT_SLOW_OK 0).clockTrip 4 2).pulse 16 []) := rfl

/-- A Bell's PLL trips outside its reset: the second trip within 1 s retires the Bell, any other resets it (R33, R330). -/
theorem exec_bellPllTrip {b : Fin 8} {kind : Fin 4} (h : (s.bell b.val).inReset = false) : exec (.bellPllTrip b kind) s =
    .next (if (SMap.get (fun _ => none) s.clk.bellTrip b.val).any (fun t => decide (s.now < 1000000000 + t)) = true
      then (s.notePllTrip b.val kind.val).retireBell b.val (srcBell b.val 6) else (s.notePllTrip b.val kind.val).bellReset b.val) := by
  change execBellPllTrip b kind s = _
  simp only [execBellPllTrip, h, Bool.false_eq_true, if_false, State.notePllTrip]

/-- The fast oscillator is ready and no trip waits for it. -/
theorem exec_fastReady_of_not_waiting (h : s.clk.waitFast = none) : exec .fastReady s = .next (s.setFld R.CLK_STAT F.CLK_STAT_FAST_READY 1) := by
  change execFastReady s = _
  simp only [execFastReady, h]

/-- The fast oscillator is ready within 5 ms of the trip that waits for it: the control mux is switched (R333). -/
theorem exec_fastReady_in_time {t : State} (ht : t = s.setFld R.CLK_STAT F.CLK_STAT_FAST_READY 1) (h : s.clk.waitFast = some t0)
    (hin : s.now ≤ 5000000 + t0) : exec .fastReady s = .next ({ t with clk := { t.clk with waitFast := none } }.requestMux 0) := by
  change execFastReady s = _
  simp only [execFastReady, h, if_pos hin, ht]

/-- No fast oscillator within 5 ms of the trip: the device is clockless (R333). -/
theorem exec_fallbackTimeout (h : s.clk.waitFast = some t0) (hlate : 5000000 + t0 < s.now) :
    exec .fallbackTimeout s = .next (s.clockless (s.fld R.CLK_TRIP F.CLK_TRIP_CLOCK) (s.fld R.CLK_TRIP F.CLK_TRIP_KIND)) := by
  change execFallbackTimeout s = _
  simp only [execFallbackTimeout, h, if_pos hlate]

/-- A switch that has not completed in 160 ns is forced (R332). -/
theorem exec_muxSwitchTimeout {m : Fin 10} (h : s.clk.pend.any (fun e => e.1 == m.val && decide (e.2 + 160 ≤ s.now)) = true) :
    exec (.muxSwitchTimeout m) s = .next (s.forceMux m.val) := by
  change execMuxSwitchTimeout m s = _
  rw [execMuxSwitchTimeout, if_pos h]

/-- CLK_MUX_FORCE forces each mux whose bit is written, in ascending order (R332, R336). -/
theorem exec_clkMuxForce {muxes : BitVec 10} : exec (.clkMuxForce muxes) s =
    .next ((List.range 10).foldl (fun t m => if bit muxes.toNat m then t.forceMux m else t) s) := rfl

end ClockTrips

/-- Settles O33: each clause is the rule of its command; the three of BELL_PLL_TRIP are the cases of the Bell's last trip. -/
theorem clocksTrip : Obligations.ClocksTrip := by
  refine ⟨fun s code kind hclk hfast hwait hpend hcode => exec_referenceTrip ⟨hclk, hfast, hwait, hpend⟩ hcode, ?fastOsc,
    fun s => exec_slowOscTrip, ?bellPll, fun s t ht => ⟨fun hw => ht ▸ exec_fastReady_of_not_waiting hw, fun t0 => exec_fastReady_in_time ht⟩,
    fun s t0 => exec_fallbackTimeout, fun s m => exec_muxSwitchTimeout, fun s muxes => exec_clkMuxForce⟩
  case fastOsc =>
    rintro s _ rfl
    exact ⟨fun hon => by rw [exec_fastOscTrip, if_pos hon], fun hoff => by rw [exec_fastOscTrip, if_neg (by simp [hoff])]⟩
  case bellPll =>
    intro s u b kind hrst hu
    change u = s.notePllTrip b.val kind.val at hu
    rw [hu, exec_bellPllTrip hrst]
    refine ⟨fun hfirst => ?_, fun t0 hlast => ⟨fun hwithin => ?_, fun hafter => ?_⟩⟩
    · rw [if_neg (by simp [hfirst])]
    · rw [if_pos (by simp [hlast, hwithin])]
    · rw [if_neg (by simp [hlast, hafter])]

end Sys2Proof.Machine
end

section
/-!
PROOF. The exact sums of R67 and R68: the statements ExactSumsAreOrderFree and ExactSums.
-/

namespace Sys2Proof.Machine

open Sys2Proof

/-! One term of a sum: what it adds, and the flags it raises. -/

section Terms

variable {t : Num} {a : Int}

/-- What a term adds to an exact sum: its truncation in units of 2^(A − 95), or the NaN marker (R67). -/
def termCode (t : Num) (a : Int) : Int := ((esfTerm t a).map (·.1)).getD esfNan

/-- A non-zero bit of a finite term is lost (R67). -/
def termLoses (t : Num) (a : Int) : Bool := ((esfTerm t a).map (·.2)).getD false

/-- The flags that a term raises (R67). -/
def termFlags (t : Num) (a : Int) : Nat := flagIf (!t.isFin) flNonfinite ||| flagIf (termLoses t a) flInexact

/-- The terms without a truncation are those that are not finite. -/
theorem esfTerm_eq_none : esfTerm t a = none ↔ t.isFin = false := by
  cases t with
  | fin neg m e => simp only [esfTerm, Num.isFin]; split <;> simp
  | inf neg => simp [esfTerm, Num.isFin]
  | nan => simp [esfTerm, Num.isFin]

/-- A term that is not finite adds the NaN marker. -/
theorem termCode_of_not_isFin (h : t.isFin = false) : termCode t a = esfNan := by
  rw [termCode, esfTerm_eq_none.2 h]; rfl

/-- A term on the grid of the anchor enters whole. -/
theorem esfTerm_of_le {neg : Bool} {m : Nat} {e : Int} (h : a - 95 ≤ e) :
    esfTerm (.fin neg m e) a = some (sgn neg (m * 2 ^ (e - (a - 95)).toNat), false) := by
  simp only [esfTerm, if_pos h, scaleTo]

/-- A term that reaches below the grid is truncated toward zero. -/
theorem esfTerm_of_lt {neg : Bool} {m : Nat} {e : Int} (h : e < a - 95) :
    esfTerm (.fin neg m e) a = some (sgn neg (m / 2 ^ (a - 95 - e).toNat), m % 2 ^ (a - 95 - e).toNat != 0) := by
  simp only [esfTerm, if_neg (Int.not_le.2 h)]

end Terms

/-! The fold over the terms: one sum of codes that the marker absorbs, and one OR of flags. -/

@[simp] theorem esfAdd_nan_left (x : Int) : esfAdd esfNan x = esfNan := by simp [esfAdd]

@[simp] theorem esfAdd_nan_right (x : Int) : esfAdd x esfNan = esfNan := by simp [esfAdd]

/-- Two values short of the marker add as integers. -/
theorem esfAdd_of_ne {x y : Int} (hx : x ≠ esfNan) (hy : y ≠ esfNan) : esfAdd x y = x + y := by simp [esfAdd, hx, hy]

/-- An exact sum is the sum of its terms' codes beside the OR of their flags. -/
theorem esfSum_eq_fold (ts : List Num) (a : Int) :
    esfSum ts a = ((ts.map (termCode · a)).foldl esfAdd 0, orAll (ts.map (termFlags · a))) := by
  have hfold : ∀ (acc : Int × Nat), ts.foldl (fun acc t => (esfAdd acc.1 (termCode t a), acc.2 ||| termFlags t a)) acc =
      ((ts.map (termCode · a)).foldl esfAdd acc.1, (ts.map (termFlags · a)).foldl (· ||| ·) acc.2) := by
    induction ts with
    | nil => exact fun _ => rfl
    | cons t ts ih => exact fun acc => ih _
  have hstep : esfSum ts a = ts.foldl (fun acc t => (esfAdd acc.1 (termCode t a), acc.2 ||| termFlags t a)) (0, 0) := by
    rw [esfSum]
    refine congrArg (fun f => ts.foldl f (0, 0)) (funext fun acc => funext fun t => ?_)
    cases h : esfTerm t a with
    | none => simp [termCode, termFlags, termLoses, h, esfTerm_eq_none.1 h, flagIf]
    | some p =>
      have hfin : t.isFin = true := Bool.not_eq_false _ ▸ fun hn => nomatch h.symm.trans (esfTerm_eq_none.2 hn)
      simp [termCode, termFlags, termLoses, h, hfin, flagIf]
  rw [hstep]
  exact hfold (0, 0)

/-- A sum with the marker among its codes is the marker. -/
theorem foldl_esfAdd_of_mem {l : List Int} (h : esfNan ∈ l) (x : Int) : l.foldl esfAdd x = esfNan := by
  have habsorb : ∀ m : List Int, m.foldl esfAdd esfNan = esfNan := by
    intro m
    induction m with
    | nil => rfl
    | cons y m ih => rw [List.foldl_cons, esfAdd_nan_left, ih]
  induction l generalizing x with
  | nil => cases h
  | cons y l ih =>
    rw [List.foldl_cons]
    rcases List.mem_cons.1 h with rfl | h
    · rw [esfAdd_nan_right, habsorb]
    · exact ih h _

/-- A sum of codes below 2^95 that leaves the marker out of reach is the sum of the integers (R68). -/
theorem foldl_esfAdd_of_small {l : List Int} {x : Int} (hl : ∀ y ∈ l, y.natAbs < 2 ^ 95) (hx : x.natAbs + l.length * 2 ^ 95 < 2 ^ 127) :
    l.foldl esfAdd x = x + l.sum := by
  induction l generalizing x with
  | nil => simp
  | cons y l ih =>
    have hy : y.natAbs < 2 ^ 95 := hl y (by simp)
    rw [List.length_cons] at hx
    rw [List.foldl_cons, esfAdd_of_ne (by unfold esfNan; omega) (by unfold esfNan; omega), ih (fun z hz => hl z (by simp [hz])) (by omega),
      List.sum_cons, Int.add_assoc]

/-- Codes that an exact sum may take (R68): fewer than 2^32, each below 2^95 or the marker. -/
structure InCount (l : List Int) : Prop where
  count : l.length < 2 ^ 32
  bound : ∀ x ∈ l, x ≠ esfNan → x.natAbs < 2 ^ 95

/-- The sum of codes within the count: the marker where one is the marker, and the sum of the integers otherwise. -/
theorem foldl_esfAdd_of_inCount {l : List Int} (h : InCount l) : l.foldl esfAdd 0 = if esfNan ∈ l then esfNan else l.sum := by
  split
  · next hmem => exact foldl_esfAdd_of_mem hmem 0
  · next hmem =>
    have hcount := h.count
    rw [foldl_esfAdd_of_small (fun x hx => h.bound x hx fun hxn => hmem (hxn ▸ hx)) (by rw [Int.natAbs_zero]; omega), Int.zero_add]

/-- The sum of codes short of the marker is short of the marker. -/
theorem sum_ne_esfNan {l : List Int} (h : InCount l) (hmem : esfNan ∉ l) : l.sum ≠ esfNan := by
  have hbound : ∀ m : List Int, (∀ x ∈ m, x.natAbs < 2 ^ 95) → m.sum.natAbs ≤ m.length * 2 ^ 95 := by
    intro m hm
    induction m with
    | nil => simp
    | cons y m ih =>
      have hy : y.natAbs < 2 ^ 95 := hm y (by simp)
      have hrest := ih fun z hz => hm z (by simp [hz])
      rw [List.sum_cons, List.length_cons]
      omega
  have hsum := hbound l fun x hx => h.bound x hx fun hxn => hmem (hxn ▸ hx)
  have hcount := h.count
  unfold esfNan
  omega

theorem InCount.perm {l m : List Int} (h : InCount l) (hp : l.Perm m) : InCount m :=
  ⟨hp.length_eq ▸ h.count, fun x hx => h.bound x (hp.mem_iff.2 hx)⟩

theorem InCount.left {l m : List Int} (h : InCount (l ++ m)) : InCount l :=
  ⟨by have := h.count; rw [List.length_append] at this; omega, fun x hx => h.bound x (by simp [hx])⟩

theorem InCount.right {l m : List Int} (h : InCount (l ++ m)) : InCount m := (h.perm List.perm_append_comm).left

/-- A sum of integers is free of order. -/
theorem sum_perm {l m : List Int} (hp : l.Perm m) : l.sum = m.sum :=
  hp.foldr_eq' (fun x _ y _ z => Int.add_left_comm y x z) 0

/-- Sums within the count are free of order. -/
theorem foldl_esfAdd_perm {l m : List Int} (h : InCount l) (hp : l.Perm m) : l.foldl esfAdd 0 = m.foldl esfAdd 0 := by
  simp only [foldl_esfAdd_of_inCount h, foldl_esfAdd_of_inCount (h.perm hp), hp.mem_iff, sum_perm hp]

/-- Sums within the count are free of grouping. -/
theorem foldl_esfAdd_append {l m : List Int} (h : InCount (l ++ m)) :
    (l ++ m).foldl esfAdd 0 = esfAdd (l.foldl esfAdd 0) (m.foldl esfAdd 0) := by
  rw [foldl_esfAdd_of_inCount h, foldl_esfAdd_of_inCount h.left, foldl_esfAdd_of_inCount h.right]
  by_cases hl : esfNan ∈ l
  · simp [hl]
  by_cases hm : esfNan ∈ m
  · simp [hm]
  simp [hl, hm, esfAdd_of_ne (sum_ne_esfNan h.left hl) (sum_ne_esfNan h.right hm)]

/-! The flags. -/

/-- A set of flags before a list of them. -/
theorem orAll_cons (x : Nat) (l : List Nat) : orAll (x :: l) = x ||| orAll l := by
  rw [orAll, orAll, List.foldl_cons, Nat.zero_or, ← List.foldl_assoc (op := fun y z : Nat => y ||| z), Nat.or_zero]

theorem orAll_append (l m : List Nat) : orAll (l ++ m) = orAll l ||| orAll m := by
  induction l with
  | nil => simp [orAll]
  | cons x l ih => rw [List.cons_append, orAll_cons, orAll_cons, ih, Nat.or_assoc]

theorem orAll_perm {l m : List Nat} (hp : l.Perm m) : orAll l = orAll m := 
  hp.foldl_eq' (fun x _ y _ z => by rw [Nat.or_assoc, Nat.or_comm x, Nat.or_assoc]) 0

/-- Flags raised term by term are raised where some term raises them. -/
theorem orAll_map_flagIf {α : Type} (p q : α → Bool) (f g : Nat) (l : List α) :
    orAll (l.map fun x => flagIf (p x) f ||| flagIf (q x) g) = flagIf (l.any p) f ||| flagIf (l.any q) g := by
  induction l with
  | nil => simp [orAll, flagIf]
  | cons x l ih =>
    have hor : ∀ (b c : Bool) (n : Nat), flagIf (b || c) n = flagIf b n ||| flagIf c n := by
      intro b c n; cases b <;> cases c <;> simp [flagIf]
    rw [List.map_cons, orAll_cons, ih, List.any_cons, List.any_cons, hor, hor]
    ac_rfl

/-- The codes of terms within the count of R68. -/
theorem inCount_termCodes {ts : List Num} {a : Int} (hlen : ts.length < 2 ^ 32) (hb : ∀ t ∈ ts, ∀ i x, esfTerm t a = some (i, x) → i.natAbs < 2 ^ 95) :
    InCount (ts.map (termCode · a)) := by
  refine ⟨by simpa using hlen, fun y hy hne => ?_⟩
  obtain ⟨t, ht, rfl⟩ := List.mem_map.1 hy
  cases h : esfTerm t a with
  | none => exact absurd (by simp [termCode, h]) hne
  | some p => simpa [termCode, h] using hb t ht p.1 p.2 h

/-- Settles O57: within the count the marker, the integers and the flags are each summed by an operation that is free of order and grouping. -/
theorem exactSumsAreOrderFree : Obligations.ExactSumsAreOrderFree := by
  refine ⟨fun ts us a hp hlen hb => ?order, fun ts us a hlen hb => ?grouping⟩
  case order =>
    rw [esfSum_eq_fold, esfSum_eq_fold, foldl_esfAdd_perm (inCount_termCodes hlen hb) (hp.map _), orAll_perm (hp.map _)]
  case grouping =>
    have hin := inCount_termCodes hlen hb
    rw [List.map_append] at hin
    simp only [esfSum_eq_fold, List.map_append, foldl_esfAdd_append hin, orAll_append]

/-- Settles O55: one term by its place on the grid of the anchor, the sum by its codes and flags. -/
theorem exactSums : Obligations.ExactSums := by
  refine ⟨fun neg m e a => ?term, fun ts a => ?flags, fun ts a hnan => ?marker, fun ts a is hlen hts hb => ?sum⟩
  case term =>
    by_cases h : a - 95 ≤ e
    · exact ⟨_, _, esfTerm_of_le h, fun _ => ⟨rfl, rfl⟩, fun hlt => absurd h (Int.not_le.2 hlt)⟩
    · refine ⟨_, _, esfTerm_of_lt (Int.not_le.1 h), fun hle => absurd hle h, fun _ => ⟨_, rfl, Nat.div_mul_le_self _ _, ?_, ?_⟩⟩
      · rw [Nat.mul_comm]; exact Nat.lt_mul_div_succ m (Nat.two_pow_pos _)
      · have hdm := Nat.div_add_mod' m (2 ^ (a - 95 - e).toNat)
        rw [bne_iff_ne]
        omega
  case flags => rw [esfSum_eq_fold]; exact orAll_map_flagIf _ _ _ _ ts
  case marker =>
    obtain ⟨t, ht, hfin⟩ := hnan
    rw [esfSum_eq_fold]
    exact foldl_esfAdd_of_mem (List.mem_map.2 ⟨t, ht, termCode_of_not_isFin hfin⟩) 0
  case sum =>
    have hcodes : ts.map (termCode · a) = is.map (·.1) := by
      have := congrArg (List.map fun o : Option (Int × Bool) => (o.map (·.1)).getD esfNan) hts
      simpa [List.map_map, Function.comp_def, termCode] using this
    have hcount : is.length = ts.length := by simpa using (congrArg List.length hts).symm
    rw [esfSum_eq_fold, hcodes, foldl_esfAdd_of_small (List.forall_mem_map.2 hb) (by rw [Int.natAbs_zero, List.length_map]; omega), Int.zero_add]

end Sys2Proof.Machine
end

section
/-!
PROOF. Registers and memory after a write: the statement WritesAreRead.
-/

namespace Sys2Proof.Machine

open Sys2Proof

/-! Bytes written and read (R29). -/

section MemoryBytes

variable {s t : State} {b b' off o : Nat} {l : List Byte}

/-- The key of a byte tells its Bell and its 39-bit offset apart. -/
theorem cell_inj (hoff : off < 2 ^ 39) (ho : o < 2 ^ 39) : cell b' o = cell b off ↔ b' = b ∧ o = off := by
  simp only [cell]; omega

/-- A byte read after a byte written. -/
theorem State.memByte_setMem_eq_ite {v : Byte} (h : Memory.wf s.mem = true) (hoff : off < 2 ^ 39) (ho : o < 2 ^ 39) :
    (s.setMem b off v).memByte b' o = if b' = b ∧ o = off then v else s.memByte b' o := by
  split
  · next heq => obtain ⟨rfl, rfl⟩ := heq; exact s.memByte_setMem _ _ v h
  · next hne => exact s.memByte_setMem_ne _ _ _ _ v fun hc => hne ((cell_inj hoff ho).1 hc)

/-- A byte read after a byte string written. -/
theorem State.memByte_writeMem (h : Memory.wf s.mem = true) (hl : off + l.length ≤ 2 ^ 39) (ho : o < 2 ^ 39) :
    (s.writeMem b off l).memByte b' o = if b' = b ∧ off ≤ o ∧ o < off + l.length then l.getD (o - off) 0 else s.memByte b' o := by
  induction l generalizing s off with
  | nil => rw [if_neg (by simp)]; rfl
  | cons v l ih =>
    rw [List.length_cons] at hl ⊢
    rw [State.writeMem, ih (s.setMem_wf b off v h) (by omega), State.memByte_setMem_eq_ite h (by omega) ho]
    by_cases hrest : b' = b ∧ off + 1 ≤ o ∧ o < off + 1 + l.length
    · obtain ⟨hb, hlo, hhi⟩ := hrest
      rw [if_pos ⟨hb, hlo, hhi⟩, if_pos ⟨hb, by omega, by omega⟩, show o - off = o - (off + 1) + 1 by omega, List.getD_cons_succ]
    · rw [if_neg hrest]
      by_cases hfirst : b' = b ∧ o = off
      · obtain ⟨rfl, rfl⟩ := hfirst
        rw [if_pos ⟨rfl, rfl⟩, if_pos ⟨rfl, by omega, by omega⟩, Nat.sub_self, List.getD_cons_zero]
      · rw [if_neg hfirst, if_neg (by omega)]

/-- The bytes of a range, one by one. -/
theorem State.memBytes_of_forall (h : ∀ i < l.length, s.memByte b (off + i) = l.getD i 0) : s.memBytes b off l.length = l := by
  induction l generalizing off with
  | nil => rfl
  | cons v l ih =>
    rw [List.length_cons, State.memBytes, show s.memByte b off = v from h 0 (by simp), ih fun i hi => ?_]
    rw [Nat.add_assoc, Nat.add_comm 1 i, h (i + 1) (by simpa using hi), List.getD_cons_succ]

/-- A byte string written reads back. -/
theorem State.memBytes_writeMem (h : Memory.wf s.mem = true) (hl : off + l.length ≤ 2 ^ 39) : (s.writeMem b off l).memBytes b off l.length = l := by
  refine State.memBytes_of_forall fun i hi => ?_
  rw [State.memByte_writeMem h hl (by omega), if_pos ⟨rfl, by omega, by omega⟩, Nat.add_sub_cancel_left]

/-- What a write leaves in memory depends on the memory alone. -/
theorem State.writeMem_mem_congr (h : s.mem = t.mem) : (s.writeMem b off l).mem = (t.writeMem b off l).mem := by
  induction l generalizing s t off with
  | nil => exact h
  | cons v l ih => exact ih (by rw [State.setMem_mem, State.setMem_mem, h])

/-- A byte string written in two pieces. -/
theorem State.writeMem_append (l m : List Byte) : s.writeMem b off (l ++ m) = (s.writeMem b off l).writeMem b (off + l.length) m := by
  induction l generalizing s off with
  | nil => rfl
  | cons v l ih => rw [List.cons_append, State.writeMem, ih, State.writeMem, List.length_cons, Nat.add_right_comm, Nat.add_assoc]

end MemoryBytes

/-! A write to a Bell, word by word (R48, R54, R56). -/

section WordWrites

variable {s : State} {b o : Nat} {bytes : List Byte}

/-- The capture of an error leaves memory as it was. -/
theorem State.eccCapture_mem (s : State) (b o type sym : Nat) (scrub : Bool) : (s.eccCapture b o type sym scrub).mem = s.mem := by
  simp only [State.eccCapture]; split <;> rfl

/-- A word without an upset is whole, or poisoned (R46). -/
theorem eccOf_no_upset (poison : Bool) (b w c : Nat) : eccOf poison (upsetsAt [] b w) c = if poison then .poisoned else .ok := by
  cases poison <;> rfl

/-- A word without an upset has at most one symbol in error, the virtual one. -/
theorem badSyms_no_upset (poison : Bool) (b w : Nat) : (badSyms poison (upsetsAt [] b w)).length = b2n poison := by
  cases poison <;> rfl

/-- A word read without an upset leaves memory as it was (R47). -/
theorem State.readWord_mem_of_no_upset (s : State) (b o : Nat) (scrub : Bool) : (s.readWord b o [] scrub).1.mem = s.mem := by
  simp only [State.readWord, eccOf_no_upset, badSyms_no_upset]
  cases hp : (s.bell b).poison.contains (o / 64) with
  | false => rfl
  | true => exact (State.eccCapture_mem _ _ _ _ _ _).trans rfl

/-- One word's part of a write, where no error is reported, is in its place. -/
theorem State.writePart_mem (h : (s.writePart b o bytes []).2 = none) : (s.writePart b o bytes []).1.mem = (s.writeMem b o bytes).mem := by
  by_cases hw : o % 64 = 0 ∧ bytes.length = 64
  · rw [State.writePart, if_pos hw]
    exact State.writeMem_mem_congr rfl
  · simp only [State.writePart, if_neg hw] at h ⊢
    cases hr : (s.readWord b (o / 64 * 64) [] false).2 with
    | none => exact State.writeMem_mem_congr (s.readWord_mem_of_no_upset b _ false)
    | some e => rw [hr] at h; cases h

/-- The words of a write in turn: the first error is kept beside the state. -/
def State.writeParts (b : Nat) (a : State × Option RdErr) (p : Nat × List Byte) : State × Option RdErr :=
  ((a.1.writePart b p.1 p.2 []).1, if a.2 = none then (a.1.writePart b p.1 p.2 []).2 else a.2)

/-- A write to DRAM goes through its words in ascending order (R54). -/
theorem State.writeRange_of_inDram (h : inDram o = true) :
    s.writeRange b o bytes [] = (cutWords o bytes (bytes.length / 64 + 2)).foldl (State.writeParts b) (s, none) := by
  rw [State.writeRange, if_pos h]; rfl

/-- A write to a cluster buffer is one write of its bytes (R56). -/
theorem State.writeRange_of_not_inDram (h : inDram o = false) : s.writeRange b o bytes [] = (s.writeMem b o bytes, none) := by
  rw [State.writeRange, if_neg (by simp [h])]

/-- Byte strings written in turn leave in memory what depends on the memory alone. -/
theorem State.foldl_writeMem_mem_congr {t : State} {ps : List (Nat × List Byte)} (h : s.mem = t.mem) :
    (ps.foldl (fun u p => u.writeMem b p.1 p.2) s).mem = (ps.foldl (fun u p => u.writeMem b p.1 p.2) t).mem := by
  induction ps generalizing s t with
  | nil => exact h
  | cons p ps ih => exact ih (State.writeMem_mem_congr h)

/-- Words none of which errs are all in their place. -/
theorem State.foldl_writeParts_mem {ps : List (Nat × List Byte)} {a : State × Option RdErr} (h : (ps.foldl (State.writeParts b) a).2 = none) :
    a.2 = none ∧ (ps.foldl (State.writeParts b) a).1.mem = (ps.foldl (fun t p => t.writeMem b p.1 p.2) a.1).mem := by
  induction ps generalizing a with
  | nil => exact ⟨h, rfl⟩
  | cons p ps ih =>
    obtain ⟨herr, hmem⟩ := ih h
    simp only [State.writeParts] at herr
    split at herr
    · next hnone => exact ⟨hnone, hmem.trans (State.foldl_writeMem_mem_congr (State.writePart_mem herr))⟩
    · next hsome => exact absurd herr hsome

/-- The words of a write put together are its bytes. -/
theorem State.foldl_cutWords {n : Nat} (h : bytes.length + o % 64 ≤ 64 * n) :
    (cutWords o bytes n).foldl (fun t p => t.writeMem b p.1 p.2) s = s.writeMem b o bytes := by
  induction n generalizing s o bytes with
  | zero => rw [List.eq_nil_of_length_eq_zero (by omega : bytes.length = 0)]; rfl
  | succ n ih =>
    rw [cutWords]
    split
    · next hnil => rw [List.isEmpty_iff.1 hnil]; rfl
    · rw [List.foldl_cons, ih (by rw [List.length_drop]; omega)]
      by_cases hlast : bytes.length ≤ 64 - o % 64
      · rw [List.drop_eq_nil_of_le hlast, List.take_of_length_le hlast]; rfl
      · have hlen : (bytes.take (64 - o % 64)).length = 64 - o % 64 := List.length_take_of_le (by omega)
        have happ := State.writeMem_append (s := s) (b := b) (off := o) (bytes.take (64 - o % 64)) (bytes.drop (64 - o % 64))
        rwa [List.take_append_drop, hlen, eq_comm] at happ

/-- A write without an upset that reports no error leaves its bytes in their place. -/
theorem State.writeRange_mem (h : (s.writeRange b o bytes []).2 = none) : (s.writeRange b o bytes []).1.mem = (s.writeMem b o bytes).mem := by
  cases hd : inDram o with
  | false => rw [State.writeRange_of_not_inDram hd]
  | true =>
    rw [State.writeRange_of_inDram hd] at h ⊢
    rw [(State.foldl_writeParts_mem h).2, State.foldl_cutWords (by omega)]

end WordWrites

/-- Settles O54: registers and bytes by the maps that hold them, a write to a Bell by the words it is cut into. -/
theorem writesAreRead : Obligations.WritesAreRead := by
  refine ⟨⟨fun s a b w hs => ?reg, fun s b b' off o l hs hl ho => State.memByte_writeMem hs.1 hl ho,
    fun s b off l hs hl => State.memBytes_writeMem hs.1 hl⟩, fun s b o bytes hs hl => ⟨fun hbuf => ?buffer, fun hok b' a ha => ?bell⟩⟩
  case reg =>
    split
    · next heq => rw [heq, s.reg_setReg a w hs.2]
    · next hne => exact s.reg_setReg_ne a b w hne
  case buffer => rw [State.writeRange_of_not_inDram hbuf]
  case bell =>
    rw [← State.memByte_writeMem hs.1 hl ha]
    exact congrArg (SMap.get (fun _ => 0) · (cell b' a)) (State.writeRange_mem hok)

end Sys2Proof.Machine
end

section
/-!
PROOF. The values of a row's elements under the scales of its blocks: the statement RowsCarryBlockScales.
-/

namespace Sys2Proof.Machine

open Sys2Proof

section BlockScales

variable {c k i : Nat} {l : List Byte} {x : Num}

/-- An element under the scale byte of its block (R60). -/
def Num.underScale (x : Num) (sc : Nat) : Num := if sc = 255 then .nan else x.shift ((sc : Int) - 127)

/-- The scale byte 127 is the scale 1. -/
theorem Num.underScale_one (x : Num) : x.underScale 127 = x := by
  cases x <;> simp [Num.underScale, Num.shift]

/-- The values of a row, block by block. -/
theorem Row.values_eq (r : Row) :
    r.values = ((blocks32 r.elems r.scales.length).zip r.scales).flatMap fun p => p.1.map (·.underScale p.2) := by
  rw [Row.values]
  refine congrArg (List.flatMap · _) (funext fun p => ?_)
  by_cases hs : p.2 = 255 <;> simp [Num.underScale, hs]

/-- Element i of blocks of 32 carries the scale of block i / 32. -/
theorem getElem?_flatMap_blocks32 {es : List Num} {scales : List Nat} {sc : Nat} (hx : es[i]? = some x) (hs : scales[i / 32]? = some sc) :
    (((blocks32 es scales.length).zip scales).flatMap fun p => p.1.map (·.underScale p.2))[i]? = some (x.underScale sc) := by
  induction scales generalizing es i with
  | nil => cases hs
  | cons s scales ih =>
    have hi : i < es.length := (List.getElem?_eq_some_iff.1 hx).1
    rw [List.length_cons, blocks32, List.zip_cons_cons, List.flatMap_cons]
    rcases Nat.lt_or_ge i 32 with hlt | hge
    · rw [Nat.div_eq_of_lt hlt, List.getElem?_cons_zero] at hs
      cases hs
      rw [List.getElem?_append_left (by rw [List.length_map, List.length_take]; omega), List.getElem?_map, List.getElem?_take_of_lt hlt, hx, Option.map_some]
    · have hlen : ((es.take 32).map (·.underScale s)).length = 32 := by rw [List.length_map, List.length_take]; omega
      rw [List.getElem?_append_right (Nat.le_trans (Nat.le_of_eq hlen) hge), hlen]
      refine ih ?_ ?_
      · rw [List.getElem?_drop, Nat.add_sub_cancel' hge, hx]
      · rwa [show i / 32 = (i - 32) / 32 + 1 by omega, List.getElem?_cons_succ] at hs

/-- A row of k elements is read from k codes. -/
theorem length_unpackCodes (c k : Nat) (l : List Byte) : (unpackCodes c k l).length = k := by
  simp only [unpackCodes]; split <;> simp

/-- Element i of a row read carries the scale byte of its block. -/
theorem getElem?_readRow_values {sc : Nat} (hi : i < k) (hs : (readRow c k l).scales[i / 32]? = some sc) :
    (readRow c k l).values[i]? = some ((decodeElem c ((unpackCodes c k l).getD i 0)).underScale sc) := by
  rw [Row.values_eq]
  refine getElem?_flatMap_blocks32 ?_ hs
  have hlen : i < (unpackCodes c k l).length := by rwa [length_unpackCodes]
  rw [readRow, List.getElem?_map, List.getElem?_eq_getElem hlen, Option.map_some, List.getD_eq_getElem?_getD, List.getElem?_eq_getElem hlen, Option.getD_some]

/-- A block of 32 holds element i. -/
theorem div_lt_nblk (hi : i < k) : i / 32 < nblk k := by unfold nblk; omega

/-- The scale of a block of a format without scales is 1. -/
theorem readRow_scales_of_not_isMx (hc : isMx c = false) (hi : i < k) : (readRow c k l).scales[i / 32]? = some 127 := by
  simp only [readRow, hc, Bool.false_eq_true, if_false]
  rw [List.getElem?_replicate_of_lt (div_lt_nblk hi)]

/-- The scale of a block of an MX format is its byte after the elements. -/
theorem readRow_scales_of_isMx (hc : isMx c = true) (hi : i < k) : (readRow c k l).scales[i / 32]? = some (leAt l (dataLen c k + i / 32) 1) := by
  simp only [readRow, hc, if_true]
  rw [List.getElem?_map, List.getElem?_range (div_lt_nblk hi), Option.map_some]

end BlockScales

/-- Settles O56: a row's element under the scale that its format gives its block. -/
theorem rowsCarryBlockScales : Obligations.RowsCarryBlockScales := by
  rintro c k i l _ hi rfl
  refine ⟨fun hc => ?none, fun hc sc hsc => ?mx⟩
  case none => rw [getElem?_readRow_values hi (readRow_scales_of_not_isMx hc hi), Num.underScale_one]
  case mx =>
    rw [getElem?_readRow_values hi (readRow_scales_of_isMx hc hi), ← hsc]
    exact ⟨fun hnan => by rw [Num.underScale, if_pos hnan], fun hne => by rw [Num.underScale, if_neg hne]⟩

end Sys2Proof.Machine
end

section
/-!
PROOF. The order in which values are ranked (R74): the statement RanksDescend.
-/

namespace Sys2Proof.Machine

open Sys2Proof

/-! The order of values as that of pairs of integers: a class, and within the finite values the units of a common place. -/

section NumOrder

variable {q : Int} {x y : Num}

/-- The class of a value, in the order of R74: +∞, finite values, −∞, NaN. -/
def Num.rankClass : Num → Nat
  | .inf false => 0
  | .fin _ _ _ => 1
  | .inf true => 2
  | .nan => 3

/-- A finite value in units of 2^q; 0 for the others. -/
def Num.units (q : Int) : Num → Int
  | .fin s m e => sgn s (scaleTo m e q)
  | _ => 0

/-- A value is a whole number of units of 2^q, or not finite. -/
def Num.OnGrid (q : Int) : Num → Prop
  | .fin _ _ e => q ≤ e
  | _ => True

/-- Values have a common grid. -/
theorem exists_onGrid (l : List Num) : ∃ q, ∀ x ∈ l, x.OnGrid q := by
  induction l with
  | nil => exact ⟨0, fun _ h => nomatch h⟩
  | cons x l ih =>
    obtain ⟨q, hq⟩ := ih
    have hfiner : ∀ {y : Num} {p : Int}, y.OnGrid q → p ≤ q → y.OnGrid p := by
      intro y p hy hp
      cases y with
      | fin _ _ e => exact Int.le_trans hp hy
      | inf _ => trivial
      | nan => trivial
    cases x with
    | fin s m e =>
      refine ⟨min e q, fun y hy => ?_⟩
      rcases List.mem_cons.1 hy with rfl | hy
      · exact Int.min_le_left ..
      · exact hfiner (hq y hy) (Int.min_le_right ..)
    | inf s => exact ⟨q, List.forall_mem_cons.2 ⟨trivial, hq⟩⟩
    | nan => exact ⟨q, List.forall_mem_cons.2 ⟨trivial, hq⟩⟩

/-- A value in units of a finer grid. -/
theorem sgn_scaleTo {s : Bool} {m : Nat} {e p : Int} (hqp : q ≤ p) (hpe : p ≤ e) :
    sgn s (scaleTo m e q) = sgn s (scaleTo m e p) * (2 ^ (p - q).toNat : Nat) := by
  have hsplit : (e - q).toNat = (e - p).toNat + (p - q).toNat := by omega
  have hscale : scaleTo m e q = scaleTo m e p * 2 ^ (p - q).toNat := by rw [scaleTo, hsplit, Nat.pow_add, ← Nat.mul_assoc, scaleTo]
  rw [hscale]
  cases s with
  | false => exact Int.natCast_mul ..
  | true => exact (congrArg (- ·) (Int.natCast_mul ..)).trans (Int.neg_mul ..).symm

/-- Two finite values compare by their units on a common grid. -/
theorem finLt_iff {s t : Bool} {m n : Nat} {e f : Int} (he : q ≤ e) (hf : q ≤ f) :
    finLt s m e t n f = true ↔ sgn s (scaleTo m e q) < sgn t (scaleTo n f q) := by
  have hpos : (0 : Int) < (2 ^ (min e f - q).toNat : Nat) := Int.natCast_pos.2 (Nat.two_pow_pos _)
  rw [finLt, decide_eq_true_iff, sgn_scaleTo (q := q) (p := min e f) (by omega) (Int.min_le_left ..), sgn_scaleTo (q := q) (p := min e f) (by omega) (Int.min_le_right ..)]
  exact (Int.mul_lt_mul_right hpos).symm

/-- The NaNs are the last class. -/
theorem Num.isNan_iff : x.isNan = true ↔ x.rankClass = 3 := by
  match x with
  | .fin _ _ _ | .inf true | .inf false | .nan => simp [Num.isNan, Num.rankClass]

/-- Classes run to 3, and only finite values have units. -/
theorem Num.rankClass_le (x : Num) : x.rankClass ≤ 3 ∧ (x.rankClass = 3 → x.units q = 0) := by
  match x with
  | .fin _ _ _ | .inf true | .inf false | .nan => simp [Num.rankClass, Num.units]

/-- Values that are not NaN compare by class, and finite ones by their units. -/
theorem Num.lt_iff (hx : x.isNan = false) (hy : y.isNan = false) (hxq : x.OnGrid q) (hyq : y.OnGrid q) :
    x.lt y = true ↔ y.rankClass < x.rankClass ∨ y.rankClass = x.rankClass ∧ x.units q < y.units q := by
  match x, y with
  | .fin _ _ _, .fin _ _ _ => simp only [Num.lt, Num.rankClass, Num.units, finLt_iff hxq hyq, Nat.lt_irrefl, false_or, true_and]
  | .fin _ _ _, .inf t => cases t <;> simp [Num.lt, Num.rankClass]
  | .inf s, .fin _ _ _ => cases s <;> simp [Num.lt, Num.rankClass]
  | .inf s, .inf t => cases s <;> cases t <;> simp [Num.lt, Num.rankClass, Num.units]
  | .nan, _ => cases hx
  | .fin _ _ _, .nan | .inf _, .nan => cases hy

end NumOrder

/-! The order of R74 as a total one, and the sort by it. -/

section Ranks

variable {q : Int} {a b : Nat × Num}

/-- The total order that R74 gives (index, value) pairs on a grid: by class, then the greater value first, then the lower index first. -/
def rankLe (q : Int) (a b : Nat × Num) : Bool :=
  decide (a.2.rankClass < b.2.rankClass ∨ a.2.rankClass = b.2.rankClass ∧ (b.2.units q < a.2.units q ∨ a.2.units q = b.2.units q ∧ a.1 ≤ b.1))

/-- Values with different indices rank by the total order. -/
theorem ranksBefore_eq (ha : a.2.OnGrid q) (hb : b.2.OnGrid q) (hne : a.1 ≠ b.1) : ranksBefore a b = rankLe q a b := by
  have hclass := a.2.rankClass_le (q := q)
  have hclass' := b.2.rankClass_le (q := q)
  rw [Bool.eq_iff_iff, rankLe, decide_eq_true_iff, ranksBefore]
  cases hna : a.2.isNan <;> cases hnb : b.2.isNan
  case false.false =>
    have hab := Num.lt_iff hna hnb ha hb
    have hba := Num.lt_iff hnb hna hb ha
    simp only [Bool.false_eq_true, if_false]
    split
    · next hlt => exact iff_of_true rfl (by rw [hba] at hlt; omega)
    · next hge =>
      split
      · next hlt => exact iff_of_false nofun (by rw [hab] at hlt; omega)
      · next hge' =>
        rw [decide_eq_true_iff]
        rw [hba] at hge
        rw [hab] at hge'
        omega
  case false.true =>
    have hlast := Num.isNan_iff.1 hnb
    have hbefore := mt Num.isNan_iff.2 (Bool.eq_false_iff.1 hna)
    exact iff_of_true rfl (by omega)
  case true.false =>
    have hlast := Num.isNan_iff.1 hna
    have hbefore := mt Num.isNan_iff.2 (Bool.eq_false_iff.1 hnb)
    exact iff_of_false nofun (by omega)
  case true.true =>
    have hlast := Num.isNan_iff.1 hna
    have hlast' := Num.isNan_iff.1 hnb
    simp only [if_true, Bool.true_and, decide_eq_true_iff]
    omega

/-- A sort compares an earlier element to a later one only: it is the same by two orders that agree on these. -/
theorem mergeSort_congr_of_pairwise {α : Type} {r s : α → α → Bool} {l : List α} (h : l.Pairwise fun a b => r a b = s a b) : l.mergeSort r = l.mergeSort s := by
  match l with
  | [] => simp
  | [x] => simp
  | a :: b :: l =>
    simp only [List.mergeSort, List.MergeSort.Internal.splitInTwo_fst, List.MergeSort.Internal.splitInTwo_snd]
    generalize hk : ((a :: b :: l).length + 1) / 2 = k
    rw [← List.take_append_drop k (a :: b :: l), List.pairwise_append] at h
    obtain ⟨hleft, hright, hcross⟩ := h
    rw [mergeSort_congr_of_pairwise hleft, mergeSort_congr_of_pairwise hright]
    simpa using List.map_merge (f := id) fun x hx y hy => hcross x (List.mem_mergeSort.1 hx) y (List.mem_mergeSort.1 hy)
termination_by l.length
decreasing_by all_goals simp only [List.length_take, List.length_drop, List.length_cons] at *; omega

/-- The indices of a list's values. -/
theorem map_fst_range_zip {α : Type} (vs : List α) : ((List.range vs.length).zip vs).map (·.1) = List.range vs.length :=
  List.map_fst_zip (by simp)

/-- Ranked values are a rearrangement of the values with their indices. -/
theorem rankAll_perm (vs : List Num) : (rankAll vs).Perm ((List.range vs.length).zip vs) := List.mergeSort_perm _ _

/-- Of two ranked values the first ranks before the second. -/
theorem rankAll_pairwise (vs : List Num) : (rankAll vs).Pairwise fun a b => ranksBefore a b = true := by
  obtain ⟨q, hq⟩ := exists_onGrid vs
  have hgrid : ∀ a ∈ (List.range vs.length).zip vs, a.2.OnGrid q := fun a ha => hq a.2 (List.of_mem_zip ha).2
  have hne : ((List.range vs.length).zip vs).Pairwise fun a b => a.1 ≠ b.1 := by
    rw [← List.pairwise_map (f := Prod.fst), map_fst_range_zip]
    exact List.nodup_range
  have hagree := hne.imp_of_mem fun ha hb hab => ranksBefore_eq (hgrid _ ha) (hgrid _ hb) hab
  have hsort : (rankAll vs).Pairwise fun a b => rankLe q a b = true := by
    rw [rankAll, mergeSort_congr_of_pairwise hagree]
    refine List.pairwise_mergeSort (fun a b c hab hbc => ?_) (fun a b => ?_) _
    · simp only [rankLe, decide_eq_true_eq] at hab hbc ⊢
      omega
    · simp only [rankLe, Bool.or_eq_true, decide_eq_true_eq]
      omega
  have hne' := (rankAll_perm vs).symm.pairwise hne fun h => Ne.symm h
  exact (hne'.and hsort).imp_of_mem fun ha hb ⟨hab, hle⟩ =>
    (ranksBefore_eq (hgrid _ ((rankAll_perm vs).mem_iff.1 ha)) (hgrid _ ((rankAll_perm vs).mem_iff.1 hb)) hab).trans hle

/-- A value is not below one that is below it. -/
theorem Num.lt_asymm {x y : Num} (hx : x.isNan = false) (hy : y.isNan = false) (h : y.lt x = true) : x.lt y = false := by
  obtain ⟨q, hq⟩ := exists_onGrid [x, y]
  have hxq := hq x (by simp)
  have hyq := hq y (by simp)
  rw [Num.lt_iff hy hx hyq hxq] at h
  rw [← Bool.not_eq_true, Num.lt_iff hx hy hxq hyq]
  omega

/-- What it says of two values that one ranks before the other (R74). -/
theorem ranked_of_ranksBefore (h : ranksBefore a b = true) :
    (b.2.isNan = true ∨ (a.2.isNan = false ∧ a.2.lt b.2 = false)) ∧
      (a.2.isNan = b.2.isNan → a.2.lt b.2 = false → b.2.lt a.2 = false → a.1 < b.1) := by
  rw [ranksBefore] at h
  cases ha : a.2.isNan <;> cases hb : b.2.isNan
  case false.false =>
    cases hba : b.2.lt a.2
    case true => exact ⟨.inr ⟨rfl, Num.lt_asymm ha hb hba⟩, fun _ _ hno => nomatch hno⟩
    case false =>
      cases hab : a.2.lt b.2
      case true => simp [ha, hb, hba, hab] at h
      case false => exact ⟨.inr ⟨rfl, rfl⟩, fun _ _ _ => by simpa [ha, hb, hba, hab] using h⟩
  case false.true => exact ⟨.inl rfl, nofun⟩
  case true.false => simp [ha, hb] at h
  case true.true => exact ⟨.inl rfl, fun _ _ _ => by simpa [ha, hb] using h⟩

end Ranks

/-- Settles O59: the sort is one by a total order, which is free of the order of a value to itself. -/
theorem ranksDescend : Obligations.RanksDescend := fun vs => ⟨rankAll_perm vs, (rankAll_pairwise vs).imp ranked_of_ranksBefore⟩

end Sys2Proof.Machine
end

section
/-!
PROOF. Rounding to nearest even, and the codes of an element format as they convert back: the statement ConversionsRoundOnce.
-/

namespace Sys2Proof.Machine

open Sys2Proof

/-! One rounding (R63, R71). -/

section Rounding

variable {m P : Nat} {e q emin : Int}

/-- A value on the grid is kept. -/
theorem roundUnit_of_le (h : q ≤ e) : roundUnit m e q = m * 2 ^ (e - q).toNat := by
  rw [roundUnit, if_pos h, scaleTo]

/-- A value below the grid goes to the multiple of 2^q under it, or to the next one above its half and, from an odd multiple, at its half. -/
theorem roundUnit_of_lt {sh : Nat} (h : e < q) (hsh : (q - e).toNat = sh + 1) : roundUnit m e q =
    if 2 ^ sh < m % 2 ^ (sh + 1) ∨ (m % 2 ^ (sh + 1) = 2 ^ sh ∧ m / 2 ^ (sh + 1) % 2 = 1) then m / 2 ^ (sh + 1) + 1 else m / 2 ^ (sh + 1) := by
  rw [roundUnit, if_neg (Int.not_le.2 h)]
  simp only [hsh, Nat.add_sub_cancel]

/-- Rounding is to nearest, and a tie goes to the even multiple. -/
theorem roundUnit_nearest_even (h : e < q) :
    2 * m ≤ (2 * roundUnit m e q + 1) * 2 ^ (q - e).toNat ∧ 2 * roundUnit m e q * 2 ^ (q - e).toNat ≤ 2 * m + 2 ^ (q - e).toNat ∧
      (2 * m = (2 * roundUnit m e q + 1) * 2 ^ (q - e).toNat ∨ 2 * roundUnit m e q * 2 ^ (q - e).toNat = 2 * m + 2 ^ (q - e).toNat →
        roundUnit m e q % 2 = 0) := by
  obtain ⟨sh, hsh⟩ : ∃ sh, (q - e).toNat = sh + 1 := ⟨(q - e).toNat - 1, by omega⟩
  rw [roundUnit_of_lt h hsh, hsh]
  have hdm := Nat.div_add_mod m (2 ^ (sh + 1))
  have hr := Nat.mod_lt m (Nat.two_pow_pos (sh + 1))
  have hpow : 2 ^ (sh + 1) = 2 * 2 ^ sh := by rw [Nat.pow_succ, Nat.mul_comm]
  rw [hpow] at hdm hr ⊢
  generalize m / (2 * 2 ^ sh) = d at hdm ⊢
  generalize m % (2 * 2 ^ sh) = r at hdm hr ⊢
  generalize 2 ^ sh = u at hdm hr ⊢
  have hmul : ∀ k, (2 * d + k) * (2 * u) = 2 * (d * (2 * u)) + k * (2 * u) := fun k => by rw [Nat.add_mul, Nat.mul_assoc]
  have hmul₀ : 2 * d * (2 * u) = 2 * (d * (2 * u)) := Nat.mul_assoc ..
  have hmul₁ := hmul 1
  have hmul₂ := hmul 2
  have hmul₃ := hmul 3
  rw [Nat.mul_comm] at hdm
  generalize d * (2 * u) = v at hdm hmul₀ hmul₁ hmul₂ hmul₃
  split
  · next hup =>
    rw [show 2 * (d + 1) + 1 = 2 * d + 3 by omega, show 2 * (d + 1) = 2 * d + 2 by omega, hmul₃, hmul₂]
    exact ⟨by omega, by omega, fun htie => by omega⟩
  · next hdown =>
    rw [hmul₁, hmul₀]
    exact ⟨by omega, by omega, fun htie => by omega⟩

/-- A significand that the format holds is kept. -/
theorem roundSig_of_exact (hm : m ≠ 0) (he : max (ilog m e - ((P : Int) - 1)) (emin - ((P : Int) - 1)) = e) : roundSig P emin m e = (m, e) := by
  simp only [roundSig, if_neg hm, he, roundUnit_of_le (Int.le_refl e), Int.sub_self, Int.toNat_zero, Nat.pow_zero, Nat.mul_one]

end Rounding

/-! The magnitude codes of a floating format (R59): exponent field and fraction. -/

section MagnitudeCodes

variable {c g g' : Nat} {f : FFmt}

/-- The significand of a magnitude code: its fraction, with the leading 1 that a non-zero exponent field stands for. -/
def FFmt.sig (f : FFmt) (g : Nat) : Nat := if g / 2 ^ f.mbits = 0 then g else 2 ^ f.mbits + g % 2 ^ f.mbits

/-- The exponent field of a magnitude code, where 0 stands for the exponent of field 1. -/
def FFmt.field (f : FFmt) (g : Nat) : Nat := max 1 (g / 2 ^ f.mbits)

/-- The exponent of a magnitude code's last place. -/
def FFmt.exp (f : FFmt) (g : Nat) : Int := (f.field g : Int) - f.bias - f.mbits

/-- A code with exponent field 0 is its own significand. -/
theorem FFmt.sig_of_subnormal (h : g / 2 ^ f.mbits = 0) : f.sig g = g ∧ g < 2 ^ f.mbits :=
  ⟨if_pos h, (Nat.div_eq_zero_iff_lt (Nat.two_pow_pos _)).1 h⟩

/-- A code with another exponent field has a significand of mbits + 1 bits. -/
theorem FFmt.sig_of_normal (h : g / 2 ^ f.mbits ≠ 0) : 2 ^ f.mbits ≤ f.sig g ∧ f.sig g < 2 ^ (f.mbits + 1) := by
  have hlt := Nat.mod_lt g (Nat.two_pow_pos f.mbits)
  have hpow : 2 ^ (f.mbits + 1) = 2 * 2 ^ f.mbits := by rw [Nat.pow_succ, Nat.mul_comm]
  rw [FFmt.sig, if_neg h]
  omega

/-- Exponent field 0 counts as field 1. -/
theorem FFmt.field_of_subnormal (h : g / 2 ^ f.mbits = 0) : f.field g = 1 := by rw [FFmt.field, h]; rfl

/-- Another exponent field counts as itself. -/
theorem FFmt.field_of_normal (h : g / 2 ^ f.mbits ≠ 0) : f.field g = g / 2 ^ f.mbits := Nat.max_eq_right (Nat.pos_of_ne_zero h)

/-- A magnitude code is its significand above the codes of the lower exponents. -/
theorem FFmt.sig_add (f : FFmt) (g : Nat) : f.sig g + (f.field g - 1) * 2 ^ f.mbits = g := by
  by_cases h : g / 2 ^ f.mbits = 0
  · rw [(FFmt.sig_of_subnormal h).1, FFmt.field_of_subnormal h, Nat.sub_self, Nat.zero_mul, Nat.add_zero]
  · rw [FFmt.sig, if_neg h, FFmt.field_of_normal h, Nat.add_right_comm, Nat.add_comm (2 ^ f.mbits), ← Nat.succ_mul, Nat.succ_eq_add_one,
      Nat.sub_add_cancel (Nat.pos_of_ne_zero h), Nat.div_add_mod']

/-- Only the code 0 has the significand 0. -/
theorem FFmt.sig_ne_zero (hg : g ≠ 0) : f.sig g ≠ 0 := by
  by_cases h : g / 2 ^ f.mbits = 0
  · rwa [(FFmt.sig_of_subnormal h).1]
  · have := (FFmt.sig_of_normal h).1
    have := Nat.two_pow_pos f.mbits
    omega

/-- The value of a code with exponent field 0 lies below the least normal value. -/
theorem ilog_sig_of_subnormal (hg : g ≠ 0) (h : g / 2 ^ f.mbits = 0) : ilog (f.sig g) (f.exp g) < f.emin := by
  obtain ⟨hsig, hlt⟩ := FFmt.sig_of_subnormal h
  have hlog : Nat.log2 g < f.mbits := (Nat.log2_lt hg).2 hlt
  rw [ilog, hsig, FFmt.exp, FFmt.field_of_subnormal h, FFmt.emin]
  omega

/-- The value of a code with another exponent field has that field's exponent. -/
theorem ilog_sig_of_normal (h : g / 2 ^ f.mbits ≠ 0) : ilog (f.sig g) (f.exp g) = (f.field g : Int) - f.bias := by
  obtain ⟨hle, hlt⟩ := FFmt.sig_of_normal h
  have hlog : Nat.log2 (f.sig g) = f.mbits := (Nat.log2_eq_iff (Nat.pos_iff_ne_zero.1 (Nat.lt_of_lt_of_le (Nat.two_pow_pos _) hle))).2 ⟨hle, hlt⟩
  rw [ilog, hlog, FFmt.exp]
  omega

/-- The value of a magnitude code is rounded to itself. -/
theorem roundSig_sig (hg : g ≠ 0) : roundSig (f.mbits + 1) f.emin (f.sig g) (f.exp g) = (f.sig g, f.exp g) := by
  refine roundSig_of_exact (FFmt.sig_ne_zero hg) ?_
  have hfield : 1 ≤ f.field g := Nat.le_max_left ..
  by_cases h : g / 2 ^ f.mbits = 0
  · have hlog := ilog_sig_of_subnormal hg h
    have hone := FFmt.field_of_subnormal h
    simp only [FFmt.emin, FFmt.exp] at hlog ⊢
    omega
  · rw [ilog_sig_of_normal h]
    simp only [FFmt.emin, FFmt.exp]
    omega

/-- The value of a magnitude code has that code. -/
theorem magCode_sig : magCode f (f.sig g) (f.exp g) = g := by
  by_cases hg : g = 0
  · subst hg; simp [magCode, FFmt.sig]
  rw [magCode, if_neg (FFmt.sig_ne_zero hg)]
  by_cases h : g / 2 ^ f.mbits = 0
  · have hexp : f.exp g = f.emin - f.mbits := by rw [FFmt.exp, FFmt.field_of_subnormal h, FFmt.emin]; omega
    rw [if_pos (ilog_sig_of_subnormal hg h), hexp, scaleTo, Int.sub_self, Int.toNat_zero, Nat.pow_zero, Nat.mul_one, (FFmt.sig_of_subnormal h).1]
  · have hfield : 1 ≤ f.field g := Nat.le_max_left ..
    have hexp : (f.field g : Int) - f.bias - f.mbits = f.exp g := rfl
    have hcode : ((f.field g : Int) - f.bias + f.bias).toNat = g / 2 ^ f.mbits := by rw [Int.sub_add_cancel, Int.toNat_natCast, FFmt.field_of_normal h]
    have hfrac : f.sig g % 2 ^ f.mbits = g % 2 ^ f.mbits := by rw [FFmt.sig, if_neg h, Nat.add_mod_left, Nat.mod_mod]
    simp only [ilog_sig_of_normal h]
    rw [if_neg (by rw [FFmt.emin]; omega), hexp, Int.min_self, hcode, scaleTo, Int.sub_self, Int.toNat_zero, Nat.pow_zero, Nat.mul_one, Nat.div_one, hfrac,
      Nat.div_add_mod']

/-- A finite value is not below one that it reaches. -/
theorem finLt_eq_false {m n : Nat} {e e' : Int} (he : e ≤ e') (h : m ≤ n * 2 ^ (e' - e).toNat) : finLt false n e' false m e = false := by
  simp only [finLt, Int.min_eq_right he, scaleTo, Int.sub_self, Int.toNat_zero, Nat.pow_zero, Nat.mul_one, sgn, Bool.false_eq_true, if_false]
  exact decide_eq_false (by omega)

/-- Magnitude codes rise with their values. -/
theorem finLt_sig_of_le (h : g ≤ g') : finLt false (f.sig g') (f.exp g') false (f.sig g) (f.exp g) = false := by
  have hfield : f.field g ≤ f.field g' := by
    have hdiv : g / 2 ^ f.mbits ≤ g' / 2 ^ f.mbits := Nat.div_le_div_right h
    simp only [FFmt.field]
    omega
  refine finLt_eq_false (by simp only [FFmt.exp]; omega) ?_
  have hsub : (f.exp g' - f.exp g).toNat = f.field g' - f.field g := by simp only [FFmt.exp]; omega
  have hg := f.sig_add g
  have hg' := f.sig_add g'
  rw [hsub]
  rcases Nat.eq_or_lt_of_le hfield with heq | hlt
  · rw [heq] at hg ⊢
    rw [Nat.sub_self, Nat.pow_zero, Nat.mul_one]
    omega
  · have hone : 1 ≤ f.field g := Nat.le_max_left ..
    have hnorm' : g' / 2 ^ f.mbits ≠ 0 := fun h0 => by rw [FFmt.field_of_subnormal h0] at hlt; omega
    have hsig : f.sig g < 2 ^ (f.mbits + 1) := by
      by_cases h0 : g / 2 ^ f.mbits = 0
      · obtain ⟨hs, hs'⟩ := FFmt.sig_of_subnormal h0
        rw [hs, Nat.pow_succ]; omega
      · exact (FFmt.sig_of_normal h0).2
    calc f.sig g ≤ 2 ^ f.mbits * 2 ^ 1 := by rw [← Nat.pow_add]; exact Nat.le_of_lt hsig
      _ ≤ f.sig g' * 2 ^ (f.field g' - f.field g) := Nat.mul_le_mul (FFmt.sig_of_normal hnorm').1 (Nat.pow_le_pow_right (by omega) (by omega))

end MagnitudeCodes

/-! A code of a floating format and back (R59, R63). -/

section FloatCodes

variable {c code g : Nat} {f : FFmt} {sat : Bool}

/-- A code is its sign bit above its magnitude code. -/
theorem sign_add_magnitude {w : Nat} (h : code < 2 ^ (w + 1)) : (if bit code w then 2 ^ w else 0) + code % 2 ^ w = code := by
  have hdm := Nat.div_add_mod' code (2 ^ w)
  have hlt : code / 2 ^ w < 2 := (Nat.div_lt_iff_lt_mul (Nat.two_pow_pos w)).2 (by rwa [Nat.mul_comm, ← Nat.pow_succ])
  rw [bit, Nat.mod_eq_of_lt hlt]
  have htwo : ∀ n < 2, n = 0 ∨ n = 1 := by omega
  rcases htwo _ hlt with hs | hs <;> rw [hs] at hdm ⊢
  · rw [Nat.zero_mul, Nat.zero_add] at hdm
    rw [if_neg (by decide), Nat.zero_add, hdm]
  · rw [Nat.one_mul] at hdm
    rw [if_pos (by decide), hdm]

/-- The exponent field and the fraction of a code are those of its magnitude code. -/
theorem magnitude_div_mod (code w k : Nat) : code / 2 ^ k % 2 ^ w = code % 2 ^ (w + k) / 2 ^ k ∧ code % 2 ^ k = code % 2 ^ (w + k) % 2 ^ k :=
  ⟨by rw [Nat.add_comm w k, Nat.pow_add, Nat.mod_mul_right_div_self], (Nat.mod_mod_of_dvd code (Nat.pow_dvd_pow 2 (Nat.le_add_left k w))).symm⟩

/-- What a code of a floating format stands for, by its sign bit and its magnitude code: an infinity, NaN, or its significand and exponent. -/
theorem decodeElem_eq (hf : ffmt? c = some f) (hg : code % 2 ^ (f.ebits + f.mbits) = g) : decodeElem c code =
    if f.ieee ∧ g / 2 ^ f.mbits = 2 ^ f.ebits - 1 then (if g % 2 ^ f.mbits = 0 then .inf (bit code (f.ebits + f.mbits)) else .nan)
    else if c = 0 ∧ g / 2 ^ f.mbits = 15 ∧ g % 2 ^ f.mbits = 7 then .nan
    else .fin (bit code (f.ebits + f.mbits)) (f.sig g) (f.exp g) := by
  obtain ⟨hex, hfr⟩ := magnitude_div_mod code f.ebits f.mbits
  rw [hg] at hex hfr
  simp only [decodeElem, hf, hex, hfr]
  by_cases h : g / 2 ^ f.mbits = 0
  · obtain ⟨hsig, hlt⟩ := FFmt.sig_of_subnormal h
    have hexp : f.exp g = f.emin - f.mbits := by rw [FFmt.exp, FFmt.field_of_subnormal h, FFmt.emin]; omega
    simp only [if_pos h, hsig, hexp, Nat.mod_eq_of_lt hlt]
  · simp only [if_neg h, FFmt.sig, FFmt.exp, FFmt.field_of_normal h]

/-- The magnitude codes up to the largest finite one are those of no infinity and no NaN. -/
theorem le_maxCode_iff (hf : ffmt? c = some f) (hg : g < 2 ^ (f.ebits + f.mbits)) :
    g ≤ maxCode c f ↔ ¬ (f.ieee ∧ g / 2 ^ f.mbits = 2 ^ f.ebits - 1) ∧ ¬ (c = 0 ∧ g / 2 ^ f.mbits = 15 ∧ g % 2 ^ f.mbits = 7) := by
  by_cases hc : c = 0
  · subst hc
    cases hf
    simp only [maxCode, if_true, Bool.false_eq_true, false_and, not_false_eq_true, true_and] at hg ⊢
    omega
  · simp only [maxCode, hc, if_false, false_and, not_false_eq_true, and_true]
    cases hieee : f.ieee with
    | false =>
      simp only [Bool.false_eq_true, if_false, false_and, not_false_eq_true, iff_true]
      omega
    | true =>
      have hpos : 1 < 2 ^ f.ebits := by
        refine Nat.one_lt_two_pow fun he => ?_
        simp only [ffmt?] at hf
        split at hf <;> cases hf <;> cases he
      have hfield : g / 2 ^ f.mbits < 2 ^ f.ebits := (Nat.div_lt_iff_lt_mul (Nat.two_pow_pos _)).2 (by rwa [← Nat.pow_add])
      have hdiv : g / 2 ^ f.mbits < 2 ^ f.ebits - 1 ↔ g < (2 ^ f.ebits - 1) * 2 ^ f.mbits := Nat.div_lt_iff_lt_mul (Nat.two_pow_pos _)
      have htop : 0 < (2 ^ f.ebits - 1) * 2 ^ f.mbits := Nat.mul_pos (by omega) (Nat.two_pow_pos _)
      simp only [if_true, true_and]
      omega

/-- The largest finite code has a clear sign bit. -/
theorem maxCode_lt (hf : ffmt? c = some f) : maxCode c f < 2 ^ (f.ebits + f.mbits) := by
  have hpos := Nat.two_pow_pos (f.ebits + f.mbits)
  by_cases hc : c = 0
  · subst hc; cases hf; decide
  · simp only [maxCode, hc, if_false]
    split
    · calc (2 ^ f.ebits - 1) * 2 ^ f.mbits - 1 ≤ (2 ^ f.ebits - 1) * 2 ^ f.mbits := Nat.sub_le ..
        _ < 2 ^ f.ebits * 2 ^ f.mbits := Nat.mul_lt_mul_of_pos_right (Nat.sub_one_lt (Nat.pos_iff_ne_zero.1 (Nat.two_pow_pos _))) (Nat.two_pow_pos _)
        _ = 2 ^ (f.ebits + f.mbits) := (Nat.pow_add ..).symm
    · omega

/-- What the largest finite code stands for. -/
theorem decodeElem_maxCode (hf : ffmt? c = some f) : decodeElem c (maxCode c f) = .fin false (f.sig (maxCode c f)) (f.exp (maxCode c f)) := by
  have hlt := maxCode_lt hf
  obtain ⟨hinf, hnan⟩ := (le_maxCode_iff hf hlt).1 (Nat.le_refl _)
  rw [decodeElem_eq hf (Nat.mod_eq_of_lt hlt), if_neg hinf, if_neg hnan, bit, Nat.div_eq_of_lt hlt]
  rfl

/-- A finite value that a format holds converts into its code. -/
theorem encodeElem_of_finite {s : Bool} (hf : ffmt? c = some f) (h : g ≤ maxCode c f) :
    encodeElem c sat (.fin s (f.sig g) (f.exp g)) = ((if s then 2 ^ (f.ebits + f.mbits) else 0) + g, false) := by
  by_cases hg : g = 0
  · subst hg
    have hsig : f.sig 0 = 0 := by simp [FFmt.sig]
    have htop : ∀ n e, finLt false n e false 0 f.emin = false := fun n e => decide_eq_false (by
      simp only [sgn, scaleTo, Nat.zero_mul, Bool.false_eq_true, if_false]
      exact Int.not_lt.2 (Int.natCast_nonneg _))
    simp only [encodeElem, hf, decodeElem_maxCode hf, hsig, roundSig, htop, magCode, if_true]
    rfl
  · simp only [encodeElem, hf, roundSig_sig hg, decodeElem_maxCode hf, finLt_sig_of_le h, magCode_sig]
    rfl

/-- The MX formats but MXINT8 are floating, and their codes are a sign bit, an exponent field and a fraction. -/
theorem ffmt?_of_lt (hc : c < 5) : ∃ f, ffmt? c = some f ∧ elemBits c = f.ebits + f.mbits + 1 := by
  match c with
  | 0 | 1 | 2 | 3 | 4 => exact ⟨_, rfl, rfl⟩

/-- A code of a floating format that is no NaN converts back to itself. -/
theorem encodeElem_decodeElem (hf : ffmt? c = some f) (hcode : code < 2 ^ (f.ebits + f.mbits + 1)) (hnan : (decodeElem c code).isNan = false) :
    encodeElem c sat (decodeElem c code) = (code, false) := by
  obtain ⟨g, hg⟩ : ∃ g, code % 2 ^ (f.ebits + f.mbits) = g := ⟨_, rfl⟩
  have hsum := sign_add_magnitude hcode
  have hlt : g < 2 ^ (f.ebits + f.mbits) := hg ▸ Nat.mod_lt _ (Nat.two_pow_pos _)
  rw [decodeElem_eq hf hg] at hnan ⊢
  rw [hg] at hsum
  split at hnan
  · next htop =>
    split at hnan
    · next hfr =>
      have hinf : infCode f = g := by rw [infCode, ← htop.2]; exact Nat.div_mul_cancel (Nat.dvd_of_mod_eq_zero hfr)
      rw [if_pos htop, if_pos hfr]
      simp only [encodeElem, hf, htop.1, if_true, hinf, hsum]
    · cases hnan
  · next hinf =>
    split at hnan
    · cases hnan
    · next hfin => rw [if_neg hinf, if_neg hfin, encodeElem_of_finite hf ((le_maxCode_iff hf hlt).2 ⟨hinf, hfin⟩), hsum]

end FloatCodes

/-! A code of MXINT8 and back (R59, R63). -/

section IntegerCodes

variable {code : Nat} {sat : Bool}

/-- A signed integer is its sign and its magnitude. -/
theorem sgn_natAbs (i : Int) : sgn (decide (i < 0)) i.natAbs = i := by
  by_cases h : i < 0
  · rw [decide_eq_true h, sgn, if_pos rfl]; omega
  · rw [decide_eq_false h, sgn, if_neg Bool.false_ne_true]; omega

/-- A code of 8 bits is that of its reading. -/
theorem unsigned_signed (h : code < 2 ^ 8) : unsigned 8 (signed 8 code) = code := by
  simp only [unsigned, signed, Nat.mod_eq_of_lt h]
  split <;> omega

/-- A code of MXINT8 other than 0x80 converts back to itself. -/
theorem encodeElem_decodeElem_mxint8 (h : code < 2 ^ 8) (hne : code ≠ 0x80) : encodeElem 5 sat (decodeElem 5 code) = (code, false) := by
  have hsmall : (signed 8 code).natAbs ≤ 127 := by
    simp only [signed, Nat.mod_eq_of_lt h]
    split <;> omega
  have hround : roundUnit (signed 8 code).natAbs (-6) (-6) = (signed 8 code).natAbs := by simp [roundUnit_of_le]
  change (if 127 < roundUnit (signed 8 code).natAbs (-6) (-6) then _ else _) = _
  rw [hround, if_neg (by omega)]
  change (unsigned 8 (sgn _ _), false) = _
  rw [sgn_natAbs, unsigned_signed h]

end IntegerCodes

/-- Settles O58: rounding by the half of a place, and the codes of the floating formats and of MXINT8 as they convert back. -/
theorem conversionsRoundOnce : Obligations.ConversionsRoundOnce := by
  refine ⟨fun m e q => ⟨roundUnit_of_le, roundUnit_nearest_even⟩, fun c code sat hc hcode hnan => ⟨?lowest, fun hne => ?other⟩⟩
  case lowest =>
    rintro ⟨rfl, rfl⟩
    cases sat <;> decide
  case other =>
    by_cases h5 : c = 5
    · subst h5
      exact encodeElem_decodeElem_mxint8 hcode fun h => hne ⟨rfl, h⟩
    · obtain ⟨f, hf, hbits⟩ := ffmt?_of_lt (by omega : c < 5)
      exact encodeElem_decodeElem hf (hbits ▸ hcode) hnan

end Sys2Proof.Machine
end

section
/-!
PROOF. The upkeep of Bell memory: the end of its initialisation, refresh and scrubbing: the statement DramKept.
-/

namespace Sys2Proof.Machine

open Sys2Proof

section BellDram

variable {s : State} {b : Fin 8}

/-- A Bell's memory with its initialisation at its end: zeros in every word, none poisoned, and DRAM_INIT_DONE set (R51). -/
def State.dramInitialised (s : State) (b : Nat) : State :=
  ((s.clearDram b).onBell b (fun x => { x with initPending := false, poison := [] })).setFld (R.BEL_STAT b) F.BEL_STAT_DRAM_INIT_DONE 1

/-- The end of an initialisation, where the Bell's Seam link has not trained. -/
theorem exec_dramInitDone_of_seam_down (hinit : (s.bell b.val).initPending = true) (hreset : (s.bell b.val).inReset = false)
    (hseam : (s.dramInitialised b.val).seamState b.val ≠ 3) : exec (.dramInitDone b) s = .next (s.dramInitialised b.val) := by
  change execDramInitDone b s = _
  rw [execDramInitDone, if_pos ⟨hinit, by simp [hreset]⟩]
  exact congrArg _ (if_neg fun h => hseam h.1)

/-- A bank whose interval has passed is refreshed, and the time of it is kept (R49). -/
theorem exec_bankRefresh_of_due {die : Fin 4} {bse : Fin 64} {bank : Fin 16}
    (hdue : SMap.get (fun _ => 0) (s.bell b.val).refAt ((die.val * 64 + bse.val) * 16 + bank.val) +
      refreshNs (s.fld (R.BEL_REFRESH b.val) (F.BEL_REFRESH_RATE die.val)) ≤ s.now) :
    exec (.bankRefresh b die bse bank) s = .next (s.onBell b.val (fun x => { x with
      refAt := SMap.set (fun _ => 0) x.refAt ((die.val * 64 + bse.val) * 16 + bank.val) s.now })) := by
  change execBankRefresh b die bse bank s = _
  rw [execBankRefresh, if_pos hdue]

/-- The scrubber of a Bell runs: it is enabled, the Bell's memory holds data, and the device is not in Strike (R52). -/
structure State.Scrubs (s : State) (b : Nat) : Prop where
  notInReset : (s.bell b).inReset = false
  notRetired : (s.bell b).retired = false
  initialised : (s.bell b).initPending = false
  enabled : s.fld (R.BEL_SCRUB_CTL b) F.BEL_SCRUB_CTL_EN ≠ 0
  noStrike : s.inStrike = false

/-- The scrubber reads the next word of a pass that has one left, with LATE set where the pass lags behind its period (R52). -/
theorem exec_scrubStep_of_pass {ups : List Upset} (h : s.Scrubs b.val) (hpass : ((s.scrubRoll b.val).bell b.val).scrubNext < scrubWords) :
    exec (.scrubStep b ups) s = .next (
      if some ((s.scrubRoll b.val).bell b.val).scrubPass ≠ ((s.scrubRoll b.val).bell b.val).scrubFrom then
        ((s.scrubRoll b.val).setFld (R.BEL_SCRUB_STAT b.val) F.BEL_SCRUB_STAT_LATE 1).scrubWord b.val ups
      else (s.scrubRoll b.val).scrubWord b.val ups) := by
  obtain ⟨hreset, hret, hinit, hen, hstrike⟩ := h
  change execScrubStep b ups s = _
  rw [execScrubStep, if_neg (by simp [hreset, hret, hinit, hen, hstrike])]
  simp only [if_pos hpass, decide_eq_true_eq]
  split <;> rfl

end BellDram

/-- Settles O6: each clause is the rule of its command. -/
theorem dramKept : Obligations.DramKept :=
  ⟨fun _ _ hinit hreset _ hseam => exec_dramInitDone_of_seam_down hinit hreset hseam, fun _ _ _ _ _ => exec_bankRefresh_of_due,
    fun _ _ _ hreset hret hinit hen hstrike => exec_scrubStep_of_pass ⟨hreset, hret, hinit, hen, hstrike⟩⟩

end Sys2Proof.Machine
end

section
/-!
PROOF. The messages of collectives, SYNC, and the rows that experts receive: the statement CollectivesAndReceives.
-/

namespace Sys2Proof.Machine

open Sys2Proof

/-! A COLL message that the engine takes (R125, R126). -/

section CollMessages

variable {s : State} {src : Entry} {raw : List Byte} {e : Bool} {m : Msg} {c : Coll} {h : ColHdr} {k : Nat}

/-- A COLL message arrives at its collective: the device and the engine take it, it is of the kind k of its row and of the map generation in force, and its
collective c is declared. -/
structure State.CollArrives (s : State) (src : Entry) (raw : List Byte) (m : Msg) (h : ColHdr) (k : Nat) (c : Coll) : Prop where
  noStrike : s.inStrike = false
  taken : s.Takes src raw 0x28 m
  header : h = ColHdr.decode m.body
  engine : s.colTakes h = true
  kind : h.kind = k
  gen : h.gen = ((s.respond m 0 []).reg R.COL_MAP_GEN).toNat % 256
  declared : (s.respond m 0 []).img.coll? h.coll = some c

/-- The elements that a message carries lie in its collective, and fill its payload (R125). -/
structure ColHdr.Fills (h : ColHdr) (c : Coll) (payload : List Byte) : Prop where
  some : h.count ≠ 0
  inside : h.off + h.count ≤ c.elems
  whole : payload.length = payloadLen h.kind h.fmt h.count

/-- A message that arrives at its collective is answered, and served by its kind. -/
theorem State.CollArrives.colMsg (hr : s.CollArrives src raw m h k c) (hk : 1 ≤ k) (hk5 : k ≤ 5) : s.colMsg src k raw e = State.takeUp
    (if k = 5 then (s.respond m 0 []).abortInst ((s.respond m 0 []).openInst h.coll h.stream h.seq h.gen)
        (leAt (m.body.drop 32) 0 1) (leAt (m.body.drop 32) 1 1) h.rank (some m.srcNode)
      else if h.count = 0 ∨ c.elems < h.off + h.count ∨ (m.body.drop 32).length ≠ payloadLen k h.fmt h.count then s.respond m 0 []
      else if k = 1 ∨ k = 3 then (s.respond m 0 []).takePartial c h m.srcNode (m.body.drop 32) e
      else (s.respond m 0 []).takeResult c h m.srcNode (m.body.drop 32)) m := by
  obtain ⟨hs, ht, rfl, heng, rfl, hgen, hcoll⟩ := hr
  rw [State.colMsg, State.live_of_not_inStrike hs, ht.receiveReq]
  simp only [heng, Bool.not_true, Bool.false_eq_true, if_false]
  rw [if_neg (by omega), if_neg (by simp [hgen])]
  simp only [hcoll]

/-- Exponents, sums or elements from another node are contributed. -/
theorem State.CollArrives.contribution (hr : s.CollArrives src raw m h k c) (hf : h.Fills c (m.body.drop 32)) (hk : k = 1 ∨ k = 3) :
    s.colMsg src k raw e = ((s.respond m 0 []).takePartial c h m.srcNode (m.body.drop 32) e).takeUp m := by
  obtain ⟨hcount, hin, hlen⟩ := hf
  rw [hr.kind] at hlen
  rw [hr.colMsg (by omega) (by omega), if_neg (by omega), if_neg (by omega), if_pos hk]

/-- Anchors or a piece of the result are delivered. -/
theorem State.CollArrives.result (hr : s.CollArrives src raw m h k c) (hf : h.Fills c (m.body.drop 32)) (hk : k = 2 ∨ k = 4) :
    s.colMsg src k raw e = ((s.respond m 0 []).takeResult c h m.srcNode (m.body.drop 32)).takeUp m := by
  obtain ⟨hcount, hin, hlen⟩ := hf
  rw [hr.kind] at hlen
  rw [hr.colMsg (by omega) (by omega), if_neg (by omega), if_neg (by omega), if_neg (by omega)]

/-- An abort ends what it names with its cause. -/
theorem State.CollArrives.abort (hr : s.CollArrives src raw m h 5 c) : s.colMsg src 5 raw e = ((s.respond m 0 []).abortInst
    ((s.respond m 0 []).openInst h.coll h.stream h.seq h.gen) (leAt (m.body.drop 32) 0 1) (leAt (m.body.drop 32) 1 1) h.rank (some m.srcNode)).takeUp m := by
  rw [hr.colMsg (by omega) (by omega), if_pos rfl]

/-- An open collective without messages for the time-out is reported as stalled (R142). -/
theorem exec_collectiveStall {n : Nat} {x : ColInst} (hx : s.col.insts[n]? = some x) (hopen : x.closed = false) (hnew : x.stalled = false)
    (hlate : x.lastMsg + 1000 * s.fld R.COL_TIMEOUT F.COL_TIMEOUT_US ≤ s.now) (hs : s.inStrike = false) :
    exec (.collectiveStall n) s = .next ((s.putInst { x with stalled := true }).pulse 23 (le 4 x.coll ++ le 4 x.stream ++ le 8 x.seq)) := by
  change execCollectiveStall n s = _
  simp only [execCollectiveStall, hx, hopen, hnew, hs]
  rw [if_pos ⟨rfl, rfl, hlate, rfl⟩]

end CollMessages

/-! SYNC and the rows of experts (R75, R103, R139). -/

section SyncAndRows

variable {s : State} {b : Fin 8} {run : Nat} {r : RunSt} {a : Active} {x : ColInst} {c : Coll}

/-- A run stands at a SYNC of a declared collective that has been opened. -/
structure State.AtSync (s : State) (b run : Nat) (r : RunSt) (a : Active) (x : ColInst) (c : Coll) : Prop where
  runs : s.bellRuns b = true
  active : (s.bell b).runs[run]? = some r
  op : r.cur.find? (fun a => !a.done && a.d.opcode == 0x0E) = some a
  inst : s.inst? a.d.collId r.stream r.seq s.mapGen = some x
  coll : s.img.coll? a.d.collId = some c

/-- SYNC ends once its collective has delivered, and raises the flags that were raised there. -/
theorem State.AtSync.exec_of_delivered (h : s.AtSync b.val run r a x c) (hx : x.aborted = none)
    (hd : x.delivered c (SMap.get (fun _ => 0) r.sent a.d.collId) = true) : exec (.opSync b run) s = .next (s.putRun b.val { r with
      cur := r.cur.map (fun y => if y.idx = a.idx then { y with done := true } else y)
      flags := r.flags ||| x.flags ||| (if x.mixed then flDetMixed else 0) }) := by
  obtain ⟨hruns, hrun, hop, hinst, hcoll⟩ := h
  change execOpSync b run s = _
  simp only [execOpSync, hruns, hrun, hop, hinst, hcoll, hx, hd, Bool.not_true, Bool.false_eq_true, if_false, if_true]

/-- SYNC stops its run where the collective was aborted by an operation's error or by a mixed determinism (R139). -/
theorem State.AtSync.exec_of_aborted (h : s.AtSync b.val run r a x c) {err : Nat} :
    (x.aborted = some (1, err) → exec (.opSync b run) s = .next (s.stopRun b.val r 1 err 0)) ∧
      (x.aborted = some (3, err) → exec (.opSync b run) s = .next (s.stopRun b.val r 9 0 0)) := by
  obtain ⟨hruns, hrun, hop, hinst, hcoll⟩ := h
  change (_ → execOpSync b run s = _) ∧ (_ → execOpSync b run s = _)
  refine ⟨fun hx => ?_, fun hx => ?_⟩ <;> simp [execOpSync, hruns, hrun, hop, hinst, hcoll, hx]

/-- A dispatched row is placed where its Bell can take it. -/
theorem exec_moeDispatchReceive {row : MoeRow} (hs : s.inStrike = false) (hruns : s.bellRuns row.bell.val = true) (hopen : s.moeOpen row.bell.val = true) :
    exec (.moeDispatchReceive row) s = .next (s.placeMoe row) := by
  change execMoeDispatchReceive row s = _
  rw [execMoeDispatchReceive, State.live_of_not_inStrike hs, if_pos ⟨hruns, hopen⟩]

end SyncAndRows

/-- Settles O7: each COLL message by its kind, SYNC by what became of its collective, and the others by their rules. -/
theorem collectivesAndReceives : Obligations.CollectivesAndReceives := by
  refine ⟨⟨?partials, ?results, fun s src raw m c hs ht heng hk hgen hc => congrArg _ (State.CollArrives.abort ⟨hs, ht, rfl, heng, hk, hgen, hc⟩),
    fun s n x => exec_collectiveStall⟩, fun s b run r a x c hruns hrun hop hinst hcoll => ?sync, fun s row => exec_moeDispatchReceive⟩
  case partials =>
    intro s src raw e m c k i hs ht heng hi hk hgen hc hcount hin hlen
    have hr : s.CollArrives src raw m _ k c := ⟨hs, ht, rfl, heng, hk, hgen, hc⟩
    rcases hi with ⟨rfl, rfl⟩ | ⟨rfl, rfl⟩
    · exact congrArg _ (hr.contribution ⟨hcount, hin, hk ▸ hlen⟩ (.inl rfl))
    · exact congrArg _ (hr.contribution ⟨hcount, hin, hk ▸ hlen⟩ (.inr rfl))
  case results =>
    intro s src raw m c k i hs ht heng hi hk hgen hc hcount hin hlen
    have hr : s.CollArrives src raw m _ k c := ⟨hs, ht, rfl, heng, hk, hgen, hc⟩
    rcases hi with ⟨rfl, rfl⟩ | ⟨rfl, rfl⟩
    · exact congrArg _ (hr.result ⟨hcount, hin, hk ▸ hlen⟩ (.inl rfl))
    · exact congrArg _ (hr.result ⟨hcount, hin, hk ▸ hlen⟩ (.inr rfl))
  case sync =>
    have h : s.AtSync b.val run r a x c := ⟨hruns, hrun, hop, hinst, hcoll⟩
    exact ⟨h.exec_of_delivered, fun err => h.exec_of_aborted.1, fun err => h.exec_of_aborted.2⟩

end Sys2Proof.Machine
end

section
/-!
PROOF. The runs of a Bell: how they start, fetch their descriptors, complete and drain: the statement RunsGoThrough.
-/

namespace Sys2Proof.Machine

open Sys2Proof

section BellRuns

variable {s s1 : State} {b : Fin 8} {stream seq run : Nat} {p : Part} {q : Pipe} {r : RunSt} {sect : Sect} {a : Active}

/-- A run is new to a Bell: it is neither active there, nor in the queue, nor waiting on the Ridge. -/
structure State.NewRun (s : State) (b stream seq : Nat) : Prop where
  notActive : (s.bell b).runs.any (fun r => r.stream == stream && r.seq == seq) = false
  notQueued : (s.bell b).queue.contains (stream, seq) = false
  notHeld : (s.bell b).held.contains (stream, seq) = false

/-- The run of a running part reaches its Bell, and no earlier run of the stream is left there (R57, R87). -/
structure State.MayLaunch (s : State) (b stream seq : Nat) (p : Part) : Prop where
  part : s.part? stream seq = some p
  running : p.phase = .running
  mine : p.bells.contains b = true
  runs : s.bellRuns b = true
  first : s.earlierRun b stream seq = false

/-- A new run that reaches its Bell starts, or waits in the queue of 64, or waits on the Ridge (R57). -/
theorem exec_runLaunchAtBell_of_new (h : s.MayLaunch b.val stream seq p) (hn : s.NewRun b.val stream seq) :
    exec (.runLaunchAtBell b stream seq) s = .next (
      if (s.bell b.val).runs.length < 16 ∧ (s.bell b.val).queue = [] ∧ (s.bell b.val).held = [] ∧ s.draining b.val = false then s.startRun b.val stream seq
      else if (s.bell b.val).queue.length < 64 ∧ (s.bell b.val).held = [] then s.onBell b.val (fun y => { y with queue := y.queue ++ [(stream, seq)] })
      else s.onBell b.val (fun y => { y with held := y.held ++ [(stream, seq)] })) := by
  obtain ⟨hpart, hphase, hmine, hruns, hfirst⟩ := h
  obtain ⟨hactive, hqueued, hheld⟩ := hn
  change execRunLaunchAtBell b stream seq s = _
  simp only [execRunLaunchAtBell, hpart, hphase, hmine, hruns, hfirst, hactive, hqueued, hheld, Bool.or_self, Bool.not_false, and_self, if_true,
    List.isEmpty_iff, Bool.not_eq_true']
  split
  · rfl
  · split <;> rfl

/-- The oldest run that waits on the Ridge enters a queue with room, and starts at once where it may (R57). -/
theorem exec_runQueueEntryFree {x : Nat × Nat} {l : List (Nat × Nat)} (hheld : (s.bell b.val).held = x :: l) (hroom : (s.bell b.val).queue.length < 64)
    (hruns : s.bellRuns b.val = true) : exec (.runQueueEntryFree b) s =
      .next ((s.onBell b.val (fun y => { y with held := l, queue := y.queue ++ [x] })).pullRun b.val) := by
  obtain ⟨stream, seq⟩ := x
  change execRunQueueEntryFree b s = _
  simp only [execRunQueueEntryFree, hheld, hroom, hruns, and_self, if_true]

/-- A run's next descriptor can be fetched: its part's tokens are there, the program holds the descriptor whole, and what it needs is free and clocked (R57, R79). -/
structure State.Fetches (s : State) (b run : Nat) (r : RunSt) (p : Part) (q : Pipe) (sect : Sect) (d : Desc) : Prop where
  runs : s.bellRuns b = true
  active : (s.bell b).runs[run]? = some r
  part : s.part? r.stream r.seq = some p
  pipe : s.img.pipe? p.wo.pipe = some q
  program : s.img.program b = some sect
  notLast : r.next ≠ 0xFFFF
  tokens : p.wo.ntok ≤ p.input.length
  desc : d = Desc.decode (s.img.descBytes sect r.next)
  turn : fetchable r d = true
  clocks : s.sequencerRuns b d.clusters = true
  crc : d.crcOk = true

/-- A descriptor is fetched with its references put in, where these pass their checks, and wakes its engines (R94, R342). -/
theorem exec_descriptorFetch_of_whole {d : Desc} {e : Bool × Desc} (h : s.Fetches b.val run r p q sect d)
    (hs1 : s1 = if r.begun then s else s.runPrologue b.val p q.tokenOff) (he : e = applyRefs q p.wo b.val r.next d)
    (hrefs : e.1 = true → s1.refOk b.val e.2 = true ∧ s1.refUseOk b.val q p.wo r.next e.2 = true) :
    exec (.descriptorFetch b run false) s = .next ((s1.putRun b.val { r with
      begun := true, next := d.next, last := r.next, cur := r.cur ++ [⟨r.next, e.2, false⟩] }).wakeEngines b.val e.2.clusters) := by
  obtain ⟨hruns, hrun, hpart, hpipe, hprog, hlast, htok, rfl, hturn, hclk, hcrc⟩ := h
  change execDescriptorFetch b run false s = _
  simp only [execDescriptorFetch, hruns, hrun, hpart, hpipe, hprog, hturn, hclk, hcrc, ← hs1, ← he]
  rw [if_neg (by simp), if_neg (by simp [hlast, htok]), if_neg (by simp), if_neg (by simpa using hrefs)]

/-- The cycles of a descriptor are counted, a free value, and the engines of its clusters were in use until now (R342). -/
def State.countCycles (s : State) (b : Nat) (d : Desc) : State :=
  (s.freshNat.2.addFld (R.BEL_CYC_BUSY b) whole s.freshNat.1).onBell b fun x => x.used d.clusters s.now

/-- A descriptor that is done leaves its run, which ends after its last (R57). -/
theorem exec_descriptorComplete_of_done (hruns : s.bellRuns b.val = true) (hrun : (s.bell b.val).runs[run]? = some r)
    (ha : r.cur.find? (·.done) = some a) (hst : s.stagePending b.val r = false) : exec (.descriptorComplete b run) s = .next (
      if (r.cur.filter (fun y => y.idx != a.idx)) = [] ∧ r.next = 0xFFFF then
        (s.countCycles b.val a.d).endRun b.val { r with cur := r.cur.filter (fun y => y.idx != a.idx) }
      else (s.countCycles b.val a.d).putRun b.val { r with cur := r.cur.filter (fun y => y.idx != a.idx) }) := by
  change execDescriptorComplete b run s = _
  simp only [execDescriptorComplete, hruns, hrun, ha, hst, Bool.not_true, Bool.false_eq_true, if_false, List.isEmpty_iff]
  split <;> rfl

/-- DRAIN is written; with its release the queued runs start (R80). -/
theorem exec_belDrain (on : Bool) : exec (.belDrain b on) s = .next (if on then s.setFld (R.BEL_CTL b.val) F.BEL_CTL_DRAIN 1
    else (s.setFld (R.BEL_CTL b.val) F.BEL_CTL_DRAIN 0).pullRuns b.val) := by
  change execBelDrain b on s = _
  rw [execBelDrain, State.setDrain]
  cases on <;> simp only [b2n, Bool.false_eq_true, if_true, if_false]

end BellRuns

/-- Settles O8: each clause is the rule of its command. -/
theorem runsGoThrough : Obligations.RunsGoThrough := by
  refine ⟨fun s b stream seq p hpart hphase hmine hruns hactive hqueued hheld hfirst =>
      exec_runLaunchAtBell_of_new ⟨hpart, hphase, hmine, hruns, hfirst⟩ ⟨hactive, hqueued, hheld⟩,
    fun s b x l => exec_runQueueEntryFree, ?fetch, ?complete, fun s b => ⟨exec_belDrain true, exec_belDrain false⟩⟩
  case fetch =>
    intro s s1 b run r p q sect d e hruns hrun hpart hpipe hprog hlast htok hd hturn hclk hcrc hs1 he hrefs
    exact exec_descriptorFetch_of_whole ⟨hruns, hrun, hpart, hpipe, hprog, hlast, htok, hd, hturn, hclk, hcrc⟩ hs1 he hrefs
  case complete =>
    rintro s _ b run r a hruns hrun ha hst rfl
    exact exec_descriptorComplete_of_done hruns hrun ha hst

end Sys2Proof.Machine
end

section
/-!
PROOF. The operations of the Bell, each carried out by its own rule: the statement OperationsRun.
-/

namespace Sys2Proof.Machine

open Sys2Proof

section Operations

variable {s : State} {b run op : Nat} {r : RunSt} {a : Active} {p : Part} {f : Part → Desc → RunSt → State → Acc}

/-- A descriptor of an operation waits in a run, with its clusters and the engine of its collective free (R57, R58). -/
structure State.Waits (s : State) (b run op : Nat) (r : RunSt) (a : Active) (p : Part) : Prop where
  runs : s.bellRuns b = true
  active : (s.bell b).runs[run]? = some r
  op : r.cur.find? (fun a => !a.done && a.d.opcode == op) = some a
  part : s.part? r.stream r.seq = some p
  clusters : clustersFree (s.bell b).runs run a = true
  engine : s.canSend p a.d = true

/-- An operation that waits is carried out on the state that marks its output areas, and its end goes into the run. -/
theorem State.Waits.runOp (h : s.Waits b run op r a p) : s.runOp b run op f =
    s.opDone b op (s.opStart b p r a) a (f p a.d (s.opStart b p r a) (s.putRun b (s.opStart b p r a))) := by
  obtain ⟨hruns, hrun, hop, hpart, hclusters, hengine⟩ := h
  rw [State.runOp, if_neg (by simp [hruns])]
  simp only [hrun, hop, hpart]
  rw [if_pos ⟨hclusters, hengine⟩]

end Operations

/-- Settles O9: each command runs the operation of its opcode, and all share the rule of an operation that waits. -/
theorem operationsRun : Obligations.OperationsRun := by
  intro s b run ups r a p i op f hruns hrun hop hpart hclusters hengine hi
  have hexec : exec i s = .next (s.runOp b.val run op f) := by
    rcases hi with ⟨rfl, rfl, rfl⟩ | ⟨rfl, rfl, rfl⟩ | ⟨rfl, rfl, rfl⟩ | ⟨rfl, rfl, rfl⟩ | ⟨rfl, rfl, rfl⟩ | ⟨rfl, rfl, rfl⟩ | ⟨rfl, rfl, rfl⟩ |
      ⟨rfl, rfl, rfl⟩ | ⟨rfl, rfl, rfl⟩ | ⟨rfl, rfl, rfl⟩ | ⟨rfl, rfl, rfl⟩ | ⟨rfl, rfl, rfl⟩ | ⟨rfl, rfl, rfl⟩ | ⟨rfl, rfl, rfl⟩ <;> rfl
  rw [hexec, State.Waits.runOp ⟨hruns, hrun, hop, hpart, hclusters, hengine⟩]

end Sys2Proof.Machine
end

section
/-!
PROOF. Little-endian fields, and the bytes of messages and of work orders as they read back: the statement EncodingsRoundTrip.
-/

namespace Sys2Proof.Machine

open Sys2Proof

/-! Numbers as little-endian bytes (R15). -/

section LittleEndian

variable {a b n k : Nat} {l r : List Byte}

/-- A number has as many bytes as are asked for. -/
@[simp] theorem length_le (n v : Nat) : (le n v).length = n := by
  induction n generalizing v with
  | zero => rfl
  | succ n ih => rw [le, List.length_cons, ih]

/-- The n bytes of a number hold it modulo 256^n. -/
theorem leNat_le (n v : Nat) : leNat (le n v) = v % 256 ^ n := by
  induction n generalizing v with
  | zero => rw [Nat.pow_zero, Nat.mod_one]; rfl
  | succ n ih =>
    have hbyte : (BitVec.ofNat 8 v).toNat = v % 256 := BitVec.toNat_ofNat ..
    rw [le, leNat, ih, hbyte, Nat.pow_succ', Nat.mod_mul]

/-- A byte string is the bytes of the number it holds. -/
theorem le_leNat (h : l.length = n) : le n (leNat l) = l := by
  induction l generalizing n with
  | nil => subst h; rfl
  | cons x l ih =>
    subst h
    have hx : x.toNat < 256 := x.isLt
    have hbyte : BitVec.ofNat 8 (x.toNat + 256 * leNat l) = x := BitVec.eq_of_toNat_eq (by rw [BitVec.toNat_ofNat]; omega)
    rw [List.length_cons, leNat, le, hbyte, show (x.toNat + 256 * leNat l) / 256 = leNat l by omega, ih rfl]

/-- A byte string holds a number of its length. -/
theorem leNat_lt (l : List Byte) : leNat l < 256 ^ l.length := by
  rw [← le_leNat (l := l) rfl, leNat_le, length_le]
  exact Nat.mod_lt _ (Nat.pow_pos (by decide))

/-- A field of n bytes holds a number of n bytes. -/
theorem leAt_lt (l : List Byte) (a n : Nat) : leAt l a n < 256 ^ n :=
  Nat.lt_of_lt_of_le (leNat_lt _) (Nat.pow_le_pow_right (by decide) (List.length_take_le ..))

/-- A field at the front holds the number put there. -/
theorem leAt_le_append (n v : Nat) (r : List Byte) : leAt (le n v ++ r) 0 n = v % 256 ^ n := by
  rw [leAt, List.drop_zero, List.take_left' (length_le n v), leNat_le]

/-- A field past the bytes before it lies in what follows them. -/
theorem leAt_append_of_le (h : l.length ≤ a) : leAt (l ++ r) a n = leAt r (a - l.length) n := by
  rw [leAt, leAt, List.drop_append, List.drop_eq_nil_of_le h, List.nil_append]

/-- A field at the end holds the number put there, where it is wide enough. -/
theorem leAt_append_le {v : Nat} (hv : v < 256 ^ n) : leAt (l ++ le n v) l.length n = v := by
  rw [leAt_append_of_le (Nat.le_refl _), Nat.sub_self, ← List.append_nil (le n v), leAt_le_append, Nat.mod_eq_of_lt hv]

/-- A field read from a byte string is put back before what follows it there. -/
theorem le_leAt_append_drop (h : a + n = b) (hb : b ≤ l.length) : le n (leAt l a n) ++ l.drop b = l.drop a := by
  rw [leAt, le_leNat (by rw [List.length_take, List.length_drop]; omega), ← h, ← List.drop_drop, List.take_append_drop]

/-- k such fields in a row. -/
theorem flatMap_le_leAt_append_drop (h : a + n * k = b) (hb : b ≤ l.length) :
    (List.range k).flatMap (fun i => le n (leAt l (a + n * i) n)) ++ l.drop b = l.drop a := by
  induction k generalizing b with
  | zero => rw [← h]; rfl
  | succ k ih =>
    rw [Nat.mul_succ] at h
    rw [List.range_succ, List.flatMap_append, List.flatMap_singleton, List.append_assoc, le_leAt_append_drop (by omega) hb, ih rfl (by omega)]

end LittleEndian

/-! The CRC-32 of a byte string is a number of 32 bits (R77). -/

section Crc

variable {poly c k w : Nat}

/-- The steps of a CRC register stay within its width. -/
theorem crcShift_lt (hp : poly < 2 ^ w) (hc : c < 2 ^ w) : crcShift poly k c < 2 ^ w := by
  induction k generalizing c with
  | zero => exact hc
  | succ k ih =>
    have hhalf : c / 2 < 2 ^ w := Nat.lt_of_le_of_lt (Nat.div_le_self ..) hc
    rw [crcShift]
    split
    · exact ih (Nat.xor_lt_two_pow hhalf hp)
    · exact ih hhalf

/-- Bytes go through a CRC register of 32 bits. -/
theorem foldl_crcByte_lt (hp : poly < 2 ^ 32) (hc : c < 2 ^ 32) (l : List Byte) : l.foldl (crcByte poly) c < 2 ^ 32 := by
  induction l generalizing c with
  | nil => exact hc
  | cons b l ih => exact ih (crcShift_lt hp (Nat.xor_lt_two_pow hc (Nat.lt_trans b.isLt (by decide))))

/-- The final XOR keeps the width. -/
theorem crc32_lt (l : List Byte) : crc32 l < 2 ^ 32 := Nat.xor_lt_two_pow (foldl_crcByte_lt (by decide) (by decide) l) (by decide)

end Crc

/-! Fields one after the other: each a number of bytes and the value they hold. -/

section Fields

variable {fs : List (Nat × Nat)} {r : List Byte} {i : Nat}

/-- The bytes of fields one after the other. -/
def packed (fs : List (Nat × Nat)) : List Byte := fs.flatMap fun f => le f.1 f.2

/-- The bytes before field i. -/
def offsetOf (fs : List (Nat × Nat)) (i : Nat) : Nat := ((fs.take i).map (·.1)).sum

/-- Fields are as long as their widths together. -/
@[simp] theorem length_packed (fs : List (Nat × Nat)) : (packed fs).length = (fs.map (·.1)).sum := by simp [packed]

/-- A field that is wide enough for its value holds it. -/
theorem leAt_packed (hi : i < fs.length) (hv : fs[i].2 < 256 ^ fs[i].1) : leAt (packed fs ++ r) (offsetOf fs i) fs[i].1 = fs[i].2 := by
  have hsplit : packed fs ++ r = packed (fs.take i) ++ (le fs[i].1 fs[i].2 ++ (packed (fs.drop (i + 1)) ++ r)) := by
    conv => lhs; rw [← List.take_append_drop i fs, List.drop_eq_getElem_cons hi]
    simp only [packed, List.flatMap_append, List.flatMap_cons, List.append_assoc]
  have hlen : (packed (fs.take i)).length = offsetOf fs i := length_packed _
  rw [hsplit, leAt_append_of_le (Nat.le_of_eq hlen), hlen, Nat.sub_self, leAt_le_append, Nat.mod_eq_of_lt hv]

end Fields

/-! Messages (R171, R172). -/

section Messages

variable {m : Msg} {l p : List Byte} {c node die : Nat}

/-- The fields of a message fit the header. -/
structure Msg.Fits (m : Msg) : Prop where
  ver : m.ver = 1 ∨ m.ver = 2
  mtype : m.mtype < 2 ^ 8
  ttl : m.ttl < 2 ^ 8
  dstNode : m.dstNode < 2 ^ 20
  dstDie : m.dstDie < 2 ^ 5
  srcNode : m.srcNode < 2 ^ 20
  srcDie : m.srcDie < 2 ^ 5
  epoch : m.epoch < 2 ^ 16
  tid : m.tid < 2 ^ 64
  origTick : m.origTick < 2 ^ 32
  status : m.status < 2 ^ 8
  body : m.body.length ≤ 8192

/-- Byte 2 of the header: R, ALT and RETX. -/
def Msg.flagByte (m : Msg) : Nat := b2n m.resp + 2 * b2n m.alt + 4 * b2n m.retx

/-- A node and a die as DST and SRC hold them. -/
def nodeDie (node die : Nat) : Nat := node % 2 ^ 20 + die % 32 * 2 ^ 20

/-- The fields of the header. -/
def Msg.fields (m : Msg) : List (Nat × Nat) :=
  [(1, m.ver % 16), (1, m.mtype), (1, m.flagByte), (1, m.ttl), (4, nodeDie m.dstNode m.dstDie), (4, nodeDie m.srcNode m.srcDie),
   (2, m.epoch), (2, m.body.length), (8, m.tid), (4, m.origTick), (1, m.status), (3, 0)]

/-- The header and the body of a message. -/
theorem Msg.bytes_eq (m : Msg) : m.bytes = packed m.fields ++ m.body := by
  have hzeros : zeros 3 = le 3 0 := rfl
  have hfour : ∀ v w x y, [BitVec.ofNat 8 v, BitVec.ofNat 8 w, BitVec.ofNat 8 x, BitVec.ofNat 8 y] = le 1 v ++ (le 1 w ++ (le 1 x ++ le 1 y)) :=
    fun _ _ _ _ => rfl
  have hone : ∀ v, [BitVec.ofNat 8 v] = le 1 v := fun _ => rfl
  rw [Msg.bytes, hfour, hone, hzeros]
  simp only [packed, Msg.fields, Msg.flagByte, nodeDie, List.flatMap_cons, List.flatMap_nil, List.append_assoc, List.nil_append]

/-- The header is 32 bytes long. -/
theorem Msg.length_bytes (m : Msg) : m.bytes.length = 32 + m.body.length := by
  rw [Msg.bytes_eq, List.length_append, length_packed]; rfl

/-- LEN gives the length of a message (R171). -/
theorem Msg.length_encode (m : Msg) : m.encode.length = 36 + m.body.length := by
  rw [Msg.encode, List.length_append, m.length_bytes, length_le]; omega

/-- The body follows the header. -/
theorem Msg.body_encode (m : Msg) : (m.encode.drop 32).take m.body.length = m.body := by
  rw [Msg.encode, Msg.bytes_eq, List.append_assoc, List.drop_left' (i := 32) (length_packed m.fields), List.take_left]

/-- The MCRC follows the body, and is the CRC-32 of the header and the body (R171). -/
theorem Msg.mcrc_encode (m : Msg) : leAt m.encode (32 + m.body.length) 4 = crc32 (m.encode.take (32 + m.body.length)) := by
  rw [Msg.encode, ← m.length_bytes, leAt_append_le (crc32_lt _), List.take_left]

/-- The flags of byte 2 read back. -/
theorem Msg.bit_flagByte (m : Msg) : m.flagByte < 8 ∧ bit m.flagByte 0 = m.resp ∧ bit m.flagByte 1 = m.alt ∧ bit m.flagByte 2 = m.retx := by
  have h : ∀ x y z : Bool, let f := b2n x + 2 * b2n y + 4 * b2n z
    f < 8 ∧ bit f 0 = x ∧ bit f 1 = y ∧ bit f 2 = z := by decide
  exact h ..

/-- A node and a die read back. -/
theorem bits_nodeDie (hn : node < 2 ^ 20) (hd : die < 2 ^ 5) :
    nodeDie node die < 2 ^ 25 ∧ bits (nodeDie node die) 19 0 = node ∧ bits (nodeDie node die) 24 20 = die := by
  simp only [bits, nodeDie]
  omega

/-- Each field of the header is wide enough. -/
theorem Msg.Fits.fields_lt (h : m.Fits) : ∀ f ∈ m.fields, f.2 < 256 ^ f.1 := by
  obtain ⟨hver, hmtype, httl, hdn, hdd, hsn, hsd, hepoch, htid, htick, hstatus, hbody⟩ := h
  have hflags := m.bit_flagByte.1
  have hdst := (bits_nodeDie hdn hdd).1
  have hsrc := (bits_nodeDie hsn hsd).1
  simp only [Msg.fields, List.forall_mem_cons, List.not_mem_nil, false_imp_iff, implies_true, and_true]
  omega

/-- The fields of the header read back from the message's bytes. -/
theorem Msg.Fits.leAt_encode (h : m.Fits) (i : Nat) (hi : i < 12) :
    leAt m.encode (offsetOf m.fields i) (m.fields[i]'hi).1 = (m.fields[i]'hi).2 := by
  rw [Msg.encode, Msg.bytes_eq, List.append_assoc, leAt_packed hi (h.fields_lt _ (List.getElem_mem hi))]

/-- A message that fits the header reads back from its bytes. -/
theorem Msg.Fits.parse_encode (h : m.Fits) : Msg.parse m.encode = some m := by
  have hver : leAt m.encode 0 1 = m.ver := (h.leAt_encode 0 (by decide)).trans (show m.ver % 16 = m.ver by have := h.ver; omega)
  have hmtype : leAt m.encode 1 1 = m.mtype := h.leAt_encode 1 (by decide)
  have hflags : leAt m.encode 2 1 = m.flagByte := h.leAt_encode 2 (by decide)
  have httl : leAt m.encode 3 1 = m.ttl := h.leAt_encode 3 (by decide)
  have hdst : leAt m.encode 4 4 = nodeDie m.dstNode m.dstDie := h.leAt_encode 4 (by decide)
  have hsrc : leAt m.encode 8 4 = nodeDie m.srcNode m.srcDie := h.leAt_encode 5 (by decide)
  have hepoch : leAt m.encode 12 2 = m.epoch := h.leAt_encode 6 (by decide)
  have hlen : leAt m.encode 14 2 = m.body.length := h.leAt_encode 7 (by decide)
  have htid : leAt m.encode 16 8 = m.tid := h.leAt_encode 8 (by decide)
  have htick : leAt m.encode 24 4 = m.origTick := h.leAt_encode 9 (by decide)
  have hstatus : leAt m.encode 28 1 = m.status := h.leAt_encode 10 (by decide)
  have hzero : leAt m.encode 29 3 = 0 := h.leAt_encode 11 (by decide)
  obtain ⟨hflag8, hresp, halt, hretx⟩ := m.bit_flagByte
  obtain ⟨hdst25, hdstNode, hdstDie⟩ := bits_nodeDie h.dstNode h.dstDie
  obtain ⟨hsrc25, hsrcNode, hsrcDie⟩ := bits_nodeDie h.srcNode h.srcDie
  rw [Msg.parse]
  simp only [hver, hmtype, hflags, httl, hdst, hsrc, hepoch, hlen, htid, htick, hstatus, m.body_encode]
  rw [if_pos ⟨m.length_encode, h.body, h.ver, hflag8, hdst25, hsrc25, hzero, m.mcrc_encode⟩, hresp, halt, hretx, hdstNode, hdstDie, hsrcNode, hsrcDie]

/-- Bytes whose last four are not the CRC-32 of those before them are no message. -/
theorem Msg.parse_of_bad_mcrc (hc : c < 2 ^ 32) (hbad : c ≠ crc32 p) : Msg.parse (p ++ le 4 c) = none := by
  rw [Msg.parse]
  refine if_neg fun ⟨hlen, _, _, _, _, _, _, hcrc⟩ => hbad ?_
  have hp : p.length = 32 + leAt (p ++ le 4 c) 14 2 := by rw [List.length_append, length_le] at hlen; omega
  rwa [← hp, List.take_left, leAt_append_le hc] at hcrc

/-- Bytes of another length than LEN's, with a reserved flag or of an unknown version are no message. -/
theorem Msg.parse_of_bad_header (h : l.length ≠ 36 + leAt l 14 2 ∨ 8 ≤ leAt l 2 1 ∨ (leAt l 0 1 ≠ 1 ∧ leAt l 0 1 ≠ 2)) :
    Msg.parse l = none := by
  rw [Msg.parse]
  exact if_neg fun ⟨hlen, _, hver, hflags, _⟩ => by omega

end Messages

/-! Work orders (R81). -/

section WorkOrders

variable {l : List Byte}

/-- Bytes of the length asked for are kept. -/
theorem fit_of_length {n : Nat} (h : l.length = n) : fit n l = l := by
  rw [fit, h, Nat.sub_self, List.take_of_length_le (Nat.le_of_eq h), zeros, List.replicate_zero, List.append_nil]

/-- The bytes of an order whose reserved bits and bytes are zero: each field that shares its bytes with reserved bits holds the whole of them. -/
theorem WorkOrder.fields_of_reservedZero (h : reservedZero l = true) :
    bits (leAt l 1 1) 1 0 + 4 * b2n (bit (leAt l 1 1) 2) + 8 * b2n (bit (leAt l 1 1) 3) = leAt l 1 1 ∧ bits (leAt l 2 1) 2 0 = leAt l 2 1 ∧
      bits (leAt l 24 2) 9 0 = leAt l 24 2 ∧ bits (leAt l 26 2) 11 0 = leAt l 26 2 ∧ leAt l 39 1 = 0 ∧ bits (leAt l 76 1) 2 0 = leAt l 76 1 ∧
      leAt l 77 3 = 0 := by
  have hb2n : ∀ n i, b2n (bit n i) = n / 2 ^ i % 2 := fun n i => by rcases Nat.mod_two_eq_zero_or_one (n / 2 ^ i) with h | h <;> simp [b2n, bit, h]
  have h1 := leAt_lt l 1 1
  have h2 := leAt_lt l 2 1
  have h24 := leAt_lt l 24 2
  have h26 := leAt_lt l 26 2
  have h76 := leAt_lt l 76 1
  simp only [reservedZero, Bool.and_eq_true, beq_iff_eq, bits] at h
  simp only [hb2n, bits]
  omega

/-- An order whose reserved bits are zero is encoded as the bytes that it was read from. -/
theorem WorkOrder.encode_decode (hl : l.length = 128) (h : reservedZero l = true) : (WorkOrder.decode l).encode = l := by
  obtain ⟨hflags, hbranch, hpipe, hhctx, hzero, hmask, hzeros⟩ := WorkOrder.fields_of_reservedZero h
  have hseed : fit 16 ((l.drop 48).take 16) = (l.drop 48).take 16 := fit_of_length (by rw [List.length_take, List.length_drop, hl]; rfl)
  have hseedAt : (l.drop 48).take 16 ++ l.drop 64 = l.drop 48 := by
    conv => rhs; rw [← List.take_append_drop 16 (l.drop 48), List.drop_drop]
  have htokens : (List.range 8).flatMap (fun i => le 4 (((List.range 8).map fun i => leAt l (92 + 4 * i) 4).getD i 0)) =
    (List.range 8).flatMap fun i => le 4 (leAt l (92 + 4 * i) 4) := rfl
  have hpad : le 1 0 = le 1 (leAt l 39 1) := by rw [hzero]
  have hpads : le 3 0 = le 3 (leAt l 77 3) := by rw [hzeros]
  have hend : l.drop 128 = [] := List.drop_eq_nil_of_le (Nat.le_of_eq hl)
  rw [← List.append_nil (WorkOrder.encode _), ← hend]
  unfold WorkOrder.encode
  simp only [WorkOrder.decode, hflags, hbranch, hpipe, hhctx, hmask, hpad, hpads, hseed]
  rw [htokens]
  simp only [List.append_assoc]
  simp (disch := omega) only [le_leAt_append_drop, flatMap_le_leAt_append_drop, hseedAt, List.drop_zero]


end WorkOrders

/-- Settles O53: a message by the fields of its header, a work order by the fields that its bytes are cut into. -/
theorem encodingsRoundTrip : Obligations.EncodingsRoundTrip := by
  refine ⟨⟨?fits, fun l c _ hc hbad => Msg.parse_of_bad_mcrc hc hbad, fun l => Msg.parse_of_bad_header⟩, fun l => WorkOrder.encode_decode⟩
  intro m hver hmtype httl hdn hdd hsn hsd hepoch htid htick hstatus hbody
  exact Msg.Fits.parse_encode ⟨hver, hmtype, httl, hdn, hdd, hsn, hsd, hepoch, htid, htick, hstatus, hbody⟩

end Sys2Proof.Machine
end

section
/-!
PROOF. Work orders at their home and on the shard devices, their mirrors and their completions: the statements OrdersAreJudged, LaunchAtItsTick,
PartsReport and MirrorsAndCompletions.
-/

namespace Sys2Proof.Machine

open Sys2Proof

/-! The submission of an order (R82 to R85, R181). -/

section Submission

variable {s t : State} {src : Entry} {raw : List Byte} {m : Msg} {w : WorkOrder}

/-- What the home makes of an order, by the outcome of its checks. -/
structure State.Judged (s : State) (m : Msg) (w : WorkOrder) (t : State) : Prop where
  accept : s.admitOrder m.body w = .accept → t = s.journalOrder m w
  again : ∀ i, s.admitOrder m.body w = .again i → ∃ e, s.jrn.own.find? (fun x => x.1 == i) = some (i, e) ∧
    t = s.respond m 0 (submitBody true 0 w e.acceptTick)
  silent : s.admitOrder m.body w = .silent → t = s
  refuse : ∀ r, s.admitOrder m.body w = .refuse r → t = s.notAccepted m w r

/-- An order of a TYPE that its command submits is judged and taken up. -/
theorem State.Judged.submit {ty : Nat → Bool} (h : s.Judged m (WorkOrder.decode m.body) t) (ht : s.Takes src raw 0x10 m)
    (hty : ty (WorkOrder.decode m.body).type = true) : s.submit src ty raw = t.takeUp m := by
  rw [State.submit, ht.receiveReq, if_pos hty]
  cases ha : s.admitOrder m.body (WorkOrder.decode m.body) with
  | accept => rw [h.accept ha]
  | again i =>
    obtain ⟨e, he, rfl⟩ := h.again i ha
    simp only [he]
  | silent => rw [h.silent ha]
  | refuse r => rw [h.refuse r ha]

end Submission

/-- Settles O1: the order is judged by the outcome of its checks, and each of the five commands submits its own TYPEs. -/
theorem ordersAreJudged : Obligations.OrdersAreJudged := by
  intro s src raw m c t ht hc hmatch hheld
  have hj : s.Judged m (WorkOrder.decode m.body) t := by
    refine ⟨fun ha => ?accept, fun i ha => ?again, fun ha => ?silent, fun r ha => ?refuse⟩ <;> simp only [ha] at hmatch
    case again =>
      obtain ⟨e, he⟩ := hheld i ha
      exact ⟨e, he, hmatch e he⟩
    all_goals exact hmatch
  have hexec : ∀ ty : Nat → Bool, ty (WorkOrder.decode m.body).type = true → (.next (s.submit src ty raw) : Host.Outcome State Fault Refusal) =
    .next (t.takeUp m) := fun _ hty => congrArg _ (hj.submit ht hty)
  rcases hc with ⟨rfl, hty⟩ | ⟨rfl, hty⟩ | ⟨rfl, hty⟩ | ⟨rfl, hty⟩ | ⟨rfl, hty⟩
  case inr.inr.inr.inr =>
    refine hexec (fun n => !(n == 2 || n == 3 || n == 4 || n == 5)) ?_
    simp only [Bool.not_eq_true', Bool.or_eq_false_iff, beq_eq_false_iff_ne]
    omega
  all_goals exact hexec _ (beq_iff_eq.2 hty)

/-! The launch of an order (R88, R89). -/

section Launch

variable {s t : State} {src : Entry} {raw : List Byte} {stream seq peers i : Nat} {e : JEntry} {p : Part} {m : Msg} {w : WorkOrder}

/-- An accepted entry that leads its stream is due: its launch tick has come, and neither a lost unit nor an activation holds it back. -/
structure State.EntryDue (s : State) (stream seq i : Nat) (e : JEntry) : Prop where
  entry : s.entry? stream seq = some (i, e)
  accepted : e.st = .accepted
  lead : e.lead = true
  tick : e.launchTick ≤ s.ftc
  notHeld : s.lossHold stream = false
  notActivating : s.activationDue = false

/-- An entry launched at a tick. -/
def JEntry.launchedAt (e : JEntry) (tick : Nat) : JEntry :=
  { e with st := .launched, startTick := tick, late := decide (e.launchTick < tick) || (e.wo.launchTick != 0 && decide (e.wo.launchTick < tick)) }

/-- A due entry is launched; without a part on this device nothing else is. -/
theorem State.EntryDue.exec_launchTickReached (h : s.EntryDue stream seq i e) (hs : s.inStrike = false)
    (hp : (s.putEntry i (e.launchedAt s.ftc)).part? stream seq = none) :
    exec (.launchTickReached stream ⟨seq, peers⟩) s = .next (s.putEntry i (e.launchedAt s.ftc)) := by
  obtain ⟨hentry, hacc, hlead, htick, hheld, hact⟩ := h
  rw [JEntry.launchedAt] at hp ⊢
  change execLaunchTickReached stream ⟨seq, peers⟩ s = _
  simp only [execLaunchTickReached, hs, hentry, Bool.false_eq_true, if_false]
  rw [if_pos ⟨hacc, hlead, htick, by simp [hheld], by simp [hact]⟩]
  simp only [hp]

/-- On a device that is not the home, an armed part is due at its tick, unless an earlier event of that tick is still to come. -/
theorem exec_launchTickReached_of_part (hs : s.inStrike = false) (he : s.entry? stream seq = none) (hp : s.part? stream seq = some p)
    (harmed : p.phase = .armed) (htick : p.tick ≤ s.ftc) (hheld : s.lossHold stream = false) (hfirst : s.mustWait p = false) :
    exec (.launchTickReached stream ⟨seq, peers⟩) s = .next (s.partDue p peers) := by
  change execLaunchTickReached stream ⟨seq, peers⟩ s = _
  simp only [execLaunchTickReached, hs, he, hp, Bool.false_eq_true, if_false]
  rw [if_pos ⟨harmed, htick, by simp [hheld], by simp [hfirst]⟩]

/-- A LAUNCH arms its part, which is due at once where its tick has passed (R89). -/
theorem exec_launch (ht : s.Takes src raw 0x20 m) (hw : w = WorkOrder.decode ((m.body.drop 9).take 128))
    (harm : t = ((s.adoptShard w).armPart m.srcNode (leAt m.body 0 1) (leAt m.body 1 8) w).respond m 0 []) (hp : t.part? w.stream w.seq = some p) :
    exec (.launch src ⟨raw, peers⟩) s =
      .next ((if p.phase = .armed ∧ p.due = false ∧ leAt m.body 1 8 < t.ftc then t.partDue p peers else t).takeUp m) := by
  change execLaunch src ⟨raw, peers⟩ s = _
  rw [execLaunch, ht.receiveReq]
  simp only [← hw, ← harm, hp, Bool.not_eq_true']

end Launch

/-- Settles O2: the entry of the home, the part of another device, and a LAUNCH that arms a part, each by its rule. -/
theorem launchAtItsTick : Obligations.LaunchAtItsTick :=
  ⟨fun _ _ _ _ _ _ hs hentry hacc hlead htick hheld hact => State.EntryDue.exec_launchTickReached ⟨hentry, hacc, hlead, htick, hheld, hact⟩ hs,
    fun _ _ _ _ _ => exec_launchTickReached_of_part, fun _ _ _ _ _ _ _ ht hw harm _ => exec_launch ht hw harm⟩

/-! The reports of parts (R92, R100, R111). -/

section Reports

variable {s t : State} {src : Entry} {raw : List Byte} {stream seq i : Nat} {p q : Part} {st : Stream} {m : Msg} {e : JEntry} {r : Report}

/-- A part that has run on every Bell of its own, and whose mirrors are acknowledged, reports (R92, R100). -/
theorem exec_runComplete (hp : s.part? stream seq = some p) (hend : p.phase = .ended ∨ p.phase = .running ∧ p.bells = []) (hm : p.mirrors = 0)
    (hs : s.inStrike = false) : exec (.runComplete stream seq) s = .next (s.reportPart p) := by
  change execRunComplete stream seq s = _
  simp only [execRunComplete, hp, List.isEmpty_iff]
  rw [if_pos ⟨hend, hm, by simp [hs]⟩]

/-- A COMMIT's copy that is done ends its part, which reports once its mirrors are acknowledged (R100, R111). -/
theorem exec_commitCopyDone (hp : s.jrn.parts.find? (fun p => p.wo.stream == stream && p.phase == Phase.copying) = some p)
    (hst : s.stream? stream = some st) (ht : t = s.endCopy stream st p) (hq : t.part? stream p.wo.seq = some q) :
    exec (.commitCopyDone stream) s = .next (if q.mirrors = 0 then t.reportPart q else t) := by
  subst ht
  change execCommitCopyDone stream s = _
  simp only [execCommitCopyDone, hp, hst, hq]
  split <;> rfl

/-- The home expects a report: the order is launched, and a device of its shard set reports on its GEN for the first time (R92, R184). -/
structure State.Expects (s : State) (stream seq : Nat) (r : Report) (i : Nat) (e : JEntry) : Prop where
  entry : s.entry? stream seq = some (i, e)
  launched : e.st = .launched
  gen : r.gen = e.gen
  member : (s.shardSet stream).contains r.node = true
  first : e.reports.any (fun q => q.node == r.node) = false

/-- A report that the home expects is taken, and the last one ends the order (R92). -/
theorem exec_partReport (ht : s.Takes src raw 0x22 m) (hr : Report.decode m.srcNode m.body = (stream, seq, r))
    (h : (s.respond m 0 []).Expects stream seq r i e) : exec (.partReport src raw) s = .next ((
      if e.reports.length + 1 = ((s.respond m 0 []).shardSet stream).length then (s.respond m 0 []).orderEnds i { e with reports := e.reports ++ [r] }
      else (s.respond m 0 []).putEntry i { e with reports := e.reports ++ [r] }).takeUp m) := by
  obtain ⟨hentry, hlaunched, hgen, hmember, hfirst⟩ := h
  change execPartReport src raw s = _
  rw [execPartReport, ht.receiveReq]
  simp only [hr, hentry, List.length_append, List.length_singleton]
  rw [if_pos ⟨hlaunched, hgen, hmember, by simp [hfirst]⟩]

end Reports

/-- Settles O3: each clause is the rule of its command. -/
theorem partsReport : Obligations.PartsReport :=
  ⟨fun _ _ _ _ => exec_runComplete, fun _ _ _ _ _ _ => exec_commitCopyDone,
    fun _ _ _ _ _ _ ht hentry hlaunched hgen hmember hfirst => exec_partReport ht rfl ⟨hentry, hlaunched, hgen, hmember, hfirst⟩⟩

/-! The mirrors that a buddy keeps (R100, R181, R182, R184). -/

section Mirrors

variable {s : State} {src : Entry} {raw : List Byte} {idx : Nat} {m : Msg} {e : JEntry}

/-- The buddy stores a row, or restores it onto the replacement of a lost device, and answers (R100). -/
theorem exec_kvMirrorMsg (ht : s.Takes src raw 0x26 m) : exec (.kvMirrorMsg src raw) s = .next (((
    if leAt m.body 6 2 = 1 then s.restoreRow (leAt m.body 0 4) (leAt m.body 4 1) (leAt m.body 5 1) (leAt m.body 8 8) (m.body.drop 16)
    else s.storeMirror (leAt m.body 0 4) (leAt m.body 4 1) (leAt m.body 5 1) (leAt m.body 8 8) (m.body.drop 16)).respond m 0 []).takeUp m) := by
  change execKvMirrorMsg src raw s = _
  rw [execKvMirrorMsg, ht.receiveReq]

/-- The buddy writes an update that no later one has overtaken, and answers every one (R181, R174). -/
theorem exec_jrnMirrorMsg (ht : s.Takes src raw 0x24 m) : exec (.jrnMirrorMsg src raw) s = .next (((
    if leAt m.body 0 8 < SMap.get (fun _ => 0) s.jrn.mirSeen (mirrorKey m.srcNode (m.body.drop 8)) then s
    else { s with jrn := { s.jrn with
      mirSeen := SMap.set (fun _ => 0) s.jrn.mirSeen (mirrorKey m.srcNode (m.body.drop 8)) (leAt m.body 0 8 + 1) } }.mirrorWrite (m.body.drop 8) m).respond
    m 0 []).takeUp m) := by
  change execJrnMirrorMsg src raw s = _
  rw [execJrnMirrorMsg, ht.receiveReq]

/-- An order whose mirror stays unanswered is undone and refused with NO_MIRROR (R182). -/
theorem exec_mirrorTimeout (he : s.jrn.own.find? (fun x => x.1 == idx) = some (idx, e)) (hst : e.st = .awaiting)
    (hlate : e.acceptAt + s.timeoutNs * (s.retries + 1) ≤ s.now) :
    exec (.mirrorTimeout idx) s = .next (((s.undoOrder idx e).mirrorEntry idx 6 e).notAccepted e.sub e.wo 0x0D) := by
  change execMirrorTimeout idx s = _
  simp only [execMirrorTimeout, he]
  rw [if_pos ⟨hst, hlate⟩]

/-- The release of a delivered entry is mirrored 16 ms after its acceptance (R184). -/
theorem exec_journalRelease (he : s.jrn.own.find? (fun x => x.1 == idx) = some (idx, e)) (hst : e.st = .delivered)
    (hold : 16000000 + e.acceptTick ≤ s.ftc) (hout : s.mirrorOut idx = false) : exec (.journalRelease idx) s = .next (s.mirrorEntry idx 5 e) := by
  change execJournalRelease idx s = _
  simp only [execJournalRelease, he]
  rw [if_pos ⟨hst, hold, by simp [hout]⟩]

end Mirrors

/-! The completions of a host context (R185 to R187). -/

section Completions

variable {s : State} {src : Entry} {raw : List Byte} {stream hctx n : Nat} {c : Comp} {m : Msg}

/-- The oldest completion that has not been sent goes to the bridge while fewer than 16 wait for an acknowledgement (R185, R186). -/
theorem exec_completionSend (hs : s.inStrike = false) (hc : (s.compsOf stream hctx).find? (fun c => !c.sent) = some c) (hn : s.bridgeOf hctx = some n)
    (hroom : ((s.compsOf stream hctx).filter (·.sent)).length < 16) : exec (.completionSend stream hctx) s =
      .next (State.sendComp { s with jrn := { s.jrn with comps := s.jrn.comps.map fun d =>
        if d.stream = stream ∧ d.hctx = hctx ∧ d.dseq = c.dseq then { d with sent := true, deadline := s.now + s.timeoutNs } else d } } c false n) := by
  change execCompletionSend stream hctx s = _
  simp only [execCompletionSend, hs, hc, hn, hroom, Bool.false_eq_true, if_false, if_true]

/-- An acknowledgement without an error ends the completions up to its DSEQ (R186). -/
theorem exec_compAck (hflow : s.zfpFlows = true) (hm : Msg.parse raw = some m) (hsrc : s.partnerOk src m = true) (htype : m.mtype = 0x13)
    (hresp : m.resp = true) (hstatus : m.status = 0) (hlen : m.body.length = 16) :
    exec (.compAck src raw) s = .next ((s.ackComps (leAt m.body 0 4) (bits (leAt m.body 4 2) 11 0) (leAt m.body 8 8)).takeUp m) := by
  change execCompAck src raw s = _
  rw [execCompAck, State.receive_eq hflow hm hsrc, if_pos ⟨htype, hresp, hstatus, hlen⟩]

/-- A new HOST_BIND binds its context to the node that asks, and holds its key (R179, R187). -/
theorem exec_hostBind (ht : s.Takes src raw 0x14 m) (hd : s.dedupCheck m = .execute) : exec (.hostBind src raw) s =
    .next (((((s.bindHome (bits (leAt m.body 0 2) 11 0) m.srcNode).holdKey m
      ((s.bindHome (bits (leAt m.body 0 2) 11 0) m.srcNode).response m 0 [])).switchIn .ridge
      ((s.bindHome (bits (leAt m.body 0 2) 11 0) m.srcNode).response m 0 []))).takeUp m) := by
  change execHostBind src raw s = _
  rw [execHostBind, ht.receiveReq, State.window_of_execute hd rfl, if_pos rfl]

end Completions

/-- Settles O4: each clause is the rule of its command. -/
theorem mirrorsAndCompletions : Obligations.MirrorsAndCompletions :=
  ⟨⟨fun _ _ _ _ => exec_kvMirrorMsg, fun _ _ _ _ => exec_jrnMirrorMsg, fun _ _ _ => exec_mirrorTimeout, fun _ _ _ => exec_journalRelease⟩,
    fun _ _ _ _ _ => exec_completionSend, fun _ _ _ _ => exec_compAck, fun _ _ _ _ => exec_hostBind⟩

end Sys2Proof.Machine
end

section
/-!
PROOF. The shadow's port, the verification of the shadow, FULL and REMAP activation and the live words: the statements ShadowIsLoaded, FullActivates
and RemapAndLive.
-/

namespace Sys2Proof.Machine

open Sys2Proof

/-! The shadow is opened, filled, verified and dropped (R159 to R161). -/

/-- A master may write the shadow's port: firmware runs, and the shadow is the master's own or nobody's (R159, R409). -/
structure State.MayWriteShadow (s : State) (guy : Bool) : Prop where
  running : s.sec.running ≠ none
  owner : s.fld R.PIT_STAT F.PIT_STAT_OWNER = 0 ∨ s.fld R.PIT_STAT F.PIT_STAT_OWNER = ownerOf guy

/-- The shadow emptied by OPEN or DROP (R159): any verification is given up, and the shadow has a new state and owner. -/
def State.emptyShadow (s : State) (v : Shadow) (owner : Nat) : State :=
  (((State.setShadow { s.dropVerify with pit := { s.dropVerify.pit with shadow := {}, isSealed := false } } v).setFld
    R.PIT_STAT F.PIT_STAT_OWNER owner).setFld R.PIT_SHD_LEN F.PIT_SHD_LEN_LEN 0).pitCode 0

/-- A word put into the shadow at an offset, which moves on; the length covers it (R159). -/
def State.fillShadow (s : State) (o data : Nat) : State :=
  let st := s.pit.shadow.write o (le 4 data)
  ((State.setFld { s with pit := { s.pit with shadow := { st with len := max st.len (o + 4) } } } R.PIT_SHD_OFF F.PIT_SHD_OFF_OFF (o + 4)).setFld
    R.PIT_SHD_LEN F.PIT_SHD_LEN_LEN (max st.len (o + 4))).pitCode 0

/-- PEER_NOT_READY, at the OVERFLOW extent whose peer the verification waits for (R161). -/
def Store.peerNotReady (st : Store) (ext : Nat) : VerRes :=
  { code := 0x12, sect := (st.find 5).elim 0xFE (·.idx), off := (st.find 5).elim 0 fun x => x.off + 8 + 32 * ext }

section ShadowPort

variable {s : State} {guy : Bool} {data : BitVec 32} {ext : Nat} {r : VerRes} {k : State → State}

/-- A write by a master that may make it has its effect (R159). -/
theorem State.MayWriteShadow.pitWrite (h : s.MayWriteShadow guy) : s.pitWrite guy k = k s := by
  have howner : ¬ (s.fld R.PIT_STAT F.PIT_STAT_OWNER ≠ 0 ∧ s.fld R.PIT_STAT F.PIT_STAT_OWNER ≠ ownerOf guy) :=
    fun ⟨hown, hother⟩ => h.owner.elim hown hother
  rw [State.pitWrite, if_neg (by simp [h.running])]
  exact if_neg howner

/-- A write by the master that does not own the shadow is SHADOW_BUSY (R159). -/
theorem State.pitWrite_of_other_owner (hrun : s.sec.running ≠ none) (hown : s.fld R.PIT_STAT F.PIT_STAT_OWNER ≠ 0)
    (hother : s.fld R.PIT_STAT F.PIT_STAT_OWNER ≠ ownerOf guy) : s.pitWrite guy k = s.pitCode 0x18 := by
  rw [State.pitWrite, if_neg (by simp [hrun])]
  exact if_pos ⟨hown, hother⟩

/-- OPEN empties the shadow for its writer. -/
theorem exec_openShadow (h : s.MayWriteShadow guy) (hst : s.pit.shState ≠ .armed) :
    exec (.openShadow guy) s = .next (s.emptyShadow .loading (ownerOf guy)) := by
  change Host.Outcome.next (s.openShadow guy) = _
  rw [State.openShadow, h.pitWrite, if_neg hst, State.emptyShadow]

/-- OPEN is refused while the shadow is ARMED. -/
theorem exec_openShadow_of_armed (h : s.MayWriteShadow guy) (hst : s.pit.shState = .armed) :
    exec (.openShadow guy) s = .next (s.pitCode 0x1A) := by
  change Host.Outcome.next (s.openShadow guy) = _
  rw [State.openShadow, h.pitWrite, if_pos hst]

/-- DROP empties the shadow and leaves it without an owner. -/
theorem exec_drop (h : s.MayWriteShadow guy) (hst : s.pit.shState ≠ .armed) : exec (.drop guy) s = .next (s.emptyShadow .empty 0) := by
  change Host.Outcome.next (s.dropShadow guy) = _
  rw [State.dropShadow, h.pitWrite, if_neg hst, State.emptyShadow]

/-- DROP is refused while the shadow is ARMED. -/
theorem exec_drop_of_armed (h : s.MayWriteShadow guy) (hst : s.pit.shState = .armed) : exec (.drop guy) s = .next (s.pitCode 0x1A) := by
  change Host.Outcome.next (s.dropShadow guy) = _
  rw [State.dropShadow, h.pitWrite, if_pos hst]

/-- Data for a shadow that does not load, or is sealed by a failed verification, is SHADOW_SEALED. -/
theorem exec_shadowDataWrite_of_sealed (h : s.MayWriteShadow guy) (hst : s.pit.shState ≠ .loading ∨ s.pit.isSealed = true) :
    exec (.shadowDataWrite guy data) s = .next (s.pitCode 0x19) := by
  change Host.Outcome.next (s.shadowData guy data.toNat) = _
  rw [State.shadowData, h.pitWrite]
  exact congrArg _ (if_pos hst)

/-- Data within 16 MiB fills a shadow that loads. -/
theorem exec_shadowDataWrite (h : s.MayWriteShadow guy) (hst : s.pit.shState = .loading) (hopen : s.pit.isSealed = false)
    (hoff : s.fld R.PIT_SHD_OFF F.PIT_SHD_OFF_OFF < 16777216) :
    exec (.shadowDataWrite guy data) s = .next (s.fillShadow (s.fld R.PIT_SHD_OFF F.PIT_SHD_OFF_OFF) data.toNat) := by
  change Host.Outcome.next (s.shadowData guy data.toNat) = _
  rw [State.shadowData, h.pitWrite]
  simp only [hst, hopen, ne_eq, not_true_eq_false, Bool.false_eq_true, or_self, if_false, if_neg (Nat.not_le.2 hoff), State.fillShadow]

/-- VERIFY is refused of a shadow that does not load. -/
theorem exec_verify_of_not_loading (h : s.MayWriteShadow guy) (hst : s.pit.shState ≠ .loading) :
    exec (.verify guy) s = .next (s.pitCode 0x1A) := by
  change Host.Outcome.next (s.startVerify guy) = _
  rw [State.startVerify, h.pitWrite, if_pos hst]

/-- A failure of checks 1 to 17 is the result of the verification that VERIFY starts (R160). -/
theorem exec_verify_of_failure (h : s.MayWriteShadow guy) (hst : s.pit.shState = .loading) (hr : s.verifyImage s.pit.shadow = some r) :
    exec (.verify guy) s = .next { s.setShadow .verifying with pit := { (s.setShadow .verifying).pit with res := some r } } := by
  change Host.Outcome.next (s.startVerify guy) = _
  rw [State.startVerify, h.pitWrite, if_neg (by simp [hst])]
  simp only [hr]

/-- Verification ends with its result (R160). -/
theorem exec_verifyDone (hr : s.pit.res = some r) (hst : s.pit.shState = .verifying) : exec .verifyDone s = .next (s.endVerify r) := by
  change execVerifyDone s = _
  simp only [execVerifyDone, hr, if_pos hst]

/-- A result without a failure makes the shadow VERIFIED (R160). -/
theorem State.endVerify_of_passed (hr : r.code = 0) :
    s.endVerify r = ((s.dropVerify.pitCode 0).setShadow .verified).setFld R.PIT_STAT F.PIT_STAT_DELTA 0 := by
  simp only [State.endVerify, hr, if_true]

/-- A peer that is still not ready at the end of the wait makes the result PEER_NOT_READY, at its extent (R161). -/
theorem exec_peerWaitTimeout (hst : s.pit.shState = .verifying) (hres : s.pit.res = none) (hwait : s.pit.peers.any (fun e => e.1 == ext) = true)
    (hlate : s.pit.peerBy ≤ s.now) : exec (.peerWaitTimeout ext) s =
      .next { s with pit := { s.pit with res := some (s.pit.shadow.peerNotReady ext) } } := by
  change execPeerWaitTimeout ext s = _
  rw [execPeerWaitTimeout, if_pos ⟨hst, by simp [hres], hwait, hlate⟩, Store.peerNotReady]

end ShadowPort

/-- Settles O41: a write by the other master has the port's one refusal; the other clauses are the rules of their commands. -/
theorem shadowIsLoaded : Obligations.ShadowIsLoaded := by
  refine ⟨fun s guy data c hrun hown hother hc => ?busy, fun s guy c hrun howner => ?port, fun s guy data o hrun howner ho => ?data,
    fun s r hr hst => ⟨exec_verifyDone hr hst, fun hpass => by rw [exec_verifyDone hr hst, State.endVerify_of_passed hpass]⟩, ?timeout⟩
  case busy =>
    rcases hc with rfl | rfl | rfl | rfl | rfl | rfl <;> exact congrArg _ (State.pitWrite_of_other_owner hrun hown hother)
  case port =>
    have h : s.MayWriteShadow guy := ⟨hrun, howner⟩
    refine ⟨fun hst => ⟨exec_openShadow h hst, exec_drop h hst⟩, fun hst hc => ?_, exec_verify_of_not_loading h,
      fun r => exec_verify_of_failure h⟩
    rcases hc with rfl | rfl
    · exact exec_openShadow_of_armed h hst
    · exact exec_drop_of_armed h hst
  case data =>
    have h : s.MayWriteShadow guy := ⟨hrun, howner⟩
    subst ho
    exact ⟨exec_shadowDataWrite_of_sealed h, exec_shadowDataWrite h⟩
  case timeout =>
    rintro s ext _ hst hres hwait hlate rfl
    exact exec_peerWaitTimeout hst hres hwait hlate

/-! A FULL activation is armed, disarmed and takes force (R162, R163). -/

/-- A FULL activation is due: the shadow is ARMED, its tick has come, and the device is not in Strike. -/
structure State.FullDue (s : State) : Prop where
  notInStrike : s.inStrike = false
  armed : s.pit.shState = .armed
  tick : s.actTick ≤ s.ftc

section FullActivation

variable {s : State} {guy : Bool} {r : VerRes}

/-- The rule of R162 on an activation's tick: a multiple of 128, at least 1,024 ahead. -/
theorem State.tickPast_eq_false_iff {t : Nat} : s.tickPast t = false ↔ t % 128 = 0 ∧ s.ftc + 1024 ≤ t := by
  simp [State.tickPast]

theorem State.tickPast_iff {t : Nat} : s.tickPast t = true ↔ t % 128 ≠ 0 ∨ t < s.ftc + 1024 := by
  simp [State.tickPast]

/-- ARM is refused of a shadow that is not VERIFIED. -/
theorem exec_arm_of_not_verified (h : s.MayWriteShadow guy) (hst : s.pit.shState ≠ .verified) : exec (.arm guy) s = .next (s.pitCode 0x1A) := by
  change Host.Outcome.next (s.armFull guy) = _
  rw [State.armFull, h.pitWrite, if_pos hst]

/-- ARM of a VERIFIED shadow answers by its tick, then by a pending REMAP (R162). -/
theorem exec_arm (h : s.MayWriteShadow guy) (hst : s.pit.shState = .verified) : exec (.arm guy) s =
    .next (if s.tickPast s.actTick then s.pitCode 0x14 else if s.pit.remap.isSome then s.pitCode 0x15 else (s.setShadow .armed).pitCode 0) := by
  change Host.Outcome.next (s.armFull guy) = _
  rw [State.armFull, h.pitWrite, if_neg (by simp [hst])]

/-- DISARM of an ARMED shadow has its effect more than 128 ticks before the activation, and none later (R162). -/
theorem exec_disarm (h : s.MayWriteShadow guy) (hst : s.pit.shState = .armed) : exec (.disarm guy) s =
    .next (if s.ftc + 128 < s.actTick then (s.setShadow .verified).pitCode 0 else s) := by
  change Host.Outcome.next (s.disarmFull guy) = _
  rw [State.disarmFull, h.pitWrite, if_neg (by simp [hst])]

/-- An activation that lacks a unit or capacity ends with that code (R163). -/
theorem State.FullDue.exec_of_failure (h : s.FullDue) (hr : s.placeCheck s.pit.shadow = some r) :
    exec .fullActivation s = .next (((s.setShadow .verified).noteShort r).pitCode r.code) := by
  change execFullActivation s = _
  rw [execFullActivation, State.live_of_not_inStrike h.notInStrike, if_neg (by simp [h.armed, h.tick])]
  simp only [hr]

/-- An activation whose checks pass takes force unless a stream is open or a completion waits (R163). -/
theorem State.FullDue.exec_of_placed (h : s.FullDue) (hr : s.placeCheck s.pit.shadow = none) : exec .fullActivation s =
    .next (if s.jrn.streams ≠ [] ∨ s.jrn.comps ≠ [] then (s.setShadow .verified).pitCode 0x13 else s.swapImage) := by
  change execFullActivation s = _
  rw [execFullActivation, State.live_of_not_inStrike h.notInStrike, if_neg (by simp [h.armed, h.tick])]
  simp [hr]

end FullActivation

/-- Settles O42: ARM, DISARM and the activation at its tick, each by the answer of its checks. -/
theorem fullActivates : Obligations.FullActivates := by
  refine ⟨fun s guy hrun howner => ?port, fun s hs hst htick => ?atTick⟩
  case port =>
    have h : s.MayWriteShadow guy := ⟨hrun, howner⟩
    refine ⟨exec_arm_of_not_verified h, fun hst hpast => ?_, fun hst hmul hahead hremap => ?_, fun hst hmul hahead hremap => ?_,
      fun hst hearly => ?_, fun hst hlate => ?_⟩
    · rw [exec_arm h hst, if_pos (State.tickPast_iff.2 hpast)]
    · rw [exec_arm h hst, State.tickPast_eq_false_iff.2 ⟨hmul, hahead⟩, if_neg Bool.false_ne_true, if_pos (Option.isSome_iff_ne_none.2 hremap)]
    · rw [exec_arm h hst, State.tickPast_eq_false_iff.2 ⟨hmul, hahead⟩, if_neg Bool.false_ne_true, if_neg (by simp [hremap])]
    · rw [exec_disarm h hst, if_pos hearly]
    · rw [exec_disarm h hst, if_neg (Nat.not_lt.2 hlate)]
  case atTick =>
    have h : s.FullDue := ⟨hs, hst, htick⟩
    refine ⟨fun r => h.exec_of_failure, fun hplace hwait => ?_, fun hplace hstreams hcomps => ?_⟩
    · rw [h.exec_of_placed hplace, if_pos hwait]
    · rw [h.exec_of_placed hplace, if_neg (by simp [hstreams, hcomps])]

/-! REMAP activations (R164), live words (R166, R167) and a peer's query (R161). -/

/-- A REMAP pending for a tick (R164). -/
def State.pendRemap (s : State) (tick n : Nat) : State :=
  State.setFld { s with pit := { s.pit with remap := some (tick, n) } } R.PIT_STAT F.PIT_STAT_REMAP_PEND 1

/-- A REMAP is due: the tick of its delta has come, and the device is not in Strike. -/
structure State.RemapDue (s : State) (tick n : Nat) (d : Delta) : Prop where
  notInStrike : s.inStrike = false
  pending : s.pit.remap = some (tick, n)
  tick : tick ≤ s.ftc
  delta : s.delta? n = some d

/-- The word of the image in force at an offset of a section may be written live (R166). -/
def State.isLiveWord (s : State) (x : Sect) (o : Nat) : Bool := s.img.liveWords.contains (x.type, o) && liveScope x.type o

/-- The check of an image with a live word changed in a section (R167). -/
def Store.badLiveWord (st : Store) (x : Sect) : Option Nat :=
  if x.type = 10 then st.badPolicy x else if x.type = 9 then st.badSeverity x else st.badRole x

/-- One live word, by section, offset and value, put into an image. -/
def Store.putLive (t : Store) (e : Nat × Nat × Nat) : Store :=
  match t.sects[e.1]? with
  | some x => t.write (x.off + e.2.1) (le 4 e.2.2)
  | none => t

/-- A live word held until the slot boundary in place of an earlier one for it (R167). -/
def State.holdLive (s : State) (x : Sect) (o data : Nat) : State :=
  (State.setFld { s with pit := { s.pit with live := (s.pit.live.filter fun e => !(e.1 == x.idx && e.2.1 == o)) ++ [(x.idx, o, data)] } }
    R.PIT_LIVE_PEND F.PIT_LIVE_PEND_PEND 1).pitCode 0

section RemapAndLive

variable {s t : State} {guy : Bool} {delta : Fin 16} {d : Delta} {r : VerRes} {tick n o : Nat} {data : BitVec 32} {x : Sect}
  {src : Entry} {raw : List Byte} {m : Msg}

/-- A REMAP of a delta that the image in force does not have is refused. -/
theorem exec_remapArm_of_no_delta (hrun : s.sec.running ≠ none) (ht : t = s.setFld R.PIT_REMAP F.PIT_REMAP_DELTA delta.val)
    (hd : t.delta? delta.val = none) : exec (.remapArm guy delta) s = .next (t.pitCode 0x1A) := by
  change Host.Outcome.next (s.armRemap delta.val) = _
  rw [State.armRemap, if_neg (by simp [hrun])]
  simp only [← ht, hd]

/-- A REMAP that fits, for a tick far enough ahead, is pending; it cancels a FULL activation (R164). -/
theorem exec_remapArm (hrun : s.sec.running ≠ none) (ht : t = s.setFld R.PIT_REMAP F.PIT_REMAP_DELTA delta.val)
    (hd : t.delta? delta.val = some d) (hfits : t.deltaFits d = true) (hahead : t.tickPast t.remapTick = false) :
    exec (.remapArm guy delta) s = .next (if (t.pendRemap t.remapTick delta.val).pit.shState = .armed
      then ((t.pendRemap t.remapTick delta.val).setShadow .verified).pitCode 0x16 else (t.pendRemap t.remapTick delta.val).pitCode 0) := by
  change Host.Outcome.next (s.armRemap delta.val) = _
  rw [State.armRemap, if_neg (by simp [hrun])]
  simp only [← ht, hd, hfits, hahead, Bool.not_true, Bool.false_eq_true, if_false]
  rfl

/-- A REMAP is disarmed more than 128 ticks before it (R162, R164). -/
theorem exec_remapDisarm {p : Nat × Nat} (hrun : s.sec.running ≠ none) (ht : t = s.setFld R.PIT_REMAP F.PIT_REMAP_DELTA delta.val)
    (hp : t.pit.remap = some p) (hearly : t.ftc + 128 < p.1) : exec (.remapDisarm guy delta) s = .next (t.clearRemap.pitCode 0) := by
  change Host.Outcome.next (s.disarmRemap delta.val) = _
  rw [State.disarmRemap, if_neg (by simp [hrun])]
  simp only [← ht, hp, if_pos hearly]

/-- Without a pending REMAP there is none to disarm. -/
theorem exec_remapDisarm_of_none (hrun : s.sec.running ≠ none) (ht : t = s.setFld R.PIT_REMAP F.PIT_REMAP_DELTA delta.val)
    (hp : t.pit.remap = none) : exec (.remapDisarm guy delta) s = .next (t.pitCode 0x1A) := by
  change Host.Outcome.next (s.disarmRemap delta.val) = _
  rw [State.disarmRemap, if_neg (by simp [hrun])]
  simp only [← ht, hp]

/-- A REMAP whose patched layout has its units and capacity is applied (R164). -/
theorem State.RemapDue.exec_of_placed (h : s.RemapDue tick n d) (hr : s.placeCheck (s.img.applyDelta d) = none) :
    exec .remapActivation s = .next (s.applyRemap d (s.img.applyDelta d) tick) := by
  change execRemapActivation s = _
  simp only [execRemapActivation, State.live_of_not_inStrike h.notInStrike, h.pending, if_neg (Nat.not_lt.2 h.tick), h.delta, hr]

/-- A REMAP whose patched layout lacks a unit or capacity ends with that code and is reported (R164, R383). -/
theorem State.RemapDue.exec_of_failure (h : s.RemapDue tick n d) (hr : s.placeCheck (s.img.applyDelta d) = some r) :
    exec .remapActivation s = .next (((s.clearRemap.noteShort r).pitCode r.code).pulse 29 (le 1 n)) := by
  change execRemapActivation s = _
  simp only [execRemapActivation, State.live_of_not_inStrike h.notInStrike, h.pending, if_neg (Nat.not_lt.2 h.tick), h.delta, hr]

/-- A write of a word that is not live is denied and counted (R166). -/
theorem exec_liveWrite_of_denied (hw : s.cfgWord? = some (x, o)) (hlive : s.isLiveWord x o = false) :
    exec (.liveWrite data) s = .next ((s.pitCode 0x17).bump R.PIT_DENY_CNT) := by
  change Host.Outcome.next (s.liveWrite data.toNat) = _
  rw [State.isLiveWord] at hlive
  simp only [State.liveWrite, hw, hlive, Bool.not_false, if_true]

/-- A write of a live word with an allowed value is held for the slot boundary (R167). -/
theorem exec_liveWrite (hw : s.cfgWord? = some (x, o)) (hlive : s.isLiveWord x o = true)
    (hok : (s.img.write (x.off + o) (le 4 data.toNat)).badLiveWord x = none) : exec (.liveWrite data) s = .next (s.holdLive x o data.toNat) := by
  change Host.Outcome.next (s.liveWrite data.toNat) = _
  rw [State.isLiveWord] at hlive
  rw [Store.badLiveWord] at hok
  simp only [State.liveWrite, hw, hlive, hok, Bool.not_true, Bool.false_eq_true, if_false, Option.isSome_none, State.holdLive]

/-- At the slot boundary, with no activation due, the words held take effect (R167, R324). -/
theorem exec_liveApply (hdue : s.liveDue = true) (hact : s.activationDue = false)
    (ht : t = (s.addFld R.PIT_LIVE_CNT whole s.pit.live.length).setFld R.PIT_LIVE_PEND F.PIT_LIVE_PEND_PEND 0) :
    exec .liveApply s = .next { t with pit := { t.pit with force := s.pit.live.foldl Store.putLive s.pit.force, live := [] } } := by
  change execLiveApply s = _
  rw [execLiveApply, if_pos ⟨hdue, by simp [hact]⟩, ht]
  rfl

/-- A peer's query is answered (R161, R174). -/
theorem exec_pitchQueryMsg (ht : s.Takes src raw 0x2A m) :
    exec (.pitchQueryMsg src raw) s = .next ((s.respond m 0 (s.queryBody m.srcNode m.body)).takeUp m) := by
  change execPitchQueryMsg src raw s = _
  rw [execPitchQueryMsg, ht.receiveReq]

end RemapAndLive

/-- Settles O43: each clause is the rule of its command. -/
theorem remapAndLive : Obligations.RemapAndLive := by
  refine ⟨fun s t guy delta hrun ht => ⟨exec_remapArm_of_no_delta hrun ht, ?arm, fun r => exec_remapDisarm hrun ht, exec_remapDisarm_of_none hrun ht⟩,
    fun s tick n d hs hp htick hd => ?atTick, fun s data x o hw => ⟨exec_liveWrite_of_denied hw, exec_liveWrite hw⟩, ?apply,
    fun s src raw m => exec_pitchQueryMsg⟩
  case arm =>
    rintro d _ hd hfits hahead rfl
    exact exec_remapArm hrun ht hd hfits hahead
  case atTick =>
    have h : s.RemapDue tick n d := ⟨hs, hp, htick, hd⟩
    exact ⟨h.exec_of_placed, fun r => h.exec_of_failure⟩
  case apply =>
    rintro s t _ hdue hact ht rfl
    exact exec_liveApply hdue hact ht

end Sys2Proof.Machine
end

section
/-!
PROOF. Messages through the switch, requests that wait for their responses, and the Ethernet frames of a bridge port: the statements RequestsEnd and
FramesAreTaken.
-/

namespace Sys2Proof.Machine

open Sys2Proof

/-! Messages that reach the switch, and responses (R176, R178, R306). -/

section Passing

variable {s : State} {src : Entry} {raw : List Byte} {m : Msg} {k : Fin 8} {r : Req}

/-- A message goes on through the switch, unless it is a response of a slot's partner (R176). -/
theorem exec_zfpForward (hflow : s.zfpFlows = true) (hm : Msg.parse raw = some m) (hsrc : s.partnerOk src m = true)
    (hreq : ∀ k, src = .slot k → m.resp = false) : exec (.zfpForward src raw) s = .next (s.switchIn src m) := by
  change execZfpForward src raw s = _
  rw [execZfpForward, State.receive_eq hflow hm hsrc]
  cases src with
  | slot k => simp only [hreq k rfl, Bool.false_eq_true, if_false]
  | _ => rfl

/-- A response of a slot's partner ends the access that was handed to it (R306). -/
theorem exec_zfpForward_of_partner_resp (hflow : s.zfpFlows = true) (hm : Msg.parse raw = some m) (hsrc : s.partnerOk (.slot k) m = true)
    (hresp : m.resp = true) : exec (.zfpForward (.slot k) raw) s = .next (s.partnerAnswer k.val m) := by
  change execZfpForward (.slot k) raw s = _
  rw [execZfpForward, State.receive_eq hflow hm hsrc, hresp]
  rfl

/-- A response to this device that an outstanding request expects is taken for it (R178). -/
theorem exec_zfpResponse (hflow : s.zfpFlows = true) (hm : Msg.parse raw = some m) (hsrc : s.partnerOk src m = true) (hresp : m.resp = true)
    (hr : s.req? m.tid = some r) (htype : m.mtype = r.msg.mtype + 1) (hnode : m.dstNode = s.node) :
    exec (.zfpResponse src raw) s = .next ((s.takeResponse r m).takeUp m) := by
  change execZfpResponse src raw s = _
  rw [execZfpResponse, State.receive_eq hflow hm hsrc, if_pos hresp]
  simp only [hr, if_pos (And.intro htype hnode)]

end Passing

/-! The timers of a request (R178, R180, R185). -/

/-- The timer of an outstanding request has expired, and the request waits for no resend of its own (R178). -/
structure State.TimerExpired (s : State) (tid : Nat) (r : Req) : Prop where
  req : s.req? tid = some r
  deadline : r.deadline ≤ s.now
  notInStrike : s.inStrike = false
  noWait : r.wait = .none

/-- An outstanding request was refused with IN_RESET or BUSY, and the time it then waits has passed (R178, R180). -/
structure State.WaitOver (s : State) (tid : Nat) (r : Req) : Prop where
  req : s.req? tid = some r
  waited : r.waitUntil ≤ s.now
  notInStrike : s.inStrike = false

section Timers

variable {s : State} {tid stream hctx : Nat} {r : Req}

/-- An expired timer is not held back by the checks of REQUEST_TIMEOUT. -/
theorem State.TimerExpired.not_held (h : s.TimerExpired tid r) : ¬ (s.now < r.deadline ∨ s.inStrike = true ∨ r.wait ≠ .none) := by
  simp [h.deadline, h.notInStrike, h.noWait]

/-- A completion's timer sends its stream and context again from the oldest (R185). -/
theorem State.TimerExpired.exec_of_completion (h : s.TimerExpired tid r) (hp : r.purpose = .completion stream hctx) :
    exec (.requestTimeout tid) s = .next (s.resendComps stream hctx true) := by
  change execRequestTimeout tid s = _
  simp only [execRequestTimeout, h.req, if_neg h.not_held, hp]

/-- The timer of any other request: it is sent again while resends are left; then a class S request is renewed and another given up (R178). -/
theorem State.TimerExpired.exec_of_not_completion (h : s.TimerExpired tid r) (hp : ∀ a b, r.purpose ≠ .completion a b) :
    exec (.requestTimeout tid) s = .next (if r.resends < s.retries then s.resend r true true
      else if mclass r.msg.mtype = .selfDedup then s.renew r else s.timedOut r) := by
  change execRequestTimeout tid s = _
  simp only [execRequestTimeout, h.req, if_neg h.not_held]
  cases hpurpose : r.purpose with
  | completion a b => exact absurd hpurpose (hp a b)
  | _ => cases mclass r.msg.mtype <;> rfl

/-- A request refused with IN_RESET is sent again below the age of 10,000,000 ticks (R178). -/
theorem State.WaitOver.exec_inResetResend (h : s.WaitOver tid r) (hw : r.wait = .inReset) (hage : s.age r.msg.origTick < 10000000) :
    exec (.inResetResend tid) s = .next (s.resend r false false) := by
  change execInResetResend tid s = _
  simp only [execInResetResend, h.req]
  rw [if_pos ⟨hw, h.waited, by simp [h.notInStrike]⟩, if_pos hage]

/-- A request refused with BUSY is sent again up to the age limit (R179, R180). -/
theorem State.WaitOver.exec_busyResend (h : s.WaitOver tid r) (hw : r.wait = .busy) (hage : s.age r.msg.origTick ≤ 12000000) :
    exec (.busyResend tid) s = .next (s.resend r false false) := by
  change execBusyResend tid s = _
  simp only [execBusyResend, h.req]
  rw [if_pos ⟨hw, h.waited, by simp [h.notInStrike]⟩, if_pos hage]

end Timers

/-- Settles O12: each clause is the rule of its command; the three of REQUEST_TIMEOUT are the outcomes of the request's resends and class. -/
theorem requestsEnd : Obligations.RequestsEnd := by
  refine ⟨fun s src raw m hflow hm hsrc => ⟨exec_zfpForward hflow hm hsrc, ?partner⟩, fun s src raw m r => exec_zfpResponse,
    fun s tid r hr hd hs hw => ?timeout, fun s tid r hr hu hs => ?resend, fun s node die tid => rfl⟩
  case partner =>
    rintro k rfl
    exact exec_zfpForward_of_partner_resp hflow hm hsrc
  case timeout =>
    have h : s.TimerExpired tid r := ⟨hr, hd, hs, hw⟩
    refine ⟨fun a b => h.exec_of_completion, fun hp => ?_⟩
    rw [h.exec_of_not_completion hp]
    refine ⟨fun hleft => ?_, fun hnone hS => ?_, fun hnone hS => ?_⟩
    · rw [if_pos hleft]
    · rw [if_neg (Nat.not_lt.2 hnone), if_pos hS]
    · rw [if_neg (Nat.not_lt.2 hnone), if_neg hS]
  case resend =>
    have h : s.WaitOver tid r := ⟨hr, hu, hs⟩
    exact ⟨h.exec_inResetResend, h.exec_busyResend⟩

/-! The Ethernet frames of a bridge port (R193, R446). -/

/-- The bytes of a whole IPv6 frame at a port's Ethernet link that is up (R192, R193). -/
structure State.Ip6FrameAt (s : State) (p : Fin 32) (i : Nat) (bytes : List Byte) (f : Frame) : Prop where
  up : s.ethUp p.val i = true
  parsed : Frame.parse bytes = f
  whole : f.whole = true
  etype : f.etype = 0x86DD
  ver : f.ver = 6

section Frames

variable {s : State} {p : Fin 32} {inst : Fin 2} {i : Nat} {bytes : List Byte} {f : Frame} {c : Instr} {e : Nat × Nat}

/-- The three commands of a frame share its reception; which of them brings it makes no difference. -/
theorem exec_frame (hs : s.inStrike = false)
    (hc : c = .ethFrame p inst bytes ∨ c = .neighborSolicitation p inst bytes ∨ c = .echoRequest p inst bytes) :
    exec c s = .next (s.frameIn p inst.val bytes) := by
  have hlive : (.next (s.live fun t => t.frameIn p inst.val bytes) : Host.Outcome State Fault Refusal) = .next (s.frameIn p inst.val bytes) :=
    congrArg _ (State.live_of_not_inStrike hs)
  obtain rfl | rfl | rfl := hc <;> exact hlive

/-- A frame that is not whole, or not IPv6, is dropped and counted. -/
theorem State.frameIn_of_not_ip6 (hup : s.ethUp p.val i = true)
    (hbad : (Frame.parse bytes).whole = false ∨ (Frame.parse bytes).etype ≠ 0x86DD ∨ (Frame.parse bytes).ver ≠ 6) :
    s.frameIn p i bytes = s.ethDrop := by
  rw [← Bool.not_eq_true'] at hbad
  simp only [State.frameIn, if_pos hup, if_pos hbad]

/-- A whole IPv6 frame passes the checks of its layout. -/
theorem State.Ip6FrameAt.not_bad (h : s.Ip6FrameAt p i bytes f) : ¬ ((!f.whole) = true ∨ f.etype ≠ 0x86DD ∨ f.ver ≠ 6) := by
  simp [h.whole, h.etype, h.ver]

/-- A solicitation of this port's address is answered by an advertisement. -/
theorem State.Ip6FrameAt.frameIn_of_solicitation (h : s.Ip6FrameAt p i bytes f) (hsol : s.isSolicitation p.val f = true) :
    s.frameIn p i bytes = s.advertise p.val i f := by
  simp only [State.frameIn, h.parsed, if_pos h.up, if_neg h.not_bad, if_pos hsol]

/-- An echo request is answered by its reply. -/
theorem State.Ip6FrameAt.frameIn_of_echo (h : s.Ip6FrameAt p i bytes f) (hsol : s.isSolicitation p.val f = false)
    (hecho : s.isEcho p.val f = true) : s.frameIn p i bytes = s.echo p.val i f := by
  simp only [State.frameIn, h.parsed, if_pos h.up, if_neg h.not_bad, hsol, Bool.false_eq_true, if_false, if_pos hecho]

/-- An advertisement resolves its neighbour. -/
theorem State.Ip6FrameAt.frameIn_of_advertised (h : s.Ip6FrameAt p i bytes f) (hsol : s.isSolicitation p.val f = false)
    (hecho : s.isEcho p.val f = false) (hadv : s.advertised? p.val f = some e) : s.frameIn p i bytes = s.resolved p.val i e.1 e.2 := by
  simp only [State.frameIn, h.parsed, if_pos h.up, if_neg h.not_bad, hsol, hecho, Bool.false_eq_true, if_false, hadv]

/-- Any other frame goes to the host's datagrams. -/
theorem State.Ip6FrameAt.frameIn_of_other (h : s.Ip6FrameAt p i bytes f) (hsol : s.isSolicitation p.val f = false)
    (hecho : s.isEcho p.val f = false) (hadv : s.advertised? p.val f = none) : s.frameIn p i bytes = s.udpFrame p f := by
  simp only [State.frameIn, h.parsed, if_pos h.up, if_neg h.not_bad, hsol, hecho, Bool.false_eq_true, if_false, hadv]

/-- One PCS of a bridge port gains or loses lock; the port's other one goes on (R446). -/
theorem exec_ethernetPcsLock {up : Bool} (hs : s.inStrike = false) (hact : s.active = true) (hbridge : s.img.bridge = true)
    (huse : s.img.portUse p.val = 3) : exec (.ethernetPcsLock p inst up) s =
      .next (s.modPort p.val fun q => { q with pcs := if up then (q.pcs ++ [inst.val]).eraseDups else q.pcs.filter (· != inst.val) }) := by
  change execEthernetPcsLock p inst up s = _
  rw [execEthernetPcsLock, State.live_of_not_inStrike hs, if_pos ⟨hact, hbridge, huse⟩]

end Frames

/-- Settles O34: the three commands of a frame share its reception, which follows what the frame is; the PCS has the rule of its command. -/
theorem framesAreTaken : Obligations.FramesAreTaken := by
  refine ⟨fun s p inst frame c hs hup hc => ?_,
    fun s p inst hs hact hbridge huse => ⟨exec_ethernetPcsLock hs hact hbridge huse, exec_ethernetPcsLock hs hact hbridge huse⟩⟩
  rw [exec_frame hs hc]
  refine ⟨fun hbad => congrArg _ (State.frameIn_of_not_ip6 hup hbad), fun hwhole hetype hver => ?_⟩
  have h : s.Ip6FrameAt p inst.val frame (Frame.parse frame) := ⟨hup, rfl, hwhole, hetype, hver⟩
  exact ⟨fun hsol => congrArg _ (h.frameIn_of_solicitation hsol), fun hsol hecho => congrArg _ (h.frameIn_of_echo hsol hecho),
    fun hsol hecho => ⟨fun e hadv => congrArg _ (h.frameIn_of_advertised hsol hecho hadv),
      fun hadv => congrArg _ (h.frameIn_of_other hsol hecho hadv)⟩⟩

end Sys2Proof.Machine
end

section
/-!
PROOF. The flits, markers and replays of a port's link: the statement FlitsAndReplay.
-/

namespace Sys2Proof.Machine

open Sys2Proof

section PortFlits

variable {s : State} {p : Fin 40}

/-- The three commands of a flit share its reception: its header says what it carries (R205, R211). -/
theorem exec_portFlit {c : Instr} {f : LineFlit} (hs : s.inStrike = false) (hc : c = .dataFlit p f ∨ c = .ctrlFlit p f ∨ c = .idleFlit p f) :
    exec c s = .next (s.flitArrives p.val f.split f.bytes) := by
  have hlive : (.next (s.live fun t => t.flitArrives p.val f.split f.bytes) : Host.Outcome State Fault Refusal) =
      .next (s.flitArrives p.val f.split f.bytes) := congrArg _ (State.live_of_not_inStrike hs)
  obtain rfl | rfl | rfl := hc <;> exact hlive

/-- An ACTIVE port may send markers: a window of it runs, it has lanes, it is not held for its resumption, and no move of a lane is due. -/
structure State.MarkersFree (s : State) (p : Nat) : Prop where
  active : s.lnk p = 5
  window : s.inWindowNow p = true
  lanes : s.txW p ≠ 0
  resumed : (s.port p).resume ≠ 2
  noMove : (s.port p).marks.find? (fun m => decide (m.1 ≤ s.ftc)) = none

/-- With no move due, markers go out at their interval (R202). -/
theorem State.MarkersFree.exec_markerInterval (h : s.MarkersFree p.val) (hs : s.inStrike = false) (hd : s.markDue p.val = true) :
    exec (.markerInterval p) s = .next (s.sendMarkers p.val 0 (s.txW p.val) (s.litLanes p.val)) := by
  have hfree : ¬ ((!s.inWindowNow p.val) = true ∨ s.txW p.val = 0 ∨ (s.port p.val).resume = 2) := by
    simp [h.window, h.lanes, h.resumed]
  change execMarkerInterval p s = _
  simp only [execMarkerInterval, State.live_of_not_inStrike hs, if_pos h.active, if_neg hfree, h.noMove, if_pos hd]

/-- A port hears the markers of its lines: it trains or is ACTIVE, its light is not given up, and it listens. -/
structure State.HearsMarkers (s : State) (p : Nat) : Prop where
  notInStrike : s.inStrike = false
  trains : 2 ≤ s.lnk p
  runs : s.lnk p ≤ 5
  lit : s.portDark p = false
  hears : s.hears p = true

/-- On a line that is not inverted, a marker is taken as it is; the inverted synchronisation word marks the line inverted (R204). -/
theorem State.HearsMarkers.exec_markerReceive {line : Fin 20} {marker : List Byte} {ringOn : Bool} (h : s.HearsMarkers p.val)
    (hinv : (s.port p.val).inverted.contains line.val = false) : exec (.markerReceive p line marker ringOn) s =
      .next (if marker.take 4 = markSyncInv
        then (s.modPort p.val fun q => { q with inverted := (s.port p.val).inverted ++ [line.val] }).markerOn p.val line.val (flipMsb marker) ringOn
        else s.markerOn p.val line.val marker ringOn) := by
  have hheard : ¬ (s.lnk p.val < 2 ∨ 5 < s.lnk p.val ∨ s.portDark p.val = true ∨ (!s.hears p.val) = true) := by
    simp [Nat.not_lt.2 h.trains, h.runs, h.lit, h.hears]
  change execMarkerReceive p line marker ringOn s = _
  simp only [execMarkerReceive, State.live_of_not_inStrike h.notInStrike, if_neg hheard, hinv, Bool.false_eq_true, if_false]

/-- A negative acknowledgement that is still unanswered 500 ns after a round trip is due again (R212). -/
theorem exec_nakResendTimeout {cbc : Bool} {x : RxSide} {t : Nat} (hs : s.inStrike = false) (hact : s.isActive p.val = true)
    (hx : x = if cbc then (s.port p.val).rxCtrl else (s.port p.val).rxData) (ht : x.nakAt = some t)
    (hlate : t + s.rtt p.val + 500 ≤ s.linkNow p.val) : exec (.nakResendTimeout p cbc) s = .next (s.setPort p.val
      (if cbc then { (s.port p.val) with rxCtrl := { x with nakDue := true } } else { (s.port p.val) with rxData := { x with nakDue := true } })) := by
  change execNakResendTimeout p cbc s = _
  simp only [execNakResendTimeout, State.live_of_not_inStrike hs, ← hx]
  rw [if_pos ⟨hact, by simp [ht, hlate]⟩]

/-- The stream `x` of a port (its control stream or its data stream) has stood still: it holds flits that the far end has not
acknowledged for 1 µs past a round trip, and going back to the oldest is open to it (R213). -/
structure State.StreamStalled (s : State) (p : Nat) (cbc : Bool) (x : TxSide) : Prop where
  notInStrike : s.inStrike = false
  active : s.isActive p = true
  stream : x = if cbc then (s.port p).ctrl else (s.port p).data
  holds : x.held ≠ []
  late : x.advAt + s.rtt p + 1000 ≤ s.linkNow p
  back : x.nak x.oldest (if cbc then 256 else 65536) (s.rtt p) (s.linkNow p) = .back

/-- A stalled stream is sent again from its oldest flit; the fifth stall retrains the link instead. -/
theorem State.StreamStalled.exec_ackStallReplay {cbc : Bool} {x : TxSide} (h : s.StreamStalled p.val cbc x) :
    exec (.ackStallReplay p cbc) s = .next (if 4 ≤ x.stalls then s.retrain p.val 3 else s.setPort p.val (
      if cbc then { (s.port p.val) with ctrl := { x with stalls := x.stalls + 1, advAt := s.linkNow p.val, replay := x.held.head?.map (·.seq) } }
      else { (s.port p.val) with data := { x with stalls := x.stalls + 1, advAt := s.linkNow p.val, replay := x.held.head?.map (·.seq) } })) := by
  change execAckStallReplay p cbc s = _
  simp only [execAckStallReplay, State.live_of_not_inStrike h.notInStrike, ← h.stream]
  rw [if_pos ⟨h.active, by simp [h.holds], h.late, h.back⟩]

end PortFlits

/-- Settles O14: each clause is the rule of its command, a marker's by its synchronisation word and a stall's by its count. -/
theorem flitsAndReplay : Obligations.FlitsAndReplay := by
  refine ⟨fun s p split flit hs => ?flit,
    fun s p hs hact hwin hw hres hmove hdue => State.MarkersFree.exec_markerInterval ⟨hact, hwin, hw, hres, hmove⟩ hs hdue,
    fun s p line marker ringOn hs htrains hruns hlit hhears hinv => ?marker,
    fun s p t hs hact hlate => ⟨fun ht => exec_nakResendTimeout hs hact rfl ht hlate, fun ht => exec_nakResendTimeout hs hact rfl ht hlate⟩,
    fun s p cbc x hs hact hx hheld hlate hback => ?stall⟩
  case flit =>
    have hflit (c : Instr) := exec_portFlit (c := c) (p := p) (f := ⟨split, flit⟩) hs
    exact ⟨hflit _ (.inl rfl), hflit _ (.inr (.inl rfl)), hflit _ (.inr (.inr rfl))⟩
  case marker =>
    rw [State.HearsMarkers.exec_markerReceive ⟨hs, htrains, hruns, hlit, hhears⟩ hinv]
    exact ⟨fun hsync => by rw [if_neg hsync], fun hsync => by rw [if_pos hsync]⟩
  case stall =>
    rw [State.StreamStalled.exec_ackStallReplay ⟨hs, hact, hx, hheld, hlate, hback⟩]
    exact ⟨fun hfifth => by rw [if_pos hfifth], fun hless => by rw [if_neg (Nat.not_le.2 hless)]⟩

end Sys2Proof.Machine
end

section
/-!
PROOF. The control messages of an ACTIVE port: the statement LinkMessagesTaken.
-/

namespace Sys2Proof.Machine

open Sys2Proof

/-- The state `s` takes the control message `m` of type `c` at its ACTIVE port `p`, and `t` is `s` with the message gone from the
receiver (R219, R221). -/
structure State.TakesCbc (s t : State) (p c : Nat) (m : List Byte) : Prop where
  notInStrike : s.inStrike = false
  active : s.isActive p = true
  ctype : leAt m 0 1 = c
  layout : cbcLen c = some (leAt m 1 1)
  whole : m.length = leAt m 1 1
  reserved : leAt m 2 2 = 0
  taken : t = s.modPort p fun q => { q with cbcIn := q.cbcIn.erase m }

section ControlMessages

variable {s t : State} {p c : Nat} {m : List Byte} {k : State → State}

/-- A well-formed message has the effect of its type once it has left the receiver. -/
theorem State.TakesCbc.cbcRow (h : s.TakesCbc t p c m) : s.cbcRow p c m k = k t := by
  simp only [State.cbcRow, State.live_of_not_inStrike h.notInStrike, h.active, Bool.not_true, Bool.false_eq_true, if_false]
  rw [if_pos ⟨h.ctype, h.layout, h.whole, h.reserved⟩, h.taken]

/-- A message whose length is not the one it names is counted and dropped. -/
theorem State.cbcRow_of_wrong_length (hs : s.inStrike = false) (hact : s.isActive p = true) (hlen : m.length ≠ leAt m 1 1) :
    s.cbcRow p c m k = s.bump (R.LNK_CBC_DROP_CNT p) := by
  simp only [State.cbcRow, State.live_of_not_inStrike hs, hact, Bool.not_true, Bool.false_eq_true, if_false]
  rw [if_neg fun hform => hlen hform.2.2.1]

end ControlMessages

/-- Settles O15: each message is a row of the control channel with its type and its effect. -/
theorem linkMessagesTaken : Obligations.LinkMessagesTaken := by
  refine ⟨fun s t p msg c i u hs hact hc hlen hwhole hres ht hi => ?typed, fun s t p msg hs hact hc hlen hwhole hres ht => ?info,
    fun s p msg i hs hact hlen hi => ?dropped⟩
  case typed =>
    have h : s.TakesCbc t p.val c msg := ⟨hs, hact, hc, hlen, hwhole, hres, ht⟩
    rcases hi with ⟨rfl, rfl, hver, rfl⟩ | ⟨rfl, rfl, rfl⟩ | ⟨rfl, rfl, rfl⟩ | ⟨rfl, rfl, rfl⟩ | ⟨rfl, rfl, rfl⟩ | ⟨rfl, rfl, rfl⟩ |
      ⟨rfl, rfl, hrate, rfl⟩ | ⟨rfl, rfl, rfl⟩ | ⟨rfl, rfl, hquiet, rfl⟩ | ⟨rfl, rfl, huse, hp, hen, rfl⟩ | ⟨rfl, rfl, rfl⟩
    · exact congrArg Host.Outcome.next (h.cbcRow.trans (if_neg hver))
    · exact congrArg Host.Outcome.next h.cbcRow
    · exact congrArg Host.Outcome.next h.cbcRow
    · exact congrArg Host.Outcome.next h.cbcRow
    · exact congrArg Host.Outcome.next h.cbcRow
    · exact congrArg Host.Outcome.next h.cbcRow
    · exact congrArg Host.Outcome.next (h.cbcRow.trans (if_neg hrate))
    · exact congrArg Host.Outcome.next h.cbcRow
    · exact congrArg Host.Outcome.next (h.cbcRow.trans (if_pos hquiet))
    · exact congrArg Host.Outcome.next (h.cbcRow.trans (if_pos ⟨huse, hp, hen⟩))
    · exact congrArg Host.Outcome.next h.cbcRow
  case info =>
    rw [ht]
    exact congrArg Host.Outcome.next (State.TakesCbc.cbcRow ⟨hs, hact, hc, hlen, hwhole, hres, rfl⟩)
  case dropped =>
    rcases hi with rfl | rfl | rfl | rfl | rfl | rfl | rfl | rfl | rfl | rfl | rfl | rfl <;>
      exact congrArg Host.Outcome.next (State.cbcRow_of_wrong_length hs hact hlen)

end Sys2Proof.Machine
end

section
/-!
PROOF. The Stuff sack, the credit audit, resent lane failures and IDLE: the statement PortHousekeeping.
-/

namespace Sys2Proof.Machine

open Sys2Proof

section Housekeeping

variable {s : State}

/-- The first port that waits for its Bell's spill channel has it once none of the Bell's ports spills (R214, R215). -/
theorem exec_spillGrant {p : Fin 32} (hs : s.inStrike = false)
    (hfirst : s.spillq.find? (fun q => s.img.stuffBell q == s.img.stuffBell p.val) = some p.val)
    (hfree : (List.range 32).any (fun q => s.img.stuffBell q == s.img.stuffBell p.val && s.fld (R.LNK_STAT q) F.LNK_STAT_SPILL == 1) = false)
    (hlive : s.bellLive (s.img.stuffBell p.val) = true) : exec (.spillGrant p) s =
      .next ((State.setFld { s with spillq := s.spillq.filter (· != p.val) } (R.LNK_STAT p.val) F.LNK_STAT_SPILL_WAIT 0).setFld
        (R.LNK_STAT p.val) F.LNK_STAT_SPILL 1) := by
  change execSpillGrant p s = _
  simp only [execSpillGrant, State.live_of_not_inStrike hs]
  rw [if_pos ⟨hfirst, by simp only [hfree, Bool.not_false], hlive⟩]

/-- A port with nothing left in the sack stops spilling once its window has been low for 100 µs (R215). -/
theorem exec_spillRelease {p : Fin 32} {t : Nat} (hs : s.inStrike = false) (hspill : s.fld (R.LNK_STAT p.val) F.LNK_STAT_SPILL = 1)
    (hempty : (s.port p.val).spilled = 0) (hlow : (s.port p.val).lowAt = some t) (hlate : 100000 + t ≤ s.now) :
    exec (.spillRelease p) s = .next (s.setFld (R.LNK_STAT p.val) F.LNK_STAT_SPILL 0) := by
  change execSpillRelease p s = _
  simp only [execSpillRelease, State.live_of_not_inStrike hs]
  rw [if_pos ⟨hspill, hempty, by simp [hlow, hlate]⟩]

/-- The credit audit that is due goes out on an ACTIVE port that does not run version 1 (R224). -/
theorem exec_creditAudit {p : Fin 40} (hs : s.inStrike = false) (hdue : s.auditDue p.val = true) (hact : s.isActive p.val = true)
    (hver : s.fld (R.LNK_STAT p.val) F.LNK_STAT_VER ≠ 1) : exec (.creditAudit p) s =
      .next ((s.modPort p.val fun q => { q with audited := some s.auditTick }).sendCbc p.val (s.auditMsg p.val)) := by
  change execCreditAudit p s = _
  simp only [execCreditAudit, State.live_of_not_inStrike hs]
  rw [if_pos ⟨hdue, hact, hver⟩]

/-- A lane failure that the far end has not answered 1 µs past a round trip is sent again; after the third sending the link is
retrained (R227). -/
theorem exec_laneFailResend {p : Fin 40} {line : Fin 20} {f : LaneFail} (hs : s.inStrike = false)
    (hf : (s.port p.val).fails.find? (fun f => f.line == line.val) = some f) (hact : s.isActive p.val = true)
    (hlate : f.sentAt + s.rtt p.val + 1000 ≤ s.linkNow p.val) : exec (.laneFailResend p line) s =
      .next (if 3 ≤ f.sends then s.retrain p.val 4
        else (s.modPort p.val fun q => { q with fails := q.fails.map fun g =>
          if g = f then { g with sends := g.sends + 1, sentAt := s.linkNow p.val } else g }).sendCbc p.val (laneFailMsg f.lane f.cause f.line)) := by
  change execLaneFailResend p line s = _
  simp only [execLaneFailResend, State.live_of_not_inStrike hs, hf]
  rw [if_pos ⟨hact, hlate⟩]

/-- A quiet port asks for IDLE (R236). -/
theorem exec_idleQuietTimeout {p : Fin 32} (hs : s.inStrike = false) (hquiet : s.quiet p.val = true) :
    exec (.idleQuietTimeout p) s = .next (s.sendCbc p.val (cbc4 0x0B)) := by
  change execIdleQuietTimeout p s = _
  simp only [execIdleQuietTimeout, State.live_of_not_inStrike hs, if_pos hquiet]

/-- A burst, or a control message to send, wakes a port that is IDLE (R236). -/
theorem exec_idleExit {p : Fin 32} {burst : Bool} (hs : s.inStrike = false) (hidle : s.lnk p.val = 6)
    (hwake : burst = true ∨ (s.port p.val).cbcq ≠ []) : exec (.idleExit p burst) s =
      .next (((s.emit (.burst p.val)).setLnk p.val 5).modPort p.val fun q => { q with quietAt := s.now, chunks := [], scr := [], rxCount := 0 }) := by
  have hends : burst = true ∨ (!(s.port p.val).cbcq.isEmpty) = true ∨
      (s.port p.val).vcs.any (fun v => !v.part.isEmpty || !v.queue.isEmpty) = true :=
    hwake.imp_right fun hq => .inl (by simp [hq])
  change execIdleExit p burst s = _
  simp only [execIdleExit, State.live_of_not_inStrike hs]
  rw [if_pos ⟨hidle, hends⟩]

end Housekeeping

/-- Settles O16: each clause is the rule of its command. -/
theorem portHousekeeping : Obligations.PortHousekeeping :=
  ⟨fun _ _ => exec_spillGrant, fun _ _ _ => exec_spillRelease, fun _ _ => exec_creditAudit, fun _ _ _ _ => exec_laneFailResend,
    fun _ _ => exec_idleQuietTimeout, fun _ _ _ => exec_idleExit⟩

end Sys2Proof.Machine
end

section
/-!
PROOF. The training of a port, from OFF to PARAM, with its time-outs and its register commands: the statement TrainingAdvances.
-/

namespace Sys2Proof.Machine

open Sys2Proof

section Training

variable {s : State}

/-- A port that may train leaves OFF (R198, R234). -/
theorem exec_linkEnable {p : Fin 40} (hs : s.inStrike = false) (hoff : s.lnk p.val = 0) (hmay : s.mayTrain p.val = true) (hp : p.val < 32) :
    exec (.linkEnable p) s = .next (s.restartLink p.val) := by
  change execLinkEnable p s = _
  simp only [execLinkEnable, State.live_of_not_inStrike hs]
  rw [if_pos ⟨hoff, hmay, .inl hp⟩]

/-- Enough lines have locked: the port goes on to align those, and the others are out of service (R234). -/
theorem exec_clockLock {p : Fin 40} {lines ok : List Nat} (hs : s.inStrike = false) (hlock : s.lnk p.val = 2)
    (hok : ok = (s.lines p.val).filter fun k => lines.contains k) (henough : (if s.compat p.val then 4 else 8) ≤ ok.length) :
    exec (.clockLock p lines) s = .next ((s.modPort p.val fun q => { q with
      rxOos := (s.lines p.val).filter (fun k => !ok.contains k), far := none, rttSum := 0, rttN := 0 }).enter p.val 3) := by
  change execClockLock p lines s = _
  simp only [execClockLock, State.live_of_not_inStrike hs, ← hok]
  rw [if_pos ⟨hlock, henough⟩]

/-- The alignment ends in PARAM, or fails the attempt where the lanes are more than 64 UI apart (R204, R234). -/
theorem exec_alignDone {p : Fin 40} {lanes : List (Nat × Nat)} {skew : Nat} (hs : s.inStrike = false) (halign : s.lnk p.val = 3) :
    exec (.alignDone p lanes skew) s = .next (if 64 < skew then s.trainFail p.val 0xB
      else (((s.modPort p.val fun q => { q with rxMap := lanes }).setFld (R.LNK_STAT p.val) F.LNK_STAT_LANE_REV
        (b2n (reversed (lanes.filter fun x => decide (x.1 < 16))))).enter p.val 4).sendParam p.val) := by
  change execAlignDone p lanes skew s = _
  simp only [execAlignDone, State.live_of_not_inStrike hs, halign, ne_eq, not_true_eq_false, if_false]

/-- A training step that has outlasted its limit (10 µs for the alignment, 100 µs for the others) fails the attempt (R234). -/
theorem exec_trainingTimeout {p : Fin 40} (hs : s.inStrike = false) (hfrom : 2 ≤ s.lnk p.val) (hto : s.lnk p.val ≤ 4)
    (hlate : (s.port p.val).since + (if s.lnk p.val = 3 then 10000 else 100000) ≤ s.linkNow p.val) :
    exec (.trainingTimeout p) s = .next (s.trainFail p.val 0xD) := by
  change execTrainingTimeout p s = _
  simp only [execTrainingTimeout, State.live_of_not_inStrike hs]
  rw [if_pos ⟨hfrom, hto, hlate⟩]

/-- A port held in DETECT after eight failures may try again after 1 ms (R234). -/
theorem exec_trainingRetry {p : Fin 40} (hs : s.inStrike = false) (hdetect : s.lnk p.val = 1)
    (hheld : 8 ≤ s.fld (R.LNK_TRAIN_FAIL p.val) F.LNK_TRAIN_FAIL_CONSEC) (hlate : 1000000 + (s.port p.val).since ≤ s.linkNow p.val) :
    exec (.trainingRetry p) s = .next (s.modPort p.val fun q => { q with retryOk := true, since := s.linkNow p.val }) := by
  change execTrainingRetry p s = _
  simp only [execTrainingRetry, State.live_of_not_inStrike hs]
  rw [if_pos ⟨hdetect, hheld, hlate⟩]

/-- A port that is not ACTIVE 50 µs after its retraining began is down (R239). -/
theorem exec_retrainPortDown {p : Fin 32} {t : Nat} (hs : s.inStrike = false) (hact : s.isActive p.val = false)
    (hsince : (s.port p.val).retrainAt = some t) (hlate : 50000 + t ≤ s.now) : exec (.retrainPortDown p) s = .next (s.portDown p.val) := by
  change execRetrainPortDown p s = _
  simp only [execRetrainPortDown, State.live_of_not_inStrike hs]
  rw [if_pos ⟨by simp [hact], by simp [hsince, hlate]⟩]

/-- The three register commands of a port's link (R235, R239, R241). -/
theorem exec_linkCommands {p : Fin 32} (hs : s.inStrike = false) : exec (.retrain p) s = .next (s.retrain p.val 6) ∧
    exec (.restart p) s = .next (s.restartHeld p.val) ∧ exec (.linkReset p) s = .next (s.commandReset p.val) :=
  ⟨congrArg Host.Outcome.next (State.live_of_not_inStrike hs), congrArg Host.Outcome.next (State.live_of_not_inStrike hs),
    congrArg Host.Outcome.next (State.live_of_not_inStrike hs)⟩

end Training

/-- Settles O17: each clause is the rule of its command; the two of ALIGN_DONE are the outcomes of the skew. -/
theorem trainingAdvances : Obligations.TrainingAdvances := by
  refine ⟨fun s p => exec_linkEnable, fun s p lines hs hlock => exec_clockLock hs hlock rfl, fun s p lanes skew hs halign => ?align,
    fun s p => exec_trainingTimeout, fun s p => exec_trainingRetry, fun s p t => exec_retrainPortDown, fun s p => exec_linkCommands⟩
  rw [exec_alignDone hs halign]
  exact ⟨fun hskewed => by rw [if_pos hskewed], fun haligned => by rw [if_neg (Nat.not_lt.2 haligned)]⟩

end Sys2Proof.Machine
end

section
/-!
PROOF. Light, lane failures and PARAM: the statement LightAndParameters.
-/

namespace Sys2Proof.Machine

open Sys2Proof

/-! The lines that see light (R234). -/

/-- The lines of `lit` that a port has, in ascending order. -/
def litLines (lit : List Nat) : List Nat := (List.range 19).filter fun k => decide (1 ≤ k) && lit.contains k

/-- The time since which the lines of port `p` that see light have been those of `l`. -/
def State.litSince (s : State) (p : Nat) (l : List Nat) : Nat := if l = (s.port p).lit then (s.port p).litAt else s.linkNow p

/-- The state once port `p` has taken up that the lines `l` see light. -/
def State.takeLight (s : State) (p : Nat) (l : List Nat) : State := s.setPort p { (s.port p) with lit := l, litAt := s.litSince p l }

/-- Enough of the lines `l` see light to start the clock lock: all that the port asks for, or half of them for 50 µs. -/
def State.EnoughLight (s : State) (p : Nat) (l : List Nat) : Prop :=
  (if s.compat p then 8 else 16) ≤ l.length ∨ (if s.compat p then 8 else 16) / 2 ≤ l.length ∧ 50000 + s.litSince p l ≤ s.linkNow p

/-- A port in DETECT may try: its failures do not hold it, it may train, and its Canopy is not dark. -/
structure State.MayTry (s : State) (p : Nat) : Prop where
  detect : s.lnk p = 1
  notHeld : s.fld (R.LNK_TRAIN_FAIL p) F.LNK_TRAIN_FAIL_CONSEC < 8 ∨ (s.port p).retryOk = true
  mayTrain : s.mayTrain p = true
  notDark : s.fld (R.OPT_STAT (basePort p / 4)) F.OPT_STAT_DARK = 0

section Light

variable {s : State} {p : Fin 40} {lit : List Nat}

/-- Outside DETECT the light is only taken up. -/
theorem exec_lightDetect_of_not_detect (hs : s.inStrike = false) (hst : s.lnk p.val ≠ 1) :
    exec (.lightDetect p lit) s = .next (s.takeLight p.val (litLines lit)) := by
  change execLightDetect p lit s = _
  simp only [execLightDetect, State.live_of_not_inStrike hs]
  rw [if_neg fun h => hst h.1]
  rfl

/-- On a port that may try, enough light starts the clock lock. -/
theorem State.MayTry.exec_lightDetect (h : s.MayTry p.val) (hs : s.inStrike = false) (hlight : s.EnoughLight p.val (litLines lit)) :
    exec (.lightDetect p lit) s = .next ((s.takeLight p.val (litLines lit)).enter p.val 2) := by
  have hfree : (decide (s.fld (R.LNK_TRAIN_FAIL p.val) F.LNK_TRAIN_FAIL_CONSEC < 8) || (s.port p.val).retryOk) = true := by
    simpa using h.notHeld
  change execLightDetect p lit s = _
  simp only [execLightDetect, State.live_of_not_inStrike hs]
  rw [if_pos ⟨h.detect, hfree, h.mayTrain, h.notDark, hlight⟩]
  rfl

end Light

/-! Failures of a lane (R227, R232). -/

section LaneFailures

variable {s : State} {p : Fin 40} {line : Fin 20} {ringOn : Bool}

/-- A failure that is no foreign light takes its line out (R227). -/
theorem exec_laneFailureDetect {cause : Fin 5} (hs : s.inStrike = false) (hc : cause.val ≠ 4) :
    exec (.laneFailureDetect p line cause ringOn) s = .next (s.failLine p.val line.val cause.val) := by
  change execLaneFailureDetect p line cause ringOn s = _
  simp only [execLaneFailureDetect, State.live_of_not_inStrike hs, if_neg hc]

/-- Foreign light on a line is a wrong lock (R232). -/
theorem exec_laneFailureDetect_of_foreign (hs : s.inStrike = false) :
    exec (.laneFailureDetect p line 4 ringOn) s = .next (s.foreignLane p.val line.val ringOn) :=
  congrArg Host.Outcome.next (State.live_of_not_inStrike hs)

/-- On an ACTIVE port the failure of a line that carries a lane takes the line out of service, is reported to the far end and recorded. -/
theorem State.failLine_of_in_service {p line cause lane : Nat} (hact : s.isActive p = true) (hserv : (s.port p).rxOos.contains line = false)
    (hlane : (s.port p).rxMap.find? (fun x => x.2 == line) = some (lane, line)) : s.failLine p line cause =
      ((((s.setPort p { (s.port p) with rxOos := (s.port p).rxOos ++ [line], rxMap := (s.port p).rxMap.filter (fun x => x.2 != line) }).modPort p
        fun q => { q with fails := q.fails ++ [⟨line, lane, cause, s.linkNow p, 1⟩],
                          rxLost := q.rxLost.filter (fun x => x.2 != line) ++ [(lane, line)] }).sendCbc p
          (cbc8 4 (le 1 lane ++ le 1 cause ++ le 1 line))).portFault p 0 (le 1 line ++ le 1 cause)) := by
  have hin : ¬ ((!s.isActive p) = true ∨ (s.port p).rxOos.contains line = true) := by
    simp only [hact, hserv, Bool.not_true, Bool.false_eq_true, or_self, not_false_eq_true]
  simp only [State.failLine, if_neg hin, hlane]

end LaneFailures

/-! The PARAM message (R220, R234, R237, R274, R282). -/

/-- A port in PARAM: outside Strike, what reaches it is taken for a PARAM message. -/
structure State.AwaitsParam (s : State) (p : Nat) : Prop where
  notInStrike : s.inStrike = false
  param : s.lnk p = 4

/-- The layout of a PARAM message: its type, its length and its reserved bytes. -/
structure ParamForm (msg : List Byte) : Prop where
  ctype : leAt msg 0 1 = 1
  len : leAt msg 1 1 = 32
  whole : msg.length = 32
  reserved : leAt msg 2 2 = 0

/-- The state once port `p` has taken up the PARAM message that the far end sent at tick `sent`. -/
def State.hearParam (s : State) (p sent : Nat) (msg : List Byte) : State :=
  (s.setReg (R.LNK_PEER p) (BitVec.ofNat 32 (leAt msg 16 3 % 2 ^ 20 + leAt msg 15 1 % 32 * 2 ^ 20 + 2 ^ 31))).modPort p fun q => { q with
    far := some msg, farAt := s.ftc, farSent := sent, txOos := q.txOos.filter (fun l => !bit (leAt msg 8 3) l),
    rttSum := if leAt msg 28 4 = 0 then q.rttSum else q.rttSum + (2 ^ 33 + s.ftc % 2 ^ 32 - leAt msg 28 4 - leAt msg 26 2) % 2 ^ 32 % 2 ^ 16,
    rttN := if leAt msg 28 4 = 0 then q.rttN else q.rttN + 1, cbcIn := q.cbcIn.erase msg }

/-- Whether a PARAM message of a ring names another far end than the one the port knows. -/
def State.namesOther (s : State) (p : Nat) (msg : List Byte) : Bool :=
  decide (p < 32) && s.isRing p && fget (s.reg (R.LNK_PEER p)) F.LNK_PEER_VALID == 1 &&
    (fget (s.reg (R.LNK_PEER p)) F.LNK_PEER_NODE != leAt msg 16 3 % 2 ^ 20 || fget (s.reg (R.LNK_PEER p)) F.LNK_PEER_PORT != leAt msg 15 1 % 32)

/-- The answer of state `t` to a PARAM message of the known far end: the port is held where the versions do not meet or fewer than
`lanes` lanes are left, and is ACTIVE once the far end has heard it. -/
def State.answerParam (t : State) (p lanes : Nat) (msg : List Byte) : State :=
  if min 2 (leAt msg 5 1) < 1 ∨ min 2 (leAt msg 5 1) < leAt msg 4 1 then t.holdPort p 9
  else if (t.laneLines p 16).length < lanes then t.holdPort p 0xA
  else if bit (leAt msg 6 1) 2 = true ∧ leAt msg 28 4 ≠ 0 then (t.sendParam p).enterActive p msg
  else t.sendParam p

section AnswerParam

variable {t : State} {p lanes : Nat} {msg : List Byte}

/-- Versions that do not meet hold the port. -/
theorem State.answerParam_of_version (hver : min 2 (leAt msg 5 1) < 1 ∨ min 2 (leAt msg 5 1) < leAt msg 4 1) :
    t.answerParam p lanes msg = t.holdPort p 9 := by
  rw [State.answerParam, if_pos hver]

variable (hlow : 1 ≤ min 2 (leAt msg 5 1)) (hhigh : leAt msg 4 1 ≤ min 2 (leAt msg 5 1))
include hlow hhigh

/-- With too few lanes left the port is held. -/
theorem State.answerParam_of_few_lanes (hfew : (t.laneLines p 16).length < lanes) : t.answerParam p lanes msg = t.holdPort p 0xA := by
  rw [State.answerParam, if_neg (by omega), if_pos hfew]

/-- With versions that meet and lanes enough, the port is ACTIVE if the far end has heard it, and answers in both cases. -/
theorem State.answerParam_of_enough_lanes (henough : lanes ≤ (t.laneLines p 16).length) : t.answerParam p lanes msg =
    if bit (leAt msg 6 1) 2 = true ∧ leAt msg 28 4 ≠ 0 then (t.sendParam p).enterActive p msg else t.sendParam p := by
  rw [State.answerParam, if_neg (by omega), if_neg (Nat.not_lt.2 henough)]

end AnswerParam

section Param

variable {s : State} {p : Fin 40} {sent : Nat} {msg : List Byte}

/-- A message without the layout of a PARAM is counted and dropped. -/
theorem State.AwaitsParam.exec_paramMsg_of_malformed (h : s.AwaitsParam p.val)
    (hbad : leAt msg 0 1 ≠ 1 ∨ leAt msg 1 1 ≠ 32 ∨ msg.length ≠ 32 ∨ leAt msg 2 2 ≠ 0) :
    exec (.paramMsg p ⟨sent, msg⟩) s = .next (s.bump (R.LNK_CBC_DROP_CNT p.val)) := by
  have hin : ¬ s.lnk p.val ≠ 4 := fun hn => hn h.param
  change execParamMsg p ⟨sent, msg⟩ s = _
  simp only [execParamMsg, State.live_of_not_inStrike h.notInStrike, if_neg hin, if_pos hbad]

/-- A PARAM that names another far end suspends the Canopy's ports and resets the link; any other is answered. -/
theorem State.AwaitsParam.exec_paramMsg (h : s.AwaitsParam p.val) (hform : ParamForm msg) : exec (.paramMsg p ⟨sent, msg⟩) s =
    .next (if s.namesOther p.val msg = true
      then ((s.hearParam p.val sent msg).modCanopy (basePort p.val / 4) fun x => { x with suspended := true }).linkReset p.val
      else (s.hearParam p.val sent msg).answerParam p.val (if s.compat p.val then 4 else 8) msg) := by
  have hin : ¬ s.lnk p.val ≠ 4 := fun hn => hn h.param
  have hgood : ¬ (leAt msg 0 1 ≠ 1 ∨ leAt msg 1 1 ≠ 32 ∨ msg.length ≠ 32 ∨ leAt msg 2 2 ≠ 0) := by
    simp [hform.ctype, hform.len, hform.whole, hform.reserved]
  change execParamMsg p ⟨sent, msg⟩ s = _
  simp only [execParamMsg, State.live_of_not_inStrike h.notInStrike, if_neg hin, if_neg hgood]
  rfl

end Param

/-- Settles O18: light by the port's state, a lane failure by its cause, and a PARAM message by its layout, its far end, its versions
and its lanes. -/
theorem lightAndParameters : Obligations.LightAndParameters := by
  refine ⟨?light, ?lane, fun s p line ringOn hs => exec_laneFailureDetect_of_foreign hs,
    fun s p sent msg hs hst => State.AwaitsParam.exec_paramMsg_of_malformed ⟨hs, hst⟩, ?param⟩
  case light =>
    rintro s _ p lit _ _ _ hs rfl rfl rfl rfl
    exact ⟨exec_lightDetect_of_not_detect hs, fun hst hheld hmay hdark => State.MayTry.exec_lightDetect ⟨hst, hheld, hmay, hdark⟩ hs⟩
  case lane =>
    rintro s _ p line cause lane ringOn hs hc hact hserv hlane rfl
    rw [exec_laneFailureDetect hs hc, State.failLine_of_in_service hact hserv hlane]
  case param =>
    rintro s t p sent ver msg other hs hst h0 h1 h2 h3 ht hother rfl
    change t = s.hearParam p.val sent msg at ht
    change other = s.namesOther p.val msg at hother
    rw [State.AwaitsParam.exec_paramMsg ⟨hs, hst⟩ ⟨h0, h1, h2, h3⟩, ← ht, ← hother]
    refine ⟨fun hnew => by rw [if_pos hnew], fun hsame hver => ?version, fun hsame hlow hhigh => ⟨fun hfew => ?few, fun henough => ?_⟩⟩
    all_goals rw [if_neg (by simp [hsame])]
    case version => rw [State.answerParam_of_version hver]
    case few => rw [State.answerParam_of_few_lanes hlow hhigh hfew]
    rw [State.answerParam_of_enough_lanes hlow hhigh henough]
    refine ⟨fun hheard hecho => by rw [if_pos ⟨hheard, hecho⟩], fun hunheard => ?_⟩
    rw [if_neg]
    rintro ⟨hheard, hecho⟩
    simp [hheard, hecho] at hunheard

end Sys2Proof.Machine
end

section
/-!
PROOF. The flit intervals, the flits that reach a Seam and those it sends again: the statement SeamFlitsTaken.
-/

namespace Sys2Proof.Machine

open Sys2Proof

/-! A flit that reaches a Seam (R286, R287, R289, R301). -/

/-- What state `t` does with a flit that a Seam's direction has collected: one with a false CRC is counted bad, one of a stale epoch is
discarded, any other is taken. -/
def State.seamFlitIn (t : State) (b d : Nat) (flit : List Byte) : State :=
  if leAt flit 248 8 ≠ crc64 (flit.take 248) then t.seamBadFlit b d
  else if (t.crossing b).armed = true ∧ bits (leAt flit 0 8) 39 32 ≠ t.sideEpoch b d then t
  else t.seamTake b d (leAt flit 0 8) ((flit.drop 8).take 240)

section SeamFlitIn

variable {t : State} {b d : Nat} {flit : List Byte}

/-- A flit whose CRC fails is counted bad. -/
theorem State.seamFlitIn_of_bad_crc (hcrc : leAt flit 248 8 ≠ crc64 (flit.take 248)) : t.seamFlitIn b d flit = t.seamBadFlit b d := by
  rw [State.seamFlitIn, if_pos hcrc]

variable (hcrc : leAt flit 248 8 = crc64 (flit.take 248))
include hcrc

/-- On an armed crossing a flit of another epoch is discarded. -/
theorem State.seamFlitIn_of_stale (harmed : (t.crossing b).armed = true) (hepoch : bits (leAt flit 0 8) 39 32 ≠ t.sideEpoch b d) :
    t.seamFlitIn b d flit = t := by
  rw [State.seamFlitIn, if_neg fun hbad => hbad hcrc, if_pos ⟨harmed, hepoch⟩]

/-- A flit of the crossing's epoch, or of a crossing that is not armed, is taken. -/
theorem State.seamFlitIn_of_current (hcur : (t.crossing b).armed = false ∨ bits (leAt flit 0 8) 39 32 = t.sideEpoch b d) :
    t.seamFlitIn b d flit = t.seamTake b d (leAt flit 0 8) ((flit.drop 8).take 240) := by
  have hfresh : ¬ ((t.crossing b).armed = true ∧ bits (leAt flit 0 8) 39 32 ≠ t.sideEpoch b d) := by
    rintro ⟨harmed, hepoch⟩
    simp [harmed, hepoch] at hcur
  rw [State.seamFlitIn, if_neg fun hbad => hbad hcrc, if_neg hfresh]

end SeamFlitIn

section SeamFlits

variable {s : State} {b : Fin 8}

/-- A flit interval of a port is its data interval (R217). -/
theorem exec_flitInterval_port {p : Fin 40} {readErr : Bool} (hs : s.inStrike = false) :
    exec (.flitInterval (.port p) readErr) s = .next (s.dataInterval p.val readErr) :=
  congrArg Host.Outcome.next (State.live_of_not_inStrike hs)

/-- A flit interval of a Seam is that of its direction (R289). -/
theorem exec_flitInterval_seam {fromBell readErr : Bool} (hs : s.inStrike = false) :
    exec (.flitInterval (.seam b fromBell) readErr) s = .next (s.seamInterval b.val (b2n fromBell) readErr) :=
  congrArg Host.Outcome.next (State.live_of_not_inStrike hs)

/-- An ACTIVE Seam receiver collects the flit from its lanes and looks at what came of it (R286). -/
theorem exec_seamFlit {toBell : Bool} {split : Nat} {raw : List Byte} {r : List Byte × SeamDir} (hs : s.inStrike = false)
    (hact : s.seamState b.val = 3) (hr : r = (s.seamDir b.val (dirOf toBell)).collect (s.seamW b.val) split (fit 256 raw)) :
    exec (.seamFlit b toBell ⟨split, raw⟩) s = .next ((s.setSeamDir b.val (dirOf toBell) r.2).seamFlitIn b.val (dirOf toBell) r.1) := by
  have hin : ¬ s.seamState b.val ≠ 3 := fun hn => hn hact
  change execSeamFlit b toBell ⟨split, raw⟩ s = _
  simp only [execSeamFlit, State.live_of_not_inStrike hs, if_neg hin, ← hr]
  rfl

/-- Direction `d` of an ACTIVE Seam holds flits that have stood unanswered for 200 ns and are not already being sent again (R289). -/
structure State.SeamStalled (s : State) (b d : Nat) : Prop where
  notInStrike : s.inStrike = false
  active : s.seamState b = 3
  holds : (s.seamDir b d).tx.held ≠ []
  late : (s.seamDir b d).tx.advAt + 200 ≤ s.now
  notReplaying : (s.seamDir b d).tx.replay ≠ some (s.seamDir b d).tx.oldest

/-- Flits left unanswered are sent again from the oldest; the ninth time the Seam retrains instead. -/
theorem State.SeamStalled.exec_seamReplayTimeout {fromBell : Bool} (h : s.SeamStalled b.val (b2n fromBell)) :
    exec (.seamReplayTimeout b fromBell) s = .next (if 8 ≤ (s.seamDir b.val (b2n fromBell)).resends
      then s.seamRetrain b.val 1 (some (b2n fromBell))
      else s.setSeamDir b.val (b2n fromBell) { (s.seamDir b.val (b2n fromBell)) with
        tx := { (s.seamDir b.val (b2n fromBell)).tx with
          replay := (s.seamDir b.val (b2n fromBell)).tx.held.head?.map (·.seq), advAt := s.now } }) := by
  change execSeamReplayTimeout b fromBell s = _
  simp only [execSeamReplayTimeout, State.live_of_not_inStrike h.notInStrike]
  rw [if_pos ⟨h.active, by simp [h.holds], h.late, h.notReplaying⟩]

end SeamFlits

/-- Settles O27: an interval by its link, a flit by its CRC and its epoch, and a stall by how often its flits were sent again. -/
theorem seamFlitsTaken : Obligations.SeamFlitsTaken := by
  refine ⟨fun s p readErr => exec_flitInterval_port, fun s b fromBell readErr => exec_flitInterval_seam, ?flit,
    fun s b fromBell hs hact hheld hlate hreplay => ?stall⟩
  case flit =>
    rintro s t b toBell split raw _ hs hact rfl ht
    rw [exec_seamFlit hs hact rfl, ← ht]
    exact ⟨fun hcrc => congrArg _ (State.seamFlitIn_of_bad_crc hcrc),
      fun hcrc harmed hepoch => congrArg _ (State.seamFlitIn_of_stale hcrc harmed hepoch),
      fun hcrc hcur => congrArg _ (State.seamFlitIn_of_current hcrc hcur)⟩
  case stall =>
    rw [State.SeamStalled.exec_seamReplayTimeout ⟨hs, hact, hheld, hlate, hreplay⟩]
    exact ⟨fun hninth => by rw [if_pos hninth], fun hless => by rw [if_neg (Nat.not_le.2 hless)]⟩

end Sys2Proof.Machine
end

section
/-!
PROOF. The rings of a Canopy, searched, locked, locked again and saved: the statement RingsAreLocked.
-/

namespace Sys2Proof.Machine

open Sys2Proof

/-- A ring has lost its lock and an attempt to lock it again is under way (R253). -/
structure State.Relocking (s : State) (k h : Nat) : Prop where
  notInStrike : s.inStrike = false
  relock : (s.ring k h).st = 4
  tried : (s.ring k h).tries ≠ 0

section RingLocks

variable {s : State} {k : Fin 8} {h : Fin 144}

/-- The search of a Canopy that runs starts with its Lanterns on (R245). -/
theorem exec_ringSearch {l : Fin 2} {ok : Bool} (hs : s.inStrike = false) (hruns : s.canopyRuns k.val = true) :
    exec (.ringSearch k l ok) s = .next ((s.lanternsOn k.val l.val ok).searchRings k.val) := by
  change execRingSearch k l ok s = _
  rw [execRingSearch, State.live_of_not_inStrike hs, if_pos hruns]

/-- A search that has not been completed ends with its sweeps, and the lines are assigned (R246, R247). -/
theorem exec_ringSearchDone {sw : List Sweep} (hs : s.inStrike = false) (hruns : s.canopyRuns k.val = true)
    (hopen : s.fld (R.OPT_STAT k.val) F.OPT_STAT_SEARCH_DONE = 0) :
    exec (.ringSearchDone k sw) s = .next ((allHeaters.foldl (fun t h => t.endSweep k.val sw h) s).assignAll k.val) := by
  change execRingSearchDone k sw s = _
  rw [execRingSearchDone, State.live_of_not_inStrike hs, if_pos ⟨hruns, hopen⟩]

/-- The lock loop of a Canopy that runs sets the heaters, and then gives up or relocks each ring that has lost its lock (R248 to R250). -/
theorem exec_lockLoopUpdate {req : List (Nat × Int)} {lost : List Nat} (hs : s.inStrike = false) (hruns : s.canopyRuns k.val = true) :
    exec (.lockLoopUpdate k req lost) s = .next (lost.foldl (fun t h => t.lockLost k.val h)
      (s.setCanopy k.val { s.canopy k.val with heat := s.heatAfter k.val req })) := by
  change execLockLoopUpdate k req lost s = _
  rw [execLockLoopUpdate, State.live_of_not_inStrike hs, if_pos hruns]

/-- A matrix with a coefficient that has moved by 82 or more, not saved within the last minute, goes to the Dry bag (R249). -/
theorem exec_xtMatrixSave (hmoved : (s.canopy k.val).xtMoved.any (fun e => decide (82 ≤ e.2.natAbs)) = true)
    (hdue : (s.canopy k.val).xtAt.elim true (fun t => decide (60000000000 + t ≤ s.now)) = true) : exec (.xtMatrixSave k) s =
    .next ((s.saveXt k.val (s.canopy k.val).xt).setCanopy k.val { s.canopy k.val with xtMoved := [], xtAt := some s.now }) := by
  change execXtMatrixSave k s = _
  simp only [execXtMatrixSave]
  rw [if_pos ⟨hmoved, hdue⟩]

/-- An attempt starts from the map's code, while fewer than three were made and the port has light (R253, R255). -/
theorem exec_relockAttempt (hs : s.inStrike = false) (hlost : (s.ring k.val h.val).st = 4) (htries : (s.ring k.val h.val).tries < 3)
    (hlight : s.portDark (heaterPort k.val h.val) = false) : exec (.relockAttempt k h) s = .next (s.setRing k.val h.val
      { s.ring k.val h.val with tries := (s.ring k.val h.val).tries + 1, code := s.mapCode k.val h.val }) := by
  change execRelockAttempt k h s = _
  simp only [execRelockAttempt, State.live_of_not_inStrike hs]
  rw [if_pos ⟨hlost, htries, by simp [hlight]⟩]

/-- An attempt ends: a ring that has locked returns its line and is queued for calibration, and the third failure retires it (R253 to R256). -/
theorem State.Relocking.exec_relockEnd {locked : Bool} {c : Nat} (hr : s.Relocking k.val h.val) : exec (.relockEnd k h locked c) s = .next (
    if locked then ((s.setRing k.val h.val { s.ring k.val h.val with st := 2, tries := 0, code := c % 16384, held := false }).returnLine
      k.val h.val).queueCal k.val h.val
    else if 3 ≤ (s.ring k.val h.val).tries then s.retireRing k.val h.val else s) := by
  have htried : ¬ ((s.ring k.val h.val).st ≠ 4 ∨ (s.ring k.val h.val).tries = 0) := by simp [hr.relock, hr.tried]
  change execRelockEnd k h locked c s = _
  simp only [execRelockEnd, State.live_of_not_inStrike hr.notInStrike, if_neg htried]

end RingLocks

/-- Settles O19: each clause is the rule of its command; the save is due if none was made, or the last a minute ago. -/
theorem ringsAreLocked : Obligations.RingsAreLocked := by
  refine ⟨fun s k l ok => exec_ringSearch, fun s k sw => exec_ringSearchDone, fun s k req lost => exec_lockLoopUpdate,
    fun s k t hmoved hdue => exec_xtMatrixSave hmoved ?due, fun s k => rfl, fun s k h => exec_relockAttempt,
    fun s k h c hs hst htried => ⟨State.Relocking.exec_relockEnd ⟨hs, hst, htried⟩, fun hthird => ?retire⟩⟩
  case due =>
    obtain hnever | ⟨hlast, hminute⟩ := hdue
    · rw [hnever]; rfl
    · rw [hlast]; exact decide_eq_true hminute
  case retire =>
    rw [State.Relocking.exec_relockEnd ⟨hs, hst, htried⟩, if_neg Bool.false_ne_true, if_pos hthird]

end Sys2Proof.Machine
end

section
/-!
PROOF. The calibration windows of the rings, the hour's summary and the calibration commands: the statement RingsAreCalibrated.
-/

namespace Sys2Proof.Machine

open Sys2Proof

section Calibration

variable {s : State} {k : Fin 8} {h : Fin 144}

/-- A window opens on a ring that is free for one (R257, R260). -/
theorem exec_calibrationWindow (hs : s.inStrike = false) (hfree : s.windowFree k.val h.val = true) :
    exec (.calibrationWindow k h) s = .next (s.openWindow k.val h.val) := by
  change execCalibrationWindow k h s = _
  rw [execCalibrationWindow, State.live_of_not_inStrike hs, if_pos hfree]

/-- The window of a receive ring ends with its line returned (R231, R257). -/
theorem exec_calibrationWindowDone_of_receive {c : Nat} {sl : Nat × Nat × Nat} {mv : List (Nat × Int)} (hs : s.inStrike = false)
    (hwin : (s.canopy k.val).wins.contains h.val = true) (hdir : heaterDir h.val ≠ 0) :
    exec (.calibrationWindowDone k h c sl mv) s = .next ((s.endCalibration k.val h.val c sl mv).returnLine k.val h.val) := by
  change execCalibrationWindowDone k h c sl mv s = _
  simp only [execCalibrationWindowDone, State.live_of_not_inStrike hs, if_pos hwin, if_neg hdir]

/-- The window of a transmit ring ends with the lane moved back from the spare that it used (R231, R257). -/
theorem exec_calibrationWindowDone_of_transmit {c : Nat} {sl : Nat × Nat × Nat} {mv : List (Nat × Int)} {u : CalUse} (hs : s.inStrike = false)
    (hwin : (s.canopy k.val).wins.contains h.val = true) (hdir : heaterDir h.val = 0)
    (huse : ((s.endCalibration k.val h.val c sl mv).port (heaterPort k.val h.val)).calUse.find?
      (fun u => u.home == (s.ring k.val h.val).line) = some u) :
    exec (.calibrationWindowDone k h c sl mv) s = .next ((s.endCalibration k.val h.val c sl mv).calBack (heaterPort k.val h.val) u.lane) := by
  change execCalibrationWindowDone k h c sl mv s = _
  simp only [execCalibrationWindowDone, State.live_of_not_inStrike hs, if_pos hwin, if_pos hdir, huse]

/-- A queued ring that has waited more than 1 s without a report is reported and marked so (R260). -/
theorem exec_calOverdue {a : Nat} (hs : s.inStrike = false)
    (hqueued : (s.canopy k.val).queue.find? (fun e => e.1 == h.val) = some (h.val, a, false)) (hlate : 1000000000 + a < s.now) :
    exec (.calOverdue k h) s = .next ((s.modCanopy k.val fun c => { c with
      queue := c.queue.map fun x => if x.1 = h.val then (x.1, x.2.1, true) else x }).canFault k.val 2 (le 1 h.val)) := by
  change execCalOverdue k h s = _
  simp only [execCalOverdue, State.live_of_not_inStrike hs, hqueued]
  rw [if_pos ⟨rfl, hlate⟩]

/-- After an hour the counts of the Canopy and of the Seam link of its number are summed (R259, R296). -/
theorem exec_calSummary (hhour : 3600000000000 + (s.canopy k.val).hourAt ≤ s.now) :
    exec (.calSummary k) s = .next ((s.canopySummary k.val).seamSummary k.val) := by
  change execCalSummary k s = _
  rw [execCalSummary, if_pos hhour]

/-- The two commands that queue rings for calibration (R256). -/
theorem exec_calCommands (hs : s.inStrike = false) :
    exec (.calAll k) s = .next (s.calAll k.val) ∧ exec (.laneCalReq k) s = .next (s.laneCal k.val) :=
  ⟨congrArg Host.Outcome.next (State.live_of_not_inStrike hs), congrArg Host.Outcome.next (State.live_of_not_inStrike hs)⟩

end Calibration

/-- Settles O20: each clause is the rule of its command; the end of a window goes by the direction of its ring. -/
theorem ringsAreCalibrated : Obligations.RingsAreCalibrated := by
  refine ⟨fun s k h => exec_calibrationWindow, ?done, fun s k h a => exec_calOverdue, fun s k => exec_calSummary,
    fun s k => exec_calCommands⟩
  rintro s _ k h c sl mv hs hwin rfl
  exact ⟨exec_calibrationWindowDone_of_receive hs hwin, fun u => exec_calibrationWindowDone_of_transmit hs hwin⟩

end Sys2Proof.Machine
end

section
/-!
PROOF. The loss of light on the lines of a port, and its receive power: the statement LightIsWatched.
-/

namespace Sys2Proof.Machine

open Sys2Proof

/-- The lines of `lines` that were lit on port `p` until now. -/
def State.newlyDark (s : State) (p : Nat) (lines : List Nat) : List Nat := lines.eraseDups.filter (s.port p).lit.contains

/-- The state once the lit lines `ls` of port `p` have lost their light. -/
def State.loseLight (s : State) (p : Nat) (ls : List Nat) : State :=
  (s.modPort p fun q => { q with lit := q.lit.filter (fun k => !ls.contains k) }).ethLoss p ls

/-- The lines of port `p` that have been dark together, and since when; none while no loss of the port is noted. -/
def State.darkLines (s : State) (p : Nat) : Option (List Nat × Nat) := SMap.get (fun _ => none) (s.canopy (p / 4)).dark (p % 4)

section LightLoss

variable {s : State} {p : Fin 32} {lines d : List Nat} {t : Nat}

/-- Lines that go dark: most of the port's lit lines together are noted as PORT_DARK, fewer are reported at once (R261). -/
theorem exec_lossOfSignal_of_light (hs : s.inStrike = false) (hnew : s.newlyDark p.val lines ≠ []) (hlight : s.darkLines p.val = none) :
    exec (.lossOfSignal p lines) s = .next (
      if min 12 (s.port p.val).lit.length ≤ (s.newlyDark p.val lines).length then
        ((s.loseLight p.val (s.newlyDark p.val lines)).addFld (R.OPT_LOS_CNT (p.val / 4)) F.OPT_LOS_CNT_PORT 1).setPortDark p.val
          (some (s.newlyDark p.val lines, s.now))
      else (s.loseLight p.val (s.newlyDark p.val lines)).reportLos p.val (s.newlyDark p.val lines)) := by
  change execLossOfSignal p lines s = _
  rw [State.newlyDark] at hnew
  rw [State.darkLines] at hlight
  simp only [execLossOfSignal, State.live_of_not_inStrike hs, List.isEmpty_iff, if_neg hnew, hlight]
  rfl

/-- On a port that is dark already, the further lines join those noted (R261). -/
theorem exec_lossOfSignal_of_dark (hs : s.inStrike = false) (hnew : s.newlyDark p.val lines ≠ []) (hdark : s.darkLines p.val = some (d, t)) :
    exec (.lossOfSignal p lines) s = .next ((s.loseLight p.val (s.newlyDark p.val lines)).setPortDark p.val
      (some ((d ++ s.newlyDark p.val lines).eraseDups, t))) := by
  change execLossOfSignal p lines s = _
  rw [State.newlyDark] at hnew
  rw [State.darkLines] at hdark
  simp only [execLossOfSignal, State.live_of_not_inStrike hs, List.isEmpty_iff, if_neg hnew, hdark]
  rfl

/-- Light returns to a dark port: its lines are lit, and the port is dark while some of the noted lines are left (R261). -/
theorem exec_lossOfSignalEnd_of_dark (hs : s.inStrike = false) (hdark : s.darkLines p.val = some (d, t)) :
    exec (.lossOfSignalEnd p lines) s = .next ((s.modPort p.val fun q => { q with
      lit := (List.range 19).filter fun k => decide (1 ≤ k) && (q.lit ++ lines).contains k }).setPortDark p.val
        (if d.filter (fun k => !lines.contains k) = [] then none else some (d.filter (fun k => !lines.contains k), t))) := by
  change execLossOfSignalEnd p lines s = _
  rw [State.darkLines] at hdark
  simp only [execLossOfSignalEnd, State.live_of_not_inStrike hs, hdark, List.isEmpty_iff]

/-- Lines still dark after 10 µs are reported (R261). -/
theorem exec_portDarkTimeout (hs : s.inStrike = false) (hdark : s.darkLines p.val = some (d, t)) (hlate : 10000 + t ≤ s.now) :
    exec (.portDarkTimeout p) s = .next ((s.setPortDark p.val none).reportLos p.val d) := by
  change execPortDarkTimeout p s = _
  rw [State.darkLines] at hdark
  simp only [execPortDarkTimeout, State.live_of_not_inStrike hs, hdark, if_pos hlate]

/-- A receive power that is not below the warning level is only kept for its ring (R262). -/
theorem exec_rxPowerCheck_of_not_below {line : Fin 20} {power h : Nat} (hs : s.inStrike = false) (hring : s.heaterOf p.val 1 line.val = some h) :
    exec (.rxPowerCheck p line power false) s =
      .next (s.setRing (p.val / 4) h { s.ring (p.val / 4) h with pwr := power % 65536 }) := by
  change execRxPowerCheck p line power false s = _
  simp only [execRxPowerCheck, State.live_of_not_inStrike hs, hring, Bool.false_and, Bool.false_eq_true, if_false]

/-- The first receive power below the warning level is kept and reported, and the time of the report too (R262). -/
theorem exec_rxPowerCheck_of_below {line : Fin 20} {power h : Nat} (hs : s.inStrike = false) (hring : s.heaterOf p.val 1 line.val = some h)
    (hnever : (s.ring (p.val / 4) h).warnAt = none) (hbelow : s.underWarn (p.val / 4) power = true) :
    exec (.rxPowerCheck p line power true) s =
      .next ((s.setRing (p.val / 4) h { s.ring (p.val / 4) h with pwr := power % 65536, warnAt := some s.now }).canFault (p.val / 4) 3
        (le 1 p.val ++ le 1 line.val ++ le 2 power)) := by
  change execRxPowerCheck p line power true s = _
  simp only [execRxPowerCheck, State.live_of_not_inStrike hs, hring, hnever, hbelow, Option.elim_none, Bool.and_self, if_true]

end LightLoss

/-- Settles O21: a loss by whether the port is dark already, its end and its time-out on a dark port, and a receive power by the
warning level. -/
theorem lightIsWatched : Obligations.LightIsWatched := by
  refine ⟨?loss, fun s p lines d t hs hdark => ⟨exec_lossOfSignalEnd_of_dark hs hdark, exec_portDarkTimeout hs hdark⟩,
    fun s p line power h hs hring => ⟨exec_rxPowerCheck_of_not_below hs hring, exec_rxPowerCheck_of_below hs hring⟩⟩
  rintro s _ p lines _ hs rfl hnew rfl
  exact ⟨exec_lossOfSignal_of_light hs hnew, fun d t => exec_lossOfSignal_of_dark hs hnew⟩

end Sys2Proof.Machine
end

section
/-!
PROOF. The stages, Lanterns and monitors of a Canopy: the statement LanternsAndMonitors.
-/

namespace Sys2Proof.Machine

open Sys2Proof

section Lanterns

variable {s : State} {k : Fin 8}

/-- A stage is reported exactly where its loss is in excess (R263). -/
theorem exec_stageCheck {g : Fin 5} {port line : Nat} {excess : Bool} (hs : s.inStrike = false) : exec (.stageCheck k g port line excess) s =
    .next (if excess then s.canFault k.val 4 (le 1 g.val ++ le 1 port ++ le 1 line) else s) :=
  congrArg Host.Outcome.next (State.live_of_not_inStrike hs)

/-- A Lantern's bias is kept; at 90 % its wear is noted and reported, once (R264). -/
theorem exec_lanternWear {l : Fin 2} {b : Fin 1001} (hs : s.inStrike = false) : exec (.lanternWear k l b) s = .next (
    if 900 ≤ b.val ∧ s.fld (R.OPT_LANT k.val l.val) F.OPT_LANT_WEAR = 0 then
      ((s.setFld (R.OPT_LANT k.val l.val) F.OPT_LANT_BIAS b.val).setFld (R.OPT_LANT k.val l.val) F.OPT_LANT_WEAR 1).canFault
        k.val 5 (le 1 l.val ++ le 2 b.val)
    else s.setFld (R.OPT_LANT k.val l.val) F.OPT_LANT_BIAS b.val) :=
  congrArg Host.Outcome.next (State.live_of_not_inStrike hs)

/-- The active Lantern of a Canopy that is not dark fails: a good standby takes over, and without one the Canopy goes dark (R265 to R267). -/
theorem exec_lanternSwitchOver {cause : Fin 4} (hs : s.inStrike = false) (hlight : s.fld (R.OPT_STAT k.val) F.OPT_STAT_DARK = 0) :
    exec (.lanternSwitchOver k cause) s = .next (if s.fld (R.OPT_STAT k.val) F.OPT_STAT_STBY_OK = 1
      then s.lantSwitch k.val (cause.val + 1) else s.canopyDark k.val) := by
  change execLanternSwitchOver k cause s = _
  rw [execLanternSwitchOver, State.live_of_not_inStrike hs, if_neg (by simp [hlight])]

/-- Both Lanterns' frequency loops unlocked: the reference lock is lost (R283). -/
theorem exec_combReferenceFault (hs : s.inStrike = false) :
    exec (.combReferenceFault k) s = .next ((s.setFld (R.OPT_STAT k.val) F.OPT_STAT_REF_LOCK 0).canFault k.val 9 []) :=
  congrArg Host.Outcome.next (State.live_of_not_inStrike hs)

/-- The command that switches the Lanterns (R265, R266). -/
theorem exec_lantSwitch (hs : s.inStrike = false) : exec (.lantSwitch k) s = .next (s.lantCommand k.val) :=
  congrArg Host.Outcome.next (State.live_of_not_inStrike hs)

/-- A good standby that is found unhealthy is good no more (R266). -/
theorem exec_standbyLanternLost (hs : s.inStrike = false) (hgood : s.fld (R.OPT_STAT k.val) F.OPT_STAT_STBY_OK = 1) :
    exec (.standbyLanternLost k) s = .next ((s.setFld (R.OPT_STAT k.val) F.OPT_STAT_STBY_OK 0).canFault k.val 7 []) := by
  change execStandbyLanternLost k s = _
  rw [execStandbyLanternLost, State.live_of_not_inStrike hs, if_pos hgood]

/-- A measurement on a monitor is selected, and its reading is stored as valid (R244). -/
theorem exec_monitorMeasure {sel : BitVec 32} {w : BitVec 16} (hs : s.inStrike = false) :
    exec (.monitorMeasure k sel) s = .next (s.monSelect k.val sel) ∧
      exec (.monitorMeasureDone k w) s = .next (s.setReg (R.OPT_MON_DATA k.val) (BitVec.ofNat 32 (w.toNat + 2 ^ 31))) :=
  ⟨congrArg Host.Outcome.next (State.live_of_not_inStrike hs), congrArg Host.Outcome.next (State.live_of_not_inStrike hs)⟩

end Lanterns

/-- Settles O22: each clause is the rule of its command; a bias goes by its wear, and a failing Lantern by the standby. -/
theorem lanternsAndMonitors : Obligations.LanternsAndMonitors := by
  refine ⟨fun s k g port line hs => ⟨exec_stageCheck hs, exec_stageCheck hs⟩, fun s k l b hs => ?wear, fun s k cause hs hlight => ?failing,
    fun s k hs => ⟨exec_combReferenceFault hs, exec_lantSwitch hs, exec_standbyLanternLost hs⟩, fun s k sel w => exec_monitorMeasure⟩
  case wear =>
    rw [exec_lanternWear hs]
    exact ⟨fun hless => by rw [if_neg fun hworn => Nat.not_le.2 hless hworn.1], fun hworn hfirst => by rw [if_pos ⟨hworn, hfirst⟩]⟩
  case failing =>
    rw [exec_lanternSwitchOver hs hlight]
    exact ⟨fun hgood => by rw [if_pos hgood], fun hbad => by rw [if_neg (by simp [hbad])]⟩

end Sys2Proof.Machine
end

section
/-!
PROOF. The storm flaps of the ring pairs and the windows of the transit light paths: the statement FlapsAndWindows.
-/

namespace Sys2Proof.Machine

open Sys2Proof

/-- The flaps of a pair may start to open: they are closed, nothing keeps them shut, and both ports of the pair are in loopback (R273). -/
structure State.FlapsMayOpen (s : State) (q : Nat) : Prop where
  closed : s.flap q = 0
  notShut : s.flapShut q = false
  lower : s.loopback (pairPort q) = true
  upper : s.loopback (pairPort q + 1) = true

section Flaps

variable {s : State} {q : Fin 2}

/-- Flaps that may open are driven at a slot boundary (R273). -/
theorem State.FlapsMayOpen.exec_flapOpenStart (h : s.FlapsMayOpen q.val) (hslot : s.ftc % 128 = 0) :
    exec (.flapOpenStart q) s = .next (s.setFlap q.val 1 2) := by
  change execFlapOpenStart q s = _
  rw [execFlapOpenStart, if_pos ⟨h.closed, by simp [h.notShut], h.lower, h.upper, hslot⟩]

/-- OPENING ends in OPEN, a movement counted and both ports retrained (R273). -/
theorem exec_flapOpened (hopening : s.flap q.val = 1) :
    exec (.flapOpened q) s = .next (((s.setFlap q.val 2 1).flapMoved q.val).retrainPair q.val) := by
  change execFlapOpened q s = _
  rw [execFlapOpened, if_pos hopening]

/-- A closing condition closes flaps that are open or opening (R272, R273). -/
theorem exec_flapClose (hopen : s.flap q.val = 1 ∨ s.flap q.val = 2) (hshut : s.flapShut q.val = true) :
    exec (.flapClose q) s = .next (s.setFlap q.val 3 2) := by
  change execFlapClose q s = _
  rw [execFlapClose, if_pos ⟨hopen, hshut⟩]

/-- CLOSING ends in CLOSED, a movement counted and both ports retrained (R273). -/
theorem exec_flapClosed (hclosing : s.flap q.val = 3) :
    exec (.flapClosed q) s = .next (((s.setFlap q.val 0 0).flapMoved q.val).retrainPair q.val) := by
  change execFlapClosed q s = _
  rw [execFlapClosed, if_pos hclosing]

/-- Flaps that have moved for 5 ms are reported: opening ones close, and closing ones are CLOSED and marked as stuck (R273, R275). -/
theorem exec_flapStuck {t : State} (hmoving : s.flap q.val = 1 ∨ s.flap q.val = 3) (hlate : 5000000 + (s.canopy (pairCan q.val)).flapAt ≤ s.now)
    (ht : t = (s.canFault (pairCan q.val) 10 (le 1 (s.flap q.val))).sparing (9 + pairCan q.val) (pairPort q.val) 0 0xFF 0xFF 0xFF 0 7) :
    exec (.flapStuck q) s = .next (if s.flap q.val = 1 then t.setFlap q.val 3 2
      else (t.setFlap q.val 0 3).setFld (R.OPT_FLAP_STAT (pairCan q.val)) F.OPT_FLAP_STAT_STUCK 1) := by
  change execFlapStuck q s = _
  simp only [execFlapStuck]
  rw [if_pos ⟨hmoving, hlate⟩, ht]

end Flaps

section TransitWindows

variable {s : State} {q : Fin 4} {n : Nat} {e : Entry3}

/-- A window of an entry of the active image starts in its tick (R278). -/
theorem exec_transitWindow {found : Bool} (hs : s.inStrike = false) (hentry : s.img.entry n = some e) (hact : s.active = true)
    (hpair : e.pair = q.val) (hnow : s.windowNow e = true) : exec (.transitWindow q n found) s = .next (s.windowStarts q.val n e found) := by
  have hstarts : ¬ ((!s.active) = true ∨ e.pair ≠ q.val ∨ (!s.windowNow e) = true) := by simp [hact, hpair, hnow]
  change execTransitWindow q n found s = _
  simp only [execTransitWindow, State.live_of_not_inStrike hs, hentry, if_neg hstarts]

/-- A window whose time is over ends on the link of its entry (R279, R280). -/
theorem exec_transitWindowEnd {l : Nat} (hs : s.inStrike = false) (hentry : s.img.entry n = some e) (hpair : e.pair = q.val)
    (hlink : s.entryLink n e = some l) (hover : (s.port l).winUntil ≤ s.ftc) :
    exec (.transitWindowEnd q n) s = .next (s.modPort l fun x => { x with winUntil := 0 }) := by
  have hmine : ¬ e.pair ≠ q.val := fun hother => hother hpair
  change execTransitWindowEnd q n s = _
  simp only [execTransitWindowEnd, State.live_of_not_inStrike hs, hentry, if_neg hmine, hlink, if_pos hover]

end TransitWindows

/-- Settles O25: each clause is the rule of its command. -/
theorem flapsAndWindows : Obligations.FlapsAndWindows :=
  ⟨fun _ _ => ⟨fun hclosed hfree hlower hupper => State.FlapsMayOpen.exec_flapOpenStart ⟨hclosed, hfree, hlower, hupper⟩,
      exec_flapOpened, exec_flapClose, exec_flapClosed, fun hmoving hlate => ⟨_, rfl, exec_flapStuck hmoving hlate rfl⟩⟩,
    fun _ _ _ _ _ => exec_transitWindow, fun _ _ _ _ _ => exec_transitWindowEnd⟩

end Sys2Proof.Machine
end

section
/-!
PROOF. Power domains, operating points and the power limit: the statement DomainsAndPower.
-/

namespace Sys2Proof.Machine

open Sys2Proof

/-- An engine group of Bell `b` is idle: it runs, no descriptor in execution uses its clusters, and none has for IDLE_US (R342). -/
structure State.GroupIdle (s : State) (b g : Nat) : Prop where
  running : s.dom (domBell b (7 + g)) = 0
  unused : (s.bell b).runs.any (fun r => r.cur.any fun a => bits a.d.clusterMask (4 * g + 3) (4 * g) != 0) = false
  since : SMap.get (fun _ => 0) (s.bell b).engAt g + 1000 * s.fld R.PWR_AUTO F.PWR_AUTO_IDLE_US ≤ s.now

/-- The step of operating point under way on a Bell. -/
def State.oppStep (s : State) (b : Nat) : Option Nat := SMap.get (fun _ => none) s.pwr.step b

/-- Bell `b` may begin a step of operating point: its point may move, has not reached its target, and no step is under way (R345). -/
structure State.MayStep (s : State) (b : Nat) : Prop where
  runs : s.oppRuns b = true
  noStep : s.oppStep b = none
  offTarget : s.opp b ≠ s.oppTarget b

/-- The state with `x` as the step of operating point under way on Bell `b`. -/
def State.setOppStep (s : State) (b : Nat) (x : Option Nat) : State :=
  { s with pwr := { s.pwr with step := SMap.set (fun _ => none) s.pwr.step b x } }

section Domains

variable {s : State}

/-- With the main conversion up, a request for a domain is answered (R341, R342). -/
theorem exec_domainStateRequest {dom : Fin 148} {req : Fin 4} (hup : s.pwr.failed = false) (hon : s.dom 7 ≠ 3) :
    exec (.domainStateRequest dom req) s = .next (s.domRequest dom.val req.val) := by
  change execDomainStateRequest dom req s = _
  rw [execDomainStateRequest, if_neg (by simp [hup, hon])]

/-- With ENG_EN, an idle engine group sleeps (R342). -/
theorem State.GroupIdle.exec_engineGroupIdle {b : Fin 8} {g : Fin 4} (h : s.GroupIdle b.val g.val) (hs : s.inStrike = false)
    (hauto : s.fld R.PWR_AUTO F.PWR_AUTO_ENG_EN = 1) : exec (.engineGroupIdle b g) s = .next (s.setDom (domBell b.val (7 + g.val)) 1) := by
  change execEngineGroupIdle b g s = _
  simp only [execEngineGroupIdle]
  rw [if_pos ⟨hauto, h.running, by simp only [h.unused, Bool.not_false], by simp only [hs, Bool.not_false], h.since⟩]

/-- The power-good of a domain whose Bell, if it has one, is fitted fails (R343). -/
theorem exec_powerGoodFail {dom : Fin 148} (hup : s.pwr.failed = false)
    (hfit : 28 ≤ dom.val → dom.val < 124 → s.fitted (bellOfDom dom.val) = true) :
    exec (.powerGoodFail dom) s = .next (s.poleFails dom.val) := by
  have hpresent : ¬ (s.pwr.failed = true ∨ 28 ≤ dom.val ∧ dom.val < 124 ∧ (!s.fitted (bellOfDom dom.val)) = true) := by
    rintro (hdown | ⟨hfrom, hto, hunfit⟩)
    · simp [hup] at hdown
    · simp [hfit hfrom hto] at hunfit
  change execPowerGoodFail dom s = _
  simp only [execPowerGoodFail, if_neg hpresent]

end Domains

section OperatingPoints

variable {s : State} {b : Fin 8}

/-- A step is begun by one point toward the target (R345). -/
theorem State.MayStep.exec_dvfsStep (h : s.MayStep b.val) (hs : s.inStrike = false) : exec (.dvfsStep b) s =
    .next (s.setOppStep b.val (some (if s.opp b.val < s.oppTarget b.val then s.opp b.val + 1 else s.opp b.val - 1))) := by
  have hmay : ¬ ((!s.oppRuns b.val) = true ∨ (s.oppStep b.val).isSome = true ∨ s.opp b.val = s.oppTarget b.val) := by
    simp [h.runs, h.noStep, h.offTarget]
  change execDvfsStep b s = _
  rw [State.oppStep] at hmay
  simp only [execDvfsStep, State.live_of_not_inStrike hs, if_neg hmay, State.setOppStep]

/-- A step ends at its point; a late one leaves the lower of its two points and is reported (R345). -/
theorem exec_dvfsStepEnd {late : Bool} {v : Nat} (hs : s.inStrike = false) (hstep : s.oppStep b.val = some v) : exec (.dvfsStepEnd b late) s =
    .next (if late then ((s.setOppStep b.val none).setOpp b.val (min v (s.opp b.val))).pulse (srcBell b.val 7) (le 1 (s.opp b.val) ++ le 1 v)
      else (s.setOppStep b.val none).setOpp b.val v) := by
  change execDvfsStepEnd b late s = _
  rw [State.oppStep] at hstep
  simp only [execDvfsStepEnd, State.live_of_not_inStrike hs, hstep, State.setOppStep]

end OperatingPoints

section PowerManager

variable {s : State}

/-- A check of the input power runs outside Strike (R346). -/
theorem exec_powerLimitCheck {peak avg : Nat} (hs : s.inStrike = false) : exec (.powerLimitCheck peak avg) s = .next (s.limitPower peak avg) :=
  congrArg Host.Outcome.next (State.live_of_not_inStrike hs)

/-- The power of a Bell whose first domain is not off is filtered and fed forward (R250, R347). -/
theorem exec_bellPowerSample {b : Fin 8} {power fine : Nat} (hs : s.inStrike = false) (hon : s.dom (domBell b.val 0) ≠ 3) :
    exec (.bellPowerSample b power fine) s = .next (s.powerSample b.val power (s.filtered b.val power fine)) := by
  change execBellPowerSample b power fine s = _
  rw [execBellPowerSample, State.live_of_not_inStrike hs, if_neg hon]

end PowerManager

/-- Settles O36: each clause is the rule of its command; the two of DVFS_STEP_END are a step in time and a late one. -/
theorem domainsAndPower : Obligations.DomainsAndPower := by
  refine ⟨fun s dom req => exec_domainStateRequest,
    fun s b g hs hauto hrun hunused hsince => State.GroupIdle.exec_engineGroupIdle ⟨hrun, hunused, hsince⟩ hs hauto,
    fun s dom => exec_powerGoodFail, fun s b hs hruns hnone htarget => State.MayStep.exec_dvfsStep ⟨hruns, hnone, htarget⟩ hs, ?stepEnd,
    fun s peak avg => exec_powerLimitCheck, fun s b power fine => exec_bellPowerSample⟩
  rintro s _ b v hs hstep rfl
  exact ⟨exec_dvfsStepEnd hs hstep, exec_dvfsStepEnd hs hstep⟩

end Sys2Proof.Machine
end

section
/-!
PROOF. The markers, the lanes and the calibrations of a Seam link: the statement SeamLanesKept.
-/

namespace Sys2Proof.Machine

open Sys2Proof

/-! The messages of a Seam link (R290). -/

/-- The state `s` takes the control message `m` of type `c` at direction `d` of its ACTIVE Seam `b`, and `t` is `s` with the message gone
from the receiver. -/
structure State.TakesSeam (s t : State) (b d c : Nat) (m : List Byte) : Prop where
  notInStrike : s.inStrike = false
  active : s.seamState b = 3
  whole : m.length = 16
  ctype : leAt m 0 1 = c
  layout : leAt m 1 1 = 16
  taken : t = s.modSeamDir b d fun x => { x with cin := x.cin.erase m }

/-- A well-formed message has the effect of its type once it has left the receiver. -/
theorem State.TakesSeam.seamRow {s t : State} {b d c : Nat} {m : List Byte} {k : State → State} (h : s.TakesSeam t b d c m) :
    s.seamRow b d c m k = k t := by
  rw [State.seamRow, State.live_of_not_inStrike h.notInStrike, if_pos ⟨h.active, h.whole, h.ctype, h.layout⟩, h.taken]

/-- A calibration of `lane` in direction `e` ends with its phase and its voltage (R294, R296): the result is recorded, a good lane takes its
flit lane `f` back, and the next lane is asked for. -/
def State.endSeamCal (t : State) (b e f lane phase vref : Nat) : State :=
  let u := (t.calSeam b e lane phase vref (t.seamLane b e lane).swing).modSeamDir b e fun x => { x with calUse := none, calAsk := none }
  (((if f < 64 ∧ ((u.seam b).bad e).contains lane = false then u.planSeam b e f lane else u).noteSpares b).askCal b e).retryCal b e

section SeamMessages

variable {s t : State} {b : Fin 8} {toBell : Bool} {msg : List Byte}

/-- The loss of a lane that the far receiver reports is recorded, and the sender loses the lane (R292). -/
theorem State.TakesSeam.exec_seamLaneFail (h : s.TakesSeam t b.val (dirOf toBell) 1 msg) (hlane : leAt msg 2 1 ≤ 67) :
    exec (.seamLaneFail b toBell msg) s =
      .next ((t.seamBad b.val (1 - dirOf toBell) [leAt msg 2 1]).loseSeamLane b.val (1 - dirOf toBell) (leAt msg 2 1)) :=
  congrArg Host.Outcome.next (h.seamRow.trans (if_neg (Nat.not_lt.2 hlane)))

/-- A calibration asked for while none is under way moves the lane (R294). -/
theorem State.TakesSeam.exec_seamCalReq (h : s.TakesSeam t b.val (dirOf toBell) 2 msg) (hlane : leAt msg 2 1 ≤ 67)
    (hfree : (t.seamDir b.val (1 - dirOf toBell)).calUse = none) : exec (.seamCalReq b toBell msg) s =
      .next ((t.modSeamDir b.val (1 - dirOf toBell) fun x => { x with calAsk := some (leAt msg 2 1) }).moveForCal
        b.val (1 - dirOf toBell) (leAt msg 2 1)) := by
  have hmay : ¬ (67 < leAt msg 2 1 ∨ (t.seamDir b.val (1 - dirOf toBell)).calUse.isSome = true) := by simp [hfree, hlane]
  exact congrArg Host.Outcome.next (h.seamRow.trans (if_neg hmay))

/-- A calibration reported done is the one under way if it names that lane (R294, R296). -/
theorem State.TakesSeam.exec_seamCalDone {f sp : Nat} (h : s.TakesSeam t b.val (dirOf toBell) 3 msg)
    (huse : (t.seamDir b.val (1 - dirOf toBell)).calUse = some (f, leAt msg 2 1, sp)) : exec (.seamCalDone b toBell msg) s =
      .next (t.endSeamCal b.val (1 - dirOf toBell) f (leAt msg 2 1) (leAt msg 4 2) (leAt msg 6 1)) := by
  change execSeamCalDone b toBell msg s = _
  simp only [execSeamCalDone, h.seamRow, huse, if_true, Bool.not_eq_true']
  rfl

/-- A retrain asked for by the far side has cause FAR (R297). -/
theorem State.TakesSeam.exec_seamRetrainReq (h : s.TakesSeam t b.val (dirOf toBell) 6 msg) :
    exec (.seamRetrainReq b toBell msg) s = .next (t.seamRetrain b.val 5 none) :=
  congrArg Host.Outcome.next h.seamRow

end SeamMessages

/-! Markers (R288, R297), failures of a lane (R292, R297) and calibrations (R295). -/

section SeamLanes

variable {s : State} {b : Fin 8} {toBell : Bool} {lane : Fin 68}

/-- Markers that are due go out. -/
theorem exec_seamMarker {fromBell : Bool} (hs : s.inStrike = false) (hdue : s.seamMarkDue b.val (b2n fromBell) = true) :
    exec (.seamMarker b fromBell) s = .next (s.seamMarkers b.val (b2n fromBell)) := by
  change execSeamMarker b fromBell s = _
  rw [execSeamMarker, State.live_of_not_inStrike hs, if_neg (by simp [hdue])]

/-- A marker word in ALIGN or ACTIVE is judged by its pattern and its CRC. -/
theorem exec_seamMarkerReceive {word : BitVec 64} (hs : s.inStrike = false) (hst : s.seamState b.val = 2 ∨ s.seamState b.val = 3) :
    exec (.seamMarkerReceive b toBell lane word) s =
      .next (if markerWordOk word.toNat then s.seamMarkerGood b.val (dirOf toBell) lane.val word.toNat
        else s.seamMarkerBad b.val (dirOf toBell) lane.val) := by
  have hhears : ¬ (s.seamState b.val ≠ 2 ∧ s.seamState b.val ≠ 3) := by omega
  change execSeamMarkerReceive b toBell lane word s = _
  simp only [execSeamMarkerReceive, State.live_of_not_inStrike hs, if_neg hhears]

/-- A lane found failed is lost in service, and disagrees in ALIGN if it is on the map. -/
theorem exec_seamLaneFailureDetect {cause : Fin 3} (hs : s.inStrike = false) : exec (.seamLaneFailureDetect b toBell lane cause) s =
    .next (if s.seamState b.val = 2 then
        (if (s.seamDir b.val (dirOf toBell)).map.contains lane.val then s.widthFail b.val else s)
      else s.seamLaneFails b.val (dirOf toBell) lane.val cause.val) :=
  congrArg Host.Outcome.next (State.live_of_not_inStrike hs)

/-- The command queues every lane of both directions. -/
theorem exec_seamCalAll (hs : s.inStrike = false) : exec (.seamCalAll b) s =
    .next ([0, 1].foldl (fun t d => (List.range 68).foldl (fun u l => u.queueSeam b.val d l) t) s) :=
  congrArg Host.Outcome.next (State.live_of_not_inStrike hs)

/-- The time-out looks at the waits of both directions. -/
theorem exec_seamCalWaitTimeout (hs : s.inStrike = false) :
    exec (.seamCalWaitTimeout b) s = .next ((s.calWaitLate b.val 0).calWaitLate b.val 1) :=
  congrArg Host.Outcome.next (State.live_of_not_inStrike hs)

/-- A wait of 1 s that has not been reported is reported. -/
theorem State.calWaitLate_of_late {b d t0 : Nat} (hwait : (s.seamDir b d).waitAt = some (t0, false)) (hlate : 1000000000 + t0 ≤ s.now) :
    s.calWaitLate b d = (s.modSeamDir b d fun x => { x with waitAt := some (t0, true) }).seamFault b 3 (le 1 d) := by
  simp only [State.calWaitLate, hwait, if_pos hlate]

end SeamLanes

/-- Settles O28: the markers by their rules, the four messages as rows of the Seam's control channel, a lane's failure by the state of the
link, and the waits of the calibrations. -/
theorem seamLanesKept : Obligations.SeamLanesKept := by
  refine ⟨fun s b fromBell => exec_seamMarker, fun s b toBell lane word => exec_seamMarkerReceive,
    fun s t b toBell msg c hs hact hwhole hc hlayout ht => ?messages, fun s b toBell lane cause hs => ?failure,
    fun s b hs => ⟨exec_seamCalAll hs, exec_seamCalWaitTimeout hs, fun d t0 => State.calWaitLate_of_late⟩⟩
  case messages =>
    have h : s.TakesSeam t b.val (dirOf toBell) c msg := ⟨hs, hact, hwhole, hc, hlayout, ht⟩
    refine ⟨?laneFail, ?calReq, ?calDone, ?retrainReq⟩
    case laneFail => rintro rfl hlane; exact h.exec_seamLaneFail hlane
    case calReq => rintro rfl hlane hfree; exact h.exec_seamCalReq hlane hfree
    case calDone => rintro f sp rfl huse; exact h.exec_seamCalDone huse
    case retrainReq => rintro rfl; exact h.exec_seamRetrainReq
  case failure =>
    rw [exec_seamLaneFailureDetect hs]
    exact ⟨fun hserv => by rw [if_neg hserv], fun halign hmap => by rw [if_pos halign, if_pos hmap]⟩

end Sys2Proof.Machine
end

section
/-!
PROOF. The training of a Seam link: the statement SeamTrains.
-/

namespace Sys2Proof.Machine

open Sys2Proof

/-- The Seam of Bell `b` is DOWN and may train: both its PHY domains are on, the Bell is out of reset, not retired and of good straps, and
the main oscillator is in use (R297). -/
structure State.SeamMayTrain (s : State) (b : Nat) : Prop where
  down : s.seamState b = 0
  ridgeOn : s.dom (20 + b / 2) = 0
  bellOn : s.dom (domBell b 1) = 0
  outOfReset : (s.bell b).inReset = false
  notRetired : (s.bell b).retired = false
  strapsGood : (s.bell b).strapFail = false
  mainClock : s.fastClock = false

section SeamTraining

variable {s : State} {b : Fin 8}

/-- A Seam that may train starts its lane test. -/
theorem State.SeamMayTrain.exec_seamTrainStart (h : s.SeamMayTrain b.val) (hs : s.inStrike = false) :
    exec (.seamTrainStart b) s = .next ((s.setSeamState b.val 1).emit (.prbs b.val)) := by
  change execSeamTrainStart b s = _
  simp only [execSeamTrainStart, State.live_of_not_inStrike hs]
  rw [if_pos ⟨h.down, h.ridgeOn, h.bellOn, by simp [h.outOfReset], by simp [h.notRetired], by simp [h.strapsGood], by simp [h.mainClock]⟩]

/-- The results of the lane test are used 5 µs after it began (R291, R294). -/
theorem exec_seamTestDone {bad0 bad1 : List Nat} (hs : s.inStrike = false) (htest : s.seamState b.val = 1)
    (hdone : (s.seam b.val).since + 5000 ≤ s.now) : exec (.seamTestDone b bad0 bad1) s = .next (s.seamTested b.val bad0 bad1) := by
  have hready : ¬ (s.seamState b.val ≠ 1 ∨ s.now < (s.seam b.val).since + 5000) := by omega
  change execSeamTestDone b bad0 bad1 s = _
  rw [execSeamTestDone, State.live_of_not_inStrike hs, if_neg hready]

/-- In ALIGN, markers that disagree count a width failure, and agreeing ones on every lane make the link ACTIVE (R297). -/
theorem exec_seamAlignDone {agree : Bool} (hs : s.inStrike = false) (halign : s.seamState b.val = 2) : exec (.seamAlignDone b agree) s =
    .next (if agree = false then s.widthFail b.val else if s.seamAligned b.val = true then s.seamUp b.val else s) := by
  have hin : ¬ s.seamState b.val ≠ 2 := fun hn => hn halign
  change execSeamAlignDone b agree s = _
  simp only [execSeamAlignDone, State.live_of_not_inStrike hs, if_neg hin, Bool.not_eq_true']

/-- After 20 µs in ALIGN the lane test starts over (R297). -/
theorem exec_seamAlignTimeout (hs : s.inStrike = false) (halign : s.seamState b.val = 2) (hlate : 20000 + (s.seam b.val).since ≤ s.now) :
    exec (.seamAlignTimeout b) s = .next (s.setSeamState b.val 1) := by
  change execSeamAlignTimeout b s = _
  rw [execSeamAlignTimeout, State.live_of_not_inStrike hs, if_pos ⟨halign, hlate⟩]

/-- A held link retires its Bell, which is not retired yet (R298). -/
theorem exec_seamHeld (hheld : s.seamState b.val = 4) (hbell : (s.bell b.val).retired = false) : exec (.seamHeld b) s =
    .next (((s.seamFault b.val 2 (le 1 (s.fld (R.SEAM_STAT b.val) F.SEAM_STAT_HELD_CAUSE))).retireBell b.val (srcSeam b.val 2)).setFld
      (R.SEAM_B_STAT b.val) F.SEAM_B_STAT_STATE 4) := by
  change execSeamHeld b s = _
  rw [execSeamHeld, if_pos ⟨hheld, by simp [hbell]⟩]

/-- The command retrains with cause COMMAND (R297). -/
theorem exec_seamRetrain (hs : s.inStrike = false) : exec (.seamRetrain b) s = .next (s.seamRetrain b.val 4 none) :=
  congrArg Host.Outcome.next (State.live_of_not_inStrike hs)

end SeamTraining

/-- Settles O29: each clause is the rule of its command; the two of SEAM_ALIGN_DONE are markers that agree and markers that do not. -/
theorem seamTrains : Obligations.SeamTrains := by
  refine ⟨fun s b hs hdown hridge hbell hreset hret hstrap hclock =>
      State.SeamMayTrain.exec_seamTrainStart ⟨hdown, hridge, hbell, hreset, hret, hstrap, hclock⟩ hs,
    fun s b bad0 bad1 => exec_seamTestDone, fun s b hs halign => ⟨fun haligned => ?agree, exec_seamAlignDone hs halign⟩,
    fun s b => exec_seamAlignTimeout, fun s b => exec_seamHeld, fun s b hs => ⟨exec_seamRetrain hs, rfl⟩⟩
  case agree => rw [exec_seamAlignDone hs halign, if_neg nofun, if_pos haligned]

end Sys2Proof.Machine
end

section
/-!
PROOF. The domain crossings, reset and armed again: the statement CrossingsRearm.
-/

namespace Sys2Proof.Machine

open Sys2Proof

/-- A side of crossing `c` that re-arms takes the re-arm message `m` of type `ctype`, and `t` is `s` with the message gone from the
receiver of a Seam and the peer's epoch stored (R301). -/
structure State.TakesRearm (s t : State) (c : Nat) (toDie : Bool) (ctype : Nat) (m : List Byte) : Prop where
  notInStrike : s.inStrike = false
  rearming : s.rearming c = true
  whole : m.length = 16
  ctype : leAt m 0 1 = ctype
  layout : leAt m 1 1 = 16
  epoch : leAt m 2 1 = s.epochOf c (!toDie)
  taken : t = (if c < 8 then s.modSeamDir c (dirOf toDie) (fun x => { x with cin := x.cin.erase m }) else s).modSide c toDie
    fun z => { z with peer := leAt m 2 1 }

/-- A re-arm message of the epoch in force has the effect of its type once the peer's epoch is stored. -/
theorem State.TakesRearm.rearmMsg {s t : State} {c ctype : Nat} {toDie : Bool} {m : List Byte} {k : State → State}
    (h : s.TakesRearm t c toDie ctype m) : s.rearmMsg c toDie ctype m k = k t := by
  rw [State.rearmMsg, State.live_of_not_inStrike h.notInStrike, if_pos ⟨h.rearming, h.whole, h.ctype, h.layout, h.epoch⟩, h.taken]

/-- The side of crossing `c` that a message to the die, or to the Ridge, reaches. -/
def State.rearmSide (t : State) (c : Nat) (toDie : Bool) : CrossSide := if toDie then (t.crossing c).die else (t.crossing c).ridge

section Rearm

variable {s t : State} {c : Fin 16} {toDie : Bool} {msg : List Byte}

/-- A request that shows the peer drained is answered by a drained side, which is then nearer to armed. -/
theorem State.TakesRearm.exec_rearmReq_of_drained (h : s.TakesRearm t c.val toDie 4 msg) (hpeer : bit (leAt msg 4 1) 0 = true)
    (hside : (t.rearmSide c.val toDie).drained = true) : exec (.rearmReq c toDie msg) s = .next
      (((t.modSide c.val toDie fun z => { z with sentAck := true }).sendRearm c.val toDie
        (seamMsg 5 (le 1 ((t.modSide c.val toDie fun z => { z with sentAck := true }).epochOf c.val toDie)
          ++ le 1 (t.rearmSide c.val toDie).peer ++ le 1 1))).armSide c.val toDie) :=
  congrArg Host.Outcome.next (h.rearmMsg.trans (if_pos ⟨hpeer, hside⟩))

/-- A request is not answered while either side is not drained. -/
theorem State.TakesRearm.exec_rearmReq_of_not_drained (h : s.TakesRearm t c.val toDie 4 msg)
    (hnot : bit (leAt msg 4 1) 0 = false ∨ (t.rearmSide c.val toDie).drained = false) : exec (.rearmReq c toDie msg) s = .next t := by
  have hwait : ¬ (bit (leAt msg 4 1) 0 = true ∧ (t.rearmSide c.val toDie).drained = true) := by
    rintro ⟨hpeer, hside⟩
    simp [hpeer, hside] at hnot
  exact congrArg Host.Outcome.next (h.rearmMsg.trans (if_neg hwait))

/-- An acknowledgement brings the side nearer to armed. -/
theorem State.TakesRearm.exec_rearmAck (h : s.TakesRearm t c.val toDie 5 msg) : exec (.rearmAck c toDie msg) s =
    .next ((t.modSide c.val toDie fun z => { z with gotAck := true }).armSide c.val toDie) :=
  congrArg Host.Outcome.next h.rearmMsg

/-- A re-arm that has lasted 1 ms is late. -/
theorem exec_rearmTimeout {t0 : Nat} (hs : s.inStrike = false) (harm : (s.crossing c.val).armAt = some t0)
    (hrearm : s.rearming c.val = true) (hlate : 1000000 + t0 ≤ s.now) : exec (.rearmTimeout c) s = .next (s.rearmLate c.val) := by
  change execRearmTimeout c s = _
  simp only [execRearmTimeout, State.live_of_not_inStrike hs, harm]
  rw [if_pos ⟨hrearm, hlate⟩]

end Rearm

/-- Settles O30: the indication by its two rails, the re-arm messages as rows of the crossing, the late re-arm and the slot's link reset. -/
theorem crossingsRearm : Obligations.CrossingsRearm := by
  refine ⟨fun s c dieSide => ⟨rfl, rfl⟩, ?messages, fun s c t0 => exec_rearmTimeout, fun s k => rfl⟩
  rintro s t c toDie msg _ hs hrearm hwhole hlayout hepoch ht rfl
  have takes {ctype : Nat} (hc : leAt msg 0 1 = ctype) : s.TakesRearm t c.val toDie ctype msg :=
    ⟨hs, hrearm, hwhole, hc, hlayout, hepoch, ht⟩
  exact ⟨fun hreq => (takes hreq).exec_rearmReq_of_drained, fun hreq => (takes hreq).exec_rearmReq_of_not_drained,
    fun hack => (takes hack).exec_rearmAck⟩

end Sys2Proof.Machine
end

section
/-!
PROOF. The slots of the Canopies and third-party dies: the statement SlotsAreAdmitted.
-/

namespace Sys2Proof.Machine

open Sys2Proof

section Slots

variable {s : State} {k : Fin 8}

/-- The discovery of an open slot shows what it found, and admits or refuses the die by the checks (R304, R305). -/
theorem exec_slotDiscovery {modules rate cause : Nat} {good : List Nat} {desc : Option (List Byte)} (hs : s.inStrike = false)
    (hopen : s.slotOpen k.val = true) (hgood : good = ((List.range 4).filter fun m => bit modules m))
    (hcause : cause = slotCause good (s.fld (R.UCI_ADMIT k.val) F.UCI_ADMIT_ALLOW == 1) desc) :
    exec (.slotDiscovery k modules rate desc) s = .next (
      if cause ≠ 0 then (s.slotSeen k.val good rate cause (fit 64 (desc.getD []))).refuseSlot k.val cause
      else (s.slotSeen k.val good rate cause (fit 64 (desc.getD []))).slotAdmit k.val (fit 64 (desc.getD []))) := by
  have hmay : ¬ s.slotOpen k.val = false := by simp [hopen]
  subst hgood hcause
  change execSlotDiscovery k modules rate desc s = _
  simp only [execSlotDiscovery, State.live_of_not_inStrike hs, if_neg hmay]

/-- A module lost in re-arm or in service leaves the others, and the last one refuses the slot (R304). -/
theorem exec_slotModuleLoss {m : Fin 4} {good : List Nat} (hs : s.inStrike = false)
    (hst : s.fld (R.UCI_STAT k.val) F.UCI_STAT_STATE = 3 ∨ s.fld (R.UCI_STAT k.val) F.UCI_STAT_STATE = 4)
    (hon : bit (s.fld (R.UCI_REPAIR k.val) F.UCI_REPAIR_DISABLED) m.val = false)
    (hgood : good = ((List.range 4).filter fun j => !bit (s.fld (R.UCI_REPAIR k.val) F.UCI_REPAIR_DISABLED) j && j != m.val)) :
    exec (.slotModuleLoss k m) s = .next (
      if good.isEmpty then (s.setModules k.val good ((s.slot k.val).occ == .canopy)).refuseSlot k.val 6
      else s.setModules k.val good ((s.slot k.val).occ == .canopy)) := by
  have hlost : ¬ ((s.fld (R.UCI_STAT k.val) F.UCI_STAT_STATE ≠ 3 ∧ s.fld (R.UCI_STAT k.val) F.UCI_STAT_STATE ≠ 4) ∨
      bit (s.fld (R.UCI_REPAIR k.val) F.UCI_REPAIR_DISABLED) m.val = true) := by
    rintro (⟨hn3, hn4⟩ | hoff)
    · exact hst.elim hn3 hn4
    · exact Bool.false_ne_true (hon.symm.trans hoff)
  subst hgood
  change execSlotModuleLoss k m s = _
  simp only [execSlotModuleLoss, State.live_of_not_inStrike hs, if_neg hlost]

/-- A retrain in re-arm restarts it (R302, R311). -/
theorem exec_slotRetrain (hs : s.inStrike = false) (hst : s.fld (R.UCI_STAT k.val) F.UCI_STAT_STATE = 3) :
    exec (.slotRetrain k) s = .next (s.startRearm (8 + k.val)) :=
  congrArg Host.Outcome.next ((State.live_of_not_inStrike hs).trans (if_pos hst))

end Slots

/-- Settles O31: discovery by the cause its checks give, the loss of a module by what is left, and the slot's commands. -/
theorem slotsAreAdmitted : Obligations.SlotsAreAdmitted := by
  refine ⟨fun s k modules rate cause good desc hs hopen hgood hcause => ?discovery, fun s k m good => exec_slotModuleLoss,
    fun s k => exec_slotRetrain, ?allow, fun s k detail => rfl⟩
  case discovery =>
    rw [exec_slotDiscovery hs hopen hgood hcause]
    exact ⟨fun hrefused => by rw [if_pos hrefused], fun hadmitted => by rw [hadmitted]; rfl⟩
  case allow =>
    rintro s _ k rfl
    rfl

end Sys2Proof.Machine
end

section
/-!
PROOF. The instructions of the test access port: the statement TapInstructions.
-/

namespace Sys2Proof.Machine

open Sys2Proof

section TestPort

variable {s : State}

/-- The test lock is open with TEST_MODE high and the signed unlock in force (R308). -/
theorem State.testUnlocked_eq_true_iff : s.testUnlocked = true ↔ s.pins.testMode = true ∧ s.fld R.SEC_STAT F.SEC_STAT_UNLOCK = 1 := by
  simp [State.testUnlocked]

/-- The test lock is shut with TEST_MODE low or without the unlock. -/
theorem State.testUnlocked_eq_false_iff : s.testUnlocked = false ↔ s.pins.testMode = false ∨ s.fld R.SEC_STAT F.SEC_STAT_UNLOCK ≠ 1 := by
  rw [← Bool.not_eq_true, State.testUnlocked_eq_true_iff, Decidable.not_and_iff_not_or_not, Bool.not_eq_true]

/-- With the test lock open, the pins take the levels, hold them, or are let go. -/
theorem exec_tapDrive_of_unlocked {levels : Nat} (hopen : s.testUnlocked = true) :
    exec (.tapExtest levels) s =
      .next { s with tap := { s.tap with ir := .extest, boundary := levels, drive := some levels, hiz := false } } ∧
    exec (.tapClamp levels) s =
      .next { s with tap := { s.tap with ir := .clamp, boundary := levels, drive := some levels, hiz := false } } ∧
    exec .tapHighz s = .next { s with tap := { s.tap with ir := .highz, drive := none, hiz := true } } :=
  ⟨congrArg Host.Outcome.next (if_pos hopen), congrArg Host.Outcome.next (if_pos hopen), congrArg Host.Outcome.next (if_pos hopen)⟩

/-- With the test lock shut, the three instructions that drive the pins select the bypass. -/
theorem exec_tapDrive_of_locked {levels : Nat} {c : Instr} (hshut : s.testUnlocked = false)
    (hc : c = .tapExtest levels ∨ c = .tapClamp levels ∨ c = .tapHighz) : exec c s = .next (s.tapMission .bypass) := by
  have hlocked : ¬ s.testUnlocked = true := by simp [hshut]
  rcases hc with rfl | rfl | rfl <;> exact congrArg Host.Outcome.next (if_neg hlocked)

/-- A segment joins the chain if its unit's may, and the pins are left to the functions (R307). -/
theorem exec_tapSegmentInsert {unit : Fin 16} : exec (.tapSegmentInsert unit) s = .next { s with
    tap := { s.tap with
      ir := .segmentInsert, drive := none, hiz := false,
      segs := if s.segOk unit.val then (List.range 16).filter (fun i => s.tap.segs.contains i || i == unit.val) else s.tap.segs } } := by
  change execTapSegmentInsert unit s = _
  cases hseg : s.segOk unit.val <;> simp only [execTapSegmentInsert, hseg, State.tapMission, if_true, if_false, Bool.false_eq_true]

end TestPort

/-- Settles O32: the mission instructions as they stand, the segment by its unit, and the three that drive the pins by the test lock. -/
theorem tapInstructions : Obligations.TapInstructions := by
  exact ⟨fun s => ⟨rfl, rfl, rfl⟩, fun s preload => rfl, fun s unit => exec_tapSegmentInsert, fun s levels =>
    ⟨fun htest hunlock => exec_tapDrive_of_unlocked (State.testUnlocked_eq_true_iff.2 ⟨htest, hunlock⟩),
      fun hlocked c => exec_tapDrive_of_locked (State.testUnlocked_eq_false_iff.2 hlocked)⟩⟩

end Sys2Proof.Machine
end

section
/-!
PROOF. A step with no command waiting: the statement IdleStepTicks.
-/

namespace Sys2Proof.Machine

open Sys2Proof

/-! The three parts of a tick: the clocks, the load that waits, and the repeated PARAM. -/

/-- Local time and the FTC advance by one, but for a tick gained or lost by slewing (R312, R319). -/
def State.advanceClocks (s : State) : State :=
  if !s.time.counting then { s with now := s.now + 1 }
  else if 0 < s.time.skew then { s with ftc := s.ftc + 1, time := { s.time with skew := s.time.skew - 1 } }
  else if s.time.skew < 0 then { s with now := s.now + 1, time := { s.time with skew := s.time.skew + 1 } }
  else { s with now := s.now + 1, ftc := s.ftc + 1 }

/-- A load that waits takes effect at a slot boundary (R335). -/
def State.loadAtSlot (s : State) : State :=
  if s.time.counting ∧ s.time.loadDue ∧ s.ftc % 128 = 0 then { s with ftc := s.loadValue, time := { s.time with loadDue := false } } else s

/-- PARAM is repeated on every link in PARAM whose time has come, outside Strike (R234). -/
def State.repeatParams (s : State) : State :=
  if s.inStrike then s
  else allLinks.foldl (fun t p => if t.lnk p = 4 ∧ (t.linkNow p - (t.port p).since) % 1000 = 0 ∧ 0 < t.linkNow p - (t.port p).since
    then t.sendParam p else t) s

section Tick

variable {s : State}

theorem State.tick_eq (s : State) : s.tick = s.advanceClocks.loadAtSlot.repeatParams := rfl

@[simp] theorem State.advanceClocks_pending (s : State) : s.advanceClocks.pending = s.pending := by
  unfold State.advanceClocks
  split
  · rfl
  · split
    · rfl
    · split <;> rfl

/-- A stopped FTC leaves local time to advance alone. -/
theorem State.advanceClocks_of_stopped (h : s.time.counting = false) : s.advanceClocks = { s with now := s.now + 1 } :=
  if_pos (by simp [h])

/-- With no tick to gain or lose, local time and the FTC advance together. -/
theorem State.advanceClocks_of_no_skew (h : s.time.counting = true) (hskew : s.time.skew = 0) :
    s.advanceClocks = { s with now := s.now + 1, ftc := s.ftc + 1 } := by
  simp [State.advanceClocks, h, hskew]

@[simp] theorem State.loadAtSlot_pending (s : State) : s.loadAtSlot.pending = s.pending := by
  unfold State.loadAtSlot
  split <;> rfl

/-- Without a load that waits on a counting FTC, nothing is loaded. -/
theorem State.loadAtSlot_of_no_load (h : s.time.counting = false ∨ s.time.loadDue = false) : s.loadAtSlot = s :=
  if_neg fun ⟨hcount, hdue, _⟩ => by simp [hcount, hdue] at h

/-- Repeating PARAM only sends: it keeps every piece of the state. -/
theorem State.repeatParams_follows {K : Piece → Bool} (s : State) : Follows K s s.repeatParams :=
  Follows.ite (Follows.refl s) (foldl_follows (Follows.refl s) fun t _ => Follows.ite (State.sendParam_follows (Follows.refl t)) (Follows.refl t))

@[simp] theorem State.repeatParams_pending (s : State) : s.repeatParams.pending = s.pending :=
  (Prod.mk.inj (Follows.iff.1 (State.repeatParams_follows (K := fun _ => true) s)).1.1).1

@[simp] theorem State.repeatParams_now (s : State) : s.repeatParams.now = s.now :=
  (Prod.mk.inj (Follows.iff.1 (State.repeatParams_follows (K := fun _ => true) s)).1.1).2

@[simp] theorem State.repeatParams_ftc (s : State) : s.repeatParams.ftc = s.ftc :=
  (Follows.iff.1 (State.repeatParams_follows (K := fun _ => true) s)).2 .ftc rfl

@[simp] theorem State.tick_pending (s : State) : s.tick.pending = s.pending := by
  simp [State.tick_eq]

/-- A tick of a counting FTC with nothing to gain, lose or load. -/
theorem State.tick_clocks_of_counting (h : s.time.counting = true) (hskew : s.time.skew = 0) (hload : s.time.loadDue = false) :
    s.tick.now = s.now + 1 ∧ s.tick.ftc = s.ftc + 1 := by
  rw [State.tick_eq, State.advanceClocks_of_no_skew h hskew, State.loadAtSlot_of_no_load]
  · exact ⟨State.repeatParams_now _, State.repeatParams_ftc _⟩
  · exact .inr hload

/-- A tick of a stopped FTC. -/
theorem State.tick_clocks_of_stopped (h : s.time.counting = false) : s.tick.now = s.now + 1 ∧ s.tick.ftc = s.ftc := by
  rw [State.tick_eq, State.advanceClocks_of_stopped h, State.loadAtSlot_of_no_load]
  · exact ⟨State.repeatParams_now _, State.repeatParams_ftc _⟩
  · exact .inl h

/-- With an empty queue a step is a tick. -/
theorem step_of_no_pending (h : s.pending = []) : step s = .next s.tick := by
  rw [step, h]

end Tick

/-- Settles O47: the step is a tick, and the tick moves the clocks as the FTC counts or stands. -/
theorem idleStepTicks : Obligations.IdleStepTicks :=
  fun s hidle => ⟨step_of_no_pending hidle, (State.tick_pending s).trans hidle, State.tick_clocks_of_counting, State.tick_clocks_of_stopped⟩

end Sys2Proof.Machine
end

section
/-!
PROOF. The TIME messages that a port sends and takes: the statement TimeIsExchanged.
-/

namespace Sys2Proof.Machine

open Sys2Proof

/-- A time port's periodic message is due: outside Strike, on a counting FTC, at a tick of its period (R315, R322). -/
structure State.TimeSendDue (s : State) (p period : Nat) : Prop where
  notInStrike : s.inStrike = false
  counting : s.time.counting = true
  port : s.timePort p = true
  fires : s.fires period = true

/-- A TIME message has left the receiver of a time port (R315, R317); `t` is the state after it. -/
structure State.TakesTime (s t : State) (p : Nat) (m : List Byte) : Prop extends s.TakesCbc t p 0x10 m where
  port : t.timePort p = true

/-- When this port sent the SYNC that a SYNC answers; 0 where it is not known (R318). -/
def State.answeredAt (t : State) (p : Nat) (m : List Byte) : Nat := SMap.get (fun _ => 0) (t.tport p).txAt (leAt m 6 1)

/-- A SYNC completes an exchange: both its peer's receive time and this port's send time are known (R318). -/
def State.syncWhole (t : State) (p : Nat) (m : List Byte) : Bool := leAt m 16 8 != 0 && t.answeredAt p m != 0

/-- θ and d_in of the exchange that a SYNC completes (R318). -/
def State.syncExchange (t : State) (p : Nat) (m : List Byte) (rx : Nat) : Int × Int :=
  exchange (leAt m 8 8) rx (t.answeredAt p m) (leAt m 16 8) (t.tport p).asymI

/-- What a SYNC carries is kept for its port (R317, R318). -/
def State.keepSync (t : State) (p : Nat) (m : List Byte) (rx : Nat) : State :=
  t.setTport p ((t.tport p).heard m rx t.ftc (t.syncExchange p m rx).2 (t.syncWhole p m))

section TimeMessages

variable {s t : State} {p : Fin 32} {msg : List Byte} {rx : Nat}

theorem State.TimeSendDue.exec_timeSyncSend (h : s.TimeSendDue p.val 4096) : exec (.timeSyncSend p) s = .next (s.sendSync p.val) := by
  change execTimeSyncSend p s = _
  rw [execTimeSyncSend, State.live_of_not_inStrike h.notInStrike, if_pos ⟨h.counting, h.port, h.fires⟩]

theorem State.TimeSendDue.exec_timeDelaysWallSend (h : s.TimeSendDue p.val 1048576) :
    exec (.timeDelaysWallSend p) s = .next (s.sendDelaysWall p.val) := by
  change execTimeDelaysWallSend p s = _
  rw [execTimeDelaysWallSend, State.live_of_not_inStrike h.notInStrike, if_pos ⟨h.counting, h.port, h.fires⟩]

/-- A SYNC is kept for its port, and a device that is no root follows it (R316 to R319). -/
theorem State.TakesTime.exec_timeSync (h : s.TakesTime t p.val msg) (hsub : leAt msg 4 1 = 0) :
    exec (.timeSync p msg rx) s = .next (if t.ftcState = 5 then t.keepSync p.val msg rx
      else (t.keepSync p.val msg rx).followSync p.val (t.syncExchange p.val msg rx).1 (t.syncWhole p.val msg)) :=
  congrArg Host.Outcome.next (h.cbcRow.trans (if_neg (by simp [h.port, hsub])))

/-- DELAYS on a ring port are kept for the port (R317). -/
theorem State.TakesTime.exec_delaysMsg (h : s.TakesTime t p.val msg) (hsub : leAt msg 4 1 = 1) (hring : t.isRing p.val = true) :
    exec (.delaysMsg p msg) s = .next (t.setTport p.val { t.tport p.val with d0 := leAt msg 8 2, d1 := leAt msg 10 2 }) :=
  congrArg Host.Outcome.next (h.cbcRow.trans (if_pos ⟨h.port, hring, hsub⟩))

/-- WALL from the upstream port sets the wall time of a device that is no root (R314). -/
theorem State.TakesTime.exec_wallMsg (h : s.TakesTime t p.val msg) (hsub : leAt msg 4 1 = 2) (hroot : t.ftcState ≠ 5) (hup : p.val = t.upPort) :
    exec (.wallMsg p msg) s = .next ((t.setPair R.FTC_WALL_LO R.FTC_WALL_HI (leAt msg 8 8)).setFld R.FTC_STAT F.FTC_STAT_WALL_OK 1) :=
  congrArg Host.Outcome.next (h.cbcRow.trans (if_pos ⟨h.port, hsub, hroot, hup⟩))

end TimeMessages

/-- Settles O23: each clause is the rule of its command; the fields of a SYNC are those of the model's `sendSync`, by the FTC state. -/
theorem timeIsExchanged : Obligations.TimeIsExchanged := by
  refine ⟨?sync, ?delaysWall, ?takesSync, fun s t p msg hs hact hc hlen hwhole hres ht hport => ?takesOther⟩
  case sync =>
    rintro s p _ _ _ hs hcount hport hfires rfl rfl rfl
    rw [State.TimeSendDue.exec_timeSyncSend ⟨hs, hcount, hport, hfires⟩, State.sendSync]
    simp only [beq_iff_eq]
  case delaysWall =>
    rintro s _ p hs hcount hport hfires rfl
    exact State.TimeSendDue.exec_timeDelaysWallSend ⟨hs, hcount, hport, hfires⟩
  case takesSync =>
    rintro s t _ p msg rx _ _ hs hact hc hlen hwhole hres hsub ht hport rfl rfl rfl
    exact State.TakesTime.exec_timeSync ⟨⟨hs, hact, hc, hlen, hwhole, hres, ht⟩, hport⟩ hsub
  case takesOther =>
    have h : s.TakesTime t p.val msg := ⟨⟨hs, hact, hc, hlen, hwhole, hres, ht⟩, hport⟩
    exact ⟨h.exec_delaysMsg, h.exec_wallMsg⟩

end Sys2Proof.Machine
end

section
/-!
PROOF. The servo, the time-outs of the FTC state, the start of the FTC and its load: the statement TimeStateMoves.
-/

namespace Sys2Proof.Machine

open Sys2Proof

/-- The servo is due: outside Strike, with an average and an upstream, at a multiple of 65,536 ticks, on a device neither FREE nor the root (R319, R321). -/
structure State.ServoDue (s : State) (th : Int) : Prop where
  notInStrike : s.inStrike = false
  average : s.time.avg = some th
  counting : s.time.counting = true
  period : s.ftc % 65536 = 0
  upstream : s.upPort ≠ 63
  notFree : s.ftcState ≠ 0
  notRoot : s.ftcState ≠ 5

/-- CLK_STAT at the lock of the reference PLL: locked, the reference in force, and whether it is spread (R326, R329). -/
def State.noteLock (s : State) (spread : Bool) : State :=
  ((s.setFld R.CLK_STAT F.CLK_STAT_RPLL_LOCK 1).setFld R.CLK_STAT F.CLK_STAT_SRC s.clk.src).setFld R.CLK_STAT F.CLK_STAT_SPREAD_SEEN (b2n spread)

/-- The FTC starts at the lock, from 0 or, on a root with a load that waits, from the load (R335, R419). -/
def State.startFtc (s : State) (spread : Bool) : State :=
  State.becomeRoot { s.noteLock spread with
    ftc := if s.time.loadDue && s.fld R.FTC_CFG F.FTC_CFG_ROOT == 1 then s.loadValue else 0,
    time := { (s.noteLock spread).time with counting := true, loadDue := false, noUpAt := s.now } }

section TimeState

variable {s : State}

theorem State.ServoDue.exec_servoUpdate {th : Int} (h : s.ServoDue th) : exec .servoUpdate s = .next (s.servo th) := by
  have hacts : ¬ ((!s.time.counting) = true ∨ s.ftc % 65536 ≠ 0 ∨ s.upPort = 63 ∨ s.ftcState = 0 ∨ s.ftcState = 5) := by
    simp [h.counting, h.period, h.upstream, h.notFree, h.notRoot]
  change execServoUpdate s = _
  simp only [execServoUpdate, State.live_of_not_inStrike h.notInStrike, h.average, if_neg hacts]

/-- A device that is no root leaves an upstream that is no longer eligible (R316, R321). -/
theorem exec_upstreamLoss (hs : s.inStrike = false) (hup : s.upPort < 32) (hroot : s.ftcState ≠ 5) (hlost : s.eligible s.upPort = false) :
    exec .upstreamLoss s = .next s.upLost := by
  change execUpstreamLoss s = _
  rw [execUpstreamLoss, State.live_of_not_inStrike hs, if_pos ⟨hup, hroot, by simp [hlost]⟩]

/-- Ten seconds of HOLDOVER end in UNALIGNED, reported (R321). -/
theorem exec_holdoverTimeout (hs : s.inStrike = false) (hhold : s.ftcState = 3) (hlate : 10000000000 + s.time.holdAt ≤ s.now) :
    exec .holdoverTimeout s = .next ((s.setFtcState 4).raise 18 []) := by
  change execHoldoverTimeout s = _
  rw [execHoldoverTimeout, State.live_of_not_inStrike hs, if_pos ⟨hhold, hlate⟩]

/-- One second without an upstream ends ACQUIRE and UNALIGNED in FREE (R321). -/
theorem exec_noUpstreamTimeout (hs : s.inStrike = false) (hst : s.ftcState = 1 ∨ s.ftcState = 4) (hup : s.upPort = 63)
    (hlate : 1000000000 + s.time.noUpAt ≤ s.now) : exec .noUpstreamTimeout s =
      .next (State.setFtcState { s with time := { s.time with tag := none, stepped := false } } 0) := by
  change execNoUpstreamTimeout s = _
  rw [execNoUpstreamTimeout, State.live_of_not_inStrike hs, if_pos ⟨hst, hup, hlate⟩]

/-- The first lock of the reference PLL starts the FTC; spread that CLK_CFG does not allow trips at once (R329, R419). -/
theorem exec_referencePllLock {spread : Bool} (hs : s.inStrike = false) (hstopped : s.time.counting = false) (hrst : s.pins.resetN = true) :
    exec (.referencePllLock spread) s = .next (if spread = true ∧ bit s.clk.cfg 4 = false then (s.startFtc spread).referenceTrip 5 2
      else s.startFtc spread) := by
  have hfirst : ¬ (s.inStrike = true ∨ s.time.counting = true ∨ (!s.pins.resetN) = true) := by simp [hs, hstopped, hrst]
  change execReferencePllLock spread s = _
  rw [execReferencePllLock, if_neg hfirst]
  simp only [Bool.not_eq_true', State.startFtc, State.noteLock]

end TimeState

/-- Settles O24: each clause is the rule of its command; the load and the latch are as the model names them. -/
theorem timeStateMoves : Obligations.TimeStateMoves := by
  refine ⟨fun s th hs havg hcount hperiod hup hfree hroot => State.ServoDue.exec_servoUpdate ⟨hs, havg, hcount, hperiod, hup, hfree, hroot⟩,
    fun s => exec_upstreamLoss, fun s => exec_holdoverTimeout, fun s => exec_noUpstreamTimeout, ?lock, fun s => ⟨rfl, rfl⟩⟩
  rintro s _ spread hs hstopped hrst rfl
  exact exec_referencePllLock hs hstopped hrst

end Sys2Proof.Machine
end

section
/-!
PROOF. The input of the supply and the temperature sensors: the statements InputIsWatched and ThermalsAreWatched.
-/

namespace Sys2Proof.Machine

open Sys2Proof

/-- An input reading as noted, in 10 mV, with the two bits that show it out of its working range (R337). -/
def State.noteInput (s : State) (cv low high : Nat) : State :=
  ((s.setFld R.PWR_IN F.PWR_IN_VIN cv).setFld R.PWR_STAT F.PWR_STAT_VIN_LOW low).setFld R.PWR_STAT F.PWR_STAT_VIN_HIGH high

section Input

variable {s : State} {cv ca : Nat}

/-- An input below 38.0 V fails the power; with none left and no AUX_3V3 the always-on domain goes too (R337, R340). -/
theorem exec_inputUndervoltage (haon : s.pwr.aon = true) (hlow : cv < 3800) : exec (.inputUndervoltage cv) s =
    .next (if cv = 0 ∧ s.fld R.PWR_STAT F.PWR_STAT_AUX = 0 then ((s.powerFail 1 cv 0).setFld R.PWR_IN F.PWR_IN_VIN cv).aonLost
      else (s.powerFail 1 cv 0).setFld R.PWR_IN F.PWR_IN_VIN cv) := by
  change execInputUndervoltage cv s = _
  rw [execInputUndervoltage, if_pos ⟨hlow, haon⟩]

/-- An input within the absolute maximum ratings: above 63.0 V it fails the power, else nothing happens (R337, R340). -/
theorem exec_inputOvervoltage_within_ratings (hmax : cv ≤ 7200) : exec (.inputOvervoltage cv) s =
    .next (if 6300 < cv ∧ s.pwr.aon = true then (s.powerFail 2 cv 0).setFld R.PWR_IN F.PWR_IN_VIN cv else s) := by
  change execInputOvervoltage cv s = _
  rw [execInputOvervoltage, if_neg (Nat.not_lt.2 hmax)]

/-- An input above 72.0 V is beyond the absolute maximum ratings (R337, R432). -/
theorem exec_inputOvervoltage_beyond_ratings (hmax : 7200 < cv) : exec (.inputOvervoltage cv) s = .fault .absoluteMaximum := by
  change execInputOvervoltage cv s = _
  rw [execInputOvervoltage, if_pos hmax]

/-- Without a power fail, the warning follows the input: raised from 38 to 40 V and from 60 to 63 V, lowered between (R337). -/
theorem exec_inputOutOfRange (haon : s.pwr.aon = true) (hup : s.pwr.failed = false) : exec (.inputOutOfRange cv) s =
    .next (if 3800 ≤ cv ∧ cv < 4000 then (s.noteInput cv 1 0).raise 7 (le 2 cv)
      else if 6000 < cv ∧ cv ≤ 6300 then (s.noteInput cv 0 1).raise 7 (le 2 cv)
      else if 4000 ≤ cv ∧ cv ≤ 6000 then (s.noteInput cv 0 0).lower 7
      else s) := by
  change execInputOutOfRange cv s = _
  rw [execInputOutOfRange, if_neg (by simp [haon]), if_neg (by simp [hup])]
  rfl

/-- During a power fail an input is noted and no more. -/
theorem exec_inputOutOfRange_of_failed (haon : s.pwr.aon = true) (hfail : s.pwr.failed = true) :
    exec (.inputOutOfRange cv) s = .next (s.setFld R.PWR_IN F.PWR_IN_VIN cv) := by
  change execInputOutOfRange cv s = _
  rw [execInputOutOfRange, if_neg (by simp [haon]), if_pos hfail]

/-- More than 55.0 A fails the power (R338, R340). -/
theorem exec_inputOvercurrent (haon : s.pwr.aon = true) (hover : 5500 < ca) :
    exec (.inputOvercurrent cv ca) s = .next (s.powerFail 3 cv ca) := by
  change execInputOvercurrent cv ca s = _
  rw [execInputOvercurrent, if_pos ⟨hover, haon⟩]

/-- One of the four causes of R340 fails the power. -/
theorem exec_powerFail {cause : Fin 8} (haon : s.pwr.aon = true) (hfirst : 1 ≤ cause.val) (hlast : cause.val ≤ 4) :
    exec (.powerFail cause cv ca) s = .next (s.powerFail cause.val cv ca) := by
  change execPowerFail cause cv ca s = _
  rw [execPowerFail, if_pos ⟨hfirst, hlast, haon⟩]

/-- An input back between 40.5 and 59.5 V ends the power fail by a power-on reset (R337). -/
theorem exec_inputQualified (haon : s.pwr.aon = true) (hfail : s.pwr.failed = true) (hlow : 4050 ≤ cv) (hhigh : cv ≤ 5950) :
    exec (.inputQualified cv) s =
      .next (State.powerOnReset { s.noteInput cv 0 0 with pwr := { (s.noteInput cv 0 0).pwr with failed := false } } 4) := by
  change execInputQualified cv s = _
  rw [execInputQualified, if_pos ⟨haon, hfail, hlow, hhigh⟩]
  rfl

/-- AUX_3V3 as it changes; its loss during a power fail with no input left takes the always-on domain (R340, R435). -/
theorem exec_auxPowerChange {on : Bool} (haon : s.pwr.aon = true) : exec (.auxPowerChange on) s =
    .next (if (!on) = true ∧ s.pwr.failed = true ∧ s.fld R.PWR_IN F.PWR_IN_VIN = 0 then (s.setFld R.PWR_STAT F.PWR_STAT_AUX (b2n on)).aonLost
      else s.setFld R.PWR_STAT F.PWR_STAT_AUX (b2n on)) := by
  change execAuxPowerChange on s = _
  rw [execAuxPowerChange, if_neg (by simp [haon])]

end Input

/-- Settles O35: each clause is the rule of its command. -/
theorem inputIsWatched : Obligations.InputIsWatched := by
  refine ⟨?under, fun s cv haon => ⟨fun hover hmax => ?_, exec_inputOvervoltage_beyond_ratings⟩, ?range, fun s cv => exec_inputOutOfRange_of_failed,
    fun s cv ca => exec_inputOvercurrent, fun s cause cv ca => exec_powerFail, ?restored, ?aux⟩
  case under =>
    rintro s _ cv haon hlow rfl
    rw [exec_inputUndervoltage haon hlow]
    refine ⟨fun hpowered => ?_, fun hgone hnoAux => by rw [if_pos ⟨hgone, hnoAux⟩]⟩
    rw [if_neg fun hlost => hpowered.elim (· hlost.1) (· hlost.2)]
  · rw [exec_inputOvervoltage_within_ratings hmax, if_pos ⟨hover, haon⟩]
  case range =>
    rintro s cv _ haon hup rfl
    rw [exec_inputOutOfRange haon hup]
    refine ⟨fun hlow hlow' => ?_, fun hhigh hhigh' => ?_, fun hin hin' => ?_⟩
    · rw [if_pos ⟨hlow, hlow'⟩]; rfl
    · rw [if_neg (by omega), if_pos ⟨hhigh, hhigh'⟩]; rfl
    · rw [if_neg (by omega), if_neg (by omega), if_pos ⟨hin, hin'⟩]; rfl
  case restored =>
    rintro s _ cv haon hfail hlow hhigh rfl
    exact exec_inputQualified haon hfail hlow hhigh
  case aux =>
    intro s on haon
    rw [exec_auxPowerChange haon]
    refine ⟨fun hkept => ?_, ?_⟩
    · have hnotLost : ¬ ((!on) = true ∧ s.pwr.failed = true ∧ s.fld R.PWR_IN F.PWR_IN_VIN = 0) := by
        rintro ⟨hoff, hfail, hnone⟩
        rcases hkept with rfl | hup | hleft
        · exact absurd hoff Bool.false_ne_true
        · exact Bool.false_ne_true (hup.symm.trans hfail)
        · exact hleft hnone
      rw [if_neg hnotLost]
    · rintro rfl hfail hnone
      rw [if_pos ⟨rfl, hfail, hnone⟩]
      rfl

section Thermals

variable {s : State}

/-- A reading out of range, or a broken sensor, marks the sensor bad; any other reading is kept (R348, R349). -/
theorem exec_sensorSample {i : Fin 608} {reading : Int} {fail : Fin 3} (hread : s.dieRead (sensorDie i.val) = true) :
    exec (.sensorSample i reading fail) s =
      .next (if fail.val ≠ 0 ∨ reading < -80 ∨ 560 < reading then s.badSample i.val fail.val else s.goodSample i.val reading) := by
  change execSensorSample i reading fail s = _
  rw [execSensorSample, if_neg (by simp [hread])]

/-- A throttled region that has been cool for 10 ms leaves throttling (R351). -/
theorem exec_throttleStep_cool {region : Fin 17} {t : Nat} (hs : s.inStrike = false) (hon : (s.region region.val).on = true)
    (hcool : (s.region region.val).coolAt = some t) (hlong : 10000000 + t ≤ s.now) :
    exec (.throttleStep region) s = .next (s.leaveThrottle region.val) := by
  change execThrottleStep region s = _
  rw [execThrottleStep, State.live_of_not_inStrike hs, if_pos hon, if_pos (by simp [hcool, hlong])]

/-- A throttled region that is not cool steps its limit down one point each 1 ms, and notes since when it is 0; the Ridge, region 0, has no operating point to limit (R351). -/
theorem exec_throttleStep_down {region : Fin 17} (hs : s.inStrike = false) (hon : (s.region region.val).on = true)
    (hhot : (s.region region.val).coolAt = none) (hlimited : region.val ≠ 0) (hdue : 1000000 + (s.region region.val).stepAt ≤ s.now) :
    exec (.throttleStep region) s = .next ((s.setRegionLim region.val (s.regionLim region.val - 1)).setRegion region.val { (s.region region.val) with
      stepAt := s.now, zeroAt := if s.regionLim region.val - 1 = 0 then some ((s.region region.val).zeroAt.getD s.now) else none }) := by
  have hsteps : ¬ (region.val = 0 ∨ s.now < 1000000 + (s.region region.val).stepAt) := by omega
  change execThrottleStep region s = _
  rw [execThrottleStep, State.live_of_not_inStrike hs, if_pos hon, if_neg (by simp [hhot]), if_neg hsteps]

/-- The limit of a region that is not throttled rises one point each 10 ms until it is 5 (R351). -/
theorem exec_throttleStep_up {region : Fin 17} (hs : s.inStrike = false) (hoff : (s.region region.val).on = false)
    (hlow : s.regionLim region.val < 5) (hdue : 10000000 + (s.region region.val).stepAt ≤ s.now) :
    exec (.throttleStep region) s =
      .next ((s.setRegionLim region.val (s.regionLim region.val + 1)).setRegion region.val { (s.region region.val) with stepAt := s.now }) := by
  change execThrottleStep region s = _
  rw [execThrottleStep, State.live_of_not_inStrike hs, if_neg (by simp [hoff]), if_pos ⟨hlow, hdue⟩]

/-- A cross-check runs for the die written (R350). -/
theorem exec_thmXcheck {die : Fin 17} (haon : s.pwr.aon = true) :
    exec (.thmXcheck die) s = .next ((s.setFld R.THM_XCHECK F.THM_XCHECK_DIE die.val).thmXcheck die.val) := by
  change execThmXcheck die s = _
  rw [execThmXcheck, if_pos haon]

/-- A release gives its result; granted, it clears the latch and resets the device (R353). -/
theorem exec_thmRelease (haon : s.pwr.aon = true) : exec .thmRelease s =
    .next (if s.releaseResult = 1 then ((s.setFld R.THM_RELEASE F.THM_RELEASE_RESULT s.releaseResult).setReg R.THM_LATCH 0).pinReset 2
      else s.setFld R.THM_RELEASE F.THM_RELEASE_RESULT s.releaseResult) := by
  change execThmRelease s = _
  rw [execThmRelease, if_pos haon, State.thmRelease]

end Thermals

/-- Settles O37: each clause is the rule of its command; THROTTLE_STEP has three, by the state of its region. -/
theorem thermalsAreWatched : Obligations.ThermalsAreWatched := by
  refine ⟨?sample, fun s region hs => ⟨fun t => exec_throttleStep_cool hs, exec_throttleStep_down hs, exec_throttleStep_up hs⟩,
    fun s die => exec_thmXcheck, fun s haon => ⟨fun hrefused => ?_, fun hgranted => ?_⟩⟩
  case sample =>
    intro s i reading fail hread
    rw [exec_sensorSample hread]
    exact ⟨fun hbad => by rw [if_pos hbad], fun hok hlow hhigh => by rw [if_neg (by omega)]⟩
  · rw [exec_thmRelease haon, if_neg hrefused]
  · rw [exec_thmRelease haon, if_pos hgranted, hgranted]

end Sys2Proof.Machine
end

section
/-!
PROOF. Every command answers a next state but an input beyond the absolute maximum ratings: the statement OnlyRatingsStop.
-/

namespace Sys2Proof.Machine

open Sys2Proof

/-- The outcome is a next state. -/
def Answers (o : Host.Outcome State Fault Refusal) : Prop := ∃ t, o = .next t

theorem Answers.next (t : State) : Answers (.next t) := ⟨t, rfl⟩

/-! The commands whose meaning branches before it names a state: fun_cases gives the branches of each, and each branch ends in a next state. -/

section BellCommands

variable {s : State} {b : Fin 8} {run stream seq : Nat}

theorem execDramInitDone_answers : Answers (execDramInitDone b s) := by
  fun_cases execDramInitDone b s <;> exact Answers.next _

theorem execBankRefresh_answers {die : Fin 4} {bse : Fin 64} {bank : Fin 16} : Answers (execBankRefresh b die bse bank s) := by
  fun_cases execBankRefresh b die bse bank s <;> exact Answers.next _

theorem execScrubStep_answers {ups : List Upset} : Answers (execScrubStep b ups s) := by
  fun_cases execScrubStep b ups s <;> exact Answers.next _

theorem execRunLaunchAtBell_answers : Answers (execRunLaunchAtBell b stream seq s) := by
  fun_cases execRunLaunchAtBell b stream seq s <;> exact Answers.next _

theorem execRunQueueEntryFree_answers : Answers (execRunQueueEntryFree b s) := by
  fun_cases execRunQueueEntryFree b s <;> exact Answers.next _

theorem execDescriptorFetch_answers {storeErr : Bool} : Answers (execDescriptorFetch b run storeErr s) := by
  fun_cases execDescriptorFetch b run storeErr s <;> exact Answers.next _

theorem execDescriptorComplete_answers : Answers (execDescriptorComplete b run s) := by
  fun_cases execDescriptorComplete b run s <;> exact Answers.next _

theorem execOpSync_answers : Answers (execOpSync b run s) := by
  fun_cases execOpSync b run s <;> exact Answers.next _

end BellCommands

section OrderAndLinkCommands

variable {s : State} {stream seq idx : Nat}

theorem execCollectiveStall_answers : Answers (execCollectiveStall idx s) := by
  fun_cases execCollectiveStall idx s <;> exact Answers.next _

theorem execLaunchTickReached_answers {o : DueOrder} : Answers (execLaunchTickReached stream o s) := by
  fun_cases execLaunchTickReached stream o s <;> exact Answers.next _

theorem execRunComplete_answers : Answers (execRunComplete stream seq s) := by
  fun_cases execRunComplete stream seq s <;> exact Answers.next _

theorem execCommitCopyDone_answers : Answers (execCommitCopyDone stream s) := by
  fun_cases execCommitCopyDone stream s <;> exact Answers.next _

theorem execMirrorTimeout_answers : Answers (execMirrorTimeout idx s) := by
  fun_cases execMirrorTimeout idx s <;> exact Answers.next _

theorem execJournalRelease_answers : Answers (execJournalRelease idx s) := by
  fun_cases execJournalRelease idx s <;> exact Answers.next _

theorem execCompletionSend_answers {hctx : Nat} : Answers (execCompletionSend stream hctx s) := by
  fun_cases execCompletionSend stream hctx s <;> exact Answers.next _

/-- Ports and Seams each have their own interval. -/
theorem execFlitInterval_answers {link : LinkId} {readErr : Bool} : Answers (execFlitInterval link readErr s) := by
  fun_cases execFlitInterval link readErr s <;> exact Answers.next _

end OrderAndLinkCommands

section FaultCommands

variable {s : State} {b : Bool}

theorem execFaultReport_answers {src : Fin 512} {equal readBackFails : Bool} : Answers (execFaultReport src equal readBackFails s) := by
  fun_cases execFaultReport src equal readBackFails s <;> exact Answers.next _

theorem execStrikeRecordWrite_answers {faultN outputs dark flaps : Option Nat} : Answers (execStrikeRecordWrite faultN outputs dark flaps s) := by
  fun_cases execStrikeRecordWrite faultN outputs dark flaps s <;> exact Answers.next _

theorem execStrikeCommand_answers {key : BitVec 32} : Answers (execStrikeCommand key s) := by
  fun_cases execStrikeCommand key s <;> exact Answers.next _

theorem execPoleGiveUp_answers {cause : Fin 8} {cycle : Nat} {otherToo : Bool} : Answers (execPoleGiveUp b cause cycle otherToo s) := by
  fun_cases execPoleGiveUp b cause cycle otherToo s <;> exact Answers.next _

theorem execPoleSelfTestDone_answers {pass : Bool} : Answers (execPoleSelfTestDone b pass s) := by
  fun_cases execPoleSelfTestDone b pass s <;> exact Answers.next _

theorem execPoleResyncDone_answers : Answers (execPoleResyncDone b s) := by
  fun_cases execPoleResyncDone b s <;> exact Answers.next _

theorem execPoleDivergence_answers : Answers (execPoleDivergence s) := by
  fun_cases execPoleDivergence s <;> exact Answers.next _

end FaultCommands

/-- Every command but INPUT_OVERVOLTAGE answers. The meaning of most is one next state, whatever the state is; the others answer in each of their cases. -/
theorem exec_answers {c : Instr} {s : State} (hc : ∀ cv, c ≠ .inputOvervoltage cv) : Answers (exec c s) := by
  unfold exec
  cases c with
  | inputOvervoltage cv => exact absurd rfl (hc cv)
  | dramInitDone => exact execDramInitDone_answers
  | bankRefresh => exact execBankRefresh_answers
  | scrubStep => exact execScrubStep_answers
  | runLaunchAtBell => exact execRunLaunchAtBell_answers
  | runQueueEntryFree => exact execRunQueueEntryFree_answers
  | descriptorFetch => exact execDescriptorFetch_answers
  | descriptorComplete => exact execDescriptorComplete_answers
  | opSync => exact execOpSync_answers
  | collectiveStall => exact execCollectiveStall_answers
  | launchTickReached => exact execLaunchTickReached_answers
  | runComplete => exact execRunComplete_answers
  | commitCopyDone => exact execCommitCopyDone_answers
  | mirrorTimeout => exact execMirrorTimeout_answers
  | journalRelease => exact execJournalRelease_answers
  | completionSend => exact execCompletionSend_answers
  | flitInterval => exact execFlitInterval_answers
  | faultReport => exact execFaultReport_answers
  | strikeRecordWrite => exact execStrikeRecordWrite_answers
  | strikeCommand => exact execStrikeCommand_answers
  | poleGiveUp => exact execPoleGiveUp_answers
  | poleSelfTestDone => exact execPoleSelfTestDone_answers
  | poleResyncDone => exact execPoleResyncDone_answers
  | poleDivergence => exact execPoleDivergence_answers
  | _ => exact Answers.next _

/-- Settles O52: an input above 72 V is the one case that does not answer. -/
theorem onlyRatingsStop : Obligations.OnlyRatingsStop := by
  intro c s
  by_cases hc : ∃ cv, c = .inputOvervoltage cv
  case neg => exact .inl (exec_answers (not_exists.1 hc))
  case pos =>
    obtain ⟨cv, rfl⟩ := hc
    rcases Nat.lt_or_ge 7200 cv with hbeyond | hwithin
    · exact .inr ⟨cv, rfl, hbeyond, exec_inputOvervoltage_beyond_ratings hbeyond⟩
    · exact .inl ⟨_, exec_inputOvervoltage_within_ratings hwithin⟩

end Sys2Proof.Machine
end

section
/-!
PROOF. What every step of the machine keeps: the statements StepRunsTheFront, CommandsKeepTheirFrame, EveryStepKeepsSound and LevelsNeverFall.
-/

namespace Sys2Proof.Machine

open Sys2Proof

/-! One command: what it answers comes after the state before it, in every piece that it may not change. -/

section Steps

variable {K : Piece → Bool} {s t : State} {c : Instr}

/-- A step with a command in front runs that command on the rest of the queue. -/
theorem step_of_pending (c : Instr) (rest : List Instr) : step { s with pending := c :: rest } = exec c { s with pending := rest } := rfl

/-- The state that a command answers comes after the state before it. -/
theorem follows_of_exec (hK : ∀ p ∈ mayChange c, K p = false) (h : exec c s = .next t) : Follows K s t := by
  have hout := exec_follows c s hK
  rwa [h] at hout

/-! A tick moves the clocks, and then only sends. -/

/-- The clocks' own part of a tick touches local time, the FTC and the time unit only. -/
theorem State.clocks_of_tick (s : State) : ∃ now ftc time, s.advanceClocks.loadAtSlot = { s with now := now, ftc := ftc, time := time } := by
  have hload : ∀ u : State, ∃ ftc time, u.loadAtSlot = { u with ftc := ftc, time := time } := by
    intro u
    unfold State.loadAtSlot
    split
    · exact ⟨_, _, rfl⟩
    · exact ⟨_, _, rfl⟩
  have hadvance : ∃ now ftc time, s.advanceClocks = { s with now := now, ftc := ftc, time := time } := by
    unfold State.advanceClocks
    split
    · exact ⟨_, _, _, rfl⟩
    · split
      · exact ⟨_, _, _, rfl⟩
      · split <;> exact ⟨_, _, _, rfl⟩
  obtain ⟨now, ftc, time, hu⟩ := hadvance
  obtain ⟨ftc', time', hv⟩ := hload s.advanceClocks
  exact ⟨now, ftc', time', by rw [hv, hu]⟩

/-- What a step answers comes after the state before it, but for the queue and the clocks: a tick moves the clocks, and a command is taken from the queue. -/
theorem follows_of_step (h : step s = .next t) :
    ∃ pending now ftc time, Follows (fun _ => false) { s with pending := pending, now := now, ftc := ftc, time := time } t := by
  cases hq : s.pending with
  | nil =>
    rw [step_of_no_pending hq] at h
    obtain ⟨now, ftc, time, hclocks⟩ := s.clocks_of_tick
    cases h
    exact ⟨s.pending, now, ftc, time, by rw [State.tick_eq, hclocks]; exact State.repeatParams_follows _⟩
  | cons c rest =>
    rw [step, hq] at h
    exact ⟨rest, s.now, s.ftc, s.time, follows_of_exec (fun _ _ => rfl) h⟩

/-- A state that comes after a sound one is sound. -/
theorem Follows.sound (h : Follows K s t) (hs : s.Sound) : t.Sound := by
  obtain ⟨⟨_, _, hfuses, hregs, hmem, hevents, hpinned⟩, _⟩ := Follows.iff.1 h
  obtain ⟨⟨hm, hr⟩, ⟨hp, he⟩, hf⟩ := hs
  exact ⟨⟨hmem hm, hregs hr⟩, ⟨hpinned hp, hevents he⟩, hfuses hf⟩

/-- In a state that comes after another no fused level is lower. -/
theorem Follows.notBelow (h : Follows K s t) : Fuses.NotBelow s.fuses t.fuses := by
  obtain ⟨⟨_, hfuses, _⟩, _⟩ := Follows.iff.1 h
  exact hfuses

end Steps

/-- Settles O46: the queue's front is the command that the step runs. -/
theorem stepRunsTheFront : Obligations.StepRunsTheFront := fun _ => step_of_pending

/-- Settles O49: what a step answers comes after a state that differs from the sound one in the queue and the clocks, of which soundness does not speak. -/
theorem everyStepKeepsSound : Obligations.EveryStepKeepsSound := by
  intro s t hs h
  obtain ⟨pending, now, ftc, time, hfollows⟩ := follows_of_step h
  exact hfollows.sound hs

/-- Settles O50: what a step answers comes after a state with the same fuses. -/
theorem levelsNeverFall : Obligations.LevelsNeverFall := by
  intro s t h
  obtain ⟨pending, now, ftc, time, hfollows⟩ := follows_of_step h
  exact hfollows.notBelow

/-- Settles O51: the relation of every command is asked for exactly the pieces that the table does not give it. -/
theorem commandsKeepTheirFrame : Obligations.CommandsKeepTheirFrame := by
  intro c s t h
  have hfollows : Follows (fun p => decide (p ∉ mayChange c)) s t := follows_of_exec (fun p hp => by simp [hp]) h
  obtain ⟨⟨hqueue, _⟩, hsame⟩ := Follows.iff.1 hfollows
  obtain ⟨hpending, hnow⟩ := Prod.mk.inj hqueue
  exact ⟨hpending, hnow, fun p hp => hsame p (decide_eq_true hp)⟩

end Sys2Proof.Machine
end

section
/-!
PROOF. The state right after reset, and the severities of the fault sources: the statements ResetIsSound and SeveritiesAreConfigured.
-/

namespace Sys2Proof.Machine

open Sys2Proof

/-! The register at the foot of a page of 4 KiB: LNK_STAT and SEAM_STAT are such, whatever their number, and above the block ID_ the four lowest bits of each
reset to 0. -/

section PageFoot

variable {a : Nat}

/-- The word that a register's fields hold at reset. -/
def RegInfo.word (i : RegInfo) : Word := i.fields.foldl (fun w f => w ||| BitVec.ofNat 32 (f.rst <<< f.lo)) 0

theorem resetWord_of_regInfo {i : RegInfo} (h : regInfo? a = some i) : resetWord a = i.word := by
  simp only [resetWord, h, RegInfo.word]

theorem resetWord_of_unassigned (h : regInfo? a = none) : resetWord a = 0 := by
  simp only [resetWord, h]

/-- The register that a control address names stands in its block's table. -/
theorem mem_blockRegs_of_regInfo {i : RegInfo} (h : regInfo? a = some i) : ∃ b n off, blockOf a = some (b, n, off) ∧ (off, i) ∈ blockRegs b := by
  unfold regInfo? at h
  split at h
  · cases h
  next b n off hb =>
    split at h
    · cases h
    · obtain ⟨l, m, hl, _⟩ := List.lookup_eq_some_iff.1 h
      exact ⟨b, n, off, hb, by simp [hl]⟩

/-- The foot of a page above ID_ lies at the foot of a page of its block's window, which is not ID_. -/
theorem blockOf_foot {b : Blk} {n off : Nat} (ha : 0x10000 ≤ a) (hfoot : a % 0x1000 = 0) (h : blockOf a = some (b, n, off)) :
    b ≠ .id ∧ off % 0x1000 = 0 := by
  unfold blockOf at h
  split at h
  · split at h
    next hid => exact absurd hid (by omega)
    all_goals
      cases h
      exact ⟨nofun, by omega⟩
  · repeat' split at h
    all_goals cases h
    all_goals exact ⟨nofun, by omega⟩

/-- Outside ID_, the registers that a block has at the foot of a page reset to 0 in their four lowest bits. -/
theorem word_of_blockRegs_foot {b : Blk} (hb : b ≠ .id) : ∀ e ∈ blockRegs b, e.1 % 0x1000 = 0 → fget e.2.word ⟨3, 0⟩ = 0 := by
  cases b with
  | id => exact absurd rfl hb
  | _ => decide

theorem fget_resetWord_foot (ha : 0x10000 ≤ a) (hfoot : a % 0x1000 = 0) : fget (resetWord a) ⟨3, 0⟩ = 0 := by
  cases hi : regInfo? a with
  | none => rw [resetWord_of_unassigned hi]; rfl
  | some i =>
    obtain ⟨b, n, off, hblock, hmem⟩ := mem_blockRegs_of_regInfo hi
    obtain ⟨hb, hoff⟩ := blockOf_foot ha hfoot hblock
    rw [resetWord_of_regInfo hi]
    exact word_of_blockRegs_foot hb (off, i) hmem hoff

end PageFoot

/-! The state right after reset. -/

/-- Every register reads its reset value. -/
theorem State.reset_reg (a : Nat) : State.reset.reg a = resetWord a := rfl

theorem State.reset_lnk (p : Nat) : State.reset.lnk p = 0 := fget_resetWord_foot (by simp only [R.LNK_STAT]; omega) (by simp only [R.LNK_STAT]; omega)

theorem State.reset_seamState (b : Nat) : State.reset.seamState b = 0 := by
  have hfoot : fget (resetWord (R.SEAM_STAT b)) ⟨3, 0⟩ = 0 := fget_resetWord_foot (by simp only [R.SEAM_STAT]; omega) (by simp only [R.SEAM_STAT]; omega)
  change fget (resetWord (R.SEAM_STAT b)) ⟨2, 0⟩ = 0
  simp only [fget] at hfoot ⊢
  omega

/-- Nothing is listed, recorded, queued or fused at reset. -/
theorem State.reset_sound : State.reset.Sound :=
  ⟨⟨State.reset_mem_wf, rfl⟩, ⟨Nat.zero_le _, Nat.zero_le _⟩, ⟨Nat.zero_le _, Nat.zero_le _, Nat.zero_le _⟩⟩

/-- Settles O48: the maps and lists of the state are empty, and the registers hold their reset values. -/
theorem resetIsSound : Obligations.ResetIsSound :=
  ⟨State.reset_sound, rfl, rfl, rfl, by decide, by decide, by decide, State.reset_lnk, State.reset_seamState, State.reset_reg⟩

/-! The severities of the fault sources (R361). -/

section Severities

variable {s : State} {i : Nat}

theorem State.sevCfg_of_active (h : s.active = true) : s.sevCfg i = s.img.severity i := if_pos h

theorem State.sevCfg_of_not_active (h : s.active = false) : s.sevCfg i = 1 := if_neg (by simp [h])

/-- The sources of R361 whose severity is forced. -/
theorem forced_iff : forced i = true ↔ i = 0 ∨ i = 6 ∨ i = 10 ∨ i = 14 ∨ i = 28 ∨ i = 30 := by
  simp [forced]

theorem State.sevOf_of_forced (h : forced i = true) : s.sevOf i = 4 := if_pos h

end Severities

/-- Settles O60: the configured severity by whether an image is in force, and the forced ones by the list of R361. -/
theorem severitiesAreConfigured : Obligations.SeveritiesAreConfigured :=
  fun _ _ => ⟨State.sevCfg_of_active, State.sevCfg_of_not_active, fun h => State.sevOf_of_forced (forced_iff.2 h)⟩

end Sys2Proof.Machine
end

section
/-!
PROOF. The entry into Strike, its record, and the commands of the Twin poles: the statement PolesAndStrike.
-/

namespace Sys2Proof.Machine

open Sys2Proof

/-! Strike (R370, R371). -/

section Strike

variable {s : State} {x : StrikeSt}

theorem exec_strikeCommand_of_key : exec (.strikeCommand 0x5354524B) s = .next ((s.pulse 30 []).enterStrike 30 0xFFFF) := rfl

theorem exec_strikeCommand_of_other_key {key : BitVec 32} (hkey : key ≠ 0x5354524B) : exec (.strikeCommand key) s = .next s := by
  change execStrikeCommand key s = _
  rw [execStrikeCommand, if_neg hkey]

/-- The four times measured in one go complete a Strike of which no step has a time yet, and its record is written. -/
theorem exec_strikeRecordWrite_of_all {a b c d : Nat} (hstrike : s.flt.strike = some x) (hnone : x.steps = []) :
    exec (.strikeRecordWrite (some a) (some b) (some c) (some d)) s =
      .next (State.strikeRecord { s with flt := { s.flt with strike := some { x with steps := [some a, some b, some c, some d] } } }) := by
  change execStrikeRecordWrite _ _ _ _ s = _
  rw [execStrikeRecordWrite, hstrike]
  simp [hnone, List.range_succ]

end Strike

/-! The Twin poles (R375 to R379). -/

section Poles

variable {s t : State} {b : Bool} {cause : Fin 8} {cycle : Nat}

/-- A pole's diagnosis of itself, as the collector is told of it (R375). -/
def State.poleReport (s : State) (b : Bool) (cause : Fin 8) (cycle : Nat) : State :=
  s.pulse (if b then 3 else 2) (le 1 (b2n b) ++ le 1 cause.val ++ le 2 0 ++ le 8 cycle)

/-- Outside Strike, the pole that serves or stands by may diagnose itself. -/
theorem State.pole_serves (hs : s.inStrike = false) (hin : s.poleOf b = .active ∨ s.poleOf b = .standby) :
    ¬ (s.inStrike = true ∨ (s.poleOf b ≠ .active ∧ s.poleOf b ≠ .standby)) := by
  rintro (h | ⟨hactive, hstandby⟩)
  · simp [hs] at h
  · exact hin.elim hactive hstandby

/-- An active pole that gives up for the first or second time within the hour hands over to its standby (R376, R377). -/
theorem exec_poleGiveUp_of_standby (hs : s.inStrike = false) (hactive : s.poleOf b = .active) (ht : s.poleReport b cause cycle = t)
    (hstandby : t.stbyOk = true) (hfew : (t.noteGiveUp b).2 < 3) :
    exec (.poleGiveUp b cause cycle false) s = .next ((t.noteGiveUp b).1.switchPole cause.val cycle) := by
  subst ht
  have hfew' : ¬ 3 ≤ ((s.poleReport b cause cycle).noteGiveUp b).2 := by omega
  rw [State.poleReport] at hstandby hfew'
  change execPoleGiveUp b cause cycle false s = _
  simp only [execPoleGiveUp, if_neg (State.pole_serves hs (.inl hactive)), Bool.false_eq_true, if_false, if_pos hactive, hstandby, if_true, if_neg hfew',
    State.poleReport]

/-- Two poles that give up together leave none: the device enters Strike (R379). -/
theorem exec_poleGiveUp_of_both (hs : s.inStrike = false) (hin : s.poleOf b = .active ∨ s.poleOf b = .standby) :
    exec (.poleGiveUp b cause cycle true) s = .next ((s.poleReport b cause cycle).enterStrike (if b then 3 else 2) 0xFFFF) := by
  change execPoleGiveUp b cause cycle true s = _
  simp only [execPoleGiveUp, if_neg (State.pole_serves hs hin), if_true, State.poleReport]

theorem exec_poleSelfTestDone_of_pass (htest : s.poleOf b = .test) (hs : s.inStrike = false) : exec (.poleSelfTestDone b true) s =
    .next { (s.setPole b .resync) with pole := { (s.setPole b .resync).pole with syncFrom := s.now, diverged := false } } := by
  change execPoleSelfTestDone b true s = _
  rw [execPoleSelfTestDone, if_pos ⟨htest, by simp [hs]⟩, if_pos rfl]

theorem exec_poleSelfTestDone_of_fail (htest : s.poleOf b = .test) (hs : s.inStrike = false) :
    exec (.poleSelfTestDone b false) s = .next (s.failPole b) := by
  change execPoleSelfTestDone b false s = _
  rw [execPoleSelfTestDone, if_pos ⟨htest, by simp [hs]⟩, if_neg nofun]

/-- A resynchronised pole is the standby; how long it took is kept, and recorded with whether a divergence had begun it (R377, R378). -/
theorem exec_poleResyncDone (hsync : s.poleOf b = .resync) (hs : s.inStrike = false) : exec (.poleResyncDone b) s =
    .next (((s.setPole b .standby).setFld R.WSQ_RESYNC_US F.WSQ_RESYNC_US_US (min ((s.now - s.pole.syncFrom) / 1000) 65535)).dryEvent 7 0
      (le 1 (b2n b) ++ le 1 (b2n (!s.pole.diverged)) ++ le 2 0 ++ le 4 ((s.now - s.pole.syncFrom) / 1000))) := by
  change execPoleResyncDone b s = _
  rw [execPoleResyncDone, if_pos ⟨hsync, by simp [hs]⟩]

/-- A standby that diverges resynchronises from now on, is counted, and reported under source 4 (R378). -/
theorem exec_poleDivergence (hok : s.stbyOk = true) (hs : s.inStrike = false)
    (ht : t = (s.setPole (!s.pole.b) .resync).addFld R.WSQ_SWITCH_CNT F.WSQ_SWITCH_CNT_DIVERGE 1) : exec .poleDivergence s =
      .next (State.pulse { t with pole := { (s.setPole (!s.pole.b) .resync).pole with syncFrom := s.now, diverged := true } } 4 []) := by
  subst ht
  change execPoleDivergence s = _
  rw [execPoleDivergence, if_pos ⟨hok, by simp [hs]⟩]
  rfl

theorem exec_poleSwitch (hok : s.stbyOk = true) (hs : s.inStrike = false) : exec .poleSwitch s = .next (s.switchPole 6 0) := by
  change execPoleSwitch s = _
  rw [execPoleSwitch, State.plannedSwitch, if_pos ⟨hok, by simp [hs]⟩]

end Poles

/-- Settles O5: each clause is the rule of its command. -/
theorem polesAndStrike : Obligations.PolesAndStrike :=
  ⟨⟨fun _ => exec_strikeCommand_of_key, fun _ _ => exec_strikeCommand_of_other_key, fun _ _ _ _ _ _ => exec_strikeRecordWrite_of_all⟩,
    fun _ _ _ _ hs hactive => exec_poleGiveUp_of_standby hs hactive rfl,
    fun _ _ _ _ => exec_poleGiveUp_of_both,
    fun _ _ htest hs => ⟨exec_poleSelfTestDone_of_pass htest hs, exec_poleSelfTestDone_of_fail htest hs⟩,
    fun _ _ => exec_poleResyncDone,
    fun _ hok hs => ⟨exec_poleDivergence hok hs rfl, exec_poleSwitch hok hs⟩⟩

end Sys2Proof.Machine
end

section
/-!
PROOF. The reports of the fault sources and their acknowledgement: the statement ReportsAndAcknowledgements.
-/

namespace Sys2Proof.Machine

open Sys2Proof

section Collector

variable {s : State} {i : Nat}

/-- A report that the collector takes, whose record reads back, is the sample of its pair; source 0 passes here only with a wire fault (R358, R369). -/
theorem exec_faultReport {src : Fin 512} {eq : Bool} (hsrc : reservedSource src.val = false) (hzero : src.val ≠ 0 ∨ eq = true) :
    exec (.faultReport src eq false) s = .next (s.samplePair src.val eq) := by
  have hsample : ¬ (src.val = 0 ∧ (!eq) = true) := by
    rintro ⟨h0, heq⟩
    simp [h0] at hzero
    simp [hzero] at heq
  change execFaultReport src eq false s = _
  simp only [execFaultReport, hsrc, Bool.false_eq_true, if_false, if_neg hsample, false_and]

/-- A source whose pair is active is not acknowledged (R364). -/
theorem State.ackSource_of_active (hactive : (s.pair i).active = true) : s.ackSource i = s := by
  simp [State.ackSource, hactive]

/-- A pending source whose pair is inactive, with no wire fault and no degrade action in effect, is only taken out of FLT_PEND (R364). -/
theorem State.ackSource_of_inactive (hpend : (s.pair i).pend = true) (hactive : (s.pair i).active = false) (hwire : (s.pair i).wire = false)
    (hdegr : (s.pair i).degr = false) (hcap : (s.pair i).savedCap = none) :
    s.ackSource i = s.setPairSt i { s.pair i with pend := false, degr := false, savedCap := none } := by
  simp [State.ackSource, hpend, hactive, hwire, hdegr, hcap]

theorem exec_faultAck {src : Fin 512} : exec (.faultAck src) s = .next (s.ackSource src.val) := rfl

end Collector

/-- Settles O26: a report by the rule of its command, an acknowledgement by the state of its pair. -/
theorem reportsAndAcknowledgements : Obligations.ReportsAndAcknowledgements := by
  refine ⟨fun s i eq => exec_faultReport, fun s i hactive => ?active, fun s i hpend hactive hwire hdegr hcap => ?inactive, fun _ => rfl, fun _ _ => rfl, fun _ => rfl⟩
  case active => rw [exec_faultAck, State.ackSource_of_active hactive]
  case inactive => rw [exec_faultAck, State.ackSource_of_inactive hpend hactive hwire hdegr hcap]

end Sys2Proof.Machine
end

section
/-!
PROOF. A field of a register read back, and what a record of the Dry bag leaves: the facts that the statement CommitsFollowTheTable needs, and that statement.
-/

namespace Sys2Proof.Machine

open Sys2Proof

/-! A field put into a word, or into a register, reads back (R14). -/

section Fields

variable {s : State} {a v : Nat} {f : Fld}

/-- Bits [hi:lo] of a number are those of its low 32 bits. -/
theorem mod_word_div_mod {n lo w : Nat} (h : lo + w ≤ 32) : n % 2 ^ 32 / 2 ^ lo % 2 ^ w = n / 2 ^ lo % 2 ^ w := by
  have hsplit : 2 ^ 32 = 2 ^ lo * (2 ^ w * 2 ^ (32 - (lo + w))) := by
    rw [← pow_add, ← pow_add]
    congr 1
    omega
  rw [hsplit, Nat.mod_mul_right_div_self, Nat.mod_mul_right_mod]

/-- A field put into a word reads back, modulo its width. -/
theorem fget_fset (hlo : f.lo ≤ f.hi) (hhi : f.hi < 32) (w : Word) : fget (fset w f v) f = v % 2 ^ (f.hi + 1 - f.lo) := by
  have hwidth : 2 ^ (f.hi + 1) = 2 ^ f.lo * 2 ^ (f.hi + 1 - f.lo) := by
    rw [← pow_add]
    congr 1
    omega
  have hlow : w.toNat % 2 ^ f.lo / 2 ^ f.lo = 0 := Nat.div_eq_of_lt (Nat.mod_lt _ (by positivity))
  have hcut : (w.toNat / 2 ^ (f.hi + 1) * 2 ^ (f.hi + 1) + v % 2 ^ (f.hi + 1 - f.lo) * 2 ^ f.lo + w.toNat % 2 ^ f.lo) / 2 ^ f.lo =
      v % 2 ^ (f.hi + 1 - f.lo) + 2 ^ (f.hi + 1 - f.lo) * (w.toNat / 2 ^ (f.hi + 1)) := by
    rw [show w.toNat / 2 ^ (f.hi + 1) * 2 ^ (f.hi + 1) + v % 2 ^ (f.hi + 1 - f.lo) * 2 ^ f.lo + w.toNat % 2 ^ f.lo =
      w.toNat % 2 ^ f.lo + 2 ^ f.lo * (v % 2 ^ (f.hi + 1 - f.lo) + 2 ^ (f.hi + 1 - f.lo) * (w.toNat / 2 ^ (f.hi + 1))) by rw [hwidth]; ring,
      Nat.add_mul_div_left _ _ (by positivity), hlow, Nat.zero_add]
  rw [fget, fset, BitVec.toNat_ofNat, mod_word_div_mod (by omega), hcut, Nat.add_mul_mod_self_left, Nat.mod_mod]

/-- A map reads back an entry put in, in whatever order its keys stand. -/
theorem SMap.get_ins_some {α : Type} (d : Nat → α) (m : SMap α) (k : Nat) (v : α) : SMap.get d (SMap.ins m k (some v)) k = v := by
  induction m with
  | nil => simp [SMap.ins, SMap.get]
  | cons e t ih =>
    obtain ⟨j, w⟩ := e
    simp only [SMap.ins]
    split
    · simp [SMap.get]
    · split
      · simp [SMap.get]
      · next hne => simpa [SMap.get, Ne.symm hne] using ih

/-- A register set to another word than its reset value reads back. -/
theorem State.reg_setReg_of_ne {w : Word} (hw : w ≠ resetWord a) : (s.setReg a w).reg a = w := by
  rw [State.reg, State.setReg_regs, SMap.set, if_neg hw]
  exact SMap.get_ins_some _ _ _ _

/-- A field set to another value than it has at reset reads back. -/
theorem State.fld_setFld_of_ne (hlo : f.lo ≤ f.hi) (hhi : f.hi < 32) (hv : v % 2 ^ (f.hi + 1 - f.lo) ≠ fget (resetWord a) f) :
    (s.setFld a f v).fld a f = v % 2 ^ (f.hi + 1 - f.lo) := by
  have hget : fget (fset (s.reg a) f v) f = v % 2 ^ (f.hi + 1 - f.lo) := fget_fset hlo hhi _
  have hne : fset (s.reg a) f v ≠ resetWord a := fun h => hv (by rw [← hget, h])
  rw [State.fld, State.setFld, State.reg_setReg_of_ne hne, hget]

theorem State.reg_setFld_ne {b : Nat} (hb : b ≠ a) : (s.setFld a f v).reg b = s.reg b := State.reg_setReg_ne _ _ _ _ hb

end Fields

/-! A record of the Dry bag (R389, R391): it fuses nothing and leaves every register but its own three. -/

section Records

variable {s : State} {a : Nat}

/-- The registers that the write of a record moves on. -/
def dryRegs : List Nat := [R.DRY_STAT, R.DRY_HEAD, R.DRY_SEQ]

theorem State.dryPlace_reg {r : DryRec} (ha : a ∉ dryRegs) : (s.dryPlace r).reg a = s.reg a := by
  simp only [dryRegs, List.mem_cons, List.not_mem_nil, or_false, not_or] at ha
  obtain ⟨hstat, hhead, hseq⟩ := ha
  simp only [State.dryPlace]
  split
  · split <;> simp only [State.reg_setFld_ne hstat] <;> rfl
  · split <;> simp only [State.reg_setFld_ne hstat, State.reg_setFld_ne hhead] <;> rfl

theorem State.dryEvent_reg {type die : Nat} {detail : List Byte} (ha : a ∉ dryRegs) : (s.dryEvent type die detail).reg a = s.reg a := by
  have hseq : a ≠ R.DRY_SEQ := fun h => ha (by simp [dryRegs, h])
  rw [State.dryEvent, State.dryWrite]
  split
  · rw [State.dryPlace_reg ha, State.reg_setReg_ne _ _ _ _ hseq]
  · rfl

theorem State.dryEvent_fld {type die : Nat} {detail : List Byte} {f : Fld} (ha : a ∉ dryRegs) : (s.dryEvent type die detail).fld a f = s.fld a f := by
  rw [State.fld, State.dryEvent_reg ha, State.fld]

@[simp] theorem State.dryEvent_fuses (s : State) (type die : Nat) (detail : List Byte) : (s.dryEvent type die detail).fuses = s.fuses := by
  have h : Follows (fun p => decide (p = .fuses)) s (s.dryEvent type die detail) := State.dryEvent_follows (by decide) (Follows.refl s)
  exact (Follows.iff.1 h).2 .fuses rfl

end Records

/-! The commits of the fused levels (R410). -/

section Commits

variable {s t : State} {k : Level} {fails : Bool}

theorem State.level_congr (h : s.fuses = t.fuses) : s.level k = t.level k := by
  cases k <;> simp only [State.level, h]

theorem State.level_setLevel (v : Nat) : (s.setLevel k v).level k = v := by
  cases k <;> rfl

/-- The fuses that a commit programs: the new level, or where they do not read back the steps before the one that failed. -/
def State.program (s : State) (k : Level) (fails : Bool) : State :=
  if s.commitRes k fails = 1 then s.setLevel k (s.nextLevel k)
  else if s.commitRes k fails = 6 then
    (s.freshNat.2.setLevel k (s.level k + s.freshNat.1 % (s.nextLevel k - s.level k))).pulse 31 (le 1 k.code)
  else s

theorem State.commit_eq : s.commit k fails = ((s.program k fails).setFld R.SEC_STAT F.SEC_STAT_COMMIT_RES (s.commitRes k fails)).dryEvent 0x0102 0
    (le 1 k.code ++ le 1 (s.level k) ++ le 1 (s.nextLevel k) ++ le 1 (s.commitRes k fails)) := rfl

@[simp] theorem State.commit_fuses : (s.commit k fails).fuses = (s.program k fails).fuses := by
  rw [State.commit_eq, State.dryEvent_fuses, State.setFld_fuses]

theorem State.commit_level : (s.commit k fails).level k = (s.program k fails).level k := State.level_congr State.commit_fuses

/-- SEC_STAT.COMMIT_RES shows how a commit ended. -/
theorem State.commit_fld (hres : s.commitRes k fails % 8 ≠ 0) :
    (s.commit k fails).fld R.SEC_STAT F.SEC_STAT_COMMIT_RES = s.commitRes k fails % 8 := by
  rw [State.commit_eq, State.dryEvent_fld (by decide)]
  exact State.fld_setFld_of_ne (by decide) (by decide) hres

/-! The rows of the table, in their order. -/

theorem State.commitRes_of_barred (hbar : s.levelBar k ≠ 0) : s.commitRes k fails = s.levelBar k := if_pos hbar

theorem State.commitRes_of_not_higher (hbar : s.levelBar k = 0) (hle : s.nextLevel k ≤ s.level k) : s.commitRes k fails = 2 := by
  rw [State.commitRes, if_neg (not_not.2 hbar), if_pos hle]

theorem State.commitRes_of_out_of_range (hbar : s.levelBar k = 0) (hlt : s.level k < s.nextLevel k) (hmax : 64 < s.nextLevel k) :
    s.commitRes k fails = 3 := by
  rw [State.commitRes, if_neg (not_not.2 hbar), if_neg (Nat.not_le.2 hlt), if_pos hmax]

theorem State.commitRes_of_programmed (hbar : s.levelBar k = 0) (hlt : s.level k < s.nextLevel k) (hmax : s.nextLevel k ≤ 64) :
    s.commitRes k fails = if fails then 6 else 1 := by
  rw [State.commitRes, if_neg (not_not.2 hbar), if_neg (Nat.not_le.2 hlt), if_neg (Nat.not_lt.2 hmax)]

/-- A bar is NOT_CONFIRMED or NO_IMAGE. -/
theorem State.levelBar_of_ne_zero (hbar : s.levelBar k ≠ 0) : s.levelBar k = 4 ∨ s.levelBar k = 5 := by
  unfold State.levelBar at hbar ⊢
  cases k with
  | fw => exact .inl (if_neg fun h => hbar (if_pos h))
  | pit => exact .inr (if_neg fun h => hbar (if_pos h))
  | cert => exact .inr (if_neg fun h => hbar (if_pos h))

/-- Only results 1 and 6 program a fuse. -/
theorem State.program_of_refused (h1 : s.commitRes k fails ≠ 1) (h6 : s.commitRes k fails ≠ 6) : s.program k fails = s := by
  rw [State.program, if_neg h1, if_neg h6]

theorem State.level_program_of_done (h1 : s.commitRes k fails = 1) : (s.program k fails).level k = s.nextLevel k := by
  rw [State.program, if_pos h1, State.level_setLevel]

/-- Where the fuses do not read back, the level stays below the new one. -/
theorem State.level_program_of_fuse_fail (h6 : s.commitRes k fails = 6) (hlt : s.level k < s.nextLevel k) :
    s.level k ≤ (s.program k fails).level k ∧ (s.program k fails).level k < s.nextLevel k := by
  have hlevel : (s.program k fails).level k = s.level k + s.freshNat.1 % (s.nextLevel k - s.level k) := by
    rw [State.program, if_neg (by omega), if_pos h6, State.level_congr (State.pulse_fuses _ _ _), State.level_setLevel]
  have hstep : s.freshNat.1 % (s.nextLevel k - s.level k) < s.nextLevel k - s.level k := Nat.mod_lt _ (by omega)
  omega

theorem State.levelBar_fw_eq_zero_iff : s.levelBar .fw = 0 ↔ ∃ b, s.sec.running = some b ∧ s.fwSlot b = .confirmed := by
  cases hr : s.sec.running with
  | none => simp [State.levelBar, hr]
  | some b => simp [State.levelBar, hr]

theorem State.levelBar_pit_eq_zero_iff : s.levelBar .pit = 0 ↔ s.active = true := by
  simp [State.levelBar]

theorem exec_lvlCommit (haon : s.pwr.aon = true) : exec (.fwLvlCommit fails) s = .next (s.commit .fw fails) ∧
    exec (.pitLvlCommit fails) s = .next (s.commit .pit fails) ∧ exec (.certLvlCommit fails) s = .next (s.commit .cert fails) :=
  ⟨congrArg _ (if_pos haon), congrArg _ (if_pos haon), congrArg _ (if_pos haon)⟩

end Commits

/-- Settles O39: the result by the row of the table that applies, and the fuses by what that result programs. -/
theorem commitsFollowTheTable : Obligations.CommitsFollowTheTable := by
  refine ⟨fun s fails => exec_lvlCommit, fun s k fails => ⟨fun hbar => ?barred, fun hbar hle => ?notHigher, fun hbar hlt hmax => ?range, ?done, ?fuseFail⟩,
    fun s => ⟨State.levelBar_fw_eq_zero_iff, State.levelBar_pit_eq_zero_iff⟩⟩
  case barred =>
    have hres : s.commitRes k fails = s.levelBar k := State.commitRes_of_barred hbar
    have hcode := State.levelBar_of_ne_zero hbar
    exact ⟨hres, by rw [State.commit_fuses, State.program_of_refused (by omega) (by omega)]⟩
  case notHigher =>
    have hres : s.commitRes k fails = 2 := State.commitRes_of_not_higher hbar hle
    exact ⟨hres, by rw [State.commit_fuses, State.program_of_refused (by omega) (by omega)]⟩
  case range =>
    have hres : s.commitRes k fails = 3 := State.commitRes_of_out_of_range hbar hlt hmax
    exact ⟨hres, by rw [State.commit_fuses, State.program_of_refused (by omega) (by omega)]⟩
  case done =>
    rintro hbar hlt hmax rfl
    have hres : s.commitRes k false = 1 := State.commitRes_of_programmed hbar hlt hmax
    exact ⟨by rw [State.commit_level, State.level_program_of_done hres], by rw [State.commit_fld (by omega), hres]⟩
  case fuseFail =>
    rintro hbar hlt hmax rfl
    rw [State.commit_level]
    exact State.level_program_of_fuse_fail (State.commitRes_of_programmed hbar hlt hmax) hlt

end Sys2Proof.Machine
end

section
/-!
PROOF. The Dry bag's commands, the firmware update, the binding and the test lock: the statement FirmwareAndLocks.
-/

namespace Sys2Proof.Machine

open Sys2Proof

/-! The Dry bag and the firmware slots (R396, R406, R408). -/

section Firmware

variable {s t : State} {u : FwUpd}

theorem exec_confirm (haon : s.pwr.aon = true) : exec .confirm s = .next s.confirmFw := congrArg _ (if_pos haon)

theorem exec_abandon (haon : s.pwr.aon = true) : exec .abandon s = .next s.abandonFw := congrArg _ (if_pos haon)

theorem exec_erasePinned (haon : s.pwr.aon = true) : exec .erasePinned s = .next s.erasePinned := congrArg _ (if_pos haon)

theorem exec_eraseRing (haon : s.pwr.aon = true) : exec .eraseRing s = .next s.eraseRing := congrArg _ (if_pos haon)

theorem exec_dryDataRead (haon : s.pwr.aon = true) : exec .dryDataRead s = .next (s.readDry.2.emit (.word s.readDry.1)) := congrArg _ (if_pos haon)

/-- An update starts while none is in progress and its image fits the slot. -/
theorem exec_firmwareUpdate_start {len : Nat} (haon : s.pwr.aon = true) (hnone : s.sec.upd = none) (hlen : len ≤ 0xF00000) :
    exec (.firmwareUpdate (.start len)) s = .next (s.fwStart len) := by
  have hfits : ¬ (s.sec.upd.isSome = true ∨ 0xF00000 < len) := by
    rintro (h | h)
    · simp [hnone] at h
    · omega
  change execFirmwareUpdate (.start len) s = _
  simp only [execFirmwareUpdate, haon, Bool.not_true, Bool.false_eq_true, if_false, if_neg hfits]

theorem exec_firmwareUpdate_data {off : Nat} {bytes : List Byte} (haon : s.pwr.aon = true) (hupd : s.sec.upd = some u) :
    exec (.firmwareUpdate (.data off bytes)) s = .next (s.fwData u off bytes) := by
  change execFirmwareUpdate (.data off bytes) s = _
  simp only [execFirmwareUpdate, haon, Bool.not_true, Bool.false_eq_true, if_false, hupd, Option.elim_some]

/-- The bytes that follow those received are written, and the next asked for. -/
theorem State.fwData_of_next {off : Nat} {bytes : List Byte} (ht : t = s.writeRaw (fwBase u.slotB + off) bytes) (hoff : off = u.got)
    (hfit : off + bytes.length ≤ u.len) :
    s.fwData u off bytes = State.fwRequest { t with sec := { t.sec with upd := some { u with got := off + bytes.length } } } := by
  rw [State.fwData, if_pos ⟨hoff, hfit⟩, ht]

/-- Bytes out of turn, or beyond the length announced, are dropped. -/
theorem State.fwData_of_other {off : Nat} {bytes : List Byte} (h : off ≠ u.got ∨ u.len < off + bytes.length) : s.fwData u off bytes = s :=
  if_neg fun ⟨hoff, hfit⟩ => h.elim (fun hne => hne hoff) fun hlt => absurd hfit (Nat.not_le.2 hlt)

theorem exec_firmwareUpdate_complete (haon : s.pwr.aon = true) (hupd : s.sec.upd = some u) :
    exec (.firmwareUpdate .complete) s = .next (s.fwComplete u) := by
  change execFirmwareUpdate .complete s = _
  simp only [execFirmwareUpdate, haon, Bool.not_true, Bool.false_eq_true, if_false, hupd, Option.elim_some]

/-- A whole image that passes every check is PENDING; any other ends the update without one (R406, R408). -/
theorem State.fwComplete_eq : s.fwComplete u = if u.got = u.len ∧ s.fwCheck u.slotB false = none then
    ((State.setFwSlot { s with sec := { s.sec with upd := none } } u.slotB .pending).updateRecord u.slotB 0).fwSend 0x17 (le 1 0)
    else s.updateFails.fwSend 0x17 (le 1 1) := by
  rw [State.fwComplete]
  simp only [Option.isNone_iff_eq_none]

theorem exec_firmwareUpdate_cancel (haon : s.pwr.aon = true) : exec (.firmwareUpdate .cancel) s = .next s.updateFails := by
  change execFirmwareUpdate .cancel s = _
  simp only [execFirmwareUpdate, haon, Bool.not_true, Bool.false_eq_true, if_false]

end Firmware

/-! Binding and the test lock (R414, R415), outside ROM recovery. -/

section Locks

variable {s t u : State} {cert token : List Byte}

/-- The Guy line's locks are served: the always-on domain is powered, and firmware runs. -/
theorem State.locks_served (haon : s.pwr.aon = true) (hfw : s.recovery = false) : ¬ (!s.pwr.aon || s.recovery) = true := by
  simp [haon, hfw]

theorem exec_guyBind_of_length (haon : s.pwr.aon = true) (hfw : s.recovery = false) (hlen : cert.length ≠ 224) :
    exec (.guyBind cert) s = .next (s.answer 5 9 []) := by
  change execGuyBind cert s = _
  rw [execGuyBind, if_neg (State.locks_served haon hfw), if_pos hlen]

/-- A binding refused: reported under source 31 and recorded. -/
def State.bindRefused (s : State) (cert : List Byte) : State := (s.pulse 31 (le 1 5)).dryEvent 0x0103 0 (le 8 (certKey cert) ++ le 1 0)

/-- An unbound device takes the KEY_ID of a customer root that the root key has signed. -/
theorem exec_guyBind_of_unbound (haon : s.pwr.aon = true) (hfw : s.recovery = false) (hlen : cert.length = 224) (hbound : s.fuses.bound = false)
    (hu : u = s.bindRefused cert) : exec (.guyBind cert) s = .next (
      if bit (leAt cert 4 1) 0 = true ∧ leAt cert 16 8 = Config.rootKeyId ∧ certOk Config.rootKey cert = true then
        (State.dryEvent { s with fuses := { s.fuses with bound := true, bindId := certKey cert } } 0x0103 0 (le 8 (certKey cert) ++ le 1 1)).answer 5 0 []
      else (u.freshBytes 1).2.answer 5 (leNat (u.freshBytes 1).1) []) := by
  subst hu
  change execGuyBind cert s = _
  rw [execGuyBind, if_neg (State.locks_served haon hfw), if_neg (not_not.2 hlen)]
  simp only [hbound, Bool.not_false, true_and]
  rfl

/-- A bound device takes no other binding. -/
theorem exec_guyBind_of_bound (haon : s.pwr.aon = true) (hfw : s.recovery = false) (hlen : cert.length = 224) (hbound : s.fuses.bound = true)
    (hu : u = s.bindRefused cert) : exec (.guyBind cert) s = .next ((u.freshBytes 1).2.answer 5 (leNat (u.freshBytes 1).1) []) := by
  subst hu
  change execGuyBind cert s = _
  rw [execGuyBind, if_neg (State.locks_served haon hfw), if_neg (not_not.2 hlen), if_neg (by simp [hbound])]
  rfl

theorem exec_guyUnlockNonce (haon : s.pwr.aon = true) (hfw : s.recovery = false) : exec .guyUnlockNonce s =
    .next (State.answer { (s.freshBytes 32).2 with sec := { (s.freshBytes 32).2.sec with nonce := some (s.freshBytes 32).1 } } 6 0 (s.freshBytes 32).1) := by
  change execGuyUnlockNonce s = _
  rw [execGuyUnlockNonce, if_neg (State.locks_served haon hfw)]

/-- An attempt on the test lock: the nonce is used up and the attempt recorded, and a token that is accepted unlocks. -/
theorem exec_guyUnlock {testMode : Bool} (haon : s.pwr.aon = true) (hfw : s.recovery = false) (hlen : token.length = 200)
    (ht : t = { s with pins := { s.pins with testMode := testMode } })
    (hu : u = State.dryEvent { t with sec := { t.sec with nonce := none } } 0x0104 0 (le 1 (b2n (t.tokenOk token)) ++ le 1 (b2n testMode))) :
    exec (.guyUnlock token testMode) s = .next (
      if t.tokenOk token = true then ((u.setFld R.SEC_STAT F.SEC_STAT_UNLOCK 1).setFld R.FLT_STAT F.FLT_STAT_TEST 1).answer 7 0 []
      else ((u.pulse 31 (le 1 7)).freshBytes 1).2.answer 7 (leNat ((u.pulse 31 (le 1 7)).freshBytes 1).1) []) := by
  subst ht hu
  exact congrArg Host.Outcome.next ((if_neg (State.locks_served haon hfw)).trans (if_neg (not_not.2 hlen)))

end Locks

/-- Settles O40: each clause is the rule of its command. -/
theorem firmwareAndLocks : Obligations.FirmwareAndLocks := by
  refine ⟨fun s haon => ⟨exec_confirm haon, exec_abandon haon, exec_erasePinned haon, exec_eraseRing haon, exec_dryDataRead haon⟩,
    fun s len haon hnone hlen => exec_firmwareUpdate_start haon hnone hlen,
    fun s u off bytes haon hupd => ⟨fun hoff hfit => ?next, fun hother => ?other, ?complete, exec_firmwareUpdate_cancel haon⟩,
    fun s cert haon hfw => ⟨exec_guyBind_of_length haon hfw, fun u hlen hbound => exec_guyBind_of_unbound haon hfw hlen hbound,
      fun u hlen hbound => exec_guyBind_of_bound haon hfw hlen hbound⟩,
    fun s => exec_guyUnlockNonce, fun s t u token testMode => exec_guyUnlock⟩
  case next => rw [exec_firmwareUpdate_data haon hupd, State.fwData_of_next rfl hoff hfit]
  case other => rw [exec_firmwareUpdate_data haon hupd, State.fwData_of_other hother]
  case complete => rw [exec_firmwareUpdate_complete haon hupd, State.fwComplete_eq]

end Sys2Proof.Machine
end

section
/-!
PROOF. The watch over ring units, their declared loss, the reload and the adoption: the statement LossIsHandled.
-/

namespace Sys2Proof.Machine

open Sys2Proof

/-! The probes of the buddy and the predecessor (R381). -/

section Probes

variable {s : State}

theorem exec_buddyProbe (hs : s.inStrike = false) (hprobes : s.probes = true)
    (hdue : s.loss.probeAt.all (fun t => decide (100000 + t ≤ s.now)) = true) :
    exec .buddyProbe s = .next (s.probed.foldl State.probe { s with loss := { s.loss with probeAt := some s.now } }) := by
  change execBuddyProbe s = _
  rw [execBuddyProbe, State.live_of_not_inStrike hs, if_pos ⟨hprobes, hdue⟩]

/-- A device that no probe of its has reached for 1.5 ms isolates itself: source 28, and Strike. -/
theorem exec_ringIsolation (hs : s.inStrike = false) (hprobes : s.probes = true) (harmed : s.loss.armed = true)
    (hlate : 1500000 + max s.loss.lastProbe s.loss.countFrom ≤ s.now) :
    exec .ringIsolation s = .next ((s.pulse 28 []).enterStrike 28 0xFFFF) := by
  change execRingIsolation s = _
  rw [execRingIsolation, State.live_of_not_inStrike hs, if_pos ⟨hprobes, harmed, hlate⟩]

end Probes

/-! The loss of a unit (R380, R382). -/

section Losses

variable {s : State} {src : Entry} {data : BitVec 32}

theorem exec_lostUnitWrite_of_pole (hs : s.inStrike = false) : exec (.lostUnitWrite src true data) s = .next (s.lostUnit data.toNat) := by
  change execLostUnitWrite src true data s = _
  rw [execLostUnitWrite, if_pos rfl, State.live_of_not_inStrike hs]

theorem exec_lostUnitWrite_of_other : exec (.lostUnitWrite src false data) s = .next s := rfl

/-- The predecessor is lost: its ring ports have been down for 2 ms and a probe by the alternate way went unanswered for 100 µs, and neither its loss nor
its adoption is known yet (R188, R380). -/
structure State.PredecessorLost (s : State) (x t : Nat) : Prop where
  pred : x = s.fld R.WSQ_PRED F.WSQ_PRED_NODE
  other : x ≠ s.node
  notShown : s.shownLost x 0 = false
  notDeclared : s.loss.lost = none
  notAdopted : s.jrn.adopted.contains x = false
  down : s.downFor x 2000000 = true
  probed : SMap.get (fun _ => none) s.loss.probeSent x = some t
  unanswered : 100000 + t ≤ s.now

theorem State.PredecessorLost.exec_unitLostDeclare {x t : Nat} (h : s.PredecessorLost x t) (hs : s.inStrike = false) (hactive : s.active = true) :
    exec (.unitLostDeclare 0) s = .next (s.declareLost x 0) := by
  obtain ⟨rfl, hother, hnotShown, hnotDeclared, hnotAdopted, hdown, hprobed, hlate⟩ := h
  change execUnitLostDeclare 0 s = _
  rw [execUnitLostDeclare, State.live_of_not_inStrike hs, if_neg (by simp [hactive]), if_pos (by rfl), if_pos]
  simp only [hother, hnotShown, hnotDeclared, hnotAdopted, hdown, hprobed, hlate, ne_eq, not_false_eq_true, Bool.not_false, Option.isNone_none,
    Option.any_some, decide_true, and_self]

/-- A fitted Bell of this device is lost when it is retired, or held in reset with a delta for it (R380). -/
theorem exec_unitLostDeclare_of_bell {b : Fin 8} {die : Fin 9} (hdie : die.val = b.val + 1) (hs : s.inStrike = false) (hactive : s.active = true)
    (hfitted : s.fitted b.val = true) (hnotShown : s.shownLost s.node die.val = false)
    (hlost : (s.bell b.val).retired = true ∨ (s.bell b.val).inReset = true ∧ s.hasDelta b.val = true) :
    exec (.unitLostDeclare die) s = .next (s.declareLost s.node die.val) := by
  change execUnitLostDeclare die s = _
  rw [execUnitLostDeclare, State.live_of_not_inStrike hs, if_neg (by simp [hactive]), if_neg (by omega), if_pos]
  rw [hdie] at hnotShown ⊢
  exact ⟨hfitted, by rw [hnotShown]; rfl, hlost⟩

end Losses

/-! The reload of a spare, and the adoption without a delta (R383, R384). -/

section Takeover

variable {s t : State}

theorem exec_reloadDone (hst : s.fld R.WSQ_RELOAD_STAT F.WSQ_RELOAD_STAT_STATE = 2) : exec .reloadDone s =
    .next { (s.setFld R.WSQ_RELOAD_STAT F.WSQ_RELOAD_STAT_STATE 3).setFld R.WSQ_RELOAD_STAT F.WSQ_RELOAD_STAT_LEFT 0 with
      loss := { s.loss with cursor := [] } } := congrArg Host.Outcome.next (if_pos hst)

/-- A finished reload is broadcast with its tick, and armed here (R383). -/
theorem exec_reloadComplete {n k : Nat} (hs : s.inStrike = false) (hst : s.fld R.WSQ_RELOAD_STAT F.WSQ_RELOAD_STAT_STATE = 3)
    (hnone : s.pit.remap = none) (hn : n = s.fld R.WSQ_RELOAD_STAT F.WSQ_RELOAD_STAT_DELTA)
    (hk : k = slotAt (s.ftc + s.fld R.WSQ_AGENT_CFG F.WSQ_AGENT_CFG_LEAD))
    (ht : t = ((s.castReg R.PIT_REMAP_TICK_LO (k % 2 ^ 32)).castReg R.PIT_REMAP_TICK_HI (k / 2 ^ 32)).castReg R.PIT_REMAP (n + 16)) :
    exec .reloadComplete s = .next (((t.setPair R.PIT_REMAP_TICK_LO R.PIT_REMAP_TICK_HI k).armRemap n).setFld R.WSQ_RELOAD_STAT F.WSQ_RELOAD_STAT_STATE 0) := by
  subst hn hk ht
  change execReloadComplete s = _
  rw [execReloadComplete, State.live_of_not_inStrike hs, if_pos ⟨hst, by rw [hnone]; rfl⟩]

/-- The buddy adopts a predecessor for which the image has no delta, a lead after its loss (R384). -/
theorem exec_adoptWithoutRemap {x k : Nat} (hs : s.inStrike = false) (hlost : s.loss.lost = some (x, 0, k)) (hpred : x = s.fld R.WSQ_PRED F.WSQ_PRED_NODE)
    (hdelta : s.img.deltas.any (fun d => d.node == x && d.die == 0) = false)
    (hdue : slotAt (k + s.fld R.WSQ_AGENT_CFG F.WSQ_AGENT_CFG_LEAD) ≤ s.ftc) : exec .adoptWithoutRemap s =
      .next ((State.setFld { s with loss := { s.loss with lost := none } } R.WSQ_LOST_UNIT F.WSQ_LOST_UNIT_VALID 0).adopt x false) := by
  change execAdoptWithoutRemap s = _
  rw [execAdoptWithoutRemap, State.live_of_not_inStrike hs, hlost]
  exact congrArg Host.Outcome.next (if_pos ⟨hpred, by rw [hdelta]; rfl, hdue⟩)

end Takeover

/-- Settles O44: each clause is the rule of its command. -/
theorem lossIsHandled : Obligations.LossIsHandled :=
  ⟨fun _ hs hprobes => ⟨exec_buddyProbe hs hprobes, exec_ringIsolation hs hprobes⟩,
    fun _ _ _ hs => ⟨exec_lostUnitWrite_of_pole hs, exec_lostUnitWrite_of_other⟩,
    fun _ _ hs hactive => ⟨fun _ hnotShown hnotDeclared hpred hother hnotAdopted hdown hprobed hlate =>
        State.PredecessorLost.exec_unitLostDeclare ⟨hpred, hother, hnotShown, hnotDeclared, hnotAdopted, hdown, hprobed, hlate⟩ hs hactive,
      fun _ _ hdie => exec_unitLostDeclare_of_bell hdie hs hactive⟩,
    fun _ => exec_reloadDone,
    fun _ _ _ _ hs hst hnone hn hk ht => exec_reloadComplete hs hst hnone hn hk ht,
    fun _ _ _ => exec_adoptWithoutRemap⟩

end Sys2Proof.Machine
end

section
/-!
PROOF. The Guy line: registers, addresses and the management protocols: the statement GuyLineServes.
-/

namespace Sys2Proof.Machine

open Sys2Proof

section GuyLine

variable {s : State} {addr : BitVec 32}

/-! Registers (R399, R400, R403). -/

theorem exec_guyRegRead {r : Nat × Nat × State} (hup : s.guyUp = true) (hread : s.ctlRead .guy addr.toNat = r) : exec (.guyRegRead addr) s =
    .next (if r.1 = 0 then r.2.2.answer 1 0 (le 4 r.2.1) else (r.2.2.freshBytes 4).2.answer 1 r.1 (r.2.2.freshBytes 4).1) := by
  subst hread
  change execGuyRegRead addr s = _
  rw [execGuyRegRead, if_pos hup]

/-- Outside ROM recovery the line serves writes and blocks (R409). -/
theorem State.guy_served (hup : s.guyUp = true) (hfw : s.recovery = false) : (s.guyUp && !s.recovery) = true := by
  simp [hup, hfw]

theorem exec_guyRegWrite {data : BitVec 32} (hup : s.guyUp = true) (hfw : s.recovery = false) : exec (.guyRegWrite addr data) s =
    .next ((s.ctlWrite .guy false addr.toNat data.toNat).2.answer 2 (s.ctlWrite .guy false addr.toNat data.toNat).1 []) := by
  change execGuyRegWrite addr data s = _
  rw [execGuyRegWrite, if_pos (State.guy_served hup hfw)]

/-- A block of 1 to 256 words is served, one of any other length refused. -/
theorem exec_guyBlockWrite {words : List (BitVec 32)} (hup : s.guyUp = true) (hfw : s.recovery = false) : exec (.guyBlockWrite addr words) s =
    .next (if words.length = 0 ∨ 256 < words.length then s.answer 3 9 (le 2 0)
      else (s.blockWrite addr.toNat words 0).2.2.answer 3 (s.blockWrite addr.toNat words 0).1 (le 2 (s.blockWrite addr.toNat words 0).2.1)) := by
  change execGuyBlockWrite addr words s = _
  rw [execGuyBlockWrite, if_pos (State.guy_served hup hfw)]

theorem exec_guyBlockRead {n : Nat} (hup : s.guyUp = true) (hfw : s.recovery = false) : exec (.guyBlockRead addr n) s =
    .next (if n = 0 ∨ 256 < n then s.answer 4 9 []
      else (s.blockRead addr.toNat n []).2.2.answer 4 (s.blockRead addr.toNat n []).1 (s.blockRead addr.toNat n []).2.1) := by
  change execGuyBlockRead addr n s = _
  rw [execGuyBlockRead, if_pos (State.guy_served hup hfw)]

/-! Addresses (R397, R398). -/

/-- A target without a dynamic address takes one by ENTDAA, or by SETDASA to its own static address. -/
theorem exec_i3cAddressAssign {setdasa : Bool} {static dyn : BitVec 7} (hup : s.guyUp = true)
    (hfree : s.fld R.SEC_GUY_STAT F.SEC_GUY_STAT_DYN_ADDR = 0) (hdyn : dyn ≠ 0) (hstatic : setdasa = true → static.toNat = 0x58 + s.pins.gaddr % 8) :
    exec (.i3cAddressAssign setdasa static dyn) s =
      .next ((s.setFld R.SEC_GUY_STAT F.SEC_GUY_STAT_DYN_ADDR dyn.toNat).setFld R.SEC_GUY_STAT F.SEC_GUY_STAT_BUS 0) := by
  have hmine : (!setdasa || static.toNat == 0x58 + s.pins.gaddr % 8) = true := by
    cases setdasa with
    | false => rfl
    | true => simp [hstatic rfl]
  change execI3cAddressAssign setdasa static dyn s = _
  rw [execI3cAddressAssign, if_pos (by simp only [hup, hfree, hmine, bne_iff_ne.2 hdyn, beq_self_eq_true, Bool.and_self])]

theorem exec_mctpControl_setEid {eid : Byte} (hup : s.guyUp = true) (hnull : eid ≠ 0) (hall : eid ≠ 0xFF) : exec (.mctpControl (.setEid eid)) s =
    .next ((s.setFld R.SEC_GUY_STAT F.SEC_GUY_STAT_EID eid.toNat).guySend (le 1 0 ++ le 1 1 ++ le 1 0 ++ le 1 eid.toNat)) := by
  change execMctpControl (.setEid eid) s = _
  rw [execMctpControl, if_pos hup]
  exact congrArg Host.Outcome.next (if_neg (not_or.2 ⟨hnull, hall⟩))

/-! PLDM and SPDM (R405, R412). -/

theorem exec_pldmPlatform_getTid (hup : s.guyUp = true) : exec (.pldmPlatform .getTid) s = .next (s.pldm 0 2 0 [Config.pldmTid]) :=
  congrArg Host.Outcome.next (if_pos hup)

theorem exec_pldmPlatform_pollEvent (hup : s.guyUp = true) (hfw : s.recovery = false) : exec (.pldmPlatform .pollEvent) s = .next s.pollEvent :=
  congrArg Host.Outcome.next ((if_pos hup).trans (if_neg (by simp [hfw])))

theorem exec_spdmRequest_getVersion (hup : s.guyUp = true) : exec (.spdmRequest .getVersion) s = .next (s.spdm 0x04 (le 1 0x12 ++ le 1 0x13)) :=
  congrArg Host.Outcome.next (if_pos hup)

theorem exec_spdmRequest_getDigests (hup : s.guyUp = true) :
    exec (.spdmRequest .getDigests) s = .next (s.spdm 0x01 (le 1 1 ++ sha384 s.certSlot)) :=
  congrArg Host.Outcome.next (if_pos hup)

theorem exec_spdmRequest_challenge {nonce : List Byte} (hup : s.guyUp = true) :
    exec (.spdmRequest (.challenge 0 nonce)) s = .next (s.spdmSigned 0x03 (sha384 s.certSlot) nonce) :=
  congrArg Host.Outcome.next ((if_pos hup).trans (if_pos rfl))

end GuyLine

/-- Settles O13: each clause is the rule of its request. -/
theorem guyLineServes : Obligations.GuyLineServes := by
  refine ⟨⟨fun s addr hup => ⟨fun hok => ?readOk, fun hbad => ?readRefused⟩,
      fun s addr hup hfw => ⟨fun data => exec_guyRegWrite hup hfw, fun words hfirst hlast => ?blockWrite, fun n hfirst hlast => ?blockRead,
        exec_guyBlockRead hup hfw, exec_guyBlockWrite hup hfw⟩⟩,
    fun s setdasa static dyn => exec_i3cAddressAssign, fun s eid => exec_mctpControl_setEid,
    fun s hup => ⟨exec_pldmPlatform_getTid hup, exec_pldmPlatform_pollEvent hup⟩,
    fun s hup => ⟨exec_spdmRequest_getVersion hup, exec_spdmRequest_getDigests hup, fun nonce => exec_spdmRequest_challenge hup⟩⟩
  case readOk => rw [exec_guyRegRead hup rfl, if_pos hok]
  case readRefused => rw [exec_guyRegRead hup rfl, if_neg hbad]
  case blockWrite => rw [exec_guyBlockWrite hup hfw, if_neg (by omega)]
  case blockRead => rw [exec_guyBlockRead hup hfw, if_neg (by omega)]

end Sys2Proof.Machine
end
